-- ==== Sys2Proof/Word.lean ====
section
/-! DEFINITION. The word types of the Lamune manual (spec/00 R2, R3; Table 0.2) and their plainest arithmetic. -/
namespace Sys2Proof

/-- One byte of the wire or of a dictionary value. -/
abbrev Byte := BitVec 8
/-- A dictionary value, a message body or a frame, lowest byte first (R3). -/
abbrev Bytes := List Byte
/-- u16, for example a record's sequence field (R40). -/
abbrev U16 := BitVec 16
/-- u32, for example a member path (R14) or the step of a record (R12). -/
abbrev U32 := BitVec 32
/-- u64, for example a counter (R179) or a group's step (R12). -/
abbrev U64 := BitVec 64
/-- u128, for example IDENT.UID or a member mask. -/
abbrev U128 := BitVec 128

/-- `k` little-endian bytes of `n` (R3); higher bits of `n` are dropped. -/
def leBytes : Nat → Nat → Bytes
  | 0, _ => []
  | k + 1, n => BitVec.ofNat 8 n :: leBytes k (n / 256)

/-- The number that little-endian bytes spell (R3). -/
def ofLe : Bytes → Nat
  | [] => 0
  | b :: bs => b.toNat + 256 * ofLe bs

/-- Bits [hi:lo] of `n` (R2). -/
def bitsOf (n hi lo : Nat) : Nat := n / 2 ^ lo % 2 ^ (hi + 1 - lo)

/-- Two's-complement value of the low `w` bits of `n` (R20). -/
def signedOf (w n : Nat) : Int :=
  if n % 2 ^ w < 2 ^ (w - 1) then (n % 2 ^ w : Nat) else (n % 2 ^ w : Nat) - (2 ^ w : Nat)

/-- The low `w` bits of an integer, as a natural number (R20). -/
def wrapInt (w : Nat) (i : Int) : Nat := (i % ((2 ^ w : Nat) : Int)).toNat

end Sys2Proof
end

