-- ==== Sys2Proof/Machine/Bits.lean ====
section
/-! DEFINITION. Byte, bit and list helpers shared by every block. -/
namespace Sys2Proof.Machine

/-- `n` bytes of zero. -/
def zeros (n : Nat) : Bytes := List.replicate n 0

/-- Bytes [from, from+len) of a value, zero beyond its end. -/
def slice (bs : Bytes) (start len : Nat) : Bytes :=
  let t := (bs.drop start).take len
  t ++ zeros (len - t.length)

/-- The little-endian number in bytes [start, start+len). -/
def leAt (bs : Bytes) (start len : Nat) : Nat := ofLe (slice bs start len)

/-- `bs` with its bytes from `start` on replaced by `v`; bytes between its end and `start` are zero. -/
def overlay (bs : Bytes) (start : Nat) (v : Bytes) : Bytes :=
  (bs ++ zeros (start - bs.length)).take start ++ v ++ bs.drop (start + v.length)

/-- `n` rounded up to a multiple of `k`, for `k` above 0. -/
def roundUp (n k : Nat) : Nat := (n + k - 1) / k * k

/-- `x` before the first element of a sorted list that it does not follow. -/
def insertBy {α : Type} (le : α → α → Bool) (x : α) : List α → List α
  | [] => [x]
  | y :: l => if le x y then x :: y :: l else y :: insertBy le x l

/-- A list in the order of `le`; elements that tie stay in their order. -/
def sortBy {α : Type} (l : List α) (le : α → α → Bool) : List α := l.foldr (insertBy le) []

/-- Nearest integer to a rational `num/den` with `den` above 0, ties to even (R65). -/
def divRne (num : Int) (den : Nat) : Int :=
  let q := num.fdiv den
  let r := num - q * den
  if 2 * r < den then q else if 2 * r > den then q + 1 else if q % 2 = 0 then q else q + 1

/-- `i` held within `lo` and `hi`. -/
def clampInt (lo hi i : Int) : Int := if i < lo then lo else if i > hi then hi else i

/-- `i` saturated to a two's-complement value of `w` bits. -/
def satSigned (w : Nat) (i : Int) : Int := clampInt (-(2 ^ (w - 1) : Nat)) ((2 ^ (w - 1) : Nat) - 1) i

/-- `n` saturated at the largest value of `w` bits. -/
def satNat (w n : Nat) : Nat := Nat.min n (2 ^ w - 1)

/-- Number of bits set among the low `w` bits of `n`. -/
def popCount : Nat → Nat → Nat
  | 0, _ => 0
  | w + 1, n => n % 2 + popCount w (n / 2)

/-- The positions, lowest first, of the bits set among the low `w` bits of `n`. -/
def bitList (w n : Nat) : List Nat := (List.range w).filter (fun i => n.testBit i)

/-- The number whose set bits are those of the list. -/
def ofBits (l : List Nat) : Nat := l.foldl (fun a i => a ||| 2 ^ i) 0

/-- `bits` lowest bits of `n` in reversed order. -/
def reverseBits : Nat → Nat → Nat
  | 0, _ => 0
  | w + 1, n => n % 2 * 2 ^ w + reverseBits w (n / 2)

/-- Replace element `i` of a list. -/
def setAt {α : Type} (l : List α) (i : Nat) (a : α) : List α := l.set i a

/-- Apply a function to element `i` of a list. -/
def modAt {α : Type} (l : List α) (i : Nat) (f : α → α) : List α := l.modify i f

/-- Apply a function to the elements that pass a test. -/
def modWhere {α : Type} (p : α → Bool) (f : α → α) (l : List α) : List α :=
  l.map (fun a => if p a then f a else a)

/-- Integer square root (floor) by bisection; `fuel` halvings of [lo, hi). -/
def isqrtAux : Nat → Nat → Nat → Nat → Nat
  | 0, lo, _, _ => lo
  | k + 1, lo, hi, n =>
    let m := (lo + hi) / 2
    if m * m ≤ n then isqrtAux k m hi n else isqrtAux k lo m n

/-- Integer square root (floor). -/
def isqrt (n : Nat) : Nat :=
  let b := Nat.log2 n / 2 + 1
  isqrtAux (b + 1) 0 (2 ^ b) n

end Sys2Proof.Machine
end

