-- ==== Sys2Proof/Machine/Float.lean ====
section
/-! DEFINITION. The number formats of Table 0.2 as exact rationals (R64) and their rounding (R65): f16, bf16, f32, f64, lf8 and the fixed-point forms. A value is an exact rational until it is encoded, so a formula written in f64 rounds where its chapter says it rounds. -/
namespace Sys2Proof.Machine

/-- An exact rational, an infinity or a NaN. -/
inductive FVal where
  | nan
  | inf (neg : Bool)
  /-- numerator and denominator (above 0) -/
  | fin (n : Int) (d : Nat)
deriving DecidableEq, Repr

/-- A binary floating format: exponent bits and fraction bits. -/
structure FFmt where
  eb : Nat
  mb : Nat
deriving DecidableEq, Repr

def fmt16 : FFmt := ⟨5, 10⟩
def fmtB16 : FFmt := ⟨8, 7⟩
def fmt32 : FFmt := ⟨8, 23⟩
def fmt64 : FFmt := ⟨11, 52⟩

/-- 2^e as a rational, for an integer e. -/
def pow2 (e : Int) : Int × Nat := if e ≥ 0 then ((2 ^ e.toNat : Nat), 1) else (1, 2 ^ (-e).toNat)

/-- Value of an encoded number; subnormals kept (R64). -/
def fdec (f : FFmt) (b : Nat) : FVal :=
  let m := b % 2 ^ f.mb
  let e := b / 2 ^ f.mb % 2 ^ f.eb
  let neg := b / 2 ^ (f.eb + f.mb) % 2 == 1
  let bias : Int := (2 ^ (f.eb - 1) : Nat) - 1
  if e = 2 ^ f.eb - 1 then (if m = 0 then .inf neg else .nan)
  else
    let sig : Int := if e = 0 then m else (2 ^ f.mb + m : Nat)
    let ex : Int := (if e = 0 then 1 else (e : Int)) - bias - f.mb
    let p := pow2 ex
    .fin ((if neg then -sig else sig) * p.1) p.2

/-- Round a rational to a format, nearest with ties to even (R65); a result beyond the largest finite value is an infinity. -/
def frat (f : FFmt) (n : Int) (d : Nat) : Nat :=
  if n = 0 then 0
  else
    let a := n.natAbs
    let bias : Int := (2 ^ (f.eb - 1) : Nat) - 1
    let e0 : Int := (Nat.log2 a : Int) - Nat.log2 d
    let below : Bool := if e0 ≥ 0 then decide (a < d * 2 ^ e0.toNat) else decide (a * 2 ^ (-e0).toNat < d)
    let e : Int := if below then e0 - 1 else e0
    let qmin : Int := 1 - bias - f.mb
    let q : Int := if e - f.mb < qmin then qmin else e - f.mb
    let p := pow2 (-q)
    let k := (divRne ((a : Int) * p.1) (d * p.2)).toNat
    let bits := (q - qmin).toNat * 2 ^ f.mb + k
    let infB := (2 ^ f.eb - 1) * 2 ^ f.mb
    Nat.min bits infB + (if n < 0 then 2 ^ (f.eb + f.mb) else 0)

/-- Encoding of a value. A NaN is the quiet NaN with only its top fraction bit set. -/
def fenc (f : FFmt) : FVal → Nat
  | .nan => (2 ^ f.eb - 1) * 2 ^ f.mb + 2 ^ (f.mb - 1)
  | .inf neg => (2 ^ f.eb - 1) * 2 ^ f.mb + (if neg then 2 ^ (f.eb + f.mb) else 0)
  | .fin n d => frat f n d

/-- A value rounded to a format. -/
def fround (f : FFmt) (x : FVal) : FVal := fdec f (fenc f x)

def fadd : FVal → FVal → FVal
  | .nan, _ => .nan
  | _, .nan => .nan
  | .inf a, .inf b => if a = b then .inf a else .nan
  | .inf a, _ => .inf a
  | _, .inf b => .inf b
  | .fin n d, .fin n' d' => .fin (n * d' + n' * d) (d * d')

def fneg : FVal → FVal
  | .nan => .nan
  | .inf a => .inf (!a)
  | .fin n d => .fin (-n) d

def fsub (x y : FVal) : FVal := fadd x (fneg y)

def fisNeg : FVal → Bool
  | .nan => false
  | .inf a => a
  | .fin n _ => decide (n < 0)

def fisZero : FVal → Bool
  | .fin n _ => n == 0
  | _ => false

def fmul : FVal → FVal → FVal
  | .nan, _ => .nan
  | _, .nan => .nan
  | .fin n d, .fin n' d' => .fin (n * n') (d * d')
  | x, y => if fisZero x || fisZero y then .nan else .inf (fisNeg x != fisNeg y)

/-- Exact quotient; a quotient by zero is an infinity or, for 0/0, a NaN. -/
def fdiv : FVal → FVal → FVal
  | .nan, _ => .nan
  | _, .nan => .nan
  | .inf a, .inf _ => if a then .nan else .nan
  | .inf a, y => .inf (a != fisNeg y)
  | .fin _ _, .inf _ => .fin 0 1
  | .fin n d, .fin n' d' =>
    if n' = 0 then (if n = 0 then .nan else .inf (decide (n < 0)))
    else .fin (n * d' * (if n' < 0 then -1 else 1)) (d * n'.natAbs)

/-- x ≤ y; false when either is a NaN. -/
def fle : FVal → FVal → Bool
  | .nan, _ => false
  | _, .nan => false
  | .inf a, y => a || y == .inf false
  | .fin _ _, .inf b => !b
  | .fin n d, .fin n' d' => decide (n * d' ≤ n' * d)

/-- x < y; false when either is a NaN. -/
def flt (x y : FVal) : Bool :=
  match x, y with
  | .nan, _ => false
  | _, .nan => false
  | _, _ => !fle y x

def fabs (x : FVal) : FVal := if fisNeg x then fneg x else x
def fmax (x y : FVal) : FVal := if flt x y then y else x
def fmin (x y : FVal) : FVal := if flt y x then y else x
def fofInt (i : Int) : FVal := .fin i 1
def fofRat (n : Int) (d : Nat) : FVal := .fin n d

/-- Whether an encoded value is a NaN. -/
def fisNan (f : FFmt) (b : Nat) : Bool := fdec f b == .nan

/-- Integer nearest a value, ties to even, saturated to [lo, hi]; a NaN converts to 0 (R65). -/
def ftoInt (lo hi : Int) : FVal → Int
  | .nan => 0
  | .inf neg => if neg then lo else hi
  | .fin n d => clampInt lo hi (divRne n d)

/-- Correctly rounded square root of a non-negative rational into a format: the root of the rational scaled by 4^k, k chosen
so that the integer root has more bits than the format, with a sticky bit. -/
def fsqrt (f : FFmt) (x : FVal) : FVal :=
  match x with
  | .nan => .nan
  | .inf neg => if neg then .nan else .inf false
  | .fin n d =>
    if n < 0 then .nan else if n = 0 then .fin 0 1
    else
      let k := f.mb + 4 + Nat.log2 d + Nat.log2 n.natAbs
      let q := n.natAbs * 4 ^ k / d
      let r := isqrt q
      let sticky : Nat := if r * r * d == n.natAbs * 4 ^ k then 0 else 1
      fround f (.fin ((2 * r + sticky : Nat) : Int) (2 ^ (k + 1)))

/-- Value of an lf8 code (R63). -/
def lf8Val (c : Nat) : FVal :=
  let e := c / 8 % 32
  let m := c % 8
  if e = 0 then .fin m 8 else .fin (((8 + m) * 2 ^ (e - 1) : Nat) : Int) 8

/-! ### Shorthands for 32-bit and 64-bit values -/

def f32Val (b : Nat) : FVal := fdec fmt32 b
def f64Val (b : Nat) : FVal := fdec fmt64 b
/-- Nearest f32 of an exact value, as bits. -/
def toF32 (x : FVal) : Nat := fenc fmt32 x
/-- Nearest f64 of an exact value, as bits. -/
def toF64 (x : FVal) : Nat := fenc fmt64 x
/-- x rounded to f64 and kept as a value. -/
def r64 (x : FVal) : FVal := fround fmt64 x
/-- x rounded to f32 and kept as a value. -/
def r32 (x : FVal) : FVal := fround fmt32 x
def nan32 : Nat := 0x7FC00000

/-- Calibrated value of R89: (raw × g_f + o_f) × g_u + o_u, each product and sum in f64, the result rounded once to f32. -/
def calibrate (raw gf of gu ou : FVal) : FVal :=
  r32 (r64 (fadd (r64 (fmul (r64 (fadd (r64 (fmul raw gf)) of)) gu)) ou))

/-- Effective offset o_f × g_u + o_u of R89, rounded to f32. -/
def effOffset (of gu ou : FVal) : FVal := r32 (r64 (fadd (r64 (fmul of gu)) ou))

/-- Effective gain g_f × g_u of R89, rounded to f32. -/
def effGain (gf gu : FVal) : FVal := r32 (r64 (fmul gf gu))

end Sys2Proof.Machine
end

