-- ==== Sys2Proof/Config.lean ====
section
/-! DEFINITION. What the manual leaves open: the free values of the machine. Each is a constant without a body, so no proof can see its value. -/
namespace Sys2Proof

/-- A fresh value of `w` bits: argument `u` names the unit that draws it and `n` is the draw (the counter `free` of
that unit's state). Drawn where the manual says only "random", "chosen" or gives no value (log entry 3). -/
opaque Config.freeBits (w u n : Nat) : BitVec w

/-- Whether ECDSA P-384 (FIPS 186-5) accepts the signature r, s over a SHA-384 digest under the ROM's public key of an index (R497). The manual
does not give the two keys (log entry 12). -/
opaque Config.imageVerifies (key : Nat) (digest : List Byte) (r s : Nat) : Bool

end Sys2Proof
end

