-- ==== Sys2Proof/Machine/Sha256.lean ====
section
/-! DEFINITION. SHA-256 (FIPS 180-4) and HMAC-SHA-256 (RFC 2104), which the manual names in R96, R105, R106, R109, R375, R401, R498 and R501.
PRESUMED: the manual names these published functions and does not restate them (log entry 4). -/
namespace Sys2Proof.Machine

/-- The 64 round constants. -/
def shaK : List U32 :=
  [0x428a2f98, 0x71374491, 0xb5c0fbcf, 0xe9b5dba5, 0x3956c25b, 0x59f111f1, 0x923f82a4, 0xab1c5ed5,
   0xd807aa98, 0x12835b01, 0x243185be, 0x550c7dc3, 0x72be5d74, 0x80deb1fe, 0x9bdc06a7, 0xc19bf174,
   0xe49b69c1, 0xefbe4786, 0x0fc19dc6, 0x240ca1cc, 0x2de92c6f, 0x4a7484aa, 0x5cb0a9dc, 0x76f988da,
   0x983e5152, 0xa831c66d, 0xb00327c8, 0xbf597fc7, 0xc6e00bf3, 0xd5a79147, 0x06ca6351, 0x14292967] ++
  [0x27b70a85, 0x2e1b2138, 0x4d2c6dfc, 0x53380d13, 0x650a7354, 0x766a0abb, 0x81c2c92e, 0x92722c85,
   0xa2bfe8a1, 0xa81a664b, 0xc24b8b70, 0xc76c51a3, 0xd192e819, 0xd6990624, 0xf40e3585, 0x106aa070,
   0x19a4c116, 0x1e376c08, 0x2748774c, 0x34b0bcb5, 0x391c0cb3, 0x4ed8aa4a, 0x5b9cca4f, 0x682e6ff3,
   0x748f82ee, 0x78a5636f, 0x84c87814, 0x8cc70208, 0x90befffa, 0xa4506ceb, 0xbef9a3f7, 0xc67178f2]

/-- The eight initial hash words. -/
def shaInit : List U32 :=
  [0x6a09e667, 0xbb67ae85, 0x3c6ef372, 0xa54ff53a, 0x510e527f, 0x9b05688c, 0x1f83d9ab, 0x5be0cd19]

def beU32 (bs : Bytes) : U32 := BitVec.ofNat 32 (ofLe bs.reverse)
def u32Be (w : U32) : Bytes := (leBytes 4 w.toNat).reverse

/-- The message with the bit 1, zeros and the 64-bit big-endian bit length appended. -/
def shaPad (m : Bytes) : Bytes :=
  let r := (m.length + 9) % 64
  m ++ [0x80] ++ zeros ((64 - r) % 64) ++ (leBytes 8 (m.length * 8)).reverse

/-- One word of the message schedule from the sixteen before it. -/
def shaNextW (w16 : List U32) : U32 :=
  let g (i : Nat) := w16.getD i 0
  let s0 := (g 1).rotateRight 7 ^^^ (g 1).rotateRight 18 ^^^ ((g 1) >>> 3)
  let s1 := (g 14).rotateRight 17 ^^^ (g 14).rotateRight 19 ^^^ ((g 14) >>> 10)
  g 0 + s0 + g 9 + s1

/-- The rounds of one block: the constants left, the next sixteen schedule words, the working words. -/
def shaRounds : List U32 → List U32 → List U32 → List U32
  | [], _, v => v
  | k :: ks, w16, v =>
    let g (i : Nat) := v.getD i 0
    let s1 := (g 4).rotateRight 6 ^^^ (g 4).rotateRight 11 ^^^ (g 4).rotateRight 25
    let ch := (g 4 &&& g 5) ^^^ (~~~(g 4) &&& g 6)
    let t1 := g 7 + s1 + ch + k + w16.getD 0 0
    let s0 := (g 0).rotateRight 2 ^^^ (g 0).rotateRight 13 ^^^ (g 0).rotateRight 22
    let mj := (g 0 &&& g 1) ^^^ (g 0 &&& g 2) ^^^ (g 1 &&& g 2)
    shaRounds ks (w16.drop 1 ++ [shaNextW w16]) [t1 + s0 + mj, g 0, g 1, g 2, g 3 + t1, g 4, g 5, g 6]

def shaWords : Nat → Bytes → List U32
  | 0, _ => []
  | n + 1, bs => beU32 (bs.take 4) :: shaWords n (bs.drop 4)

def shaBlock (h : List U32) (blk : Bytes) : List U32 :=
  List.zipWith (· + ·) h (shaRounds shaK (shaWords 16 blk) h)

def shaBlocks : Nat → List U32 → Bytes → List U32
  | 0, h, _ => h
  | n + 1, h, bs => shaBlocks n (shaBlock h (bs.take 64)) (bs.drop 64)

/-- SHA-256 of a byte string, 32 bytes. -/
def sha256 (m : Bytes) : Bytes :=
  let p := shaPad m
  (shaBlocks (p.length / 64) shaInit p).flatMap u32Be

/-- HMAC-SHA-256 (RFC 2104), 32 bytes. -/
def hmac (key m : Bytes) : Bytes :=
  let k0 := if key.length > 64 then sha256 key else key
  let k := k0 ++ zeros (64 - k0.length)
  sha256 (k.map (· ^^^ 0x5c) ++ sha256 (k.map (· ^^^ 0x36) ++ m))

end Sys2Proof.Machine
end

