-- ==== Sys2Proof/Parts/Angle.lean ====
section
/-! DEFINITION. Meridian's state (spec/05): the angle lock of a unit and the marker window of a group. -/
namespace Sys2Proof.Machine

/-- States of Table 5.1. -/
inductive AngleMode where
  | off | free | acquiring | locked | stalled
deriving DecidableEq, Repr

/-- State code of Table 5.3 [7:5]. -/
def AngleMode.code : AngleMode → Nat
  | .off => 0 | .free => 1 | .acquiring => 2 | .locked => 3 | .stalled => 4

/-- An angle entry armed in the current step (R163 step 5), or a time entry's next instant (R165, R534). -/
structure ArmedEntry where
  entry : Nat
  fire : Nat
  angle : Nat
  handed : Bool
deriving DecidableEq, Repr

/-- Meridian of one unit (R158–R170). -/
structure AnglePart where
  mode : AngleMode
  /-- time of the last accepted marker taken by R159, u64 ns -/
  tm : Nat
  /-- predicted step length, ns × 2¹⁶ -/
  lq : Nat
  /-- step of the last accepted marker; low 32 bits on an Ovtan, 64 bits in a group -/
  step : Nat
  /-- a marker has been accepted since restart, and its time (R158, R532) -/
  seen : Bool
  lastAt : Nat
  good : Nat
  out : Nat
  /-- rewind candidate -/
  cand : Option Nat
  /-- STRAY_MARKER raised since the last accepted marker -/
  strayed : Bool
  early : Bool
  slow : Bool
  jump : Bool
  overdue : Bool
  /-- counts of the step in progress (R170) -/
  fired : Nat
  cancelled : Nat
  skipped : Nat
  /-- entries of the step in progress and next instants of time entries -/
  armed : List ArmedEntry
  timed : List ArmedEntry
deriving DecidableEq, Repr

/-- One marker window: its 64-bit step, the powered time it opened, member and extended marker time of each report (R171). -/
structure MarkerWindow where
  step : Nat
  at_ : Nat
  reports : List (Nat × Nat)
deriving DecidableEq, Repr

/-- A closed window: step, group marker time, members heard. -/
structure ClosedWindow where
  step : Nat
  tm : Nat
  heard : List Nat
deriving DecidableEq, Repr

/-- The group's marker windows (R171–R173). -/
structure WindowPart where
  opens : List MarkerWindow
  closed : List ClosedWindow
  /-- ANGLE.MEMBER_LAG by member, s32 -/
  lags : List Int
  spread : Nat
  /-- upper half of the group step (ANGLE.STEP_BASE) -/
  base : Nat
  /-- lags of R173, newest first: step, member, ns, angle form -/
  past : List (Nat × Nat × Int × Int)
deriving DecidableEq, Repr

end Sys2Proof.Machine
end

