-- ==== Sys2Proof/Parts/Dict.lean ====
section
/-! DEFINITION. Types of the object dictionary (spec/02) and of sessions (spec/03): roles, access, object rows, messages, sessions and commits. -/
namespace Sys2Proof.Machine

/-- The unit a command acts at: the Ovtan or the Fabato group of the modelled pair (R22, log entry 1). -/
inductive UnitSel where
  | ovtan | fabato
deriving DecidableEq, Repr

/-- Roles, in the order of R67. -/
inductive Role where
  | observer | operator | engineer | custodian
deriving DecidableEq, Repr

/-- Entry ports (R120): management ports, Sky ports by map entry, Drizzle ports by logical die port, the mailbox, and the
local sessions of Loft slots (R302). -/
inductive Port where
  | mgmt (p : Nat) | sky (p : Nat) | drizzle (p : Nat) | mailbox | loft (slot : Nat)
deriving DecidableEq, Repr

/-- Type codes of Table 2.3. -/
inductive Ty where
  | bool | enum8 | u32 | u64 | u128 | s32 | s64 | fx32 | fx64 | f16 | bf16 | f32 | f64 | lf8 | time80 | str | blob
deriving DecidableEq, Repr

/-- Access codes of Table 2.4. -/
inductive Access where
  | ro | rw | wo | rc
deriving DecidableEq, Repr

/-- Apply classes of Table 2.5; `none` where the table has a dash. -/
inductive Apply where
  | none | immediate | boundary | staged | restart
deriving DecidableEq, Repr

/-- Which units have an object (R23, R61). -/
inductive Presence where
  | both | ovtan | group | tray
deriving DecidableEq, Repr

/-- The Default column (R71). -/
inductive Default where
  /-- a number of the object's length -/
  | num (n : Nat)
  /-- bytes as given -/
  | bytes (b : Bytes)
  /-- element e holds e − 1 (COUNT.BUS_DOMAIN and the like) -/
  | index
  /-- element e holds the e-th of a list, the last of it from there on (JET.PROFILE) -/
  | each (l : List Bytes)
  /-- a dash: the device computes the value -/
  | computed
  /-- set at manufacture: taken from the unit's fuse or manufacture image -/
  | fused
  /-- taken from the operator plan -/
  | plan
deriving DecidableEq, Repr

/-- One row of an object table. -/
structure ObjRow where
  /-- wire object number (R57) of the first object of the row -/
  base : Nat
  /-- how many objects the row stands for, 0x100 apart -/
  count : Nat := 1
  /-- elements of an array (R58), 0 for a scalar or a named element -/
  elems : Nat := 0
  /-- the row is one named element of an object (R58) -/
  named : Bool := false
  /-- elements in use of an array whose Default column gives a count -/
  used : Option Nat := none
  name : String
  ty : Ty
  access : Access
  rdRole : Role
  wrRole : Role
  apply : Apply
  dflt : Default
  /-- value length of a blob object; 0: any length to 4,064 -/
  size : Nat := 0
  /-- range of a numeric value, inclusive, where `lo ≤ hi` -/
  lo : Int := 0
  hi : Int := -1
  /-- codes of an enum8, empty where every code is admitted by the row -/
  codes : List Nat := []
  presence : Presence := .both
deriving DecidableEq, Repr

/-- Type code on the wire (Table 2.3). -/
def Ty.code : Ty → Nat
  | .bool => 0x01 | .enum8 => 0x02 | .u32 => 0x03 | .u64 => 0x04 | .u128 => 0x05 | .s32 => 0x06 | .s64 => 0x07
  | .fx32 => 0x08 | .fx64 => 0x09 | .f16 => 0x0A | .bf16 => 0x0B | .f32 => 0x0C | .f64 => 0x0D | .lf8 => 0x0E
  | .time80 => 0x10 | .str => 0x11 | .blob => 0x12

/-- Length on the wire of a fixed-length type; 0 for str and blob (Table 2.3). -/
def Ty.bytes : Ty → Nat
  | .bool => 1 | .enum8 => 1 | .u32 => 4 | .u64 => 8 | .u128 => 16 | .s32 => 4 | .s64 => 8 | .fx32 => 4 | .fx64 => 8
  | .f16 => 2 | .bf16 => 2 | .f32 => 4 | .f64 => 8 | .lf8 => 1 | .time80 => 10 | .str => 0 | .blob => 0

/-- Order of roles (R67). -/
def Role.rank : Role → Nat
  | .observer => 0 | .operator => 1 | .engineer => 2 | .custodian => 3

/-- Role with a given code (Table 3.2); codes above 3 are read by their low two bits. -/
def Role.ofCode (n : Nat) : Role :=
  match n % 4 with
  | 0 => .observer | 1 => .operator | 2 => .engineer | _ => .custodian

/-- The running values of a unit that differ from their defaults: wire object number and value, numbers rising. -/
abbrev Store := List (Nat × Bytes)

/-- A message header (Table 2.8) as it arrives, without its opcode and body, with the entry port it arrived on and its
MAC. The opcode and body are the command's. -/
structure Envelope where
  port : Port
  version : Nat := 1
  flags : Nat := 0
  msgId : Nat := 0
  session : Nat := 0
  seq : Nat := 0
  /-- the path stack, target first; `pathCount` and `bodyLen` are the header's fields -/
  paths : List Nat
  pathCount : Nat := 1
  bodyLen : Nat := 0
  hop : Nat := 15
  mac : Bytes := []
deriving DecidableEq, Repr

/-- A read item (Table 2.11). -/
structure ReadItem where
  obj : Nat
  count : Nat := 1
  flags : Nat := 0
deriving DecidableEq, Repr

/-- A write item (Table 2.11); the value's length is its length. -/
structure WriteItem where
  obj : Nat
  ty : Nat
  flags : Nat := 0
  value : Bytes
deriving DecidableEq, Repr

/-- An open session (Table 3.7, R108–R111). -/
structure Session where
  id : Nat
  role : Role
  tenant : Nat
  port : Port
  /-- link session, authenticated by the tree key -/
  link : Bool
  /-- K_s (R106) -/
  key : Bytes
  /-- highest client sequence accepted, and the 64-sequence window below it, bit i for `high − i` (R110) -/
  high : Nat
  window : Nat
  /-- last sequence the unit sent under the session -/
  own : Nat
  openedAt : Nat
  lastAt : Nat
  /-- idle and lifetime seconds as they were at the open (R122) -/
  idle : Nat
  life : Nat
  /-- stage set (R77): object number and value, in order of staging -/
  stage : Store
deriving DecidableEq, Repr

/-- Whether a session is the local one of a Loft slot (R302): it is no client session. -/
def Session.isLocal (s : Session) : Bool :=
  match s.port with
  | .loft _ => true
  | _ => false

/-- An open handshake (R108). -/
structure Handshake where
  id : Nat
  /-- T of R105 -/
  transcript : Bytes
  role : Role
  tenant : Nat
  link : Bool
  port : Port
  expires : Nat
deriving DecidableEq, Repr

/-- Failures and locks of one role on one entry port (R120). -/
structure Lock where
  port : Port
  role : Role
  fails : Nat
  /-- consecutive lockouts k -/
  k : Nat
  /-- end of the lock in force -/
  until? : Option Nat
deriving DecidableEq, Repr

/-- A pending commit (R79). -/
structure Commit where
  id : Nat
  /-- target step (mode 1) or none -/
  step : Option Nat
  /-- target time, total nanoseconds (mode 2), or none -/
  time : Option Nat
  values : Store
  session : Nat
deriving DecidableEq, Repr

/-- A principal of R96. -/
structure Principal where
  role : Role
  tenant : Nat
  port : Port
deriving DecidableEq, Repr

/-- A kept response (R96). -/
structure Kept where
  who : Principal
  msgId : Nat
  digest : Bytes
  /-- response opcode, summary status and body -/
  opcode : Nat
  summary : Nat
  body : Bytes
  at_ : Nat
deriving DecidableEq, Repr

/-- A request this group forwarded and has no response to yet (R95). -/
structure Forwarded where
  /-- neighbour port it left on, and the message id it carries -/
  out : Port
  msgId : Nat
  session : Nat
  /-- the envelope it came in on and its opcode -/
  env : Envelope
  opcode : Nat
  path : Nat
  deadline : Nat
  /-- set when the request is one branch of a fan-out (R97): its number -/
  fanout : Option Nat
deriving DecidableEq, Repr

/-- A fan-out in progress (R97). -/
structure Fanout where
  num : Nat
  env : Envelope
  opcode : Nat
  /-- who sent it, and the digest its response is kept under (R96) -/
  who : Principal
  digest : Bytes
  addressed : Nat
  succeeded : Nat
  failed : Nat
  /-- highest summary status so far -/
  summary : Nat
  /-- path, failing item, status -/
  entries : List (Nat × Nat × Nat)
  outstanding : Nat
  /-- id of the cut whose arm it carries (R454) -/
  cut : Option Nat
deriving DecidableEq, Repr

/-- The client side of a link session to a neighbour (R112). -/
structure LinkClient where
  port : Port
  role : Role
  tenant : Nat
  /-- 0 CHALLENGE awaited, 1 OPENED awaited, 2 open -/
  stage : Nat
  hello : Bytes
  transcript : Bytes
  session : Nat
  key : Bytes
  seq : Nat
  /-- powered time it opened and was last used, its life and idle seconds as opened (R111) -/
  openedAt : Nat
  lastAt : Nat
  life : Nat
  idle : Nat
  /-- messages held while the session opens: envelope, opcode, body, path at the neighbour, fan-out -/
  held : List (Envelope × Nat × Bytes × Nat × Option Nat)
deriving DecidableEq, Repr

/-- A raised local event (area 0x0E): its code, sub-unit and payload (the payload as the numbers of its table row, in order). -/
structure Event where
  code : Nat
  sub : Nat
  payload : List Nat
deriving DecidableEq, Repr

end Sys2Proof.Machine
end

