-- ==== Sys2Proof/Parts/Record.lean ====
section
/-! DEFINITION. The 32-byte record of Table 1.11 (R56) and the Fabato extended record of Table 12.1 (R315). -/
namespace Sys2Proof.Machine

/-- Record classes of Table 1.4, with their codes in `RClass.code`. -/
inductive RClass where
  | t | s | c | a
deriving DecidableEq, Repr

/-- Class code of Table 1.4. -/
def RClass.code : RClass → Nat
  | .t => 0 | .s => 1 | .c => 2 | .a => 3

/-- Class with a given code, read by its low two bits. -/
def RClass.ofCode (n : Nat) : RClass :=
  match n % 4 with
  | 0 => .t | 1 => .s | 2 => .c | _ => .a

/-- A record (Table 1.11). -/
structure Record where
  type : Byte
  /-- type flags, byte 1 [4:0] -/
  flags : BitVec 5
  cont : Bool
  cls : RClass
  seq : U16
  tns : U32
  step : U32
  angle : U16
  /-- bytes 14–15: sub-unit and index, or the one u16 of R537 -/
  src : U16
  payload : U128
deriving DecidableEq, Repr

/-- A Fabato extended record (Table 12.1). -/
structure ExtRecord where
  base : Record
  path : U32
  roster : U16
  quality : Byte
  old : Bool
  anchored : Bool
  relayed : Bool
  quarantined : Bool
  probation : Bool
  lateMerge : Bool
  /-- extended capture time, total ns (the record's time80 is its seconds and nanoseconds) -/
  time : U64
  epoch : U32
  step : U64
deriving DecidableEq, Repr

end Sys2Proof.Machine
end

