-- ==== Sys2Proof/Parts/Time.lean ====
section
/-! DEFINITION. Halo's state (spec/04): the time counter and servo of a unit, the member servos of a tray, the trigger outputs. -/
namespace Sys2Proof.Machine

/-- States of Table 4.2. -/
inductive TimeMode where
  | unlocked | acquiring | locked | holdover
deriving DecidableEq, Repr

/-- Time counter and state of one unit (R128–R135, R530, R531). -/
structure TimePart where
  /-- u64 nanoseconds and 48-bit fraction (R132) -/
  ns : U64
  frac : BitVec 48
  /-- rate, s64 in 2⁻¹⁶ ppb -/
  adj : Int
  mode : TimeMode
  /-- state code the source reports, 0–7 (R130) -/
  srcState : Nat
  /-- bound the source reports, ns (R130) -/
  bParent : Nat
  theta : Int
  delay : Int
  /-- last three offsets, newest first (payload of TIME_LOCK_LOST) -/
  thetas : List Int
  /-- valid exchanges in a row while Unlocked -/
  valid : Nat
  bad : Nat
  integ : Int
  /-- consecutive missed sync intervals of the source in use (R128) -/
  missed : Nat
  sourceLost : Bool
  /-- P1 in use (R128) -/
  useP1 : Bool
  /-- rack reference present (Fabato) or REFCLK present (Ovtan) -/
  refPresent : Bool
  forced : Bool
  /-- instant of holdover entry on the powered-time count, and the bound then -/
  holdSince : Option Nat
  bEntry : Nat
  /-- the 24 h limit of this holdover has been noted (R130) -/
  dayNoted : Bool
  /-- unit time of the last step (R129) -/
  steppedAt : Option Nat
  /-- quality byte and bound a member was given (R138) -/
  byte : Byte
  bound : Nat
  /-- DELAY_OUT_OF_RANGE raised in this episode (R137) -/
  delayEpisode : Bool
  /-- powered-time instants of the last TIME_REQ round and the last full time record -/
  lastSync : Nat
  lastFull : Nat
  /-- value committed to TIME.TOD_SET and the powered-time instant of its commit (R125) -/
  tod : Option (Nat × Nat)
deriving DecidableEq, Repr

/-- PTP port data (R140): what a slave port has of the exchange in progress, and the last mean path delay. -/
structure PtpPort where
  port : Nat
  /-- a two-step Sync awaiting its follow-up: sequence id and arrival -/
  sync : Option (Nat × Nat)
  /-- last mean path delay, ns -/
  meanDelay : Int
  /-- last Sync: master time and local arrival (end-to-end delay mechanism) -/
  lastSync : Option (Nat × Nat)
  /-- a delay or peer-delay request sent: sequence id and departure -/
  req : Option (Nat × Nat)
  /-- its response: t2 as the peer stamped it, and arrival (peer-to-peer) -/
  resp : Option (Nat × Nat)
  /-- last announce: clockClass, accuracy and quality byte (R130, R141) -/
  clockClass : Nat
  accuracy : Nat
  byte : Nat
  seq : Nat
  /-- powered times of the last Sync heard, the last transmission and the last announce sent (Table 4.4) -/
  heard : Option Nat
  lastDue : Nat
  lastAnn : Nat
deriving DecidableEq, Repr

/-- Servo Halo keeps for one Drizzle member (R133, R136–R138). -/
structure MemberServo where
  mode : TimeMode
  adj : Int
  integ : Int
  bad : Nat
  valid : Nat
  theta : Int
  delay : Int
  missed : Nat
  episode : Bool
  /-- quality byte of TIME.MEMBER_QUALITY and bound commanded -/
  quality : Byte
  bound : Nat
  /-- byte held when the lane last left Up (R316) -/
  oldQuality : Byte
  /-- raw t1 of the exchange in flight -/
  t1 : Option Nat
deriving DecidableEq, Repr

/-- One trigger output (R151, R152). -/
structure Trigger where
  level : Bool
  /-- unit time at which the active pulse ends -/
  pulseEnd : Option Nat
  /-- firings so far, and the next firing time (mode 1) or step (mode 2) -/
  fired : Nat
  next : Nat
  done : Bool
deriving DecidableEq, Repr

/-- Halo's group side (spec/04): member servos, PTP ports, outputs. -/
structure HaloPart where
  members : List MemberServo
  ptp : List PtpPort
  pps : Bool
  ppsFall : Option Nat
  /-- whole second the 1PPS last marked -/
  ppsSecond : Nat
  trig : List Trigger
deriving DecidableEq, Repr

end Sys2Proof.Machine
end

