-- ==== Sys2Proof/Parts/Core.lean ====
section
/-! DEFINITION. What every unit has, Ovtan and group alike (R23): dictionary, sessions, time, angle, cuts, raised events and what it sent. -/
namespace Sys2Proof.Machine

/-- What leaves a unit, in the order it left. -/
inductive Sent where
  /-- a dictionary message: port, opcode, path, body and the whole message's bytes -/
  | message (port : Port) (opcode : Nat) (path : Nat) (bytes : Bytes)
  /-- an item of a Drizzle control flit on a lane (R271): item type and value -/
  | item (lane : Nat) (type : Nat) (value : Nat)
  /-- a flit on a lane: sequence, OLD, records -/
  | flit (lane : Nat) (seq : Nat) (old : Bool) (recs : List Record)
  /-- a frame on a Sky port: kind and bytes -/
  | frame (port : Nat) (kind : Nat) (bytes : Bytes)
  /-- a PTP message: port, message name by number, fields -/
  | ptp (port : Nat) (kind : Nat) (fields : List Nat)
  /-- an exchange of class C between units (type 0x70 subtypes and Table 15.7): port or path, code, fields -/
  | exchange (path : Nat) (code : Nat) (fields : List Nat)
  /-- a request on the MEM port: id, write, address, bytes -/
  | mem (id : Nat) (write : Bool) (addr : Nat) (len : Nat) (data : Bytes)
  /-- an edge of an output pin: pin number of the model and level -/
  | pin (pin : Nat) (level : Bool)
  /-- an answer on the CFG port -/
  | cfg (kind : Nat) (bytes : Bytes)
deriving DecidableEq, Repr

/-- An armed cut (R455), in the fields of Table 18.1. -/
structure ArmedCut where
  id : Nat
  step : Nat
  angle : Nat
  flags : Nat
  /-- the 32 bytes of its descriptor -/
  desc : Bytes
  armedAt : Nat
deriving DecidableEq, Repr

/-- Keys a unit holds (R100): a key of all zeros is unset. -/
structure Keys where
  roles : List Bytes
  /-- element, tenant id, key -/
  tenants : List (Nat × Nat × Bytes)
  tree : Bytes
deriving DecidableEq, Repr

/-- The part of a unit that an Ovtan and a group have alike. -/
structure Core where
  /-- IDENT.UNIT_KIND: 0 Ovtan, 1 Fabato tray, 2 Fabato rack, 3 Fabato row (R26) -/
  kind : Nat
  /-- IDENT.PATH -/
  path : Nat
  /-- nanoseconds of powered time: what a duration of the manual is measured on (R18) -/
  up : Nat
  store : Store
  /-- class X values waiting for a restart, class B values waiting for an angle zero (R72) -/
  waitX : Store
  waitB : Store
  /-- manufacture image (defaults shown as Fused) and plan values, by object number -/
  made : Store
  keys : Keys
  sessions : List Session
  handshakes : List Handshake
  locks : List Lock
  commits : List Commit
  kept : List Kept
  /-- last agreeing values of force-written pairs, and the pairs in a disagreement episode (R86) -/
  pairGood : Store
  pairBad : List Nat
  time : TimePart
  angle : AnglePart
  cuts : List ArmedCut
  /-- payload of the last class S cut marker (CUT.LAST) -/
  cutLast : Bytes
  events : List Event
  sent : List Sent
  /-- draws of free values so far: the model's own field -/
  free : Nat
  /-- count of commits a restart discarded, for COMMIT_LOST (R99) -/
  commitLost : Nat
deriving DecidableEq, Repr

end Sys2Proof.Machine
end

