-- ==== Sys2Proof/Machine/Operands.lean ====
section
/-! DEFINITION. The operand forms of the commands: records (Tables 1.11, 12.1), message headers and items (Tables 2.8, 2.11), member paths (Table 0.3) and object numbers (R57). -/
namespace Sys2Proof.Machine

/-- The 32 bytes of a record (Table 1.11). -/
def recordBytes (r : Record) : Bytes :=
  [r.type, BitVec.ofNat 8 (r.flags.toNat + (if r.cont then 32 else 0) + r.cls.code * 64)]
    ++ leBytes 2 r.seq.toNat ++ leBytes 4 r.tns.toNat ++ leBytes 4 r.step.toNat ++ leBytes 2 r.angle.toNat
    ++ leBytes 2 r.src.toNat ++ leBytes 16 r.payload.toNat

/-- The record that 32 bytes spell (Table 1.11). -/
def recordOfBytes (b : Bytes) : Record :=
  let at_ (i k : Nat) := ofLe ((b.drop i).take k)
  let b1 := at_ 1 1
  { type := BitVec.ofNat 8 (at_ 0 1), flags := BitVec.ofNat 5 (b1 % 32), cont := b1 / 32 % 2 == 1,
    cls := RClass.ofCode (b1 / 64), seq := BitVec.ofNat 16 (at_ 2 2), tns := BitVec.ofNat 32 (at_ 4 4),
    step := BitVec.ofNat 32 (at_ 8 4), angle := BitVec.ofNat 16 (at_ 12 2), src := BitVec.ofNat 16 (at_ 14 2),
    payload := BitVec.ofNat 128 (at_ 16 16) }

/-- time80 of a total nanosecond count (R10, R132). -/
def time80 (ns : Nat) : Nat := ns / 1000000000 * 2 ^ 32 + ns % 1000000000

/-- Total nanoseconds of a time80 (R10). -/
def ofTime80 (t : Nat) : Nat := t / 2 ^ 32 * 1000000000 + t % 2 ^ 32

/-- The 64 bytes of an extended record (Table 12.1). -/
def extBytes (e : ExtRecord) : Bytes :=
  let bit (b : Bool) (i : Nat) := if b then 2 ^ i else 0
  recordBytes e.base ++ leBytes 4 e.path.toNat ++ leBytes 2 e.roster.toNat ++ [e.quality]
    ++ leBytes 1 (bit e.old 0 + bit e.anchored 1 + bit e.relayed 2 + bit e.quarantined 3 + bit e.probation 4 + bit e.lateMerge 5)
    ++ leBytes 10 (time80 e.time.toNat) ++ leBytes 2 0 ++ leBytes 4 e.epoch.toNat ++ leBytes 8 e.step.toNat

/-- The extended record that 64 bytes spell (Table 12.1). -/
def extOfBytes (b : Bytes) : ExtRecord :=
  let at_ (i k : Nat) := ofLe ((b.drop i).take k)
  let f := at_ 39 1
  let bit (i : Nat) := f / 2 ^ i % 2 == 1
  { base := recordOfBytes (b.take 32), path := BitVec.ofNat 32 (at_ 32 4), roster := BitVec.ofNat 16 (at_ 36 2),
    quality := BitVec.ofNat 8 (at_ 38 1), old := bit 0, anchored := bit 1, relayed := bit 2, quarantined := bit 3,
    probation := bit 4, lateMerge := bit 5, time := BitVec.ofNat 64 (ofTime80 (at_ 40 10)),
    epoch := BitVec.ofNat 32 (at_ 52 4), step := BitVec.ofNat 64 (at_ 56 8) }

/-! ### Object numbers (R57) -/

/-- Area of an object number. -/
def objArea (o : Nat) : Nat := o / 2 ^ 24
/-- Element of an object number. -/
def objElem (o : Nat) : Nat := o % 256
/-- Object number of another element of the same object. -/
def withElem (o e : Nat) : Nat := o / 256 * 256 + e
/-- Expert objects have object numbers 0x8000–0xFFFF (R70). -/
def objExpert (o : Nat) : Bool := o / 256 % 65536 ≥ 0x8000

/-! ### Member paths (Table 0.3, R14–R16) -/

def pathRow (p : Nat) : Nat := bitsOf p 31 28
def pathRack (p : Nat) : Nat := bitsOf p 27 22
def pathTray (p : Nat) : Nat := bitsOf p 21 16
def pathDie (p : Nat) : Nat := bitsOf p 15 8
def pathSub (p : Nat) : Nat := bitsOf p 7 0
/-- The path with its sub-unit field replaced. -/
def withSub (p sub : Nat) : Nat := p / 256 * 256 + sub
/-- Level of a unit whose path is `p`: 0 die, 1 tray, 2 rack, 3 row, 4 the root above the rows (R15). -/
def pathLevel (p : Nat) : Nat :=
  if pathRow p = 15 then 4 else if pathRack p = 63 then 3 else if pathTray p = 63 then 2
  else if pathDie p = 255 then 1 else 0
/-- Number of low bits below the field that names a member of a group of level `l` (Table 0.3). -/
def memberShift : Nat → Nat
  | 1 => 8 | 2 => 16 | 3 => 22 | _ => 28
/-- Width of that field. -/
def memberWidth : Nat → Nat
  | 1 => 8 | 2 => 6 | 3 => 6 | _ => 4
/-- Whether `p` lies in the subtree of the group whose path is `own` (R94): the fields above the group's member field agree. -/
def inSubtree (own p : Nat) : Bool :=
  let l := pathLevel own
  let top := memberShift l + memberWidth l
  decide (l ≥ 1) && own / 2 ^ top == p / 2 ^ top
/-- Member index of `p` below the group `own`, or none for the group itself (R15). -/
def memberOf (own p : Nat) : Option Nat :=
  let l := pathLevel own
  let i := p / 2 ^ memberShift l % 2 ^ memberWidth l
  if i + 1 = 2 ^ memberWidth l then none else some i
/-- Path of member `i` of the group `own`: lower fields all ones (R15). -/
def memberPath (own i : Nat) : Nat :=
  let l := pathLevel own
  let s := memberShift l
  let top := s + memberWidth l
  own / 2 ^ top * 2 ^ top + i * 2 ^ s + (2 ^ s - 1)
/-- Member limit of a group of level `l` (Table 1.1). -/
def memberLimit : Nat → Nat
  | 1 => 128 | 2 => 16 | 3 => 16 | _ => 4

/-! ### Messages (Tables 2.8–2.11) -/

/-- The bytes of a message before its MAC (R90): header, further paths, body. -/
def messageBytes (e : Envelope) (opcode summary : Nat) (body : Bytes) : Bytes :=
  leBytes 1 e.version ++ leBytes 1 opcode ++ leBytes 2 e.flags ++ leBytes 4 e.msgId ++ leBytes 4 e.session
    ++ leBytes 4 e.seq ++ leBytes 4 (e.paths.headD 0) ++ leBytes 2 e.bodyLen ++ leBytes 1 e.pathCount
    ++ leBytes 1 e.hop ++ leBytes 1 summary ++ zeros 7 ++ (e.paths.drop 1).flatMap (leBytes 4) ++ body

/-- Bytes of a read item. -/
def readItemBytes (r : ReadItem) : Bytes := leBytes 4 r.obj ++ leBytes 1 r.count ++ leBytes 1 r.flags ++ leBytes 2 0

/-- A value padded with zeros to a multiple of 8 bytes (R91). -/
def pad8 (v : Bytes) : Bytes := v ++ zeros (roundUp v.length 8 - v.length)

/-- Bytes of a write item. -/
def writeItemBytes (w : WriteItem) : Bytes :=
  leBytes 4 w.obj ++ leBytes 1 w.ty ++ leBytes 1 w.flags ++ leBytes 2 w.value.length ++ pad8 w.value

/-- Bytes of a response item. -/
def responseItemBytes (obj ty status : Nat) (v : Bytes) : Bytes :=
  leBytes 4 obj ++ leBytes 1 ty ++ leBytes 1 status ++ leBytes 2 v.length ++ pad8 v

/-- Bytes of a commit descriptor (Table 2.6). -/
def commitBytes (mode id step time : Nat) : Bytes :=
  leBytes 1 mode ++ zeros 3 ++ leBytes 4 id ++ leBytes 8 step ++ leBytes 10 (time80 time) ++ zeros 6

/-- Flag bits of Table 2.9. -/
def flagFanout (f : Nat) : Bool := f.testBit 0
def flagStage (f : Nat) : Bool := f.testBit 1
def flagForce (f : Nat) : Bool := f.testBit 2
def flagLocal (f : Nat) : Bool := f.testBit 4

/-- What the digest of R96 covers: opcode, flags, path stack and body. -/
def requestDigest (e : Envelope) (opcode : Nat) (body : Bytes) : Bytes :=
  sha256 (leBytes 1 opcode ++ leBytes 2 e.flags ++ e.paths.flatMap (leBytes 4) ++ body)

end Sys2Proof.Machine
end

