-- ==== Sys2Proof/Machine/Flags.lean ====
section
/-! DEFINITION. Status codes (Table 2.12), the time quality byte (Table 4.3), the angle status byte (Table 5.3). -/
namespace Sys2Proof.Machine

/-! ### Status codes (Table 2.12) -/
def stOk : Nat := 0x00
def stStaged : Nat := 0x01
def stPendingRestart : Nat := 0x02
def stPendingBoundary : Nat := 0x03
def stAppliedUnlocked : Nat := 0x04
def stCommitPending : Nat := 0x05
def eNoObject : Nat := 0x80
def eNoElement : Nat := 0x81
def eType : Nat := 0x82
def eRange : Nat := 0x83
def eReserved : Nat := 0x84
def eReadOnly : Nat := 0x85
def eWriteOnly : Nat := 0x86
def eRole : Nat := 0x87
def eScope : Nat := 0x88
def eAbsentMember : Nat := 0x89
def eUnreachable : Nat := 0x8A
def eTimeout : Nat := 0x8B
def eCommitLate : Nat := 0x8C
def ePair : Nat := 0x8D
def eStageFull : Nat := 0x8E
def eBusy : Nat := 0x8F
def eApply : Nat := 0x90
def eMalformed : Nat := 0x91
def eVersion : Nat := 0x92
def eHopLimit : Nat := 0x93

/-- The smallest u with 4^u at or above `b`, 15 beyond 4^14 (R130, Table 4.3). -/
def uClass (b : Nat) : Nat :=
  ((List.range 15).find? (fun u => decide (4 ^ u ≥ b))).getD 15

/-- Quality byte from state, STEPPED and class (Table 4.3). -/
def qualityByte (state : Nat) (stepped : Bool) (u : Nat) : Byte :=
  BitVec.ofNat 8 (state % 8 * 32 + (if stepped then 16 else 0) + u % 16)

/-- One hour in nanoseconds. -/
def hourNs : Nat := 3600000000000

/-- STEPPED: a step of the unit within the 1 s before `ns` (R129). -/
def steppedAtTime (t : TimePart) (ns : Nat) : Bool :=
  match t.steppedAt with
  | none => false
  | some s => decide (s ≤ ns) && decide (ns - s ≤ 1000000000)

end Sys2Proof.Machine
end

