-- ==== Sys2Proof/Machine/ObjNames.lean ====
section
/-! DEFINITION. Names of the object numbers (R57), one per row of the object tables of spec/02 to spec/21. The first object of the row where it stands for several. -/
namespace Sys2Proof.Machine

/-- IDENT.VENDOR -/
abbrev oIdentVendor : Nat := 0x00000000
/-- IDENT.PART -/
abbrev oIdentPart : Nat := 0x00000100
/-- IDENT.STEPPING -/
abbrev oIdentStepping : Nat := 0x00000200
/-- IDENT.UNIT_KIND -/
abbrev oIdentUnitKind : Nat := 0x00000300
/-- IDENT.UID -/
abbrev oIdentUid : Nat := 0x00000400
/-- IDENT.PATH -/
abbrev oIdentPath : Nat := 0x00000500
/-- IDENT.DICT_VERSION -/
abbrev oIdentDictVersion : Nat := 0x00000600
/-- IDENT.RESTART -/
abbrev oIdentRestart : Nat := 0x00001000
/-- IDENT.BUILD -/
abbrev oIdentBuild : Nat := 0x00800000
/-- SESSION.ROLE_KEY -/
abbrev oSessionRoleKey : Nat := 0x01000000
/-- SESSION.SALT -/
abbrev oSessionSalt : Nat := 0x01000100
/-- SESSION.KDF_ITER -/
abbrev oSessionKdfIter : Nat := 0x01000200
/-- SESSION.TENANT_KEY -/
abbrev oSessionTenantKey : Nat := 0x01000300
/-- SESSION.TREE_KEY -/
abbrev oSessionTreeKey : Nat := 0x01000400
/-- SESSION.LOCKOUT_LIMIT -/
abbrev oSessionLockoutLimit : Nat := 0x01000500
/-- SESSION.LOCKOUT_TIME -/
abbrev oSessionLockoutTime : Nat := 0x01000600
/-- SESSION.IDLE_TIMEOUT -/
abbrev oSessionIdleTimeout : Nat := 0x01000700
/-- SESSION.LIFETIME -/
abbrev oSessionLifetime : Nat := 0x01000800
/-- SESSION.ACTIVE -/
abbrev oSessionActive : Nat := 0x01000900
/-- SESSION.AUTH_FAILS -/
abbrev oSessionAuthFails : Nat := 0x01000A00
/-- SESSION.MAC_FAILS -/
abbrev oSessionMacFails : Nat := 0x01000B00
/-- SESSION.TRACE_GRANT -/
abbrev oSessionTraceGrant : Nat := 0x01000C00
/-- SESSION.LOCKED -/
abbrev oSessionLocked : Nat := 0x01000D00
/-- SESSION.CLOSE_SESSION -/
abbrev oSessionCloseSession : Nat := 0x01000E00
/-- SESSION.TENANT_IDS -/
abbrev oSessionTenantIds : Nat := 0x01000F00
/-- SESSION.COMMIT -/
abbrev oSessionCommit : Nat := 0x01001000
/-- SESSION.STAGE_COUNT -/
abbrev oSessionStageCount : Nat := 0x01001100
/-- SESSION.PENDING -/
abbrev oSessionPending : Nat := 0x01001200
/-- SESSION.FWD_TIMEOUT -/
abbrev oSessionFwdTimeout : Nat := 0x01002000
/-- SESSION.UDP_PORT -/
abbrev oSessionUdpPort : Nat := 0x01002100
/-- SESSION.OUTSTANDING -/
abbrev oSessionOutstanding : Nat := 0x01002200
/-- SESSION.MSG_MALFORMED -/
abbrev oSessionMsgMalformed : Nat := 0x01002300
/-- SESSION.PAIR_MISMATCHES -/
abbrev oSessionPairMismatches : Nat := 0x01002400
/-- TIME.NOW -/
abbrev oTimeNow : Nat := 0x02000000
/-- TIME.QUALITY -/
abbrev oTimeQuality : Nat := 0x02000100
/-- TIME.STATE -/
abbrev oTimeState : Nat := 0x02000200
/-- TIME.OFFSET -/
abbrev oTimeOffset : Nat := 0x02000300
/-- TIME.LINK_DELAY -/
abbrev oTimeLinkDelay : Nat := 0x02000400
/-- TIME.RATE_ADJ -/
abbrev oTimeRateAdj : Nat := 0x02000500
/-- TIME.STEP_THRESHOLD -/
abbrev oTimeStepThreshold : Nat := 0x02000600
/-- TIME.RELOCK_THRESHOLD -/
abbrev oTimeRelockThreshold : Nat := 0x02000700
/-- TIME.SYNC_INTERVAL -/
abbrev oTimeSyncInterval : Nat := 0x02000800
/-- TIME.FULL_INTERVAL -/
abbrev oTimeFullInterval : Nat := 0x02000900
/-- TIME.FREQ_SRC -/
abbrev oTimeFreqSrc : Nat := 0x02000A00
/-- TIME.PHASE_SRC -/
abbrev oTimePhaseSrc : Nat := 0x02000B00
/-- TIME.TOD_SET -/
abbrev oTimeTodSet : Nat := 0x02000C00
/-- TIME.HOLDOVER_OSC -/
abbrev oTimeHoldoverOsc : Nat := 0x02000D00
/-- TIME.HOLDOVER_ELAPSED -/
abbrev oTimeHoldoverElapsed : Nat := 0x02000E00
/-- TIME.PTP_DOMAIN -/
abbrev oTimePtpDomain : Nat := 0x02000F00
/-- TIME.PTP_LOG_SYNC -/
abbrev oTimePtpLogSync : Nat := 0x02001000
/-- TIME.STEPS -/
abbrev oTimeSteps : Nat := 0x02001100
/-- TIME.LOCK_LOSSES -/
abbrev oTimeLockLosses : Nat := 0x02001200
/-- TIME.ANCHORED -/
abbrev oTimeAnchored : Nat := 0x02001300
/-- TIME.MEMBER_OFFSET -/
abbrev oTimeMemberOffset : Nat := 0x02001400
/-- TIME.MEMBER_QUALITY -/
abbrev oTimeMemberQuality : Nat := 0x02001500
/-- TIME.SERVO_KP -/
abbrev oTimeServoKp : Nat := 0x02800000
/-- TIME.SERVO_KI -/
abbrev oTimeServoKi : Nat := 0x02800100
/-- TIME.MAX_SLEW -/
abbrev oTimeMaxSlew : Nat := 0x02800200
/-- TIME.HOLDOVER_RATE -/
abbrev oTimeHoldoverRate : Nat := 0x02800300
/-- TIME.FREQREF_RATE -/
abbrev oTimeFreqrefRate : Nat := 0x02800400
/-- TIME.FORCE_STATE -/
abbrev oTimeForceState : Nat := 0x02800500
/-- ANGLE.LOCK_MODE -/
abbrev oAngleLockMode : Nat := 0x03000000
/-- ANGLE.STATE -/
abbrev oAngleState : Nat := 0x03000100
/-- ANGLE.STEP -/
abbrev oAngleStep : Nat := 0x03000200
/-- ANGLE.NOW -/
abbrev oAngleNow : Nat := 0x03000300
/-- ANGLE.LENGTH_Q16 -/
abbrev oAngleLengthQ16 : Nat := 0x03000400
/-- ANGLE.ACTIVE_LIST -/
abbrev oAngleActiveList : Nat := 0x03000500
/-- ANGLE.MARKER_REPORT -/
abbrev oAngleMarkerReport : Nat := 0x03000600
/-- ANGLE.SKIP_LEVEL -/
abbrev oAngleSkipLevel : Nat := 0x03000700
/-- ANGLE.LIST_A -/
abbrev oAngleListA : Nat := 0x03001000
/-- ANGLE.LIST_B -/
abbrev oAngleListB : Nat := 0x03001100
/-- ANGLE.MISSED -/
abbrev oAngleMissed : Nat := 0x03002000
/-- ANGLE.STRAY -/
abbrev oAngleStray : Nat := 0x03002100
/-- ANGLE.GLITCHES -/
abbrev oAngleGlitches : Nat := 0x03002200
/-- ANGLE.REWINDS -/
abbrev oAngleRewinds : Nat := 0x03002300
/-- ANGLE.QUEUE_LOSSES -/
abbrev oAngleQueueLosses : Nat := 0x03002400
/-- ANGLE.LATE_FIRINGS -/
abbrev oAngleLateFirings : Nat := 0x03002500
/-- ANGLE.OPTIONAL_SKIPS -/
abbrev oAngleOptionalSkips : Nat := 0x03002600
/-- ANGLE.GROUP_REF -/
abbrev oAngleGroupRef : Nat := 0x03003000
/-- ANGLE.GROUP_WAIT -/
abbrev oAngleGroupWait : Nat := 0x03003100
/-- ANGLE.MEMBER_LAG -/
abbrev oAngleMemberLag : Nat := 0x03003200
/-- ANGLE.PHASE_SPREAD -/
abbrev oAnglePhaseSpread : Nat := 0x03003300
/-- ANGLE.MEMBER_NO_MARKER -/
abbrev oAngleMemberNoMarker : Nat := 0x03003400
/-- ANGLE.STEP_BASE -/
abbrev oAngleStepBase : Nat := 0x03003500
/-- ANGLE.TOL_SHIFT -/
abbrev oAngleTolShift : Nat := 0x03800000
/-- ANGLE.LENGTH_SHIFT -/
abbrev oAngleLengthShift : Nat := 0x03800100
/-- ANGLE.ACQUIRE_STEPS -/
abbrev oAngleAcquireSteps : Nat := 0x03800200
/-- ANGLE.RELOCK_STEPS -/
abbrev oAngleRelockSteps : Nat := 0x03800300
/-- ANGLE.JUMP_LIMIT -/
abbrev oAngleJumpLimit : Nat := 0x03800400
/-- ANGLE.MIN_SPACING -/
abbrev oAngleMinSpacing : Nat := 0x03800500
/-- ANGLE.ARM_LEAD -/
abbrev oAngleArmLead : Nat := 0x03800600
/-- ANGLE.SOFT_MARKER -/
abbrev oAngleSoftMarker : Nat := 0x03800700
/-- COUNT.THRESHOLD -/
abbrev oCountThreshold : Nat := 0x04001000
/-- COUNT.STD_RANGE -/
abbrev oCountStdRange : Nat := 0x04001100
/-- COUNT.AO_ALARM_MASK -/
abbrev oCountAoAlarmMask : Nat := 0x04001200
/-- COUNT.BUS_DOMAIN -/
abbrev oCountBusDomain : Nat := 0x04001300
/-- COUNT.LATCH_WAIT -/
abbrev oCountLatchWait : Nat := 0x04001400
/-- COUNT.CTR value -/
abbrev oCountCtrValue : Nat := 0x04010001
/-- COUNT.CTR configuration -/
abbrev oCountCtrConfiguration : Nat := 0x04010002
/-- COUNT.CTR tenant -/
abbrev oCountCtrTenant : Nat := 0x04010003
/-- COUNT.CTR baseline B0 -/
abbrev oCountCtrBaselineB0 : Nat := 0x04010004
/-- COUNT.CTR baseline B1 -/
abbrev oCountCtrBaselineB1 : Nat := 0x04010005
/-- COUNT.CTR baseline B2 -/
abbrev oCountCtrBaselineB2 : Nat := 0x04010006
/-- COUNT.CTR baseline B3 -/
abbrev oCountCtrBaselineB3 : Nat := 0x04010007
/-- COUNT.PROGRAM -/
abbrev oCountProgram : Nat := 0x04800000
/-- COUNT.REPAIRED -/
abbrev oCountRepaired : Nat := 0x04801000
/-- SENSE.STD_RANGE -/
abbrev oSenseStdRange : Nat := 0x05001000
/-- SENSE.THERMAL_TRIP -/
abbrev oSenseThermalTrip : Nat := 0x05001100
/-- SENSE.DROOP_TRIP -/
abbrev oSenseDroopTrip : Nat := 0x05001200
/-- SENSE.FMON_SRC -/
abbrev oSenseFmonSrc : Nat := 0x05001300
/-- SENSE.FMON_NOMINAL -/
abbrev oSenseFmonNominal : Nat := 0x05001400
/-- SENSE.FMON_WINDOW -/
abbrev oSenseFmonWindow : Nat := 0x05001500
/-- SENSE.STRETCH_NS -/
abbrev oSenseStretchNs : Nat := 0x05001600
/-- SENSE.STRETCH_COUNT -/
abbrev oSenseStretchCount : Nat := 0x05001700
/-- SENSE.CH value -/
abbrev oSenseChValue : Nat := 0x05010001
/-- SENSE.CH raw -/
abbrev oSenseChRaw : Nat := 0x05010002
/-- SENSE.CH conversion time -/
abbrev oSenseChConversionTime : Nat := 0x05010003
/-- SENSE.STRETCH_SHIFT -/
abbrev oSenseStretchShift : Nat := 0x05800000
/-- TRACE.ENABLE -/
abbrev oTraceEnable : Nat := 0x06000000
/-- TRACE.TAP_MODE -/
abbrev oTraceTapMode : Nat := 0x06000100
/-- TRACE.TAP_DOMAIN -/
abbrev oTraceTapDomain : Nat := 0x06000200
/-- TRACE.FILTER -/
abbrev oTraceFilter : Nat := 0x06000300
/-- TRACE.CAPTURE_MODE -/
abbrev oTraceCaptureMode : Nat := 0x06000400
/-- TRACE.PRE_COUNT -/
abbrev oTracePreCount : Nat := 0x06000500
/-- TRACE.POST_COUNT -/
abbrev oTracePostCount : Nat := 0x06000600
/-- TRACE.TRIG_ALARM -/
abbrev oTraceTrigAlarm : Nat := 0x06000700
/-- TRACE.REARM -/
abbrev oTraceRearm : Nat := 0x06000800
/-- TRACE.ARM -/
abbrev oTraceArm : Nat := 0x06000900
/-- TRACE.STATE -/
abbrev oTraceState : Nat := 0x06000A00
/-- TRACE.SYNC_INTERVAL -/
abbrev oTraceSyncInterval : Nat := 0x06000B00
/-- TRACE.ACCOUNT_INTERVAL -/
abbrev oTraceAccountInterval : Nat := 0x06000C00
/-- TRACE.TRACED -/
abbrev oTraceTraced : Nat := 0x06000D00
/-- TRACE.FILTERED -/
abbrev oTraceFiltered : Nat := 0x06000E00
/-- TRACE.DROPPED -/
abbrev oTraceDropped : Nat := 0x06000F00
/-- TRACE.SECURE_DROPS -/
abbrev oTraceSecureDrops : Nat := 0x06001000
/-- TRACE.PRE_DISCARDS -/
abbrev oTracePreDiscards : Nat := 0x06001100
/-- TRACE.SPILL_SHARE -/
abbrev oTraceSpillShare : Nat := 0x06001200
/-- TRACE.PD_STATE -/
abbrev oTracePdState : Nat := 0x06001300
/-- TRACE.FLUSH_MAX -/
abbrev oTraceFlushMax : Nat := 0x06001400
/-- TRACE.STORE_SIZE -/
abbrev oTraceStoreSize : Nat := 0x06010000
/-- TRACE.STORE_POLICY -/
abbrev oTraceStorePolicy : Nat := 0x06010100
/-- TRACE.STORE_USED -/
abbrev oTraceStoreUsed : Nat := 0x06010200
/-- TRACE.STORE_OVERWRITES -/
abbrev oTraceStoreOverwrites : Nat := 0x06010300
/-- TRACE.EXPORT -/
abbrev oTraceExport : Nat := 0x06010400
/-- TRACE.EXPORT_STATUS -/
abbrev oTraceExportStatus : Nat := 0x06010500
/-- TRACE.INJECT -/
abbrev oTraceInject : Nat := 0x06800000
/-- DEW.CH polynomial -/
abbrev oDewChPolynomial : Nat := 0x07010001
/-- DEW.CH initial value -/
abbrev oDewChInitialValue : Nat := 0x07010002
/-- DEW.CH final XOR -/
abbrev oDewChFinalXor : Nat := 0x07010003
/-- DEW.CH control -/
abbrev oDewChControl : Nat := 0x07010004
/-- DEW.CH fold start -/
abbrev oDewChFoldStart : Nat := 0x07010005
/-- DEW.CH result -/
abbrev oDewChResult : Nat := 0x07010006
/-- DEW.CH bytes fed -/
abbrev oDewChBytesFed : Nat := 0x07010007
/-- DEW.CH reset -/
abbrev oDewChReset : Nat := 0x07010008
/-- DEW.CH feed byte -/
abbrev oDewChFeedByte : Nat := 0x07010010
/-- DEW.CH feed half-word -/
abbrev oDewChFeedHalfWord : Nat := 0x07010011
/-- DEW.CH feed word -/
abbrev oDewChFeedWord : Nat := 0x07010012
/-- DEW.DP_ENABLE -/
abbrev oDewDpEnable : Nat := 0x07020000
/-- DEW.DP_SEGMENT -/
abbrev oDewDpSegment : Nat := 0x07020100
/-- DEW.DP_LINES -/
abbrev oDewDpLines : Nat := 0x07020200
/-- DEW.DP_KEY -/
abbrev oDewDpKey : Nat := 0x07020300
/-- DEW.DP_SHIFT -/
abbrev oDewDpShift : Nat := 0x07020400
/-- DEW.DP_REPLICA -/
abbrev oDewDpReplica : Nat := 0x07020500
/-- DEW.DP_ID -/
abbrev oDewDpId : Nat := 0x07020600
/-- DEW.DP_START_EVENT -/
abbrev oDewDpStartEvent : Nat := 0x07020700
/-- DEW.DP_GO -/
abbrev oDewDpGo : Nat := 0x07020800
/-- DEW.DP_DEADLINE -/
abbrev oDewDpDeadline : Nat := 0x07020900
/-- DEW.DP_DMA_CH -/
abbrev oDewDpDmaCh : Nat := 0x07020A00
/-- DEW.DP_PRIORITY -/
abbrev oDewDpPriority : Nat := 0x07020B00
/-- DEW.DP_IRQ -/
abbrev oDewDpIrq : Nat := 0x07020C00
/-- DEW.DP_STATUS -/
abbrev oDewDpStatus : Nat := 0x07020D00
/-- DEW.DP_LAST -/
abbrev oDewDpLast : Nat := 0x07020E00
/-- DEW.DP_DIGESTS -/
abbrev oDewDpDigests : Nat := 0x07020F00
/-- DEW.DP_LATE -/
abbrev oDewDpLate : Nat := 0x07021000
/-- DEW.DP_OVERRUNS -/
abbrev oDewDpOverruns : Nat := 0x07021100
/-- DEW.VOTE_DUPLICATES -/
abbrev oDewVoteDuplicates : Nat := 0x07030000
/-- DMA.GO -/
abbrev oDmaGo : Nat := 0x08001000
/-- DMA.STOP -/
abbrev oDmaStop : Nat := 0x08001100
/-- DMA.BW_BUDGET -/
abbrev oDmaBwBudget : Nat := 0x08001200
/-- DMA.BW_BURST -/
abbrev oDmaBwBurst : Nat := 0x08001300
/-- DMA.FILL_OVERLAPS -/
abbrev oDmaFillOverlaps : Nat := 0x08001400
/-- DMA.CH descriptor -/
abbrev oDmaChDescriptor : Nat := 0x08010001
/-- DMA.CH status -/
abbrev oDmaChStatus : Nat := 0x08010002
/-- DMA.CH first mismatch -/
abbrev oDmaChFirstMismatch : Nat := 0x08010003
/-- DMA.CH mismatch bytes -/
abbrev oDmaChMismatchBytes : Nat := 0x08010004
/-- DMA.CH bytes moved -/
abbrev oDmaChBytesMoved : Nat := 0x08010005
/-- RECORD.BUF_LEVEL -/
abbrev oRecordBufLevel : Nat := 0x09000000
/-- RECORD.SPILL_LEVEL -/
abbrev oRecordSpillLevel : Nat := 0x09000100
/-- RECORD.SPILL_BASE -/
abbrev oRecordSpillBase : Nat := 0x09000200
/-- RECORD.SPILL_SIZE -/
abbrev oRecordSpillSize : Nat := 0x09000300
/-- RECORD.SPILL_USED -/
abbrev oRecordSpillUsed : Nat := 0x09000400
/-- RECORD.T_QUOTA -/
abbrev oRecordTQuota : Nat := 0x09000500
/-- RECORD.ALARM_BURST -/
abbrev oRecordAlarmBurst : Nat := 0x09000600
/-- RECORD.ALARM_RATE -/
abbrev oRecordAlarmRate : Nat := 0x09000700
/-- RECORD.ALARM_DROPS -/
abbrev oRecordAlarmDrops : Nat := 0x09000800
/-- RECORD.SAMPLE_LOSSES -/
abbrev oRecordSampleLosses : Nat := 0x09000900
/-- RECORD.TRUNCATIONS -/
abbrev oRecordTruncations : Nat := 0x09000A00
/-- RECORD.PROG_ERRORS -/
abbrev oRecordProgErrors : Nat := 0x09000B00
/-- RECORD.NEXT_SEQ -/
abbrev oRecordNextSeq : Nat := 0x09000C00
/-- LINK.DZ_STATE -/
abbrev oLinkDzState : Nat := 0x0A000000
/-- LINK.DZ_ENABLE -/
abbrev oLinkDzEnable : Nat := 0x0A000100
/-- LINK.DZ_RETRAINS -/
abbrev oLinkDzRetrains : Nat := 0x0A000200
/-- LINK.DZ_FEC_SYMBOLS -/
abbrev oLinkDzFecSymbols : Nat := 0x0A000300
/-- LINK.DZ_FEC_UNCORR -/
abbrev oLinkDzFecUncorr : Nat := 0x0A000400
/-- LINK.DZ_CRC_ERRORS -/
abbrev oLinkDzCrcErrors : Nat := 0x0A000500
/-- LINK.DZ_RESENT -/
abbrev oLinkDzResent : Nat := 0x0A000600
/-- LINK.DZ_DOWN_NS -/
abbrev oLinkDzDownNs : Nat := 0x0A000700
/-- LINK.DZ_PEER -/
abbrev oLinkDzPeer : Nat := 0x0A000800
/-- LINK.SPILL_AFTER -/
abbrev oLinkSpillAfter : Nat := 0x0A000900
/-- LINK.A_CREDITS -/
abbrev oLinkACredits : Nat := 0x0A000A00
/-- LINK.GAPS_INSERTED -/
abbrev oLinkGapsInserted : Nat := 0x0A000B00
/-- LINK.DUPLICATES -/
abbrev oLinkDuplicates : Nat := 0x0A000C00
/-- LINK.DAMAGED -/
abbrev oLinkDamaged : Nat := 0x0A000D00
/-- LINK.REPLAYED -/
abbrev oLinkReplayed : Nat := 0x0A000E00
/-- LINK.SKY_PORT_MAP -/
abbrev oLinkSkyPortMap : Nat := 0x0A010000
/-- LINK.SKY_STATE -/
abbrev oLinkSkyState : Nat := 0x0A010100
/-- LINK.SKY_LANES -/
abbrev oLinkSkyLanes : Nat := 0x0A010200
/-- LINK.PREEMPT_STATE -/
abbrev oLinkPreemptState : Nat := 0x0A010300
/-- LINK.ACTIVE_PARENT -/
abbrev oLinkActiveParent : Nat := 0x0A010400
/-- LINK.SKY_ETHERTYPE -/
abbrev oLinkSkyEthertype : Nat := 0x0A010500
/-- LINK.SKY_DEAD -/
abbrev oLinkSkyDead : Nat := 0x0A010600
/-- LINK.SKY_RTO -/
abbrev oLinkSkyRto : Nat := 0x0A010700
/-- LINK.FAILOVER_HOLD -/
abbrev oLinkFailoverHold : Nat := 0x0A010800
/-- LINK.FAILBACK_HOLD -/
abbrev oLinkFailbackHold : Nat := 0x0A010900
/-- LINK.SKY_RESENT -/
abbrev oLinkSkyResent : Nat := 0x0A010A00
/-- LINK.SKY_FCS_ERRORS -/
abbrev oLinkSkyFcsErrors : Nat := 0x0A010B00
/-- LINK.FAILOVERS -/
abbrev oLinkFailovers : Nat := 0x0A010C00
/-- LINK.DZ_TX_FFE -/
abbrev oLinkDzTxFfe : Nat := 0x0A800000
/-- LINK.DZ_RETRY_LIMIT -/
abbrev oLinkDzRetryLimit : Nat := 0x0A800100
/-- LINK.DZ_FORCE_RETRAIN -/
abbrev oLinkDzForceRetrain : Nat := 0x0A800200
/-- LINK.DZ_LOOPBACK -/
abbrev oLinkDzLoopback : Nat := 0x0A800300
/-- POWER.BLOCK_STATE -/
abbrev oPowerBlockState : Nat := 0x0C000000
/-- POWER.HOLD_AWAKE -/
abbrev oPowerHoldAwake : Nat := 0x0C000100
/-- POWER.ESTIMATE -/
abbrev oPowerEstimate : Nat := 0x0C000200
/-- POWER.STATUS_WORD -/
abbrev oPowerStatusWord : Nat := 0x0C000300
/-- POWER.PORT_DOMAIN -/
abbrev oPowerPortDomain : Nat := 0x0C000400
/-- POWER.BIST_RESULT -/
abbrev oPowerBistResult : Nat := 0x0C000500
/-- POWER.ECC_CORRECTED -/
abbrev oPowerEccCorrected : Nat := 0x0C000600
/-- POWER.ECC_UNCORRECTED -/
abbrev oPowerEccUncorrected : Nat := 0x0C000700
/-- POWER.CTR_PARITY -/
abbrev oPowerCtrParity : Nat := 0x0C000800
/-- POWER.MEM_TIMEOUTS -/
abbrev oPowerMemTimeouts : Nat := 0x0C000900
/-- POWER.REFCLK_LOSSES -/
abbrev oPowerRefclkLosses : Nat := 0x0C000A00
/-- POWER.SNS_BAD_CH -/
abbrev oPowerSnsBadCh : Nat := 0x0C000B00
/-- POWER.DOMAIN_STATE -/
abbrev oPowerDomainState : Nat := 0x0C010000
/-- POWER.LANES_ASLEEP -/
abbrev oPowerLanesAsleep : Nat := 0x0C010100
/-- POWER.DIE_TEMP -/
abbrev oPowerDieTemp : Nat := 0x0C020000
/-- POWER.THERM_ALERT -/
abbrev oPowerThermAlert : Nat := 0x0C020100
/-- POWER.THERM_TRIP -/
abbrev oPowerThermTrip : Nat := 0x0C020200
/-- POWER.RAIL_MON -/
abbrev oPowerRailMon : Nat := 0x0C020300
/-- POWER.STRAPS -/
abbrev oPowerStraps : Nat := 0x0C020400
/-- POWER.REFPLL_STATE -/
abbrev oPowerRefpllState : Nat := 0x0C020500
/-- POWER.BIST_ON_RESTART -/
abbrev oPowerBistOnRestart : Nat := 0x0C800000
/-- POWER.MEM_TIMEOUT -/
abbrev oPowerMemTimeout : Nat := 0x0C800100
/-- POWER.LPDDR_MARGIN -/
abbrev oPowerLpddrMargin : Nat := 0x0C810000
/-- SPARE.HEALTH -/
abbrev oSpareHealth : Nat := 0x0D000000
/-- SPARE.INVENTORY -/
abbrev oSpareInventory : Nat := 0x0D000100
/-- SPARE.CANDIDATES -/
abbrev oSpareCandidates : Nat := 0x0D000200
/-- SPARE.CELL_READMIT -/
abbrev oSpareCellReadmit : Nat := 0x0D010000
/-- SPARE.FILL_QUEUE -/
abbrev oSpareFillQueue : Nat := 0x0D010100
/-- SPARE.FILL_RATE -/
abbrev oSpareFillRate : Nat := 0x0D010200
/-- SPARE.HOST_LOAD -/
abbrev oSpareHostLoad : Nat := 0x0D010300
/-- SPARE.REPLACE_WAIT -/
abbrev oSpareReplaceWait : Nat := 0x0D010400
/-- SPARE.WARM_HOLD -/
abbrev oSpareWarmHold : Nat := 0x0D010500
/-- SPARE.SHED -/
abbrev oSpareShed : Nat := 0x0D010600
/-- SPARE.SHED_INPUTS -/
abbrev oSpareShedInputs : Nat := 0x0D010700
/-- SPARE.LANE_MAP -/
abbrev oSpareLaneMap : Nat := 0x0D010800
/-- SPARE.DZ_LANE_OUT -/
abbrev oSpareDzLaneOut : Nat := 0x0D010900
/-- SPARE.SKY_LANE_OUT -/
abbrev oSpareSkyLaneOut : Nat := 0x0D010A00
/-- SPARE.LANE_RESTORE -/
abbrev oSpareLaneRestore : Nat := 0x0D010B00
/-- SPARE.LPDDR_OUT -/
abbrev oSpareLpddrOut : Nat := 0x0D010C00
/-- SPARE.MIN_CELLS -/
abbrev oSpareMinCells : Nat := 0x0D010D00
/-- CUT.ARM -/
abbrev oCutArm : Nat := 0x0F000000
/-- CUT.CANCEL -/
abbrev oCutCancel : Nat := 0x0F000100
/-- CUT.PENDING -/
abbrev oCutPending : Nat := 0x0F000200
/-- CUT.PROGRAM -/
abbrev oCutProgram : Nat := 0x0F000300
/-- CUT.LAST -/
abbrev oCutLast : Nat := 0x0F000400
/-- CUT.WF_TAPS -/
abbrev oCutWfTaps : Nat := 0x0F000500
/-- CUT.REQUEST -/
abbrev oCutRequest : Nat := 0x0F010000
/-- CUT.COMMIT_LEAD -/
abbrev oCutCommitLead : Nat := 0x0F010100
/-- CUT.CLOSE_TIMEOUT -/
abbrev oCutCloseTimeout : Nat := 0x0F010200
/-- CUT.KEEP -/
abbrev oCutKeep : Nat := 0x0F010300
/-- CUT.RESULT -/
abbrev oCutResult : Nat := 0x0F010400
/-- CUT.OUTSIDE -/
abbrev oCutOutside : Nat := 0x0F010500
/-- CUT.CHANNEL -/
abbrev oCutChannel : Nat := 0x0F010600
/-- CUT.WF_BUILD -/
abbrev oCutWfBuild : Nat := 0x0F010700
/-- CUT.WF_AUTO -/
abbrev oCutWfAuto : Nat := 0x0F010800
/-- CUT.WF_HOLD -/
abbrev oCutWfHold : Nat := 0x0F010900
/-- CUT.WF_WAIT -/
abbrev oCutWfWait : Nat := 0x0F010A00
/-- CUT.WF_MERGE -/
abbrev oCutWfMerge : Nat := 0x0F010B00
/-- CUT.WF_GRAPH -/
abbrev oCutWfGraph : Nat := 0x0F010C00
/-- CUT.WF_CYCLES -/
abbrev oCutWfCycles : Nat := 0x0F010D00
/-- CELL.ROLE -/
abbrev oCellRole : Nat := 0x10000000
/-- CELL.ACTIVE -/
abbrev oCellActive : Nat := 0x10000100
/-- CELL.CAPACITY -/
abbrev oCellCapacity : Nat := 0x10000200
/-- CELL.CONTEXTS -/
abbrev oCellContexts : Nat := 0x10000300
/-- CELL.LOAD -/
abbrev oCellLoad : Nat := 0x10000400
/-- CELL.INGEST_LOAD -/
abbrev oCellIngestLoad : Nat := 0x10000500
/-- CELL.SAT_FLAGS -/
abbrev oCellSatFlags : Nat := 0x10000600
/-- CELL.SAT_EVENTS -/
abbrev oCellSatEvents : Nat := 0x10000700
/-- CELL.SAT_WINDOW -/
abbrev oCellSatWindow : Nat := 0x10000800
/-- FT.INTERVAL -/
abbrev oFtInterval : Nat := 0x10010000
/-- FT.MAX_DEFER -/
abbrev oFtMaxDefer : Nat := 0x10010100
/-- FT.STATE -/
abbrev oFtState : Nat := 0x10010200
/-- FT.LAST -/
abbrev oFtLast : Nat := 0x10010300
/-- FT.DEFERRED -/
abbrev oFtDeferred : Nat := 0x10010400
/-- FT.RUN -/
abbrev oFtRun : Nat := 0x10010500
/-- FT.SHADOW_RATE -/
abbrev oFtShadowRate : Nat := 0x10010600
/-- FT.SHADOWED -/
abbrev oFtShadowed : Nat := 0x10010700
/-- FT.SHADOW_SKIPPED -/
abbrev oFtShadowSkipped : Nat := 0x10010800
/-- FT.MISMATCHES -/
abbrev oFtMismatches : Nat := 0x10010900
/-- FT.UNRESOLVED -/
abbrev oFtUnresolved : Nat := 0x10010A00
/-- FT.CORRECTED_LIMIT -/
abbrev oFtCorrectedLimit : Nat := 0x10010B00
/-- FT.CORRECTED_WINDOW -/
abbrev oFtCorrectedWindow : Nat := 0x10010C00
/-- FT.CHECK_COUNTS -/
abbrev oFtCheckCounts : Nat := 0x10010D00
/-- CELL.SPARE_INIT -/
abbrev oCellSpareInit : Nat := 0x10800000
/-- CELL.NOC_LOAD -/
abbrev oCellNocLoad : Nat := 0x10800100
/-- FT.INJECT -/
abbrev oFtInject : Nat := 0x10810000
/-- REDUCE.ACTIVE -/
abbrev oReduceActive : Nat := 0x11000000
/-- REDUCE.KEY_KEEP -/
abbrev oReduceKeyKeep : Nat := 0x11000100
/-- REDUCE.OPEN_LIMIT -/
abbrev oReduceOpenLimit : Nat := 0x11000200
/-- REDUCE.DUPLICATES -/
abbrev oReduceDuplicates : Nat := 0x11000300
/-- REDUCE.LATE -/
abbrev oReduceLate : Nat := 0x11000400
/-- REDUCE.TOO_LATE -/
abbrev oReduceTooLate : Nat := 0x11000500
/-- REDUCE.SHORT_CLOSES -/
abbrev oReduceShortCloses : Nat := 0x11000600
/-- REDUCE.OVERFLOWS -/
abbrev oReduceOverflows : Nat := 0x11000700
/-- REDUCE.CTX descriptor -/
abbrev oReduceCtxDescriptor : Nat := 0x11100001
/-- REDUCE.CTX member mask -/
abbrev oReduceCtxMemberMask : Nat := 0x11100002
/-- REDUCE.CTX values -/
abbrev oReduceCtxValues : Nat := 0x11100003
/-- REDUCE.CTX state -/
abbrev oReduceCtxState : Nat := 0x11100004
/-- REDUCE.CTX last header -/
abbrev oReduceCtxLastHeader : Nat := 0x11100005
/-- REDUCE.CTX results -/
abbrev oReduceCtxResults : Nat := 0x11100006
/-- REDUCE.CTX corrections -/
abbrev oReduceCtxCorrections : Nat := 0x11100007
/-- ANVIL.SCORE_MAX_AGE -/
abbrev oAnvilScoreMaxAge : Nat := 0x12000000
/-- ANVIL.QUEUE_LIMIT -/
abbrev oAnvilQueueLimit : Nat := 0x12000100
/-- ANVIL.FEAT_OPEN_LIMIT -/
abbrev oAnvilFeatOpenLimit : Nat := 0x12000200
/-- ANVIL.MEMBER_RISK -/
abbrev oAnvilMemberRisk : Nat := 0x12000300
/-- ANVIL.FEAT descriptor -/
abbrev oAnvilFeatDescriptor : Nat := 0x12010001
/-- ANVIL.FEAT member mask -/
abbrev oAnvilFeatMemberMask : Nat := 0x12010002
/-- ANVIL.FEAT slots -/
abbrev oAnvilFeatSlots : Nat := 0x12010003
/-- ANVIL.FEAT NaN arrivals -/
abbrev oAnvilFeatNanArrivals : Nat := 0x12010004
/-- ANVIL.FEAT vectors -/
abbrev oAnvilFeatVectors : Nat := 0x12010005
/-- ANVIL.FEAT partial -/
abbrev oAnvilFeatPartial : Nat := 0x12010006
/-- ANVIL.FEAT lost -/
abbrev oAnvilFeatLost : Nat := 0x12010007
/-- ANVIL.MODEL load -/
abbrev oAnvilModelLoad : Nat := 0x12030001
/-- ANVIL.MODEL digest -/
abbrev oAnvilModelDigest : Nat := 0x12030002
/-- ANVIL.MODEL control -/
abbrev oAnvilModelControl : Nat := 0x12030003
/-- ANVIL.MODEL activate -/
abbrev oAnvilModelActivate : Nat := 0x12030004
/-- ANVIL.MODEL state -/
abbrev oAnvilModelState : Nat := 0x12030005
/-- ANVIL.MODEL info -/
abbrev oAnvilModelInfo : Nat := 0x12030006
/-- ANVIL.MODEL fault -/
abbrev oAnvilModelFault : Nat := 0x12030007
/-- ANVIL.MODEL health -/
abbrev oAnvilModelHealth : Nat := 0x12030008
/-- ANVIL.MODEL scored -/
abbrev oAnvilModelScored : Nat := 0x12030009
/-- ANVIL.MODEL unscored -/
abbrev oAnvilModelUnscored : Nat := 0x1203000A
/-- ANVIL.MODEL scores -/
abbrev oAnvilModelScores : Nat := 0x1203000B
/-- ANVIL.NODE_STEPS -/
abbrev oAnvilNodeSteps : Nat := 0x12800000
/-- DRIFT.HALF_LIFE -/
abbrev oDriftHalfLife : Nat := 0x13000000
/-- DRIFT.SKIPPED -/
abbrev oDriftSkipped : Nat := 0x13000100
/-- DRIFT.MEMBER_RISK -/
abbrev oDriftMemberRisk : Nat := 0x13000200
/-- DRIFT.STREAMS -/
abbrev oDriftStreams : Nat := 0x13000300
/-- DRIFT.RESET -/
abbrev oDriftReset : Nat := 0x13000400
/-- DRIFT.SET streams -/
abbrev oDriftSetStreams : Nat := 0x13010001
/-- DRIFT.SET alarms -/
abbrev oDriftSetAlarms : Nat := 0x13010002
/-- DRIFT.SET updates -/
abbrev oDriftSetUpdates : Nat := 0x13010003
/-- FENCE.THRESHOLD -/
abbrev oFenceThreshold : Nat := 0x14000000
/-- FENCE.KIND_THRESHOLD -/
abbrev oFenceKindThreshold : Nat := 0x14000100
/-- FENCE.AUTO -/
abbrev oFenceAuto : Nat := 0x14000200
/-- FENCE.BUDGET -/
abbrev oFenceBudget : Nat := 0x14000300
/-- FENCE.PERIOD -/
abbrev oFencePeriod : Nat := 0x14000400
/-- FENCE.TOKENS -/
abbrev oFenceTokens : Nat := 0x14000500
/-- FENCE.EXHAUSTIONS -/
abbrev oFenceExhaustions : Nat := 0x14000600
/-- FENCE.SUSPICION -/
abbrev oFenceSuspicion : Nat := 0x14000700
/-- FENCE.GRANT_TIMEOUT -/
abbrev oFenceGrantTimeout : Nat := 0x14000800
/-- FENCE.HEALTH -/
abbrev oFenceHealth : Nat := 0x14000900
/-- FENCE.VOTE_RISK -/
abbrev oFenceVoteRisk : Nat := 0x14000A00
/-- FENCE.HISTORY_RISK -/
abbrev oFenceHistoryRisk : Nat := 0x14000B00
/-- FENCE.FENCED -/
abbrev oFenceFenced : Nat := 0x14000C00
/-- FENCE.RELEASE -/
abbrev oFenceRelease : Nat := 0x14000D00
/-- FENCE.FORCE -/
abbrev oFenceForce : Nat := 0x14000E00
/-- FENCE.DECISIONS -/
abbrev oFenceDecisions : Nat := 0x14000F00
/-- FENCE.HELD -/
abbrev oFenceHeld : Nat := 0x14001000
/-- FENCE.NO_TOKEN -/
abbrev oFenceNoToken : Nat := 0x14001100
/-- FENCE.VOTE -/
abbrev oFenceVote : Nat := 0x14001200
/-- FENCE.VOTE_HALF_LIFE -/
abbrev oFenceVoteHalfLife : Nat := 0x14001300
/-- FENCE.KAT_REQUEST -/
abbrev oFenceKatRequest : Nat := 0x14001400
/-- FENCE.KAT_RESULT -/
abbrev oFenceKatResult : Nat := 0x14001500
/-- FENCE.KAT_TIMEOUT -/
abbrev oFenceKatTimeout : Nat := 0x14001600
/-- FENCE.VOTES -/
abbrev oFenceVotes : Nat := 0x14001700
/-- FENCE.EVAL_INTERVAL -/
abbrev oFenceEvalInterval : Nat := 0x14001800
/-- FENCE.H_COALESCE -/
abbrev oFenceHCoalesce : Nat := 0x14001900
/-- FENCE.LOCKSTEP_ERRORS -/
abbrev oFenceLockstepErrors : Nat := 0x14001A00
/-- FENCE.VOTE_TIMEOUT_DEFAULT -/
abbrev oFenceVoteTimeoutDefault : Nat := 0x14001B00
/-- FENCE.EXCHANGE_FAILS -/
abbrev oFenceExchangeFails : Nat := 0x14001C00
/-- JET.PROFILE -/
abbrev oJetProfile : Nat := 0x15001000
/-- JET.STEER -/
abbrev oJetSteer : Nat := 0x15001100
/-- JET.GCL_ADMIN -/
abbrev oJetGclAdmin : Nat := 0x15001200
/-- JET.GCL_OPER -/
abbrev oJetGclOper : Nat := 0x15001300
/-- JET.FRAME_RECORDS -/
abbrev oJetFrameRecords : Nat := 0x15001400
/-- JET.A_FRAME_RECORDS -/
abbrev oJetAFrameRecords : Nat := 0x15001500
/-- JET.A_POLICE_RATE -/
abbrev oJetAPoliceRate : Nat := 0x15001600
/-- JET.A_POLICE_BURST -/
abbrev oJetAPoliceBurst : Nat := 0x15001700
/-- JET.QUEUE_LIMIT -/
abbrev oJetQueueLimit : Nat := 0x15001800
/-- JET.SUB_QUANTUM -/
abbrev oJetSubQuantum : Nat := 0x15001900
/-- JET.SUB_IDLE -/
abbrev oJetSubIdle : Nat := 0x15001A00
/-- JET.INGEST_ST -/
abbrev oJetIngestSt : Nat := 0x15001B00
/-- JET.SKY_WINDOW -/
abbrev oJetSkyWindow : Nat := 0x15001C00
/-- JET.UNSTEERED -/
abbrev oJetUnsteered : Nat := 0x15002000
/-- JET.A_POLICED -/
abbrev oJetAPoliced : Nat := 0x15002100
/-- JET.QUEUE_DROPS -/
abbrev oJetQueueDrops : Nat := 0x15002200
/-- JET.SUB_OVERFLOW -/
abbrev oJetSubOverflow : Nat := 0x15002300
/-- JET.PORT_BYTES -/
abbrev oJetPortBytes : Nat := 0x15002400
/-- JET.INGEST_RECORDS -/
abbrev oJetIngestRecords : Nat := 0x15002500
/-- JET.SUB -/
abbrev oJetSub : Nat := 0x15010000
/-- JET.QUEUE_BYTES -/
abbrev oJetQueueBytes : Nat := 0x15800000
/-- HORIZON.PLAN_HEADER -/
abbrev oHorizonPlanHeader : Nat := 0x16000000
/-- HORIZON.PLAN_MEMBER -/
abbrev oHorizonPlanMember : Nat := 0x16000100
/-- HORIZON.VALID -/
abbrev oHorizonValid : Nat := 0x16000200
/-- HORIZON.PRESENT -/
abbrev oHorizonPresent : Nat := 0x16000300
/-- HORIZON.MEMBER_STATE -/
abbrev oHorizonMemberState : Nat := 0x16000400
/-- HORIZON.ROSTER_USED -/
abbrev oHorizonRosterUsed : Nat := 0x16000500
/-- HORIZON.ADOPT -/
abbrev oHorizonAdopt : Nat := 0x16000600
/-- HORIZON.SWAP_POLICY -/
abbrev oHorizonSwapPolicy : Nat := 0x16000700
/-- HORIZON.DISCOVERY_WAIT -/
abbrev oHorizonDiscoveryWait : Nat := 0x16000800
/-- HORIZON.ABSENT_AFTER -/
abbrev oHorizonAbsentAfter : Nat := 0x16000900
/-- HORIZON.PROBATION_STEPS -/
abbrev oHorizonProbationSteps : Nat := 0x16000A00
/-- HORIZON.PROBATION_TIME -/
abbrev oHorizonProbationTime : Nat := 0x16000B00
/-- HORIZON.END_PROBATION -/
abbrev oHorizonEndProbation : Nat := 0x16000C00
/-- HORIZON.SWAPS -/
abbrev oHorizonSwaps : Nat := 0x16000D00
/-- HORIZON.REFUSED -/
abbrev oHorizonRefused : Nat := 0x16000E00
/-- HORIZON.EXCESS_RECORDS -/
abbrev oHorizonExcessRecords : Nat := 0x16000F00
/-- HORIZON.COMM_DEF -/
abbrev oHorizonCommDef : Nat := 0x16010000
/-- HORIZON.COMM_CAPTURE -/
abbrev oHorizonCommCapture : Nat := 0x16010100
/-- HORIZON.CAPTURE_KEEP -/
abbrev oHorizonCaptureKeep : Nat := 0x16010200
/-- HORIZON.COMM_BYTES -/
abbrev oHorizonCommBytes : Nat := 0x16010300
/-- HORIZON.ROSTER -/
abbrev oHorizonRoster : Nat := 0x16100000
/-- SUNDOG.STATE -/
abbrev oSundogState : Nat := 0x17000000
/-- SUNDOG.PARTNER -/
abbrev oSundogPartner : Nat := 0x17000100
/-- SUNDOG.FEED -/
abbrev oSundogFeed : Nat := 0x17000200
/-- SUNDOG.CO_FED -/
abbrev oSundogCoFed : Nat := 0x17000300
/-- SUNDOG.JOURNAL_SEQ -/
abbrev oSundogJournalSeq : Nat := 0x17000400
/-- SUNDOG.LAG_BYTES -/
abbrev oSundogLagBytes : Nat := 0x17000500
/-- SUNDOG.LAG_NS -/
abbrev oSundogLagNs : Nat := 0x17000600
/-- SUNDOG.CUT_LAG -/
abbrev oSundogCutLag : Nat := 0x17000700
/-- SUNDOG.SNAPSHOT_INTERVAL -/
abbrev oSundogSnapshotInterval : Nat := 0x17000800
/-- SUNDOG.SNAPSHOT_INTERVAL_COFED -/
abbrev oSundogSnapshotIntervalCofed : Nat := 0x17000900
/-- SUNDOG.LAST_SNAPSHOT -/
abbrev oSundogLastSnapshot : Nat := 0x17000A00
/-- SUNDOG.SNAPSHOTS_HELD -/
abbrev oSundogSnapshotsHeld : Nat := 0x17000B00
/-- SUNDOG.TAKEOVER_HOLD -/
abbrev oSundogTakeoverHold : Nat := 0x17000C00
/-- SUNDOG.TAKEOVER -/
abbrev oSundogTakeover : Nat := 0x17000D00
/-- SUNDOG.HOSTING -/
abbrev oSundogHosting : Nat := 0x17000E00
/-- SUNDOG.REFILL -/
abbrev oSundogRefill : Nat := 0x17000F00
/-- SUNDOG.GAPS -/
abbrev oSundogGaps : Nat := 0x17001000
/-- SUNDOG.DURABLE_BYTES -/
abbrev oSundogDurableBytes : Nat := 0x17001100
/-- SUNDOG.BULK_BYTES -/
abbrev oSundogBulkBytes : Nat := 0x17001200
/-- SUNDOG.AUTH_FAILS -/
abbrev oSundogAuthFails : Nat := 0x17001300
/-- CADENCE.JOB -/
abbrev oCadenceJob : Nat := 0x18000000
/-- CADENCE.STATE -/
abbrev oCadenceState : Nat := 0x18000100
/-- CADENCE.REQUEST -/
abbrev oCadenceRequest : Nat := 0x18000200
/-- CADENCE.ACK -/
abbrev oCadenceAck : Nat := 0x18000300
/-- CADENCE.INTERRUPT -/
abbrev oCadenceInterrupt : Nat := 0x18000400
/-- CADENCE.CKPT_DONE -/
abbrev oCadenceCkptDone : Nat := 0x18000500
/-- CADENCE.HALF_LIFE -/
abbrev oCadenceHalfLife : Nat := 0x18000600
/-- CADENCE.PRIOR_MTBI -/
abbrev oCadencePriorMtbi : Nat := 0x18000700
/-- CADENCE.MIN_INTERVAL -/
abbrev oCadenceMinInterval : Nat := 0x18000800
/-- CADENCE.MAX_INTERVAL -/
abbrev oCadenceMaxInterval : Nat := 0x18000900
/-- CADENCE.UPDATE -/
abbrev oCadenceUpdate : Nat := 0x18000A00
/-- CADENCE.COALESCE -/
abbrev oCadenceCoalesce : Nat := 0x18000B00
/-- CADENCE.RISK_HYST -/
abbrev oCadenceRiskHyst : Nat := 0x18000C00
/-- CADENCE.RISK_HOLDOFF -/
abbrev oCadenceRiskHoldoff : Nat := 0x18000D00
/-- CADENCE.REQ_DROPS -/
abbrev oCadenceReqDrops : Nat := 0x18000E00
/-- CONDENSE.GATHER -/
abbrev oCondenseGather : Nat := 0x19000000
/-- CONDENSE.OUT_LIMIT -/
abbrev oCondenseOutLimit : Nat := 0x19000100
/-- CONDENSE.DECODE_IDLE -/
abbrev oCondenseDecodeIdle : Nat := 0x19000200
/-- CONDENSE.IDLE_RESET -/
abbrev oCondenseIdleReset : Nat := 0x19000300
/-- CONDENSE.IN_USE -/
abbrev oCondenseInUse : Nat := 0x19000400
/-- CONDENSE.RAW_FRAMES -/
abbrev oCondenseRawFrames : Nat := 0x19000500
/-- CONDENSE.RESETS -/
abbrev oCondenseResets : Nat := 0x19000600
/-- CONDENSE.DECODE_ERRORS -/
abbrev oCondenseDecodeErrors : Nat := 0x19000700
/-- CONDENSE.DUPLICATES -/
abbrev oCondenseDuplicates : Nat := 0x19000800
/-- CONDENSE.NO_CONTEXT -/
abbrev oCondenseNoContext : Nat := 0x19000900
/-- CONDENSE.CTX settings -/
abbrev oCondenseCtxSettings : Nat := 0x19100001
/-- CONDENSE.CTX state -/
abbrev oCondenseCtxState : Nat := 0x19100002
/-- CONDENSE.CTX reset -/
abbrev oCondenseCtxReset : Nat := 0x19100003
/-- CONDENSE.CTX bytes in -/
abbrev oCondenseCtxBytesIn : Nat := 0x19100004
/-- CONDENSE.CTX bytes out -/
abbrev oCondenseCtxBytesOut : Nat := 0x19100005
/-- CONDENSE.ENGINE_LOAD -/
abbrev oCondenseEngineLoad : Nat := 0x19800000
/-- ALMANAC.COUNT -/
abbrev oAlmanacCount : Nat := 0x1A000000
/-- ALMANAC.REFUSED -/
abbrev oAlmanacRefused : Nat := 0x1A000100
/-- ALMANAC.CLEAR -/
abbrev oAlmanacClear : Nat := 0x1A000200
/-- ALMANAC.RECORD_MASK -/
abbrev oAlmanacRecordMask : Nat := 0x1A000300
/-- ALMANAC.HOURS -/
abbrev oAlmanacHours : Nat := 0x1A000400
/-- ALMANAC.POWER_CYCLES -/
abbrev oAlmanacPowerCycles : Nat := 0x1A000500
/-- ALMANAC.CORRUPT -/
abbrev oAlmanacCorrupt : Nat := 0x1A000600
/-- ALMANAC.HISTORY_REFUSED -/
abbrev oAlmanacHistoryRefused : Nat := 0x1A000700
/-- ALMANAC.ENTRY -/
abbrev oAlmanacEntry : Nat := 0x1A100000
/-- ALMANAC.HISTORY -/
abbrev oAlmanacHistory : Nat := 0x1A200000
/-- FW.RUNNING -/
abbrev oFwRunning : Nat := 0x1B000000
/-- FW.FLASH -/
abbrev oFwFlash : Nat := 0x1B000100
/-- FW.LOAD -/
abbrev oFwLoad : Nat := 0x1B000200
/-- FW.CTRL -/
abbrev oFwCtrl : Nat := 0x1B000300
/-- FW.STAGE_STATE -/
abbrev oFwStageState : Nat := 0x1B000400
/-- FW.STAGE_FAULT -/
abbrev oFwStageFault : Nat := 0x1B000500
/-- FW.ACTIVATE -/
abbrev oFwActivate : Nat := 0x1B000600
/-- FW.ACTIVATE_FORCE -/
abbrev oFwActivateForce : Nat := 0x1B000700
/-- FW.MIN_SVN -/
abbrev oFwMinSvn : Nat := 0x1B000800
/-- FW.KEY_REVOKE -/
abbrev oFwKeyRevoke : Nat := 0x1B000900
/-- FW.RECOVERY_HOST -/
abbrev oFwRecoveryHost : Nat := 0x1B000A00
/-- FW.IMAGE_HEADER -/
abbrev oFwImageHeader : Nat := 0x1B000B00
/-- FW.RECOVERIES -/
abbrev oFwRecoveries : Nat := 0x1B000C00
/-- FW.CHUNK -/
abbrev oFwChunk : Nat := 0x1B400000
/-- VANTAGE.SUB -/
abbrev oVantageSub : Nat := 0x1C000000
/-- VANTAGE.MERGE_WINDOW -/
abbrev oVantageMergeWindow : Nat := 0x1C000100
/-- VANTAGE.QUEUE_LIMIT -/
abbrev oVantageQueueLimit : Nat := 0x1C000200
/-- VANTAGE.DROPS -/
abbrev oVantageDrops : Nat := 0x1C000300
/-- VANTAGE.COPIED -/
abbrev oVantageCopied : Nat := 0x1C000400
/-- VANTAGE.TRIG_DESC -/
abbrev oVantageTrigDesc : Nat := 0x1C010000
/-- VANTAGE.TRIG_FIRED -/
abbrev oVantageTrigFired : Nat := 0x1C010100
/-- VANTAGE.TRIG_LATE -/
abbrev oVantageTrigLate : Nat := 0x1C010200
/-- VANTAGE.PPS_OUT_EN -/
abbrev oVantagePpsOutEn : Nat := 0x1C010300
/-- VANTAGE.TENMHZ_OUT_EN -/
abbrev oVantageTenmhzOutEn : Nat := 0x1C010400
/-- VANTAGE.PPS_OUT_WIDTH -/
abbrev oVantagePpsOutWidth : Nat := 0x1C010500
/-- LOFT.SLOT_STATE -/
abbrev oLoftSlotState : Nat := 0x1D000000
/-- LOFT.SLOT_LOAD -/
abbrev oLoftSlotLoad : Nat := 0x1D000100
/-- LOFT.SLOT_DIGEST -/
abbrev oLoftSlotDigest : Nat := 0x1D000200
/-- LOFT.SLOT_CTRL -/
abbrev oLoftSlotCtrl : Nat := 0x1D000300
/-- LOFT.SLOT_ROLE -/
abbrev oLoftSlotRole : Nat := 0x1D000400
/-- LOFT.SLOT_MEM -/
abbrev oLoftSlotMem : Nat := 0x1D000500
/-- LOFT.SLOT_CPU -/
abbrev oLoftSlotCpu : Nat := 0x1D000600
/-- LOFT.SLOT_FAULT -/
abbrev oLoftSlotFault : Nat := 0x1D000700
/-- LOFT.CORE_STATE -/
abbrev oLoftCoreState : Nat := 0x1D000800
/-- LOFT.FAULTS -/
abbrev oLoftFaults : Nat := 0x1D000900
/-- LOFT.SLOT_OUT -/
abbrev oLoftSlotOut : Nat := 0x1D010000

end Sys2Proof.Machine
end

