-- ==== Sys2Proof/Machine/Objects.lean ====
section
/-! DEFINITION. The object tables of the dictionary, area by area, from the object tables of spec/02 to spec/21 (R58, R61, R68, R70, R71, R72). A row named by several objects stands for all of them. -/
namespace Sys2Proof.Machine

/-- Area 0x00. -/
def objsIdent : List ObjRow :=
  [{ base := 0x00000000, name := "IDENT.VENDOR", ty := .str, access := .ro, rdRole := .observer, wrRole := .observer, apply := .none, dflt := .bytes [80, 97, 108, 101, 97, 116, 105, 107] },
   { base := 0x00000100, name := "IDENT.PART", ty := .str, access := .ro, rdRole := .observer, wrRole := .observer, apply := .none, dflt := .computed },
   { base := 0x00000200, name := "IDENT.STEPPING", ty := .u32, access := .ro, rdRole := .observer, wrRole := .observer, apply := .none, dflt := .fused },
   { base := 0x00000300, name := "IDENT.UNIT_KIND", ty := .enum8, access := .ro, rdRole := .observer, wrRole := .observer, apply := .none, dflt := .computed },
   { base := 0x00000400, name := "IDENT.UID", ty := .u128, access := .ro, rdRole := .observer, wrRole := .observer, apply := .none, dflt := .fused },
   { base := 0x00000500, name := "IDENT.PATH", ty := .u32, access := .ro, rdRole := .observer, wrRole := .observer, apply := .none, dflt := .computed },
   { base := 0x00000600, name := "IDENT.DICT_VERSION", ty := .u32, access := .ro, rdRole := .observer, wrRole := .observer, apply := .none, dflt := .num 65536 },
   { base := 0x00001000, name := "IDENT.RESTART", ty := .enum8, access := .wo, rdRole := .engineer, wrRole := .engineer, apply := .immediate, dflt := .computed, codes := [1] },
   { base := 0x00800000, name := "IDENT.BUILD", ty := .blob, access := .ro, rdRole := .engineer, wrRole := .engineer, apply := .none, dflt := .fused }]

/-- Area 0x01, part 1. -/
def objsSession1 : List ObjRow :=
  [{ base := 0x01000000, elems := 4, name := "SESSION.ROLE_KEY", ty := .blob, access := .wo, rdRole := .custodian, wrRole := .custodian, apply := .staged, dflt := .computed, size := 32 },
   { base := 0x01000100, name := "SESSION.SALT", ty := .blob, access := .ro, rdRole := .observer, wrRole := .observer, apply := .none, dflt := .fused },
   { base := 0x01000200, name := "SESSION.KDF_ITER", ty := .u32, access := .rw, rdRole := .observer, wrRole := .custodian, apply := .staged, dflt := .num 200000, lo := 200000, hi := 10000000 },
   { base := 0x01000300, elems := 32, name := "SESSION.TENANT_KEY", ty := .blob, access := .wo, rdRole := .custodian, wrRole := .custodian, apply := .staged, dflt := .computed, size := 36 },
   { base := 0x01000400, name := "SESSION.TREE_KEY", ty := .blob, access := .wo, rdRole := .custodian, wrRole := .custodian, apply := .staged, dflt := .computed, size := 32 },
   { base := 0x01000500, name := "SESSION.LOCKOUT_LIMIT", ty := .u32, access := .rw, rdRole := .observer, wrRole := .custodian, apply := .immediate, dflt := .num 5, lo := 3, hi := 20 },
   { base := 0x01000600, name := "SESSION.LOCKOUT_TIME", ty := .u32, access := .rw, rdRole := .observer, wrRole := .custodian, apply := .immediate, dflt := .num 300, lo := 60, hi := 3600 },
   { base := 0x01000700, name := "SESSION.IDLE_TIMEOUT", ty := .u32, access := .rw, rdRole := .observer, wrRole := .custodian, apply := .immediate, dflt := .num 600, lo := 10, hi := 86400 },
   { base := 0x01000800, name := "SESSION.LIFETIME", ty := .u32, access := .rw, rdRole := .observer, wrRole := .custodian, apply := .immediate, dflt := .num 86400, lo := 600, hi := 604800 },
   { base := 0x01000900, name := "SESSION.ACTIVE", ty := .u32, access := .ro, rdRole := .operator, wrRole := .operator, apply := .none, dflt := .computed },
   { base := 0x01000A00, name := "SESSION.AUTH_FAILS", ty := .u64, access := .rc, rdRole := .operator, wrRole := .operator, apply := .immediate, dflt := .num 0 },
   { base := 0x01000B00, name := "SESSION.MAC_FAILS", ty := .u64, access := .rc, rdRole := .operator, wrRole := .operator, apply := .immediate, dflt := .num 0 },
   { base := 0x01000C00, name := "SESSION.TRACE_GRANT", ty := .u32, access := .rw, rdRole := .observer, wrRole := .custodian, apply := .immediate, dflt := .num 0, presence := .ovtan },
   { base := 0x01000D00, name := "SESSION.LOCKED", ty := .u32, access := .ro, rdRole := .operator, wrRole := .operator, apply := .none, dflt := .computed },
   { base := 0x01000E00, name := "SESSION.CLOSE_SESSION", ty := .u32, access := .wo, rdRole := .custodian, wrRole := .custodian, apply := .immediate, dflt := .computed },
   { base := 0x01000F00, elems := 32, name := "SESSION.TENANT_IDS", ty := .u32, access := .ro, rdRole := .operator, wrRole := .operator, apply := .none, dflt := .computed },
   { base := 0x01001000, name := "SESSION.COMMIT", ty := .blob, access := .wo, rdRole := .operator, wrRole := .operator, apply := .immediate, dflt := .computed, size := 32 },
   { base := 0x01001100, name := "SESSION.STAGE_COUNT", ty := .u32, access := .ro, rdRole := .observer, wrRole := .observer, apply := .none, dflt := .computed },
   { base := 0x01001200, elems := 16, name := "SESSION.PENDING", ty := .u32, access := .ro, rdRole := .observer, wrRole := .observer, apply := .none, dflt := .computed },
   { base := 0x01002000, name := "SESSION.FWD_TIMEOUT", ty := .u32, access := .rw, rdRole := .observer, wrRole := .engineer, apply := .immediate, dflt := .num 25000 }]

/-- Area 0x01, part 2. -/
def objsSession2 : List ObjRow :=
  [{ base := 0x01002100, name := "SESSION.UDP_PORT", ty := .u32, access := .rw, rdRole := .observer, wrRole := .custodian, apply := .restart, dflt := .num 49611, presence := .group },
   { base := 0x01002200, name := "SESSION.OUTSTANDING", ty := .u32, access := .ro, rdRole := .observer, wrRole := .observer, apply := .none, dflt := .computed },
   { base := 0x01002300, name := "SESSION.MSG_MALFORMED", ty := .u64, access := .rc, rdRole := .operator, wrRole := .operator, apply := .immediate, dflt := .num 0 },
   { base := 0x01002400, name := "SESSION.PAIR_MISMATCHES", ty := .u64, access := .rc, rdRole := .operator, wrRole := .operator, apply := .immediate, dflt := .num 0 }]

/-- Area 0x01. -/
def objsSession : List ObjRow := objsSession1 ++ objsSession2

/-- Area 0x02, part 1. -/
def objsTime1 : List ObjRow :=
  [{ base := 0x02000000, name := "TIME.NOW", ty := .time80, access := .ro, rdRole := .observer, wrRole := .observer, apply := .none, dflt := .computed },
   { base := 0x02000100, name := "TIME.QUALITY", ty := .u32, access := .ro, rdRole := .observer, wrRole := .observer, apply := .none, dflt := .computed },
   { base := 0x02000200, name := "TIME.STATE", ty := .enum8, access := .ro, rdRole := .observer, wrRole := .observer, apply := .none, dflt := .computed },
   { base := 0x02000300, name := "TIME.OFFSET", ty := .s64, access := .ro, rdRole := .operator, wrRole := .operator, apply := .none, dflt := .computed },
   { base := 0x02000400, name := "TIME.LINK_DELAY", ty := .s64, access := .ro, rdRole := .operator, wrRole := .operator, apply := .none, dflt := .computed },
   { base := 0x02000500, name := "TIME.RATE_ADJ", ty := .s64, access := .ro, rdRole := .operator, wrRole := .operator, apply := .none, dflt := .computed },
   { base := 0x02000600, name := "TIME.STEP_THRESHOLD", ty := .u32, access := .rw, rdRole := .observer, wrRole := .engineer, apply := .staged, dflt := .num 1000, lo := 10, hi := 1000000 },
   { base := 0x02000700, name := "TIME.RELOCK_THRESHOLD", ty := .u32, access := .rw, rdRole := .observer, wrRole := .engineer, apply := .staged, dflt := .num 10000, lo := 20, hi := 10000000 },
   { base := 0x02000800, name := "TIME.SYNC_INTERVAL", ty := .u32, access := .rw, rdRole := .observer, wrRole := .engineer, apply := .staged, dflt := .num 1000, lo := 125, hi := 100000 },
   { base := 0x02000900, name := "TIME.FULL_INTERVAL", ty := .u32, access := .rw, rdRole := .observer, wrRole := .engineer, apply := .staged, dflt := .num 1000, lo := 100, hi := 1000, presence := .ovtan },
   { base := 0x02000A00, name := "TIME.FREQ_SRC", ty := .enum8, access := .rw, rdRole := .observer, wrRole := .engineer, apply := .restart, dflt := .num 0, codes := [0, 1], presence := .group },
   { base := 0x02000B00, name := "TIME.PHASE_SRC", ty := .enum8, access := .rw, rdRole := .observer, wrRole := .engineer, apply := .restart, dflt := .plan, codes := [0, 1, 2, 3, 4], presence := .group },
   { base := 0x02000C00, name := "TIME.TOD_SET", ty := .time80, access := .wo, rdRole := .engineer, wrRole := .engineer, apply := .staged, dflt := .computed, presence := .group },
   { base := 0x02000D00, name := "TIME.HOLDOVER_OSC", ty := .enum8, access := .rw, rdRole := .observer, wrRole := .engineer, apply := .restart, dflt := .num 0, codes := [0, 1], presence := .group },
   { base := 0x02000E00, name := "TIME.HOLDOVER_ELAPSED", ty := .u64, access := .ro, rdRole := .observer, wrRole := .observer, apply := .none, dflt := .computed },
   { base := 0x02000F00, name := "TIME.PTP_DOMAIN", ty := .u32, access := .rw, rdRole := .observer, wrRole := .engineer, apply := .restart, dflt := .num 0, lo := 0, hi := 127, presence := .group },
   { base := 0x02001000, name := "TIME.PTP_LOG_SYNC", ty := .s32, access := .rw, rdRole := .observer, wrRole := .engineer, apply := .staged, dflt := .num 4294967292, lo := -7, hi := 0, presence := .group },
   { base := 0x02001100, name := "TIME.STEPS", ty := .u64, access := .rc, rdRole := .operator, wrRole := .operator, apply := .immediate, dflt := .num 0 },
   { base := 0x02001200, name := "TIME.LOCK_LOSSES", ty := .u64, access := .rc, rdRole := .operator, wrRole := .operator, apply := .immediate, dflt := .num 0 },
   { base := 0x02001300, name := "TIME.ANCHORED", ty := .u64, access := .rc, rdRole := .operator, wrRole := .operator, apply := .immediate, dflt := .num 0, presence := .group }]

/-- Area 0x02, part 2. -/
def objsTime2 : List ObjRow :=
  [{ base := 0x02001400, elems := 136, name := "TIME.MEMBER_OFFSET", ty := .s64, access := .ro, rdRole := .operator, wrRole := .operator, apply := .none, dflt := .computed, presence := .tray },
   { base := 0x02001500, elems := 136, name := "TIME.MEMBER_QUALITY", ty := .u32, access := .ro, rdRole := .operator, wrRole := .operator, apply := .none, dflt := .computed, presence := .tray },
   { base := 0x02800000, name := "TIME.SERVO_KP", ty := .s64, access := .rw, rdRole := .engineer, wrRole := .engineer, apply := .staged, dflt := .num 8192000, lo := 0, hi := 1099511627776 },
   { base := 0x02800100, name := "TIME.SERVO_KI", ty := .s64, access := .rw, rdRole := .engineer, wrRole := .engineer, apply := .staged, dflt := .num 512000, lo := 0, hi := 1099511627776 },
   { base := 0x02800200, name := "TIME.MAX_SLEW", ty := .u32, access := .rw, rdRole := .engineer, wrRole := .engineer, apply := .staged, dflt := .num 100000, lo := 1000, hi := 100000 },
   { base := 0x02800300, name := "TIME.HOLDOVER_RATE", ty := .u32, access := .rw, rdRole := .engineer, wrRole := .engineer, apply := .staged, dflt := .computed },
   { base := 0x02800400, name := "TIME.FREQREF_RATE", ty := .u32, access := .rw, rdRole := .engineer, wrRole := .engineer, apply := .staged, dflt := .num 100, presence := .group },
   { base := 0x02800500, name := "TIME.FORCE_STATE", ty := .enum8, access := .wo, rdRole := .engineer, wrRole := .engineer, apply := .immediate, dflt := .computed, codes := [1, 2] }]

/-- Area 0x02. -/
def objsTime : List ObjRow := objsTime1 ++ objsTime2

/-- Area 0x03, part 1. -/
def objsAngle1 : List ObjRow :=
  [{ base := 0x03000000, name := "ANGLE.LOCK_MODE", ty := .enum8, access := .rw, rdRole := .observer, wrRole := .operator, apply := .staged, dflt := .num 1, codes := [0, 1] },
   { base := 0x03000100, name := "ANGLE.STATE", ty := .enum8, access := .ro, rdRole := .observer, wrRole := .observer, apply := .none, dflt := .computed },
   { base := 0x03000200, name := "ANGLE.STEP", ty := .u64, access := .ro, rdRole := .observer, wrRole := .observer, apply := .none, dflt := .computed },
   { base := 0x03000300, name := "ANGLE.NOW", ty := .u32, access := .ro, rdRole := .observer, wrRole := .observer, apply := .none, dflt := .computed },
   { base := 0x03000400, name := "ANGLE.LENGTH_Q16", ty := .u64, access := .ro, rdRole := .observer, wrRole := .observer, apply := .none, dflt := .computed },
   { base := 0x03000500, name := "ANGLE.ACTIVE_LIST", ty := .enum8, access := .rw, rdRole := .observer, wrRole := .operator, apply := .staged, dflt := .num 0, codes := [0, 1] },
   { base := 0x03000600, name := "ANGLE.MARKER_REPORT", ty := .bool, access := .rw, rdRole := .observer, wrRole := .operator, apply := .staged, dflt := .num 1 },
   { base := 0x03000700, name := "ANGLE.SKIP_LEVEL", ty := .u32, access := .rw, rdRole := .observer, wrRole := .operator, apply := .staged, dflt := .num 4096, lo := 1, hi := 8192 },
   { base := 0x03001000, elems := 255, name := "ANGLE.LIST_A", ty := .blob, access := .rw, rdRole := .observer, wrRole := .operator, apply := .boundary, dflt := .bytes (List.replicate 16 0), size := 16 },
   { base := 0x03001100, elems := 255, name := "ANGLE.LIST_B", ty := .blob, access := .rw, rdRole := .observer, wrRole := .operator, apply := .boundary, dflt := .bytes (List.replicate 16 0), size := 16 },
   { base := 0x03002000, name := "ANGLE.MISSED", ty := .u64, access := .rc, rdRole := .operator, wrRole := .operator, apply := .immediate, dflt := .num 0 },
   { base := 0x03002100, name := "ANGLE.STRAY", ty := .u64, access := .rc, rdRole := .operator, wrRole := .operator, apply := .immediate, dflt := .num 0 },
   { base := 0x03002200, name := "ANGLE.GLITCHES", ty := .u64, access := .rc, rdRole := .operator, wrRole := .operator, apply := .immediate, dflt := .num 0 },
   { base := 0x03002300, name := "ANGLE.REWINDS", ty := .u64, access := .rc, rdRole := .operator, wrRole := .operator, apply := .immediate, dflt := .num 0 },
   { base := 0x03002400, name := "ANGLE.QUEUE_LOSSES", ty := .u64, access := .rc, rdRole := .operator, wrRole := .operator, apply := .immediate, dflt := .num 0 },
   { base := 0x03002500, name := "ANGLE.LATE_FIRINGS", ty := .u64, access := .rc, rdRole := .operator, wrRole := .operator, apply := .immediate, dflt := .num 0 },
   { base := 0x03002600, elems := 255, name := "ANGLE.OPTIONAL_SKIPS", ty := .u64, access := .rc, rdRole := .operator, wrRole := .operator, apply := .immediate, dflt := .num 0 },
   { base := 0x03003000, name := "ANGLE.GROUP_REF", ty := .u128, access := .rw, rdRole := .observer, wrRole := .operator, apply := .staged, dflt := .plan, presence := .group },
   { base := 0x03003100, name := "ANGLE.GROUP_WAIT", ty := .u32, access := .rw, rdRole := .observer, wrRole := .operator, apply := .staged, dflt := .num 2000, lo := 10, hi := 100000, presence := .group },
   { base := 0x03003200, elems := 128, name := "ANGLE.MEMBER_LAG", ty := .s32, access := .ro, rdRole := .operator, wrRole := .operator, apply := .none, dflt := .computed, presence := .group }]

/-- Area 0x03, part 2. -/
def objsAngle2 : List ObjRow :=
  [{ base := 0x03003300, name := "ANGLE.PHASE_SPREAD", ty := .u64, access := .ro, rdRole := .operator, wrRole := .operator, apply := .none, dflt := .computed, presence := .group },
   { base := 0x03003400, elems := 128, name := "ANGLE.MEMBER_NO_MARKER", ty := .u64, access := .rc, rdRole := .operator, wrRole := .operator, apply := .immediate, dflt := .num 0, presence := .group },
   { base := 0x03003500, name := "ANGLE.STEP_BASE", ty := .u32, access := .wo, rdRole := .operator, wrRole := .operator, apply := .staged, dflt := .computed, presence := .group },
   { base := 0x03800000, name := "ANGLE.TOL_SHIFT", ty := .u32, access := .rw, rdRole := .engineer, wrRole := .engineer, apply := .staged, dflt := .num 2, lo := 1, hi := 8 },
   { base := 0x03800100, name := "ANGLE.LENGTH_SHIFT", ty := .u32, access := .rw, rdRole := .engineer, wrRole := .engineer, apply := .staged, dflt := .num 2, lo := 0, hi := 8 },
   { base := 0x03800200, name := "ANGLE.ACQUIRE_STEPS", ty := .u32, access := .rw, rdRole := .engineer, wrRole := .engineer, apply := .staged, dflt := .num 3, lo := 2, hi := 16 },
   { base := 0x03800300, name := "ANGLE.RELOCK_STEPS", ty := .u32, access := .rw, rdRole := .engineer, wrRole := .engineer, apply := .staged, dflt := .num 8, lo := 2, hi := 255 },
   { base := 0x03800400, name := "ANGLE.JUMP_LIMIT", ty := .u32, access := .rw, rdRole := .engineer, wrRole := .engineer, apply := .staged, dflt := .num 16, lo := 2, hi := 65536 },
   { base := 0x03800500, name := "ANGLE.MIN_SPACING", ty := .u32, access := .rw, rdRole := .engineer, wrRole := .engineer, apply := .staged, dflt := .num 10000, lo := 1000, hi := 100000000 },
   { base := 0x03800600, name := "ANGLE.ARM_LEAD", ty := .u32, access := .rw, rdRole := .engineer, wrRole := .engineer, apply := .staged, dflt := .num 2000, lo := 500, hi := 100000 },
   { base := 0x03800700, name := "ANGLE.SOFT_MARKER", ty := .u32, access := .wo, rdRole := .engineer, wrRole := .engineer, apply := .immediate, dflt := .computed }]

/-- Area 0x03. -/
def objsAngle : List ObjRow := objsAngle1 ++ objsAngle2

/-- Area 0x04. -/
def objsCount : List ObjRow :=
  [{ base := 0x04001000, elems := 255, name := "COUNT.THRESHOLD", ty := .u64, access := .rw, rdRole := .operator, wrRole := .operator, apply := .staged, dflt := .num 0 },
   { base := 0x04001100, name := "COUNT.STD_RANGE", ty := .u32, access := .rw, rdRole := .observer, wrRole := .operator, apply := .staged, dflt := .num 4194304 },
   { base := 0x04001200, name := "COUNT.AO_ALARM_MASK", ty := .u64, access := .rw, rdRole := .operator, wrRole := .operator, apply := .staged, dflt := .num 4919131752989213764 },
   { base := 0x04001300, elems := 16, name := "COUNT.BUS_DOMAIN", ty := .u32, access := .rw, rdRole := .observer, wrRole := .engineer, apply := .restart, dflt := .index, lo := 0, hi := 31 },
   { base := 0x04001400, name := "COUNT.LATCH_WAIT", ty := .u32, access := .rw, rdRole := .observer, wrRole := .engineer, apply := .staged, dflt := .num 200, lo := 50, hi := 10000 },
   { base := 0x04010001, count := 576, named := true, name := "COUNT.CTR value", ty := .u64, access := .ro, rdRole := .operator, wrRole := .operator, apply := .none, dflt := .computed },
   { base := 0x04010002, count := 512, named := true, name := "COUNT.CTR configuration", ty := .u32, access := .rw, rdRole := .operator, wrRole := .operator, apply := .staged, dflt := .num 0 },
   { base := 0x04010003, count := 512, named := true, name := "COUNT.CTR tenant", ty := .u32, access := .rw, rdRole := .operator, wrRole := .operator, apply := .staged, dflt := .num 0 },
   { base := 0x04010004, count := 576, named := true, name := "COUNT.CTR baseline B0", ty := .u64, access := .ro, rdRole := .operator, wrRole := .operator, apply := .none, dflt := .computed },
   { base := 0x04010005, count := 576, named := true, name := "COUNT.CTR baseline B1", ty := .u64, access := .ro, rdRole := .operator, wrRole := .operator, apply := .none, dflt := .computed },
   { base := 0x04010006, count := 576, named := true, name := "COUNT.CTR baseline B2", ty := .u64, access := .ro, rdRole := .operator, wrRole := .operator, apply := .none, dflt := .computed },
   { base := 0x04010007, count := 576, named := true, name := "COUNT.CTR baseline B3", ty := .u64, access := .ro, rdRole := .operator, wrRole := .operator, apply := .none, dflt := .computed },
   { base := 0x04800000, count := 8, elems := 128, name := "COUNT.PROGRAM", ty := .u64, access := .rw, rdRole := .engineer, wrRole := .engineer, apply := .staged, dflt := .num 0 },
   { base := 0x04801000, elems := 255, name := "COUNT.REPAIRED", ty := .u32, access := .ro, rdRole := .engineer, wrRole := .engineer, apply := .none, dflt := .computed }]

/-- Area 0x05. -/
def objsSense : List ObjRow :=
  [{ base := 0x05001000, name := "SENSE.STD_RANGE", ty := .u32, access := .rw, rdRole := .observer, wrRole := .operator, apply := .staged, dflt := .num 6291456 },
   { base := 0x05001100, name := "SENSE.THERMAL_TRIP", ty := .f32, access := .rw, rdRole := .operator, wrRole := .operator, apply := .staged, dflt := .num 1121058816 },
   { base := 0x05001200, elems := 24, name := "SENSE.DROOP_TRIP", ty := .f32, access := .rw, rdRole := .operator, wrRole := .operator, apply := .staged, dflt := .num 0 },
   { base := 0x05001300, elems := 8, name := "SENSE.FMON_SRC", ty := .u32, access := .rw, rdRole := .observer, wrRole := .engineer, apply := .staged, dflt := .index, lo := 0, hi := 31 },
   { base := 0x05001400, elems := 8, name := "SENSE.FMON_NOMINAL", ty := .f32, access := .rw, rdRole := .observer, wrRole := .engineer, apply := .staged, dflt := .num 1148846080 },
   { base := 0x05001500, name := "SENSE.FMON_WINDOW", ty := .u32, access := .rw, rdRole := .observer, wrRole := .engineer, apply := .staged, dflt := .num 10000, lo := 1000, hi := 1000000 },
   { base := 0x05001600, elems := 8, name := "SENSE.STRETCH_NS", ty := .u64, access := .rc, rdRole := .operator, wrRole := .operator, apply := .immediate, dflt := .num 0 },
   { base := 0x05001700, elems := 8, name := "SENSE.STRETCH_COUNT", ty := .u64, access := .rc, rdRole := .operator, wrRole := .operator, apply := .immediate, dflt := .num 0 },
   { base := 0x05010001, count := 96, named := true, name := "SENSE.CH value", ty := .f32, access := .ro, rdRole := .operator, wrRole := .operator, apply := .none, dflt := .computed },
   { base := 0x05010002, count := 96, named := true, name := "SENSE.CH raw", ty := .f32, access := .ro, rdRole := .operator, wrRole := .operator, apply := .none, dflt := .computed },
   { base := 0x05010003, count := 96, named := true, name := "SENSE.CH conversion time", ty := .time80, access := .ro, rdRole := .operator, wrRole := .operator, apply := .none, dflt := .computed },
   { base := 0x05800000, name := "SENSE.STRETCH_SHIFT", ty := .u32, access := .rw, rdRole := .engineer, wrRole := .engineer, apply := .staged, dflt := .num 4, lo := 1, hi := 10 }]

/-- Area 0x06, part 1. -/
def objsTrace1 : List ObjRow :=
  [{ base := 0x06000000, name := "TRACE.ENABLE", ty := .bool, access := .rw, rdRole := .observer, wrRole := .operator, apply := .staged, dflt := .num 0 },
   { base := 0x06000100, elems := 16, name := "TRACE.TAP_MODE", ty := .enum8, access := .rw, rdRole := .observer, wrRole := .operator, apply := .staged, dflt := .num 0, codes := [0, 1, 2] },
   { base := 0x06000200, elems := 16, name := "TRACE.TAP_DOMAIN", ty := .u32, access := .rw, rdRole := .observer, wrRole := .engineer, apply := .restart, dflt := .index, lo := 0, hi := 31 },
   { base := 0x06000300, elems := 32, name := "TRACE.FILTER", ty := .blob, access := .rw, rdRole := .observer, wrRole := .operator, apply := .staged, dflt := .bytes (List.replicate 32 0), size := 32 },
   { base := 0x06000400, name := "TRACE.CAPTURE_MODE", ty := .enum8, access := .rw, rdRole := .observer, wrRole := .operator, apply := .staged, dflt := .num 0, codes := [0, 1] },
   { base := 0x06000500, name := "TRACE.PRE_COUNT", ty := .u32, access := .rw, rdRole := .observer, wrRole := .operator, apply := .staged, dflt := .num 256, lo := 0, hi := 2048 },
   { base := 0x06000600, name := "TRACE.POST_COUNT", ty := .u32, access := .rw, rdRole := .observer, wrRole := .operator, apply := .staged, dflt := .num 4096, lo := 1, hi := 4294967295 },
   { base := 0x06000700, name := "TRACE.TRIG_ALARM", ty := .bool, access := .rw, rdRole := .observer, wrRole := .operator, apply := .staged, dflt := .num 0 },
   { base := 0x06000800, name := "TRACE.REARM", ty := .bool, access := .rw, rdRole := .observer, wrRole := .operator, apply := .staged, dflt := .num 0 },
   { base := 0x06000900, name := "TRACE.ARM", ty := .enum8, access := .wo, rdRole := .operator, wrRole := .operator, apply := .immediate, dflt := .computed, codes := [1, 2, 3] },
   { base := 0x06000A00, name := "TRACE.STATE", ty := .enum8, access := .ro, rdRole := .observer, wrRole := .observer, apply := .none, dflt := .computed },
   { base := 0x06000B00, name := "TRACE.SYNC_INTERVAL", ty := .u32, access := .rw, rdRole := .observer, wrRole := .operator, apply := .staged, dflt := .num 4096, lo := 256, hi := 65535 },
   { base := 0x06000C00, name := "TRACE.ACCOUNT_INTERVAL", ty := .u32, access := .rw, rdRole := .observer, wrRole := .operator, apply := .staged, dflt := .num 1000, lo := 10, hi := 100000 },
   { base := 0x06000D00, elems := 16, name := "TRACE.TRACED", ty := .u64, access := .rc, rdRole := .operator, wrRole := .operator, apply := .immediate, dflt := .num 0 },
   { base := 0x06000E00, elems := 16, name := "TRACE.FILTERED", ty := .u64, access := .rc, rdRole := .operator, wrRole := .operator, apply := .immediate, dflt := .num 0 },
   { base := 0x06000F00, elems := 16, name := "TRACE.DROPPED", ty := .u64, access := .rc, rdRole := .operator, wrRole := .operator, apply := .immediate, dflt := .num 0 },
   { base := 0x06001000, elems := 16, name := "TRACE.SECURE_DROPS", ty := .u64, access := .rc, rdRole := .custodian, wrRole := .custodian, apply := .immediate, dflt := .num 0 },
   { base := 0x06001100, name := "TRACE.PRE_DISCARDS", ty := .u64, access := .rc, rdRole := .operator, wrRole := .operator, apply := .immediate, dflt := .num 0 },
   { base := 0x06001200, name := "TRACE.SPILL_SHARE", ty := .u64, access := .rw, rdRole := .observer, wrRole := .engineer, apply := .staged, dflt := .num 0 },
   { base := 0x06001300, name := "TRACE.PD_STATE", ty := .u32, access := .ro, rdRole := .observer, wrRole := .observer, apply := .none, dflt := .computed }]

/-- Area 0x06, part 2. -/
def objsTrace2 : List ObjRow :=
  [{ base := 0x06001400, name := "TRACE.FLUSH_MAX", ty := .u32, access := .rc, rdRole := .operator, wrRole := .operator, apply := .immediate, dflt := .num 0 },
   { base := 0x06010000, name := "TRACE.STORE_SIZE", ty := .u64, access := .rw, rdRole := .observer, wrRole := .engineer, apply := .restart, dflt := .num 68719476736, presence := .group },
   { base := 0x06010100, name := "TRACE.STORE_POLICY", ty := .enum8, access := .rw, rdRole := .observer, wrRole := .operator, apply := .staged, dflt := .num 0, codes := [0, 1], presence := .group },
   { base := 0x06010200, name := "TRACE.STORE_USED", ty := .u64, access := .ro, rdRole := .observer, wrRole := .observer, apply := .none, dflt := .computed, presence := .group },
   { base := 0x06010300, name := "TRACE.STORE_OVERWRITES", ty := .u64, access := .rc, rdRole := .operator, wrRole := .operator, apply := .immediate, dflt := .num 0, presence := .group },
   { base := 0x06010400, name := "TRACE.EXPORT", ty := .blob, access := .wo, rdRole := .operator, wrRole := .operator, apply := .immediate, dflt := .computed, size := 32, presence := .group },
   { base := 0x06010500, name := "TRACE.EXPORT_STATUS", ty := .u64, access := .ro, rdRole := .operator, wrRole := .operator, apply := .none, dflt := .computed, presence := .group },
   { base := 0x06800000, name := "TRACE.INJECT", ty := .blob, access := .wo, rdRole := .engineer, wrRole := .engineer, apply := .immediate, dflt := .computed }]

/-- Area 0x06. -/
def objsTrace : List ObjRow := objsTrace1 ++ objsTrace2

/-- Area 0x07, part 1. -/
def objsDew1 : List ObjRow :=
  [{ base := 0x07010001, count := 8, named := true, name := "DEW.CH polynomial", ty := .u64, access := .rw, rdRole := .observer, wrRole := .operator, apply := .staged, dflt := .num 79764919, presence := .ovtan },
   { base := 0x07010002, count := 8, named := true, name := "DEW.CH initial value", ty := .u64, access := .rw, rdRole := .observer, wrRole := .operator, apply := .staged, dflt := .num 4294967295, presence := .ovtan },
   { base := 0x07010003, count := 8, named := true, name := "DEW.CH final XOR", ty := .u64, access := .rw, rdRole := .observer, wrRole := .operator, apply := .staged, dflt := .num 4294967295, presence := .ovtan },
   { base := 0x07010004, count := 8, named := true, name := "DEW.CH control", ty := .u32, access := .rw, rdRole := .observer, wrRole := .operator, apply := .staged, dflt := .num 800, presence := .ovtan },
   { base := 0x07010005, count := 8, named := true, name := "DEW.CH fold start", ty := .u64, access := .rw, rdRole := .observer, wrRole := .operator, apply := .staged, dflt := .num 0, presence := .ovtan },
   { base := 0x07010006, count := 8, named := true, name := "DEW.CH result", ty := .u64, access := .ro, rdRole := .observer, wrRole := .observer, apply := .none, dflt := .computed, presence := .ovtan },
   { base := 0x07010007, count := 8, named := true, name := "DEW.CH bytes fed", ty := .u64, access := .ro, rdRole := .observer, wrRole := .observer, apply := .none, dflt := .computed, presence := .ovtan },
   { base := 0x07010008, count := 8, named := true, name := "DEW.CH reset", ty := .bool, access := .wo, rdRole := .observer, wrRole := .observer, apply := .immediate, dflt := .computed, presence := .ovtan },
   { base := 0x07010010, count := 8, named := true, name := "DEW.CH feed byte", ty := .u32, access := .wo, rdRole := .observer, wrRole := .observer, apply := .immediate, dflt := .computed, presence := .ovtan },
   { base := 0x07010011, count := 8, named := true, name := "DEW.CH feed half-word", ty := .u32, access := .wo, rdRole := .observer, wrRole := .observer, apply := .immediate, dflt := .computed, presence := .ovtan },
   { base := 0x07010012, count := 8, named := true, name := "DEW.CH feed word", ty := .u32, access := .wo, rdRole := .observer, wrRole := .observer, apply := .immediate, dflt := .computed, presence := .ovtan },
   { base := 0x07020000, name := "DEW.DP_ENABLE", ty := .bool, access := .rw, rdRole := .observer, wrRole := .operator, apply := .staged, dflt := .num 0, presence := .ovtan },
   { base := 0x07020100, elems := 16, used := some 0, name := "DEW.DP_SEGMENT", ty := .blob, access := .rw, rdRole := .observer, wrRole := .operator, apply := .staged, dflt := .bytes (List.replicate 32 0), size := 32, presence := .ovtan },
   { base := 0x07020200, name := "DEW.DP_LINES", ty := .u32, access := .rw, rdRole := .observer, wrRole := .operator, apply := .staged, dflt := .num 0, presence := .ovtan },
   { base := 0x07020300, name := "DEW.DP_KEY", ty := .u64, access := .rw, rdRole := .observer, wrRole := .operator, apply := .staged, dflt := .num 0, presence := .ovtan },
   { base := 0x07020400, name := "DEW.DP_SHIFT", ty := .u32, access := .rw, rdRole := .observer, wrRole := .operator, apply := .staged, dflt := .num 6, lo := 0, hi := 16, presence := .ovtan },
   { base := 0x07020500, name := "DEW.DP_REPLICA", ty := .u32, access := .rw, rdRole := .observer, wrRole := .operator, apply := .staged, dflt := .num 16777216, presence := .ovtan },
   { base := 0x07020600, name := "DEW.DP_ID", ty := .u32, access := .rw, rdRole := .observer, wrRole := .operator, apply := .staged, dflt := .num 0, lo := 0, hi := 1023, presence := .ovtan },
   { base := 0x07020700, name := "DEW.DP_START_EVENT", ty := .u32, access := .rw, rdRole := .observer, wrRole := .operator, apply := .staged, dflt := .num 4294967295, presence := .ovtan },
   { base := 0x07020800, name := "DEW.DP_GO", ty := .bool, access := .wo, rdRole := .operator, wrRole := .operator, apply := .immediate, dflt := .computed, presence := .ovtan }]

/-- Area 0x07, part 2. -/
def objsDew2 : List ObjRow :=
  [{ base := 0x07020900, name := "DEW.DP_DEADLINE", ty := .u32, access := .rw, rdRole := .observer, wrRole := .operator, apply := .staged, dflt := .num 2000, lo := 10, hi := 10000000, presence := .ovtan },
   { base := 0x07020A00, name := "DEW.DP_DMA_CH", ty := .u32, access := .rw, rdRole := .observer, wrRole := .engineer, apply := .staged, dflt := .num 7, lo := 0, hi := 7, presence := .ovtan },
   { base := 0x07020B00, name := "DEW.DP_PRIORITY", ty := .u32, access := .rw, rdRole := .observer, wrRole := .engineer, apply := .staged, dflt := .num 1, lo := 0, hi := 3, presence := .ovtan },
   { base := 0x07020C00, name := "DEW.DP_IRQ", ty := .u32, access := .rw, rdRole := .observer, wrRole := .engineer, apply := .staged, dflt := .num 4294967295, presence := .ovtan },
   { base := 0x07020D00, name := "DEW.DP_STATUS", ty := .enum8, access := .ro, rdRole := .observer, wrRole := .observer, apply := .none, dflt := .computed, presence := .ovtan },
   { base := 0x07020E00, name := "DEW.DP_LAST", ty := .blob, access := .ro, rdRole := .observer, wrRole := .observer, apply := .none, dflt := .computed, presence := .ovtan },
   { base := 0x07020F00, name := "DEW.DP_DIGESTS", ty := .u64, access := .rc, rdRole := .operator, wrRole := .operator, apply := .immediate, dflt := .num 0, presence := .ovtan },
   { base := 0x07021000, name := "DEW.DP_LATE", ty := .u64, access := .rc, rdRole := .operator, wrRole := .operator, apply := .immediate, dflt := .num 0, presence := .ovtan },
   { base := 0x07021100, name := "DEW.DP_OVERRUNS", ty := .u64, access := .rc, rdRole := .operator, wrRole := .operator, apply := .immediate, dflt := .num 0, presence := .ovtan },
   { base := 0x07030000, name := "DEW.VOTE_DUPLICATES", ty := .u64, access := .rc, rdRole := .operator, wrRole := .operator, apply := .immediate, dflt := .num 0, presence := .group }]

/-- Area 0x07. -/
def objsDew : List ObjRow := objsDew1 ++ objsDew2

/-- Area 0x08. -/
def objsDma : List ObjRow :=
  [{ base := 0x08001000, name := "DMA.GO", ty := .u32, access := .wo, rdRole := .engineer, wrRole := .engineer, apply := .immediate, dflt := .computed, presence := .ovtan },
   { base := 0x08001100, name := "DMA.STOP", ty := .u32, access := .wo, rdRole := .engineer, wrRole := .engineer, apply := .immediate, dflt := .computed, presence := .ovtan },
   { base := 0x08001200, name := "DMA.BW_BUDGET", ty := .u32, access := .rw, rdRole := .observer, wrRole := .engineer, apply := .immediate, dflt := .num 8000, lo := 0, hi := 32000, presence := .ovtan },
   { base := 0x08001300, name := "DMA.BW_BURST", ty := .u32, access := .rw, rdRole := .observer, wrRole := .engineer, apply := .immediate, dflt := .num 4096, lo := 256, hi := 65536, presence := .ovtan },
   { base := 0x08001400, name := "DMA.FILL_OVERLAPS", ty := .u64, access := .rc, rdRole := .operator, wrRole := .operator, apply := .immediate, dflt := .num 0, presence := .ovtan },
   { base := 0x08010001, count := 8, named := true, name := "DMA.CH descriptor", ty := .blob, access := .rw, rdRole := .operator, wrRole := .engineer, apply := .staged, dflt := .bytes (List.replicate 32 0), size := 32, presence := .ovtan },
   { base := 0x08010002, count := 8, named := true, name := "DMA.CH status", ty := .u64, access := .ro, rdRole := .observer, wrRole := .observer, apply := .none, dflt := .computed, presence := .ovtan },
   { base := 0x08010003, count := 8, named := true, name := "DMA.CH first mismatch", ty := .u64, access := .ro, rdRole := .operator, wrRole := .operator, apply := .none, dflt := .computed, presence := .ovtan },
   { base := 0x08010004, count := 8, named := true, name := "DMA.CH mismatch bytes", ty := .u64, access := .ro, rdRole := .operator, wrRole := .operator, apply := .none, dflt := .computed, presence := .ovtan },
   { base := 0x08010005, count := 8, named := true, name := "DMA.CH bytes moved", ty := .u64, access := .rc, rdRole := .operator, wrRole := .operator, apply := .immediate, dflt := .num 0, presence := .ovtan }]

/-- Area 0x09. -/
def objsRecord : List ObjRow :=
  [{ base := 0x09000000, name := "RECORD.BUF_LEVEL", ty := .u32, access := .ro, rdRole := .observer, wrRole := .observer, apply := .none, dflt := .computed },
   { base := 0x09000100, name := "RECORD.SPILL_LEVEL", ty := .u32, access := .rw, rdRole := .observer, wrRole := .operator, apply := .staged, dflt := .num 5120, lo := 512, hi := 7168 },
   { base := 0x09000200, name := "RECORD.SPILL_BASE", ty := .u64, access := .rw, rdRole := .observer, wrRole := .engineer, apply := .staged, dflt := .num 0 },
   { base := 0x09000300, name := "RECORD.SPILL_SIZE", ty := .u64, access := .rw, rdRole := .observer, wrRole := .engineer, apply := .staged, dflt := .num 0 },
   { base := 0x09000400, name := "RECORD.SPILL_USED", ty := .u64, access := .ro, rdRole := .observer, wrRole := .observer, apply := .none, dflt := .computed },
   { base := 0x09000500, name := "RECORD.T_QUOTA", ty := .u32, access := .rw, rdRole := .observer, wrRole := .engineer, apply := .staged, dflt := .num 2048, lo := 0, hi := 4096 },
   { base := 0x09000600, name := "RECORD.ALARM_BURST", ty := .u32, access := .rw, rdRole := .observer, wrRole := .engineer, apply := .staged, dflt := .num 64, lo := 1, hi := 256 },
   { base := 0x09000700, name := "RECORD.ALARM_RATE", ty := .u32, access := .rw, rdRole := .observer, wrRole := .engineer, apply := .staged, dflt := .num 10000, lo := 1, hi := 100000 },
   { base := 0x09000800, name := "RECORD.ALARM_DROPS", ty := .u64, access := .rc, rdRole := .operator, wrRole := .operator, apply := .immediate, dflt := .num 0 },
   { base := 0x09000900, name := "RECORD.SAMPLE_LOSSES", ty := .u64, access := .rc, rdRole := .operator, wrRole := .operator, apply := .immediate, dflt := .num 0 },
   { base := 0x09000A00, name := "RECORD.TRUNCATIONS", ty := .u64, access := .rc, rdRole := .operator, wrRole := .operator, apply := .immediate, dflt := .num 0 },
   { base := 0x09000B00, name := "RECORD.PROG_ERRORS", ty := .u64, access := .rc, rdRole := .operator, wrRole := .operator, apply := .immediate, dflt := .num 0 },
   { base := 0x09000C00, elems := 4, name := "RECORD.NEXT_SEQ", ty := .u32, access := .ro, rdRole := .operator, wrRole := .operator, apply := .none, dflt := .computed }]

/-- Area 0x0A, part 1. -/
def objsLink1 : List ObjRow :=
  [{ base := 0x0A000000, elems := 136, name := "LINK.DZ_STATE", ty := .enum8, access := .ro, rdRole := .observer, wrRole := .observer, apply := .none, dflt := .computed },
   { base := 0x0A000100, elems := 136, name := "LINK.DZ_ENABLE", ty := .bool, access := .rw, rdRole := .observer, wrRole := .operator, apply := .staged, dflt := .num 1 },
   { base := 0x0A000200, elems := 136, name := "LINK.DZ_RETRAINS", ty := .u64, access := .rc, rdRole := .operator, wrRole := .operator, apply := .immediate, dflt := .num 0 },
   { base := 0x0A000300, elems := 136, name := "LINK.DZ_FEC_SYMBOLS", ty := .u64, access := .rc, rdRole := .operator, wrRole := .operator, apply := .immediate, dflt := .num 0 },
   { base := 0x0A000400, elems := 136, name := "LINK.DZ_FEC_UNCORR", ty := .u64, access := .rc, rdRole := .operator, wrRole := .operator, apply := .immediate, dflt := .num 0 },
   { base := 0x0A000500, elems := 136, name := "LINK.DZ_CRC_ERRORS", ty := .u64, access := .rc, rdRole := .operator, wrRole := .operator, apply := .immediate, dflt := .num 0 },
   { base := 0x0A000600, elems := 136, name := "LINK.DZ_RESENT", ty := .u64, access := .rc, rdRole := .operator, wrRole := .operator, apply := .immediate, dflt := .num 0 },
   { base := 0x0A000700, elems := 136, name := "LINK.DZ_DOWN_NS", ty := .u64, access := .rc, rdRole := .operator, wrRole := .operator, apply := .immediate, dflt := .num 0 },
   { base := 0x0A000800, elems := 136, name := "LINK.DZ_PEER", ty := .blob, access := .ro, rdRole := .operator, wrRole := .operator, apply := .none, dflt := .computed },
   { base := 0x0A000900, name := "LINK.SPILL_AFTER", ty := .u32, access := .rw, rdRole := .observer, wrRole := .engineer, apply := .staged, dflt := .num 200000, lo := 1000, hi := 10000000, presence := .ovtan },
   { base := 0x0A000A00, name := "LINK.A_CREDITS", ty := .u32, access := .rw, rdRole := .observer, wrRole := .engineer, apply := .restart, dflt := .num 64, lo := 32, hi := 256 },
   { base := 0x0A000B00, name := "LINK.GAPS_INSERTED", ty := .u64, access := .rc, rdRole := .operator, wrRole := .operator, apply := .immediate, dflt := .num 0, presence := .group },
   { base := 0x0A000C00, name := "LINK.DUPLICATES", ty := .u64, access := .rc, rdRole := .operator, wrRole := .operator, apply := .immediate, dflt := .num 0, presence := .group },
   { base := 0x0A000D00, name := "LINK.DAMAGED", ty := .u64, access := .rc, rdRole := .operator, wrRole := .operator, apply := .immediate, dflt := .num 0, presence := .group },
   { base := 0x0A000E00, name := "LINK.REPLAYED", ty := .u64, access := .rc, rdRole := .operator, wrRole := .operator, apply := .immediate, dflt := .num 0, presence := .ovtan },
   { base := 0x0A010000, elems := 24, name := "LINK.SKY_PORT_MAP", ty := .blob, access := .rw, rdRole := .observer, wrRole := .engineer, apply := .restart, dflt := .plan, size := 8, presence := .group },
   { base := 0x0A010100, elems := 24, name := "LINK.SKY_STATE", ty := .enum8, access := .ro, rdRole := .observer, wrRole := .observer, apply := .none, dflt := .computed, presence := .group },
   { base := 0x0A010200, elems := 24, name := "LINK.SKY_LANES", ty := .u32, access := .ro, rdRole := .observer, wrRole := .observer, apply := .none, dflt := .computed, presence := .group },
   { base := 0x0A010300, elems := 24, name := "LINK.PREEMPT_STATE", ty := .enum8, access := .ro, rdRole := .observer, wrRole := .observer, apply := .none, dflt := .computed, presence := .group },
   { base := 0x0A010400, name := "LINK.ACTIVE_PARENT", ty := .u32, access := .ro, rdRole := .observer, wrRole := .observer, apply := .none, dflt := .computed, presence := .group }]

/-- Area 0x0A, part 2. -/
def objsLink2 : List ObjRow :=
  [{ base := 0x0A010500, name := "LINK.SKY_ETHERTYPE", ty := .u32, access := .rw, rdRole := .observer, wrRole := .custodian, apply := .restart, dflt := .num 34997, presence := .group },
   { base := 0x0A010600, name := "LINK.SKY_DEAD", ty := .u32, access := .rw, rdRole := .observer, wrRole := .engineer, apply := .staged, dflt := .num 10, lo := 4, hi := 1000, presence := .group },
   { base := 0x0A010700, name := "LINK.SKY_RTO", ty := .u32, access := .rw, rdRole := .observer, wrRole := .engineer, apply := .staged, dflt := .num 20, lo := 5, hi := 10000, presence := .group },
   { base := 0x0A010800, name := "LINK.FAILOVER_HOLD", ty := .u32, access := .rw, rdRole := .observer, wrRole := .engineer, apply := .staged, dflt := .num 2000, lo := 0, hi := 1000000, presence := .group },
   { base := 0x0A010900, name := "LINK.FAILBACK_HOLD", ty := .u32, access := .rw, rdRole := .observer, wrRole := .engineer, apply := .staged, dflt := .num 1000, lo := 10, hi := 600000, presence := .group },
   { base := 0x0A010A00, elems := 24, name := "LINK.SKY_RESENT", ty := .u64, access := .rc, rdRole := .operator, wrRole := .operator, apply := .immediate, dflt := .num 0, presence := .group },
   { base := 0x0A010B00, elems := 24, name := "LINK.SKY_FCS_ERRORS", ty := .u64, access := .rc, rdRole := .operator, wrRole := .operator, apply := .immediate, dflt := .num 0, presence := .group },
   { base := 0x0A010C00, name := "LINK.FAILOVERS", ty := .u64, access := .rc, rdRole := .operator, wrRole := .operator, apply := .immediate, dflt := .num 0, presence := .group },
   { base := 0x0A800000, elems := 136, name := "LINK.DZ_TX_FFE", ty := .u32, access := .ro, rdRole := .engineer, wrRole := .engineer, apply := .none, dflt := .computed },
   { base := 0x0A800100, name := "LINK.DZ_RETRY_LIMIT", ty := .u32, access := .rw, rdRole := .engineer, wrRole := .engineer, apply := .staged, dflt := .num 8, lo := 2, hi := 64 },
   { base := 0x0A800200, name := "LINK.DZ_FORCE_RETRAIN", ty := .u32, access := .wo, rdRole := .engineer, wrRole := .engineer, apply := .immediate, dflt := .computed },
   { base := 0x0A800300, name := "LINK.DZ_LOOPBACK", ty := .enum8, access := .rw, rdRole := .engineer, wrRole := .engineer, apply := .staged, dflt := .num 0, codes := [0, 1, 2] }]

/-- Area 0x0A. -/
def objsLink : List ObjRow := objsLink1 ++ objsLink2

/-- Area 0x0C, part 1. -/
def objsPower1 : List ObjRow :=
  [{ base := 0x0C000000, elems := 100, name := "POWER.BLOCK_STATE", ty := .enum8, access := .ro, rdRole := .observer, wrRole := .observer, apply := .none, dflt := .computed },
   { base := 0x0C000100, elems := 100, name := "POWER.HOLD_AWAKE", ty := .bool, access := .rw, rdRole := .observer, wrRole := .operator, apply := .immediate, dflt := .num 0 },
   { base := 0x0C000200, name := "POWER.ESTIMATE", ty := .u32, access := .ro, rdRole := .observer, wrRole := .observer, apply := .none, dflt := .computed },
   { base := 0x0C000300, name := "POWER.STATUS_WORD", ty := .u64, access := .ro, rdRole := .observer, wrRole := .observer, apply := .none, dflt := .computed },
   { base := 0x0C000400, elems := 2, name := "POWER.PORT_DOMAIN", ty := .u32, access := .rw, rdRole := .observer, wrRole := .engineer, apply := .restart, dflt := .num 0, lo := 0, hi := 31 },
   { base := 0x0C000500, name := "POWER.BIST_RESULT", ty := .blob, access := .ro, rdRole := .operator, wrRole := .operator, apply := .none, dflt := .computed },
   { base := 0x0C000600, name := "POWER.ECC_CORRECTED", ty := .u64, access := .rc, rdRole := .operator, wrRole := .operator, apply := .immediate, dflt := .num 0 },
   { base := 0x0C000700, name := "POWER.ECC_UNCORRECTED", ty := .u64, access := .rc, rdRole := .operator, wrRole := .operator, apply := .immediate, dflt := .num 0 },
   { base := 0x0C000800, name := "POWER.CTR_PARITY", ty := .u64, access := .rc, rdRole := .operator, wrRole := .operator, apply := .immediate, dflt := .num 0 },
   { base := 0x0C000900, name := "POWER.MEM_TIMEOUTS", ty := .u64, access := .rc, rdRole := .operator, wrRole := .operator, apply := .immediate, dflt := .num 0 },
   { base := 0x0C000A00, name := "POWER.REFCLK_LOSSES", ty := .u64, access := .rc, rdRole := .operator, wrRole := .operator, apply := .immediate, dflt := .num 0 },
   { base := 0x0C000B00, name := "POWER.SNS_BAD_CH", ty := .u64, access := .rc, rdRole := .operator, wrRole := .operator, apply := .immediate, dflt := .num 0 },
   { base := 0x0C010000, elems := 25, name := "POWER.DOMAIN_STATE", ty := .enum8, access := .ro, rdRole := .observer, wrRole := .observer, apply := .none, dflt := .computed, presence := .group },
   { base := 0x0C010100, name := "POWER.LANES_ASLEEP", ty := .u32, access := .ro, rdRole := .observer, wrRole := .observer, apply := .none, dflt := .computed, presence := .group },
   { base := 0x0C020000, elems := 16, name := "POWER.DIE_TEMP", ty := .f32, access := .ro, rdRole := .observer, wrRole := .observer, apply := .none, dflt := .computed, presence := .group },
   { base := 0x0C020100, name := "POWER.THERM_ALERT", ty := .f32, access := .rw, rdRole := .observer, wrRole := .engineer, apply := .staged, dflt := .num 1120403456, presence := .group },
   { base := 0x0C020200, name := "POWER.THERM_TRIP", ty := .f32, access := .ro, rdRole := .observer, wrRole := .observer, apply := .none, dflt := .num 1122369536, presence := .group },
   { base := 0x0C020300, elems := 12, name := "POWER.RAIL_MON", ty := .f32, access := .ro, rdRole := .operator, wrRole := .operator, apply := .none, dflt := .computed, presence := .group },
   { base := 0x0C020400, name := "POWER.STRAPS", ty := .u32, access := .ro, rdRole := .observer, wrRole := .observer, apply := .none, dflt := .computed, presence := .group },
   { base := 0x0C020500, name := "POWER.REFPLL_STATE", ty := .enum8, access := .ro, rdRole := .observer, wrRole := .observer, apply := .none, dflt := .computed, presence := .group }]

/-- Area 0x0C, part 2. -/
def objsPower2 : List ObjRow :=
  [{ base := 0x0C800000, name := "POWER.BIST_ON_RESTART", ty := .bool, access := .rw, rdRole := .engineer, wrRole := .engineer, apply := .restart, dflt := .num 1 },
   { base := 0x0C800100, name := "POWER.MEM_TIMEOUT", ty := .u32, access := .rw, rdRole := .engineer, wrRole := .engineer, apply := .staged, dflt := .num 100, lo := 10, hi := 10000 },
   { base := 0x0C810000, elems := 24, name := "POWER.LPDDR_MARGIN", ty := .u32, access := .ro, rdRole := .engineer, wrRole := .engineer, apply := .none, dflt := .computed, presence := .group }]

/-- Area 0x0C. -/
def objsPower : List ObjRow := objsPower1 ++ objsPower2

/-- Area 0x0D. -/
def objsSpare : List ObjRow :=
  [{ base := 0x0D000000, name := "SPARE.HEALTH", ty := .enum8, access := .ro, rdRole := .observer, wrRole := .observer, apply := .none, dflt := .computed },
   { base := 0x0D000100, elems := 255, name := "SPARE.INVENTORY", ty := .blob, access := .ro, rdRole := .observer, wrRole := .observer, apply := .none, dflt := .computed },
   { base := 0x0D000200, elems := 64, name := "SPARE.CANDIDATES", ty := .blob, access := .ro, rdRole := .operator, wrRole := .operator, apply := .none, dflt := .computed },
   { base := 0x0D010000, name := "SPARE.CELL_READMIT", ty := .u32, access := .wo, rdRole := .engineer, wrRole := .engineer, apply := .immediate, dflt := .computed, presence := .group },
   { base := 0x0D010100, elems := 52, name := "SPARE.FILL_QUEUE", ty := .u32, access := .ro, rdRole := .observer, wrRole := .observer, apply := .none, dflt := .computed, presence := .group },
   { base := 0x0D010200, name := "SPARE.FILL_RATE", ty := .u32, access := .rw, rdRole := .observer, wrRole := .engineer, apply := .staged, dflt := .num 32000, lo := 1000, hi := 64000, presence := .group },
   { base := 0x0D010300, name := "SPARE.HOST_LOAD", ty := .u32, access := .rw, rdRole := .observer, wrRole := .engineer, apply := .staged, dflt := .num 800000, lo := 100000, hi := 950000, presence := .group },
   { base := 0x0D010400, name := "SPARE.REPLACE_WAIT", ty := .u32, access := .rw, rdRole := .observer, wrRole := .engineer, apply := .staged, dflt := .num 10000, lo := 100, hi := 3600000, presence := .group },
   { base := 0x0D010500, name := "SPARE.WARM_HOLD", ty := .u32, access := .rw, rdRole := .observer, wrRole := .engineer, apply := .staged, dflt := .num 72, lo := 1, hi := 720, presence := .group },
   { base := 0x0D010600, name := "SPARE.SHED", ty := .u32, access := .ro, rdRole := .observer, wrRole := .observer, apply := .none, dflt := .computed, presence := .group },
   { base := 0x0D010700, name := "SPARE.SHED_INPUTS", ty := .u64, access := .rc, rdRole := .operator, wrRole := .operator, apply := .immediate, dflt := .num 0, presence := .group },
   { base := 0x0D010800, elems := 128, name := "SPARE.LANE_MAP", ty := .u32, access := .ro, rdRole := .observer, wrRole := .observer, apply := .none, dflt := .computed, presence := .tray },
   { base := 0x0D010900, elems := 136, name := "SPARE.DZ_LANE_OUT", ty := .bool, access := .ro, rdRole := .observer, wrRole := .observer, apply := .none, dflt := .computed, presence := .tray },
   { base := 0x0D010A00, name := "SPARE.SKY_LANE_OUT", ty := .u32, access := .ro, rdRole := .observer, wrRole := .observer, apply := .none, dflt := .computed, presence := .group },
   { base := 0x0D010B00, name := "SPARE.LANE_RESTORE", ty := .u32, access := .wo, rdRole := .engineer, wrRole := .engineer, apply := .immediate, dflt := .computed, presence := .group },
   { base := 0x0D010C00, name := "SPARE.LPDDR_OUT", ty := .u32, access := .ro, rdRole := .observer, wrRole := .observer, apply := .none, dflt := .computed, presence := .group },
   { base := 0x0D010D00, name := "SPARE.MIN_CELLS", ty := .u32, access := .rw, rdRole := .observer, wrRole := .engineer, apply := .staged, dflt := .num 24, lo := 1, hi := 48, presence := .group }]

/-- Area 0x0F. -/
def objsCut : List ObjRow :=
  [{ base := 0x0F000000, name := "CUT.ARM", ty := .blob, access := .wo, rdRole := .operator, wrRole := .operator, apply := .immediate, dflt := .computed, size := 32 },
   { base := 0x0F000100, name := "CUT.CANCEL", ty := .u32, access := .wo, rdRole := .operator, wrRole := .operator, apply := .immediate, dflt := .computed },
   { base := 0x0F000200, elems := 4, name := "CUT.PENDING", ty := .blob, access := .ro, rdRole := .observer, wrRole := .observer, apply := .none, dflt := .computed },
   { base := 0x0F000300, name := "CUT.PROGRAM", ty := .u32, access := .rw, rdRole := .observer, wrRole := .engineer, apply := .staged, dflt := .num 0, lo := 0, hi := 1023, presence := .ovtan },
   { base := 0x0F000400, name := "CUT.LAST", ty := .blob, access := .ro, rdRole := .observer, wrRole := .observer, apply := .none, dflt := .computed },
   { base := 0x0F000500, name := "CUT.WF_TAPS", ty := .u32, access := .rw, rdRole := .observer, wrRole := .engineer, apply := .staged, dflt := .num 0, presence := .ovtan },
   { base := 0x0F010000, name := "CUT.REQUEST", ty := .blob, access := .wo, rdRole := .operator, wrRole := .operator, apply := .immediate, dflt := .computed, size := 32, presence := .group },
   { base := 0x0F010100, name := "CUT.COMMIT_LEAD", ty := .u32, access := .rw, rdRole := .observer, wrRole := .operator, apply := .staged, dflt := .num 5000, lo := 2000, hi := 10000000, presence := .group },
   { base := 0x0F010200, name := "CUT.CLOSE_TIMEOUT", ty := .u32, access := .rw, rdRole := .observer, wrRole := .operator, apply := .staged, dflt := .num 100000, lo := 1000, hi := 10000000, presence := .group },
   { base := 0x0F010300, name := "CUT.KEEP", ty := .u32, access := .rw, rdRole := .observer, wrRole := .operator, apply := .staged, dflt := .num 8, lo := 1, hi := 32, presence := .group },
   { base := 0x0F010400, elems := 32, name := "CUT.RESULT", ty := .blob, access := .ro, rdRole := .observer, wrRole := .observer, apply := .none, dflt := .computed, presence := .group },
   { base := 0x0F010500, elems := 255, name := "CUT.OUTSIDE", ty := .blob, access := .ro, rdRole := .operator, wrRole := .operator, apply := .none, dflt := .computed, presence := .group },
   { base := 0x0F010600, elems := 255, name := "CUT.CHANNEL", ty := .blob, access := .ro, rdRole := .operator, wrRole := .operator, apply := .none, dflt := .computed, presence := .group },
   { base := 0x0F010700, name := "CUT.WF_BUILD", ty := .blob, access := .wo, rdRole := .operator, wrRole := .operator, apply := .immediate, dflt := .computed, size := 14, presence := .group },
   { base := 0x0F010800, name := "CUT.WF_AUTO", ty := .bool, access := .rw, rdRole := .observer, wrRole := .operator, apply := .staged, dflt := .num 0, presence := .group },
   { base := 0x0F010900, name := "CUT.WF_HOLD", ty := .u32, access := .rw, rdRole := .observer, wrRole := .engineer, apply := .staged, dflt := .num 50, lo := 1, hi := 10000, presence := .group },
   { base := 0x0F010A00, name := "CUT.WF_WAIT", ty := .u32, access := .rw, rdRole := .observer, wrRole := .engineer, apply := .staged, dflt := .num 1000, lo := 10, hi := 60000, presence := .group },
   { base := 0x0F010B00, elems := 16, name := "CUT.WF_MERGE", ty := .blob, access := .wo, rdRole := .operator, wrRole := .operator, apply := .immediate, dflt := .computed, presence := .group },
   { base := 0x0F010C00, name := "CUT.WF_GRAPH", ty := .blob, access := .ro, rdRole := .operator, wrRole := .operator, apply := .none, dflt := .computed, presence := .group },
   { base := 0x0F010D00, name := "CUT.WF_CYCLES", ty := .u64, access := .rc, rdRole := .operator, wrRole := .operator, apply := .immediate, dflt := .num 0, presence := .group }]

/-- Area 0x10, part 1. -/
def objsCell1 : List ObjRow :=
  [{ base := 0x10000000, elems := 52, name := "CELL.ROLE", ty := .enum8, access := .ro, rdRole := .observer, wrRole := .observer, apply := .none, dflt := .computed, presence := .group },
   { base := 0x10000100, name := "CELL.ACTIVE", ty := .u32, access := .ro, rdRole := .observer, wrRole := .observer, apply := .none, dflt := .computed, presence := .group },
   { base := 0x10000200, name := "CELL.CAPACITY", ty := .blob, access := .ro, rdRole := .observer, wrRole := .observer, apply := .none, dflt := .computed, presence := .group },
   { base := 0x10000300, elems := 52, name := "CELL.CONTEXTS", ty := .u32, access := .ro, rdRole := .operator, wrRole := .operator, apply := .none, dflt := .computed, presence := .group },
   { base := 0x10000400, elems := 52, name := "CELL.LOAD", ty := .u32, access := .ro, rdRole := .operator, wrRole := .operator, apply := .none, dflt := .computed, presence := .group },
   { base := 0x10000500, elems := 8, name := "CELL.INGEST_LOAD", ty := .u32, access := .ro, rdRole := .operator, wrRole := .operator, apply := .none, dflt := .computed, presence := .group },
   { base := 0x10000600, name := "CELL.SAT_FLAGS", ty := .u32, access := .ro, rdRole := .observer, wrRole := .observer, apply := .none, dflt := .computed, presence := .group },
   { base := 0x10000700, elems := 7, name := "CELL.SAT_EVENTS", ty := .u64, access := .rc, rdRole := .operator, wrRole := .operator, apply := .immediate, dflt := .num 0, presence := .group },
   { base := 0x10000800, name := "CELL.SAT_WINDOW", ty := .u32, access := .rw, rdRole := .observer, wrRole := .engineer, apply := .staged, dflt := .num 1000, lo := 100, hi := 100000, presence := .group },
   { base := 0x10010000, name := "FT.INTERVAL", ty := .u32, access := .rw, rdRole := .observer, wrRole := .engineer, apply := .staged, dflt := .num 24, lo := 1, hi := 720, presence := .group },
   { base := 0x10010100, name := "FT.MAX_DEFER", ty := .u32, access := .rw, rdRole := .observer, wrRole := .engineer, apply := .staged, dflt := .num 28800, lo := 600, hi := 172800, presence := .group },
   { base := 0x10010200, name := "FT.STATE", ty := .u32, access := .ro, rdRole := .observer, wrRole := .observer, apply := .none, dflt := .computed, presence := .group },
   { base := 0x10010300, elems := 52, name := "FT.LAST", ty := .blob, access := .ro, rdRole := .operator, wrRole := .operator, apply := .none, dflt := .computed, presence := .group },
   { base := 0x10010400, name := "FT.DEFERRED", ty := .u64, access := .rc, rdRole := .operator, wrRole := .operator, apply := .immediate, dflt := .num 0, presence := .group },
   { base := 0x10010500, name := "FT.RUN", ty := .u32, access := .wo, rdRole := .engineer, wrRole := .engineer, apply := .immediate, dflt := .computed, presence := .group },
   { base := 0x10010600, name := "FT.SHADOW_RATE", ty := .u32, access := .rw, rdRole := .observer, wrRole := .engineer, apply := .staged, dflt := .num 32, presence := .group },
   { base := 0x10010700, name := "FT.SHADOWED", ty := .u64, access := .rc, rdRole := .operator, wrRole := .operator, apply := .immediate, dflt := .num 0, presence := .group },
   { base := 0x10010800, name := "FT.SHADOW_SKIPPED", ty := .u64, access := .rc, rdRole := .operator, wrRole := .operator, apply := .immediate, dflt := .num 0, presence := .group },
   { base := 0x10010900, name := "FT.MISMATCHES", ty := .u64, access := .rc, rdRole := .operator, wrRole := .operator, apply := .immediate, dflt := .num 0, presence := .group },
   { base := 0x10010A00, name := "FT.UNRESOLVED", ty := .u64, access := .rc, rdRole := .operator, wrRole := .operator, apply := .immediate, dflt := .num 0, presence := .group }]

/-- Area 0x10, part 2. -/
def objsCell2 : List ObjRow :=
  [{ base := 0x10010B00, name := "FT.CORRECTED_LIMIT", ty := .u32, access := .rw, rdRole := .observer, wrRole := .engineer, apply := .staged, dflt := .num 3, lo := 1, hi := 100, presence := .group },
   { base := 0x10010C00, name := "FT.CORRECTED_WINDOW", ty := .u32, access := .rw, rdRole := .observer, wrRole := .engineer, apply := .staged, dflt := .num 72, lo := 1, hi := 720, presence := .group },
   { base := 0x10010D00, elems := 8, name := "FT.CHECK_COUNTS", ty := .u64, access := .rc, rdRole := .operator, wrRole := .operator, apply := .immediate, dflt := .num 0, presence := .group },
   { base := 0x10800000, name := "CELL.SPARE_INIT", ty := .u64, access := .rw, rdRole := .engineer, wrRole := .engineer, apply := .restart, dflt := .num 2252074725150720, presence := .group },
   { base := 0x10800100, elems := 4, name := "CELL.NOC_LOAD", ty := .u32, access := .ro, rdRole := .engineer, wrRole := .engineer, apply := .none, dflt := .computed, presence := .group },
   { base := 0x10810000, name := "FT.INJECT", ty := .u32, access := .wo, rdRole := .engineer, wrRole := .engineer, apply := .immediate, dflt := .computed, presence := .group }]

/-- Area 0x10. -/
def objsCell : List ObjRow := objsCell1 ++ objsCell2

/-- Area 0x11. -/
def objsReduce : List ObjRow :=
  [{ base := 0x11000000, name := "REDUCE.ACTIVE", ty := .u32, access := .ro, rdRole := .observer, wrRole := .observer, apply := .none, dflt := .computed, presence := .group },
   { base := 0x11000100, name := "REDUCE.KEY_KEEP", ty := .u32, access := .rw, rdRole := .observer, wrRole := .engineer, apply := .restart, dflt := .num 4096, lo := 256, hi := 16384, presence := .group },
   { base := 0x11000200, name := "REDUCE.OPEN_LIMIT", ty := .u32, access := .rw, rdRole := .observer, wrRole := .engineer, apply := .staged, dflt := .num 16, lo := 1, hi := 64, presence := .group },
   { base := 0x11000300, name := "REDUCE.DUPLICATES", ty := .u64, access := .rc, rdRole := .operator, wrRole := .operator, apply := .immediate, dflt := .num 0, presence := .group },
   { base := 0x11000400, name := "REDUCE.LATE", ty := .u64, access := .rc, rdRole := .operator, wrRole := .operator, apply := .immediate, dflt := .num 0, presence := .group },
   { base := 0x11000500, name := "REDUCE.TOO_LATE", ty := .u64, access := .rc, rdRole := .operator, wrRole := .operator, apply := .immediate, dflt := .num 0, presence := .group },
   { base := 0x11000600, name := "REDUCE.SHORT_CLOSES", ty := .u64, access := .rc, rdRole := .operator, wrRole := .operator, apply := .immediate, dflt := .num 0, presence := .group },
   { base := 0x11000700, name := "REDUCE.OVERFLOWS", ty := .u64, access := .rc, rdRole := .operator, wrRole := .operator, apply := .immediate, dflt := .num 0, presence := .group },
   { base := 0x11100001, count := 1024, named := true, name := "REDUCE.CTX descriptor", ty := .blob, access := .rw, rdRole := .observer, wrRole := .operator, apply := .staged, dflt := .bytes (List.replicate 64 0), size := 64, presence := .group },
   { base := 0x11100002, count := 1024, named := true, name := "REDUCE.CTX member mask", ty := .u128, access := .rw, rdRole := .observer, wrRole := .operator, apply := .staged, dflt := .plan, presence := .group },
   { base := 0x11100003, count := 1024, named := true, name := "REDUCE.CTX values", ty := .blob, access := .rw, rdRole := .observer, wrRole := .operator, apply := .staged, dflt := .bytes [], presence := .group },
   { base := 0x11100004, count := 1024, named := true, name := "REDUCE.CTX state", ty := .u32, access := .ro, rdRole := .observer, wrRole := .observer, apply := .none, dflt := .computed, presence := .group },
   { base := 0x11100005, count := 1024, named := true, name := "REDUCE.CTX last header", ty := .blob, access := .ro, rdRole := .operator, wrRole := .operator, apply := .none, dflt := .computed, presence := .group },
   { base := 0x11100006, count := 1024, named := true, name := "REDUCE.CTX results", ty := .u64, access := .rc, rdRole := .operator, wrRole := .operator, apply := .immediate, dflt := .num 0, presence := .group },
   { base := 0x11100007, count := 1024, named := true, name := "REDUCE.CTX corrections", ty := .u64, access := .rc, rdRole := .operator, wrRole := .operator, apply := .immediate, dflt := .num 0, presence := .group }]

/-- Area 0x12, part 1. -/
def objsAnvil1 : List ObjRow :=
  [{ base := 0x12000000, name := "ANVIL.SCORE_MAX_AGE", ty := .u32, access := .rw, rdRole := .observer, wrRole := .operator, apply := .staged, dflt := .num 50000, lo := 100, hi := 10000000, presence := .group },
   { base := 0x12000100, name := "ANVIL.QUEUE_LIMIT", ty := .u32, access := .rw, rdRole := .observer, wrRole := .engineer, apply := .staged, dflt := .num 1024, lo := 64, hi := 16384, presence := .group },
   { base := 0x12000200, name := "ANVIL.FEAT_OPEN_LIMIT", ty := .u32, access := .rw, rdRole := .observer, wrRole := .engineer, apply := .staged, dflt := .num 16, lo := 1, hi := 64, presence := .group },
   { base := 0x12000300, name := "ANVIL.MEMBER_RISK", ty := .blob, access := .ro, rdRole := .operator, wrRole := .operator, apply := .none, dflt := .computed, presence := .group },
   { base := 0x12010001, count := 256, named := true, name := "ANVIL.FEAT descriptor", ty := .blob, access := .rw, rdRole := .observer, wrRole := .operator, apply := .staged, dflt := .bytes (List.replicate 32 0), size := 32, presence := .group },
   { base := 0x12010002, count := 256, named := true, name := "ANVIL.FEAT member mask", ty := .u128, access := .rw, rdRole := .observer, wrRole := .operator, apply := .staged, dflt := .plan, presence := .group },
   { base := 0x12010003, count := 256, named := true, name := "ANVIL.FEAT slots", ty := .blob, access := .rw, rdRole := .observer, wrRole := .operator, apply := .staged, dflt := .bytes [], presence := .group },
   { base := 0x12010004, count := 256, named := true, name := "ANVIL.FEAT NaN arrivals", ty := .blob, access := .rc, rdRole := .operator, wrRole := .operator, apply := .immediate, dflt := .bytes (List.replicate 2048 0), presence := .group },
   { base := 0x12010005, count := 256, named := true, name := "ANVIL.FEAT vectors", ty := .u64, access := .rc, rdRole := .operator, wrRole := .operator, apply := .immediate, dflt := .num 0, presence := .group },
   { base := 0x12010006, count := 256, named := true, name := "ANVIL.FEAT partial", ty := .u64, access := .rc, rdRole := .operator, wrRole := .operator, apply := .immediate, dflt := .num 0, presence := .group },
   { base := 0x12010007, count := 256, named := true, name := "ANVIL.FEAT lost", ty := .u64, access := .rc, rdRole := .operator, wrRole := .operator, apply := .immediate, dflt := .num 0, presence := .group },
   { base := 0x12030001, count := 64, named := true, name := "ANVIL.MODEL load", ty := .blob, access := .wo, rdRole := .engineer, wrRole := .engineer, apply := .immediate, dflt := .computed, presence := .group },
   { base := 0x12030002, count := 64, named := true, name := "ANVIL.MODEL digest", ty := .blob, access := .rw, rdRole := .observer, wrRole := .engineer, apply := .staged, dflt := .bytes (List.replicate 32 0), size := 32, presence := .group },
   { base := 0x12030003, count := 64, named := true, name := "ANVIL.MODEL control", ty := .enum8, access := .wo, rdRole := .engineer, wrRole := .engineer, apply := .immediate, dflt := .computed, codes := [1, 2, 3], presence := .group },
   { base := 0x12030004, count := 64, named := true, name := "ANVIL.MODEL activate", ty := .u32, access := .rw, rdRole := .observer, wrRole := .operator, apply := .staged, dflt := .num 0, presence := .group },
   { base := 0x12030005, count := 64, named := true, name := "ANVIL.MODEL state", ty := .u32, access := .ro, rdRole := .observer, wrRole := .observer, apply := .none, dflt := .computed, presence := .group },
   { base := 0x12030006, count := 64, named := true, name := "ANVIL.MODEL info", ty := .blob, access := .ro, rdRole := .observer, wrRole := .observer, apply := .none, dflt := .computed, presence := .group },
   { base := 0x12030007, count := 64, named := true, name := "ANVIL.MODEL fault", ty := .u32, access := .ro, rdRole := .operator, wrRole := .operator, apply := .none, dflt := .computed, presence := .group },
   { base := 0x12030008, count := 64, named := true, name := "ANVIL.MODEL health", ty := .blob, access := .rw, rdRole := .observer, wrRole := .operator, apply := .staged, dflt := .bytes (List.replicate 16 0), size := 16, presence := .group },
   { base := 0x12030009, count := 64, named := true, name := "ANVIL.MODEL scored", ty := .u32, access := .ro, rdRole := .observer, wrRole := .observer, apply := .none, dflt := .computed, presence := .group }]

/-- Area 0x12, part 2. -/
def objsAnvil2 : List ObjRow :=
  [{ base := 0x1203000A, count := 64, named := true, name := "ANVIL.MODEL unscored", ty := .blob, access := .rc, rdRole := .operator, wrRole := .operator, apply := .immediate, dflt := .bytes (List.replicate 32 0), presence := .group },
   { base := 0x1203000B, count := 64, named := true, name := "ANVIL.MODEL scores", ty := .u64, access := .rc, rdRole := .operator, wrRole := .operator, apply := .immediate, dflt := .num 0, presence := .group },
   { base := 0x12800000, elems := 52, name := "ANVIL.NODE_STEPS", ty := .u64, access := .rc, rdRole := .engineer, wrRole := .engineer, apply := .immediate, dflt := .num 0, presence := .group }]

/-- Area 0x12. -/
def objsAnvil : List ObjRow := objsAnvil1 ++ objsAnvil2

/-- Area 0x13. -/
def objsDrift : List ObjRow :=
  [{ base := 0x13000000, name := "DRIFT.HALF_LIFE", ty := .u32, access := .rw, rdRole := .observer, wrRole := .operator, apply := .staged, dflt := .num 3600, lo := 60, hi := 604800, presence := .group },
   { base := 0x13000100, name := "DRIFT.SKIPPED", ty := .u64, access := .rc, rdRole := .operator, wrRole := .operator, apply := .immediate, dflt := .num 0, presence := .group },
   { base := 0x13000200, name := "DRIFT.MEMBER_RISK", ty := .blob, access := .ro, rdRole := .operator, wrRole := .operator, apply := .none, dflt := .computed, presence := .group },
   { base := 0x13000300, name := "DRIFT.STREAMS", ty := .u32, access := .ro, rdRole := .observer, wrRole := .observer, apply := .none, dflt := .computed, presence := .group },
   { base := 0x13000400, name := "DRIFT.RESET", ty := .u32, access := .wo, rdRole := .operator, wrRole := .operator, apply := .immediate, dflt := .computed, presence := .group },
   { base := 0x13010001, count := 256, named := true, name := "DRIFT.SET streams", ty := .blob, access := .rw, rdRole := .observer, wrRole := .operator, apply := .staged, dflt := .bytes [], presence := .group },
   { base := 0x13010002, count := 256, named := true, name := "DRIFT.SET alarms", ty := .u64, access := .rc, rdRole := .operator, wrRole := .operator, apply := .immediate, dflt := .num 0, presence := .group },
   { base := 0x13010003, count := 256, named := true, name := "DRIFT.SET updates", ty := .u64, access := .rc, rdRole := .operator, wrRole := .operator, apply := .immediate, dflt := .num 0, presence := .group }]

/-- Area 0x14, part 1. -/
def objsFence1 : List ObjRow :=
  [{ base := 0x14000000, name := "FENCE.THRESHOLD", ty := .f32, access := .rw, rdRole := .observer, wrRole := .operator, apply := .staged, dflt := .num 1045220557, presence := .group },
   { base := 0x14000100, name := "FENCE.KIND_THRESHOLD", ty := .f32, access := .rw, rdRole := .observer, wrRole := .operator, apply := .staged, dflt := .num 1056964608, presence := .group },
   { base := 0x14000200, name := "FENCE.AUTO", ty := .bool, access := .rw, rdRole := .observer, wrRole := .operator, apply := .staged, dflt := .num 1, presence := .tray },
   { base := 0x14000300, name := "FENCE.BUDGET", ty := .u32, access := .rw, rdRole := .observer, wrRole := .custodian, apply := .staged, dflt := .computed, lo := 0, hi := 1000, presence := .group },
   { base := 0x14000400, name := "FENCE.PERIOD", ty := .u32, access := .rw, rdRole := .observer, wrRole := .custodian, apply := .staged, dflt := .num 86400, lo := 3600, hi := 2592000, presence := .group },
   { base := 0x14000500, name := "FENCE.TOKENS", ty := .fx64, access := .ro, rdRole := .observer, wrRole := .observer, apply := .none, dflt := .computed, presence := .group },
   { base := 0x14000600, name := "FENCE.EXHAUSTIONS", ty := .blob, access := .ro, rdRole := .operator, wrRole := .operator, apply := .none, dflt := .computed, presence := .group },
   { base := 0x14000700, name := "FENCE.SUSPICION", ty := .enum8, access := .rw, rdRole := .observer, wrRole := .operator, apply := .immediate, dflt := .num 0, codes := [0, 1, 2], presence := .group },
   { base := 0x14000800, name := "FENCE.GRANT_TIMEOUT", ty := .u32, access := .rw, rdRole := .observer, wrRole := .engineer, apply := .staged, dflt := .num 5000, lo := 100, hi := 1000000, presence := .group },
   { base := 0x14000900, name := "FENCE.HEALTH", ty := .blob, access := .ro, rdRole := .operator, wrRole := .operator, apply := .none, dflt := .computed, presence := .group },
   { base := 0x14000A00, name := "FENCE.VOTE_RISK", ty := .blob, access := .ro, rdRole := .operator, wrRole := .operator, apply := .none, dflt := .computed, presence := .group },
   { base := 0x14000B00, name := "FENCE.HISTORY_RISK", ty := .blob, access := .ro, rdRole := .operator, wrRole := .operator, apply := .none, dflt := .computed, presence := .group },
   { base := 0x14000C00, name := "FENCE.FENCED", ty := .u128, access := .ro, rdRole := .observer, wrRole := .observer, apply := .none, dflt := .computed, presence := .group },
   { base := 0x14000D00, name := "FENCE.RELEASE", ty := .u32, access := .wo, rdRole := .operator, wrRole := .operator, apply := .immediate, dflt := .computed, presence := .group },
   { base := 0x14000E00, name := "FENCE.FORCE", ty := .u32, access := .wo, rdRole := .engineer, wrRole := .engineer, apply := .immediate, dflt := .computed, presence := .group },
   { base := 0x14000F00, elems := 255, name := "FENCE.DECISIONS", ty := .blob, access := .ro, rdRole := .operator, wrRole := .operator, apply := .none, dflt := .computed, presence := .group },
   { base := 0x14001000, name := "FENCE.HELD", ty := .u64, access := .rc, rdRole := .operator, wrRole := .operator, apply := .immediate, dflt := .num 0, presence := .group },
   { base := 0x14001100, name := "FENCE.NO_TOKEN", ty := .u64, access := .rc, rdRole := .operator, wrRole := .operator, apply := .immediate, dflt := .num 0, presence := .group },
   { base := 0x14001200, elems := 64, used := some 0, name := "FENCE.VOTE", ty := .blob, access := .rw, rdRole := .observer, wrRole := .operator, apply := .staged, dflt := .bytes (List.replicate 16 0), size := 16, presence := .group },
   { base := 0x14001300, name := "FENCE.VOTE_HALF_LIFE", ty := .u32, access := .rw, rdRole := .observer, wrRole := .operator, apply := .staged, dflt := .num 3600, lo := 60, hi := 604800, presence := .group }]

/-- Area 0x14, part 2. -/
def objsFence2 : List ObjRow :=
  [{ base := 0x14001400, elems := 32, name := "FENCE.KAT_REQUEST", ty := .blob, access := .ro, rdRole := .observer, wrRole := .observer, apply := .none, dflt := .computed, presence := .group },
   { base := 0x14001500, elems := 2, name := "FENCE.KAT_RESULT", ty := .u64, access := .wo, rdRole := .operator, wrRole := .operator, apply := .immediate, dflt := .computed, presence := .group },
   { base := 0x14001600, name := "FENCE.KAT_TIMEOUT", ty := .u32, access := .rw, rdRole := .observer, wrRole := .operator, apply := .staged, dflt := .num 600, lo := 10, hi := 86400, presence := .group },
   { base := 0x14001700, name := "FENCE.VOTES", ty := .u64, access := .rc, rdRole := .operator, wrRole := .operator, apply := .immediate, dflt := .num 0, presence := .group },
   { base := 0x14001800, name := "FENCE.EVAL_INTERVAL", ty := .u32, access := .rw, rdRole := .observer, wrRole := .engineer, apply := .staged, dflt := .num 1000, lo := 10, hi := 60000, presence := .group },
   { base := 0x14001900, name := "FENCE.H_COALESCE", ty := .u32, access := .rw, rdRole := .observer, wrRole := .engineer, apply := .staged, dflt := .num 60, lo := 1, hi := 3600, presence := .group },
   { base := 0x14001A00, name := "FENCE.LOCKSTEP_ERRORS", ty := .u64, access := .rc, rdRole := .operator, wrRole := .operator, apply := .immediate, dflt := .num 0, presence := .group },
   { base := 0x14001B00, name := "FENCE.VOTE_TIMEOUT_DEFAULT", ty := .u32, access := .rw, rdRole := .observer, wrRole := .engineer, apply := .staged, dflt := .num 50000, lo := 100, hi := 10000000, presence := .group },
   { base := 0x14001C00, name := "FENCE.EXCHANGE_FAILS", ty := .u64, access := .rc, rdRole := .operator, wrRole := .operator, apply := .immediate, dflt := .num 0, presence := .group }]

/-- Area 0x14. -/
def objsFence : List ObjRow := objsFence1 ++ objsFence2

/-- Area 0x15, part 1. -/
def objsJet1 : List ObjRow :=
  [{ base := 0x15001000, elems := 64, name := "JET.PROFILE", ty := .blob, access := .rw, rdRole := .observer, wrRole := .operator, apply := .staged, dflt := .each [leBytes 2 256 ++ leBytes 2 0xFFFF ++ leBytes 4 16777216 ++ leBytes 8 0, leBytes 2 128 ++ leBytes 2 0xFFFF ++ leBytes 4 16777216 ++ leBytes 8 0, leBytes 2 32 ++ leBytes 2 0xFFFF ++ leBytes 4 16777216 ++ leBytes 8 0, leBytes 2 128 ++ leBytes 2 0xFFFF ++ leBytes 4 16777216 ++ leBytes 8 0], size := 16, presence := .group },
   { base := 0x15001100, elems := 255, used := some 0, name := "JET.STEER", ty := .blob, access := .rw, rdRole := .observer, wrRole := .operator, apply := .staged, dflt := .bytes (List.replicate 16 0), size := 16, presence := .group },
   { base := 0x15001200, elems := 32, used := some 0, name := "JET.GCL_ADMIN", ty := .blob, access := .rw, rdRole := .observer, wrRole := .operator, apply := .staged, dflt := .bytes [], presence := .group },
   { base := 0x15001300, elems := 32, name := "JET.GCL_OPER", ty := .blob, access := .ro, rdRole := .observer, wrRole := .observer, apply := .none, dflt := .computed, presence := .group },
   { base := 0x15001400, name := "JET.FRAME_RECORDS", ty := .u32, access := .rw, rdRole := .observer, wrRole := .engineer, apply := .staged, dflt := .num 140, lo := 1, hi := 140, presence := .group },
   { base := 0x15001500, name := "JET.A_FRAME_RECORDS", ty := .u32, access := .rw, rdRole := .observer, wrRole := .engineer, apply := .staged, dflt := .num 16, lo := 1, hi := 140, presence := .group },
   { base := 0x15001600, name := "JET.A_POLICE_RATE", ty := .u32, access := .rw, rdRole := .observer, wrRole := .engineer, apply := .staged, dflt := .num 20000, lo := 1, hi := 1000000, presence := .group },
   { base := 0x15001700, name := "JET.A_POLICE_BURST", ty := .u32, access := .rw, rdRole := .observer, wrRole := .engineer, apply := .staged, dflt := .num 128, lo := 1, hi := 4096, presence := .group },
   { base := 0x15001800, name := "JET.QUEUE_LIMIT", ty := .u64, access := .rw, rdRole := .observer, wrRole := .engineer, apply := .staged, dflt := .num 1073741824, lo := 1048576, hi := 17179869184, presence := .group },
   { base := 0x15001900, name := "JET.SUB_QUANTUM", ty := .u32, access := .rw, rdRole := .observer, wrRole := .operator, apply := .staged, dflt := .num 256, lo := 1, hi := 65535, presence := .group },
   { base := 0x15001A00, name := "JET.SUB_IDLE", ty := .u32, access := .rw, rdRole := .observer, wrRole := .engineer, apply := .staged, dflt := .num 10000, lo := 100, hi := 3600000, presence := .group },
   { base := 0x15001B00, name := "JET.INGEST_ST", ty := .u32, access := .rw, rdRole := .observer, wrRole := .engineer, apply := .staged, dflt := .num 1025, presence := .group },
   { base := 0x15001C00, name := "JET.SKY_WINDOW", ty := .u32, access := .rw, rdRole := .observer, wrRole := .engineer, apply := .restart, dflt := .num 8192, lo := 512, hi := 65536, presence := .group },
   { base := 0x15002000, name := "JET.UNSTEERED", ty := .u64, access := .rc, rdRole := .operator, wrRole := .operator, apply := .immediate, dflt := .num 0, presence := .group },
   { base := 0x15002100, name := "JET.A_POLICED", ty := .u64, access := .rc, rdRole := .operator, wrRole := .operator, apply := .immediate, dflt := .num 0, presence := .group },
   { base := 0x15002200, elems := 4, name := "JET.QUEUE_DROPS", ty := .u64, access := .rc, rdRole := .operator, wrRole := .operator, apply := .immediate, dflt := .num 0, presence := .group },
   { base := 0x15002300, name := "JET.SUB_OVERFLOW", ty := .u64, access := .rc, rdRole := .operator, wrRole := .operator, apply := .immediate, dflt := .num 0, presence := .group },
   { base := 0x15002400, elems := 32, name := "JET.PORT_BYTES", ty := .u64, access := .rc, rdRole := .operator, wrRole := .operator, apply := .immediate, dflt := .num 0, presence := .group },
   { base := 0x15002500, elems := 8, name := "JET.INGEST_RECORDS", ty := .u64, access := .rc, rdRole := .operator, wrRole := .operator, apply := .immediate, dflt := .num 0, presence := .group },
   { base := 0x15010000, count := 16, elems := 128, name := "JET.SUB", ty := .blob, access := .rw, rdRole := .operator, wrRole := .operator, apply := .staged, dflt := .bytes (List.replicate 16 0), size := 16, presence := .group }]

/-- Area 0x15, part 2. -/
def objsJet2 : List ObjRow :=
  [{ base := 0x15800000, elems := 32, name := "JET.QUEUE_BYTES", ty := .u64, access := .ro, rdRole := .engineer, wrRole := .engineer, apply := .none, dflt := .computed, presence := .group }]

/-- Area 0x15. -/
def objsJet : List ObjRow := objsJet1 ++ objsJet2

/-- Area 0x16, part 1. -/
def objsHorizon1 : List ObjRow :=
  [{ base := 0x16000000, name := "HORIZON.PLAN_HEADER", ty := .blob, access := .rw, rdRole := .observer, wrRole := .operator, apply := .staged, dflt := .plan, size := 64, presence := .group },
   { base := 0x16000100, elems := 128, name := "HORIZON.PLAN_MEMBER", ty := .blob, access := .rw, rdRole := .observer, wrRole := .operator, apply := .staged, dflt := .bytes (List.replicate 32 0), size := 32, presence := .group },
   { base := 0x16000200, name := "HORIZON.VALID", ty := .bool, access := .ro, rdRole := .observer, wrRole := .observer, apply := .none, dflt := .computed, presence := .group },
   { base := 0x16000300, name := "HORIZON.PRESENT", ty := .u32, access := .ro, rdRole := .observer, wrRole := .observer, apply := .none, dflt := .computed, presence := .group },
   { base := 0x16000400, elems := 128, name := "HORIZON.MEMBER_STATE", ty := .enum8, access := .ro, rdRole := .observer, wrRole := .observer, apply := .none, dflt := .computed, presence := .group },
   { base := 0x16000500, name := "HORIZON.ROSTER_USED", ty := .u32, access := .ro, rdRole := .observer, wrRole := .observer, apply := .none, dflt := .computed, presence := .group },
   { base := 0x16000600, name := "HORIZON.ADOPT", ty := .u32, access := .wo, rdRole := .operator, wrRole := .operator, apply := .immediate, dflt := .computed, presence := .group },
   { base := 0x16000700, name := "HORIZON.SWAP_POLICY", ty := .enum8, access := .rw, rdRole := .observer, wrRole := .operator, apply := .staged, dflt := .num 1, codes := [0, 1], presence := .group },
   { base := 0x16000800, name := "HORIZON.DISCOVERY_WAIT", ty := .u32, access := .rw, rdRole := .observer, wrRole := .engineer, apply := .staged, dflt := .num 30000, lo := 100, hi := 600000, presence := .group },
   { base := 0x16000900, name := "HORIZON.ABSENT_AFTER", ty := .u32, access := .rw, rdRole := .observer, wrRole := .engineer, apply := .staged, dflt := .num 2000, lo := 50, hi := 600000, presence := .group },
   { base := 0x16000A00, name := "HORIZON.PROBATION_STEPS", ty := .u32, access := .rw, rdRole := .observer, wrRole := .operator, apply := .staged, dflt := .num 64, lo := 0, hi := 65535, presence := .group },
   { base := 0x16000B00, name := "HORIZON.PROBATION_TIME", ty := .u32, access := .rw, rdRole := .observer, wrRole := .operator, apply := .staged, dflt := .num 600, lo := 0, hi := 86400, presence := .group },
   { base := 0x16000C00, name := "HORIZON.END_PROBATION", ty := .u32, access := .wo, rdRole := .engineer, wrRole := .engineer, apply := .immediate, dflt := .computed, presence := .group },
   { base := 0x16000D00, elems := 64, name := "HORIZON.SWAPS", ty := .u32, access := .ro, rdRole := .operator, wrRole := .operator, apply := .none, dflt := .computed, presence := .group },
   { base := 0x16000E00, name := "HORIZON.REFUSED", ty := .u64, access := .rc, rdRole := .operator, wrRole := .operator, apply := .immediate, dflt := .num 0, presence := .group },
   { base := 0x16000F00, name := "HORIZON.EXCESS_RECORDS", ty := .u64, access := .rc, rdRole := .operator, wrRole := .operator, apply := .immediate, dflt := .num 0, presence := .group },
   { base := 0x16010000, elems := 255, used := some 0, name := "HORIZON.COMM_DEF", ty := .blob, access := .rw, rdRole := .observer, wrRole := .operator, apply := .staged, dflt := .bytes [], presence := .group },
   { base := 0x16010100, elems := 255, name := "HORIZON.COMM_CAPTURE", ty := .blob, access := .ro, rdRole := .observer, wrRole := .observer, apply := .none, dflt := .computed, presence := .group },
   { base := 0x16010200, name := "HORIZON.CAPTURE_KEEP", ty := .u32, access := .rw, rdRole := .observer, wrRole := .operator, apply := .staged, dflt := .num 8, lo := 1, hi := 32, presence := .group },
   { base := 0x16010300, name := "HORIZON.COMM_BYTES", ty := .u32, access := .ro, rdRole := .observer, wrRole := .observer, apply := .none, dflt := .computed, presence := .group }]

/-- Area 0x16, part 2. -/
def objsHorizon2 : List ObjRow :=
  [{ base := 0x16100000, count := 512, elems := 128, name := "HORIZON.ROSTER", ty := .blob, access := .ro, rdRole := .operator, wrRole := .operator, apply := .none, dflt := .computed, presence := .group }]

/-- Area 0x16. -/
def objsHorizon : List ObjRow := objsHorizon1 ++ objsHorizon2

/-- Area 0x17. -/
def objsSundog : List ObjRow :=
  [{ base := 0x17000000, name := "SUNDOG.STATE", ty := .enum8, access := .ro, rdRole := .observer, wrRole := .observer, apply := .none, dflt := .computed, presence := .group },
   { base := 0x17000100, name := "SUNDOG.PARTNER", ty := .blob, access := .ro, rdRole := .observer, wrRole := .observer, apply := .none, dflt := .computed, presence := .group },
   { base := 0x17000200, name := "SUNDOG.FEED", ty := .u32, access := .ro, rdRole := .observer, wrRole := .observer, apply := .none, dflt := .plan, presence := .group },
   { base := 0x17000300, name := "SUNDOG.CO_FED", ty := .bool, access := .ro, rdRole := .observer, wrRole := .observer, apply := .none, dflt := .computed, presence := .group },
   { base := 0x17000400, name := "SUNDOG.JOURNAL_SEQ", ty := .u64, access := .ro, rdRole := .observer, wrRole := .observer, apply := .none, dflt := .computed, presence := .group },
   { base := 0x17000500, name := "SUNDOG.LAG_BYTES", ty := .u64, access := .ro, rdRole := .observer, wrRole := .observer, apply := .none, dflt := .computed, presence := .group },
   { base := 0x17000600, name := "SUNDOG.LAG_NS", ty := .u64, access := .ro, rdRole := .observer, wrRole := .observer, apply := .none, dflt := .computed, presence := .group },
   { base := 0x17000700, elems := 2, name := "SUNDOG.CUT_LAG", ty := .blob, access := .ro, rdRole := .observer, wrRole := .observer, apply := .none, dflt := .computed, presence := .group },
   { base := 0x17000800, name := "SUNDOG.SNAPSHOT_INTERVAL", ty := .u32, access := .rw, rdRole := .observer, wrRole := .operator, apply := .staged, dflt := .num 3600, lo := 300, hi := 86400, presence := .group },
   { base := 0x17000900, name := "SUNDOG.SNAPSHOT_INTERVAL_COFED", ty := .u32, access := .rw, rdRole := .observer, wrRole := .operator, apply := .staged, dflt := .num 300, lo := 60, hi := 3600, presence := .group },
   { base := 0x17000A00, name := "SUNDOG.LAST_SNAPSHOT", ty := .time80, access := .ro, rdRole := .observer, wrRole := .observer, apply := .none, dflt := .computed, presence := .group },
   { base := 0x17000B00, name := "SUNDOG.SNAPSHOTS_HELD", ty := .u32, access := .ro, rdRole := .operator, wrRole := .operator, apply := .none, dflt := .computed, presence := .group },
   { base := 0x17000C00, name := "SUNDOG.TAKEOVER_HOLD", ty := .u32, access := .rw, rdRole := .observer, wrRole := .engineer, apply := .staged, dflt := .num 50000, lo := 1000, hi := 10000000, presence := .group },
   { base := 0x17000D00, name := "SUNDOG.TAKEOVER", ty := .u32, access := .wo, rdRole := .custodian, wrRole := .custodian, apply := .immediate, dflt := .computed, presence := .group },
   { base := 0x17000E00, name := "SUNDOG.HOSTING", ty := .u32, access := .ro, rdRole := .observer, wrRole := .observer, apply := .none, dflt := .computed, presence := .group },
   { base := 0x17000F00, name := "SUNDOG.REFILL", ty := .blob, access := .ro, rdRole := .observer, wrRole := .observer, apply := .none, dflt := .computed, presence := .group },
   { base := 0x17001000, elems := 16, name := "SUNDOG.GAPS", ty := .blob, access := .ro, rdRole := .operator, wrRole := .operator, apply := .none, dflt := .computed, presence := .group },
   { base := 0x17001100, name := "SUNDOG.DURABLE_BYTES", ty := .u64, access := .ro, rdRole := .observer, wrRole := .observer, apply := .none, dflt := .computed, presence := .group },
   { base := 0x17001200, name := "SUNDOG.BULK_BYTES", ty := .u64, access := .ro, rdRole := .observer, wrRole := .observer, apply := .none, dflt := .computed, presence := .group },
   { base := 0x17001300, name := "SUNDOG.AUTH_FAILS", ty := .u64, access := .rc, rdRole := .operator, wrRole := .operator, apply := .immediate, dflt := .num 0, presence := .group }]

/-- Area 0x18. -/
def objsCadence : List ObjRow :=
  [{ base := 0x18000000, elems := 64, used := some 0, name := "CADENCE.JOB", ty := .blob, access := .rw, rdRole := .observer, wrRole := .observer, apply := .staged, dflt := .bytes (List.replicate 32 0), size := 32, presence := .group },
   { base := 0x18000100, elems := 64, name := "CADENCE.STATE", ty := .blob, access := .ro, rdRole := .observer, wrRole := .observer, apply := .none, dflt := .computed, presence := .group },
   { base := 0x18000200, elems := 64, name := "CADENCE.REQUEST", ty := .blob, access := .ro, rdRole := .observer, wrRole := .observer, apply := .none, dflt := .computed, presence := .group },
   { base := 0x18000300, name := "CADENCE.ACK", ty := .u32, access := .wo, rdRole := .observer, wrRole := .observer, apply := .immediate, dflt := .computed, presence := .group },
   { base := 0x18000400, name := "CADENCE.INTERRUPT", ty := .u32, access := .wo, rdRole := .observer, wrRole := .observer, apply := .immediate, dflt := .computed, presence := .group },
   { base := 0x18000500, name := "CADENCE.CKPT_DONE", ty := .blob, access := .wo, rdRole := .observer, wrRole := .observer, apply := .immediate, dflt := .computed, size := 12, presence := .group },
   { base := 0x18000600, name := "CADENCE.HALF_LIFE", ty := .u32, access := .rw, rdRole := .observer, wrRole := .operator, apply := .staged, dflt := .num 604800, lo := 86400, hi := 7776000, presence := .group },
   { base := 0x18000700, name := "CADENCE.PRIOR_MTBI", ty := .u32, access := .rw, rdRole := .observer, wrRole := .operator, apply := .staged, dflt := .num 86400, lo := 600, hi := 31536000, presence := .group },
   { base := 0x18000800, name := "CADENCE.MIN_INTERVAL", ty := .u32, access := .rw, rdRole := .observer, wrRole := .operator, apply := .staged, dflt := .num 60, lo := 1, hi := 86400, presence := .group },
   { base := 0x18000900, name := "CADENCE.MAX_INTERVAL", ty := .u32, access := .rw, rdRole := .observer, wrRole := .operator, apply := .staged, dflt := .num 86400, lo := 60, hi := 604800, presence := .group },
   { base := 0x18000A00, name := "CADENCE.UPDATE", ty := .u32, access := .rw, rdRole := .observer, wrRole := .operator, apply := .staged, dflt := .num 60, lo := 1, hi := 3600, presence := .group },
   { base := 0x18000B00, name := "CADENCE.COALESCE", ty := .u32, access := .rw, rdRole := .observer, wrRole := .operator, apply := .staged, dflt := .num 600, lo := 0, hi := 86400, presence := .group },
   { base := 0x18000C00, name := "CADENCE.RISK_HYST", ty := .f32, access := .rw, rdRole := .observer, wrRole := .operator, apply := .staged, dflt := .num 1028443341, presence := .group },
   { base := 0x18000D00, name := "CADENCE.RISK_HOLDOFF", ty := .u32, access := .rw, rdRole := .observer, wrRole := .operator, apply := .staged, dflt := .num 600, lo := 0, hi := 86400, presence := .group },
   { base := 0x18000E00, name := "CADENCE.REQ_DROPS", ty := .u64, access := .rc, rdRole := .operator, wrRole := .operator, apply := .immediate, dflt := .num 0, presence := .group }]

/-- Area 0x19. -/
def objsCondense : List ObjRow :=
  [{ base := 0x19000000, name := "CONDENSE.GATHER", ty := .u32, access := .rw, rdRole := .observer, wrRole := .operator, apply := .staged, dflt := .num 20, lo := 0, hi := 1000, presence := .group },
   { base := 0x19000100, name := "CONDENSE.OUT_LIMIT", ty := .u32, access := .rw, rdRole := .observer, wrRole := .engineer, apply := .staged, dflt := .num 8960, lo := 64, hi := 8960, presence := .group },
   { base := 0x19000200, name := "CONDENSE.DECODE_IDLE", ty := .u32, access := .rw, rdRole := .observer, wrRole := .engineer, apply := .staged, dflt := .num 60000, lo := 2000, hi := 3600000, presence := .group },
   { base := 0x19000300, name := "CONDENSE.IDLE_RESET", ty := .u32, access := .rw, rdRole := .observer, wrRole := .engineer, apply := .staged, dflt := .num 30000, lo := 1000, hi := 1800000, presence := .group },
   { base := 0x19000400, name := "CONDENSE.IN_USE", ty := .u32, access := .ro, rdRole := .observer, wrRole := .observer, apply := .none, dflt := .computed, presence := .group },
   { base := 0x19000500, name := "CONDENSE.RAW_FRAMES", ty := .u64, access := .rc, rdRole := .operator, wrRole := .operator, apply := .immediate, dflt := .num 0, presence := .group },
   { base := 0x19000600, name := "CONDENSE.RESETS", ty := .u64, access := .rc, rdRole := .operator, wrRole := .operator, apply := .immediate, dflt := .num 0, presence := .group },
   { base := 0x19000700, elems := 8, name := "CONDENSE.DECODE_ERRORS", ty := .u64, access := .rc, rdRole := .operator, wrRole := .operator, apply := .immediate, dflt := .num 0, presence := .group },
   { base := 0x19000800, name := "CONDENSE.DUPLICATES", ty := .u64, access := .rc, rdRole := .operator, wrRole := .operator, apply := .immediate, dflt := .num 0, presence := .group },
   { base := 0x19000900, name := "CONDENSE.NO_CONTEXT", ty := .u64, access := .rc, rdRole := .operator, wrRole := .operator, apply := .immediate, dflt := .num 0, presence := .group },
   { base := 0x19100001, count := 4096, named := true, name := "CONDENSE.CTX settings", ty := .u32, access := .rw, rdRole := .observer, wrRole := .operator, apply := .staged, dflt := .num 16777222, presence := .group },
   { base := 0x19100002, count := 4096, named := true, name := "CONDENSE.CTX state", ty := .u64, access := .ro, rdRole := .observer, wrRole := .observer, apply := .none, dflt := .computed, presence := .group },
   { base := 0x19100003, count := 4096, named := true, name := "CONDENSE.CTX reset", ty := .bool, access := .wo, rdRole := .operator, wrRole := .operator, apply := .immediate, dflt := .computed, presence := .group },
   { base := 0x19100004, count := 4096, named := true, name := "CONDENSE.CTX bytes in", ty := .u64, access := .rc, rdRole := .operator, wrRole := .operator, apply := .immediate, dflt := .num 0, presence := .group },
   { base := 0x19100005, count := 4096, named := true, name := "CONDENSE.CTX bytes out", ty := .u64, access := .rc, rdRole := .operator, wrRole := .operator, apply := .immediate, dflt := .num 0, presence := .group },
   { base := 0x19800000, elems := 8, name := "CONDENSE.ENGINE_LOAD", ty := .u32, access := .ro, rdRole := .engineer, wrRole := .engineer, apply := .none, dflt := .computed, presence := .group }]

/-- Area 0x1A. -/
def objsAlmanac : List ObjRow :=
  [{ base := 0x1A000000, name := "ALMANAC.COUNT", ty := .u32, access := .ro, rdRole := .observer, wrRole := .observer, apply := .none, dflt := .computed, presence := .group },
   { base := 0x1A000100, name := "ALMANAC.REFUSED", ty := .u64, access := .ro, rdRole := .operator, wrRole := .operator, apply := .none, dflt := .computed, presence := .group },
   { base := 0x1A000200, name := "ALMANAC.CLEAR", ty := .u32, access := .wo, rdRole := .custodian, wrRole := .custodian, apply := .immediate, dflt := .computed, presence := .group },
   { base := 0x1A000300, name := "ALMANAC.RECORD_MASK", ty := .u64, access := .rw, rdRole := .observer, wrRole := .custodian, apply := .staged, dflt := .num 18446744073709551615, presence := .group },
   { base := 0x1A000400, name := "ALMANAC.HOURS", ty := .u32, access := .ro, rdRole := .observer, wrRole := .observer, apply := .none, dflt := .computed, presence := .group },
   { base := 0x1A000500, name := "ALMANAC.POWER_CYCLES", ty := .u32, access := .ro, rdRole := .observer, wrRole := .observer, apply := .none, dflt := .computed, presence := .group },
   { base := 0x1A000600, name := "ALMANAC.CORRUPT", ty := .u64, access := .rc, rdRole := .operator, wrRole := .operator, apply := .immediate, dflt := .num 0, presence := .group },
   { base := 0x1A000700, name := "ALMANAC.HISTORY_REFUSED", ty := .u64, access := .rc, rdRole := .operator, wrRole := .operator, apply := .immediate, dflt := .num 0, presence := .group },
   { base := 0x1A100000, count := 1478, elems := 255, name := "ALMANAC.ENTRY", ty := .blob, access := .ro, rdRole := .operator, wrRole := .operator, apply := .none, dflt := .computed, presence := .group },
   { base := 0x1A200000, count := 512, elems := 128, name := "ALMANAC.HISTORY", ty := .blob, access := .ro, rdRole := .operator, wrRole := .operator, apply := .none, dflt := .computed, presence := .group }]

/-- Area 0x1B. -/
def objsFw : List ObjRow :=
  [{ base := 0x1B000000, name := "FW.RUNNING", ty := .blob, access := .ro, rdRole := .observer, wrRole := .observer, apply := .none, dflt := .computed, presence := .group },
   { base := 0x1B000100, name := "FW.FLASH", ty := .blob, access := .ro, rdRole := .observer, wrRole := .observer, apply := .none, dflt := .computed, presence := .group },
   { base := 0x1B000200, name := "FW.LOAD", ty := .blob, access := .wo, rdRole := .engineer, wrRole := .engineer, apply := .immediate, dflt := .computed, presence := .group },
   { base := 0x1B000300, name := "FW.CTRL", ty := .enum8, access := .wo, rdRole := .engineer, wrRole := .engineer, apply := .immediate, dflt := .computed, codes := [1, 2, 3, 4], presence := .group },
   { base := 0x1B000400, name := "FW.STAGE_STATE", ty := .enum8, access := .ro, rdRole := .observer, wrRole := .observer, apply := .none, dflt := .computed, presence := .group },
   { base := 0x1B000500, name := "FW.STAGE_FAULT", ty := .u32, access := .ro, rdRole := .operator, wrRole := .operator, apply := .none, dflt := .computed, presence := .group },
   { base := 0x1B000600, name := "FW.ACTIVATE", ty := .u32, access := .rw, rdRole := .observer, wrRole := .engineer, apply := .staged, dflt := .num 0, presence := .group },
   { base := 0x1B000700, name := "FW.ACTIVATE_FORCE", ty := .bool, access := .rw, rdRole := .observer, wrRole := .engineer, apply := .staged, dflt := .num 0, presence := .group },
   { base := 0x1B000800, name := "FW.MIN_SVN", ty := .u32, access := .rw, rdRole := .observer, wrRole := .custodian, apply := .restart, dflt := .num 0, presence := .group },
   { base := 0x1B000900, name := "FW.KEY_REVOKE", ty := .bool, access := .wo, rdRole := .custodian, wrRole := .custodian, apply := .immediate, dflt := .computed, presence := .group },
   { base := 0x1B000A00, name := "FW.RECOVERY_HOST", ty := .blob, access := .rw, rdRole := .observer, wrRole := .engineer, apply := .restart, dflt := .bytes (List.replicate 16 0), size := 16, presence := .group },
   { base := 0x1B000B00, name := "FW.IMAGE_HEADER", ty := .blob, access := .ro, rdRole := .observer, wrRole := .observer, apply := .none, dflt := .computed, presence := .group },
   { base := 0x1B000C00, name := "FW.RECOVERIES", ty := .u64, access := .ro, rdRole := .operator, wrRole := .operator, apply := .none, dflt := .computed, presence := .group },
   { base := 0x1B400000, count := 264, elems := 255, name := "FW.CHUNK", ty := .blob, access := .ro, rdRole := .observer, wrRole := .observer, apply := .none, dflt := .computed, presence := .group }]

/-- Area 0x1C. -/
def objsVantage : List ObjRow :=
  [{ base := 0x1C000000, elems := 16, name := "VANTAGE.SUB", ty := .blob, access := .rw, rdRole := .observer, wrRole := .operator, apply := .staged, dflt := .bytes (List.replicate 16 0), size := 16, presence := .group },
   { base := 0x1C000100, name := "VANTAGE.MERGE_WINDOW", ty := .u32, access := .rw, rdRole := .observer, wrRole := .operator, apply := .staged, dflt := .num 50, lo := 1, hi := 100000, presence := .group },
   { base := 0x1C000200, name := "VANTAGE.QUEUE_LIMIT", ty := .u64, access := .rw, rdRole := .observer, wrRole := .engineer, apply := .staged, dflt := .num 4294967296, lo := 16777216, hi := 34359738368, presence := .group },
   { base := 0x1C000300, name := "VANTAGE.DROPS", ty := .u64, access := .rc, rdRole := .operator, wrRole := .operator, apply := .immediate, dflt := .num 0, presence := .group },
   { base := 0x1C000400, name := "VANTAGE.COPIED", ty := .u64, access := .rc, rdRole := .operator, wrRole := .operator, apply := .immediate, dflt := .num 0, presence := .group },
   { base := 0x1C010000, elems := 4, name := "VANTAGE.TRIG_DESC", ty := .blob, access := .rw, rdRole := .observer, wrRole := .operator, apply := .staged, dflt := .bytes (List.replicate 32 0), size := 32, presence := .group },
   { base := 0x1C010100, elems := 4, name := "VANTAGE.TRIG_FIRED", ty := .u64, access := .rc, rdRole := .operator, wrRole := .operator, apply := .immediate, dflt := .num 0, presence := .group },
   { base := 0x1C010200, elems := 4, name := "VANTAGE.TRIG_LATE", ty := .u64, access := .rc, rdRole := .operator, wrRole := .operator, apply := .immediate, dflt := .num 0, presence := .group },
   { base := 0x1C010300, name := "VANTAGE.PPS_OUT_EN", ty := .bool, access := .rw, rdRole := .observer, wrRole := .operator, apply := .staged, dflt := .num 1, presence := .group },
   { base := 0x1C010400, name := "VANTAGE.TENMHZ_OUT_EN", ty := .bool, access := .rw, rdRole := .observer, wrRole := .operator, apply := .staged, dflt := .num 1, presence := .group },
   { base := 0x1C010500, name := "VANTAGE.PPS_OUT_WIDTH", ty := .u32, access := .rw, rdRole := .observer, wrRole := .operator, apply := .staged, dflt := .num 100000, lo := 100, hi := 500000000, presence := .group }]

/-- Area 0x1D. -/
def objsLoft : List ObjRow :=
  [{ base := 0x1D000000, elems := 16, name := "LOFT.SLOT_STATE", ty := .enum8, access := .ro, rdRole := .observer, wrRole := .observer, apply := .none, dflt := .computed, presence := .group },
   { base := 0x1D000100, elems := 16, name := "LOFT.SLOT_LOAD", ty := .blob, access := .wo, rdRole := .engineer, wrRole := .engineer, apply := .immediate, dflt := .computed, presence := .group },
   { base := 0x1D000200, elems := 16, name := "LOFT.SLOT_DIGEST", ty := .blob, access := .rw, rdRole := .observer, wrRole := .engineer, apply := .staged, dflt := .bytes (List.replicate 32 0), size := 32, presence := .group },
   { base := 0x1D000300, elems := 16, name := "LOFT.SLOT_CTRL", ty := .enum8, access := .wo, rdRole := .engineer, wrRole := .engineer, apply := .immediate, dflt := .computed, codes := [1, 2, 3, 4], presence := .group },
   { base := 0x1D000400, elems := 16, name := "LOFT.SLOT_ROLE", ty := .enum8, access := .rw, rdRole := .observer, wrRole := .custodian, apply := .staged, dflt := .num 0, lo := 0, hi := 1, codes := [0, 1], presence := .group },
   { base := 0x1D000500, elems := 16, name := "LOFT.SLOT_MEM", ty := .u32, access := .rw, rdRole := .observer, wrRole := .engineer, apply := .staged, dflt := .num 1024, lo := 64, hi := 16384, presence := .group },
   { base := 0x1D000600, elems := 16, name := "LOFT.SLOT_CPU", ty := .u32, access := .rw, rdRole := .observer, wrRole := .engineer, apply := .staged, dflt := .num 1000, lo := 10, hi := 1000, presence := .group },
   { base := 0x1D000700, elems := 16, name := "LOFT.SLOT_FAULT", ty := .u32, access := .ro, rdRole := .operator, wrRole := .operator, apply := .none, dflt := .computed, presence := .group },
   { base := 0x1D000800, elems := 16, name := "LOFT.CORE_STATE", ty := .enum8, access := .ro, rdRole := .observer, wrRole := .observer, apply := .none, dflt := .computed, presence := .group },
   { base := 0x1D000900, name := "LOFT.FAULTS", ty := .u64, access := .rc, rdRole := .operator, wrRole := .operator, apply := .immediate, dflt := .num 0, presence := .group },
   { base := 0x1D010000, count := 16, elems := 64, name := "LOFT.SLOT_OUT", ty := .u64, access := .ro, rdRole := .observer, wrRole := .observer, apply := .none, dflt := .computed, presence := .group }]

/-- The calibration objects of one range (R87, Table 2.7). A factory gain the manufacture image does not hold reads 1.0, a factory offset 0.0 (log entry 5). -/
def calRows (base count : Nat) (p : Presence) : List ObjRow :=
  [{ base := base, count := count, named := true, name := "CAL count", ty := .u32, access := .ro, rdRole := .observer, wrRole := .observer, apply := .none, dflt := .num 8, presence := p },
   { base := base + 0x01, count := count, named := true, name := "CAL factory offset", ty := .f32, access := .ro, rdRole := .observer, wrRole := .observer, apply := .none, dflt := .fused, presence := p },
   { base := base + 0x02, count := count, named := true, name := "CAL factory gain", ty := .f32, access := .ro, rdRole := .observer, wrRole := .observer, apply := .none, dflt := .num 0x3F800000, presence := p },
   { base := base + 0x03, count := count, named := true, name := "CAL factory time", ty := .time80, access := .ro, rdRole := .observer, wrRole := .observer, apply := .none, dflt := .fused, presence := p },
   { base := base + 0x40, count := count, named := true, name := "CAL user offset", ty := .f32, access := .rw, rdRole := .observer, wrRole := .operator, apply := .staged, dflt := .num 0, presence := p },
   { base := base + 0x41, count := count, named := true, name := "CAL user gain", ty := .f32, access := .rw, rdRole := .observer, wrRole := .operator, apply := .staged, dflt := .num 0x3F800000, presence := p },
   { base := base + 0x42, count := count, named := true, name := "CAL user time", ty := .time80, access := .rw, rdRole := .observer, wrRole := .operator, apply := .staged, dflt := .num 0, presence := p },
   { base := base + 0x80, count := count, named := true, name := "CAL effective offset", ty := .f32, access := .ro, rdRole := .observer, wrRole := .observer, apply := .none, dflt := .computed, presence := p },
   { base := base + 0x81, count := count, named := true, name := "CAL effective gain", ty := .f32, access := .ro, rdRole := .observer, wrRole := .observer, apply := .none, dflt := .computed, presence := p }]

/-- Area 0x0B: sensor channels (R186), timestamp paths (Table 4.11), die temperatures (R522) and rail monitors. -/
def objsCal : List ObjRow :=
  calRows 0x0B010000 96 .ovtan ++ calRows 0x0B040000 2 .ovtan ++ calRows 0x0B040000 272 .tray ++
  calRows 0x0B060000 68 .group ++ calRows 0x0B065000 3 .group ++ calRows 0x0B065800 4 .group ++
  calRows 0x0B070000 28 .group

/-- The object tables of an area, in ascending object order (Table 2.2). -/
def objectsOf (area : Nat) : List ObjRow :=
  match area with
  | 0x00 => objsIdent
  | 0x01 => objsSession
  | 0x02 => objsTime
  | 0x03 => objsAngle
  | 0x04 => objsCount
  | 0x05 => objsSense
  | 0x06 => objsTrace
  | 0x07 => objsDew
  | 0x08 => objsDma
  | 0x09 => objsRecord
  | 0x0A => objsLink
  | 0x0B => objsCal
  | 0x0C => objsPower
  | 0x0D => objsSpare
  | 0x0F => objsCut
  | 0x10 => objsCell
  | 0x11 => objsReduce
  | 0x12 => objsAnvil
  | 0x13 => objsDrift
  | 0x14 => objsFence
  | 0x15 => objsJet
  | 0x16 => objsHorizon
  | 0x17 => objsSundog
  | 0x18 => objsCadence
  | 0x19 => objsCondense
  | 0x1A => objsAlmanac
  | 0x1B => objsFw
  | 0x1C => objsVantage
  | 0x1D => objsLoft
  | _ => []

end Sys2Proof.Machine
end

