-- ==== Sys2Proof/Machine/Ops.lean ====
section
/-! DEFINITION. The named operations over a unit's dictionary store, events, sent items and free values. -/
namespace Sys2Proof.Machine

/-! ### Object rows -/

/-- Whether object number `o` (u32) is an object or element the row defines, its count element 0x00 included for an array (R58). -/
def rowHas (r : ObjRow) (o : Nat) : Bool :=
  let i := o / 256 - r.base / 256
  decide (o / 256 ≥ r.base / 256) && decide (i < r.count) &&
    (if r.named then objElem o == r.base % 256 else decide (objElem o ≤ r.elems))

/-- Whether a unit of a kind (0 Ovtan, 1 tray, 2 rack, 3 row) has a row's object (R23, R61). -/
def presentAt (p : Presence) (kind : Nat) : Bool :=
  match p with
  | .both => true
  | .ovtan => kind == 0
  | .group => kind != 0
  | .tray => kind == 1

/-- The row that defines object number `o` at a unit of a kind. -/
def findRow (kind o : Nat) : Option ObjRow :=
  (objectsOf (objArea o)).find? (fun r => rowHas r o && presentAt r.presence kind)

/-- Whether a unit of a kind has an object of `o`'s number, whatever the element (R58). -/
def objectExists (kind o : Nat) : Bool :=
  (objectsOf (objArea o)).any (fun r =>
    presentAt r.presence kind && decide (o / 256 ≥ r.base / 256) && decide (o / 256 - r.base / 256 < r.count))

/-! ### The store (R71, R72) -/

/-- Value of a key in a store. -/
def storeGet : Store → Nat → Option Bytes
  | [], _ => none
  | (k, v) :: rest, o => if k = o then some v else storeGet rest o

/-- A store without a key. -/
def storeErase : Store → Nat → Store
  | [], _ => []
  | (k, v) :: rest, o => if k = o then rest else (k, v) :: storeErase rest o

/-- A store with a key set, keys rising. -/
def storeInsert : Store → Nat → Bytes → Store
  | [], o, v => [(o, v)]
  | (k, w) :: rest, o, v =>
    if o < k then (o, v) :: (k, w) :: rest else if o = k then (o, v) :: rest else (k, w) :: storeInsert rest o v

/-- Keys strictly rising: the canonical form of a store. -/
def storeWf : Store → Bool
  | [] => true
  | [_] => true
  | (k, _) :: (k', v') :: rest => decide (k < k') && storeWf ((k', v') :: rest)

/-- Length on the wire of a value of a row, 0 where it varies. -/
def rowLen (r : ObjRow) : Nat := if r.ty.bytes = 0 then r.size else r.ty.bytes

/-- Default of object number `o` under its row (R71), element 0x00 of an array being its element count (R58, log entry 6): fused and plan values from the image `made`, zero where it holds none. -/
def rowDefault (made : Store) (r : ObjRow) (o : Nat) : Bytes :=
  match storeGet made o with
  | some v => v
  | none =>
    if r.elems > 0 ∧ objElem o = 0 then leBytes 4 (r.used.getD r.elems)
    else match r.dflt with
    | .num n => leBytes (rowLen r) n
    | .bytes b => b
    | .index => leBytes (rowLen r) (objElem o - 1)
    | .each l => l.getD (objElem o - 1) ((l.getLast?).getD [])
    | _ => zeros (rowLen r)

/-- Default of an object number, empty where no row defines it. -/
def Core.defaultOf (c : Core) (o : Nat) : Bytes :=
  match findRow c.kind o with
  | some r => rowDefault c.made r o
  | none => []

/-- Running value of an object (R75). -/
def Core.get (c : Core) (o : Nat) : Bytes := (storeGet c.store o).getD (c.defaultOf o)

/-- Running value read as an unsigned little-endian number. -/
def Core.num (c : Core) (o : Nat) : Nat := ofLe (c.get o)

/-- Value of an array's element, of the elements in use only (R58); empty beyond them. -/
def Core.elem (c : Core) (o e : Nat) : Bytes := if e ≤ c.num o then c.get (o + e) else []

/-- Value a block uses for an object of a declared pair: the last agreeing one while the running values disagree (R86). -/
def Core.usedBytes (c : Core) (o : Nat) : Bytes := (storeGet c.pairGood o).getD (c.get o)

/-- The same, read as an unsigned number. -/
def Core.used (c : Core) (o : Nat) : Nat := ofLe (c.usedBytes o)

/-- Running value of a bool object. -/
def Core.flag (c : Core) (o : Nat) : Bool := c.num o != 0

/-- Set a running value; a value equal to the default leaves no entry. -/
def Core.put (c : Core) (o : Nat) (v : Bytes) : Core :=
  { c with store := if v = c.defaultOf o then storeErase c.store o else storeInsert c.store o v }

/-- Set a running value of a numeric object of the row's length. -/
def Core.putNum (c : Core) (o n : Nat) : Core := c.put o (leBytes (c.defaultOf o).length n)

/-- Add to a counter object; it wraps at its width (R20). -/
def Core.count (c : Core) (o n : Nat) : Core := c.putNum o (c.num o + n)

/-- Add 1 to a counter object. -/
def Core.bump (c : Core) (o : Nat) : Core := c.count o 1

/-! ### Events, sent items, free values -/

/-- Raise a local event (area 0x0E) from a sub-unit (Table 2.1). -/
def Core.raise (c : Core) (code sub : Nat) (payload : List Nat) : Core :=
  { c with events := c.events ++ [{ code := code, sub := sub, payload := payload }] }

/-- Send something. -/
def Core.send (c : Core) (x : Sent) : Core := { c with sent := c.sent ++ [x] }

/-- Draw a free value of `w` bits (log entry 3): the value and the unit with its counter advanced. -/
def Core.draw (c : Core) (u w : Nat) : BitVec w × Core := (Config.freeBits w u c.free, { c with free := c.free + 1 })

/-- A block uses a pair: PAIR_MISMATCH once for each episode of disagreement (R86, Table 2.14). The pair is named by its two
objects; its payload carries their numbers and the values in use. -/
def Core.usePair (c : Core) (a b : Nat) : Core :=
  if (storeGet c.pairGood a).isSome && !c.pairBad.contains a then
    ({ c with pairBad := a :: c.pairBad }.bump oSessionPairMismatches).raise 0x0201 (if c.kind = 0 then 0x09 else 0x76)
      [a, b, c.used a, c.used b]
  else c

/-! ### Time and angle of a unit -/

/-- Unit time, ns (R132). -/
def Core.ns (c : Core) : Nat := c.time.ns.toNat

/-- A u64 difference, which wraps (R20). -/
def sub64 (t s : Nat) : Nat := (t % 2 ^ 64 + 2 ^ 64 - s % 2 ^ 64) % 2 ^ 64

/-- Angle of R160 before it is held, at time `t`. -/
def AnglePart.raw (a : AnglePart) (t : Nat) : Nat := sub64 t a.tm * 2 ^ 32 / (a.lq / 65536)

/-- Angle of R160 at time `t`, 0 outside Locked and Stalled (R56). -/
def angleAt (a : AnglePart) (t : Nat) : Nat :=
  match a.mode with
  | .locked | .stalled => Nat.min (a.raw t) 0xFFFFFFFF
  | _ => 0

/-- State of Meridian at time `t`: Locked is Stalled once the angle has run its turn (R160). -/
def AnglePart.modeAt (a : AnglePart) (t : Nat) : AngleMode :=
  match a.mode with
  | .locked => if a.raw t > 0xFFFFFFFF then .stalled else .locked
  | m => m

/-- Whether a step commit's target lies in the future (R81). -/
def stepInFuture (a : AnglePart) (isOvtan : Bool) (target : Nat) : Bool :=
  if !a.seen then true
  else if isOvtan then
    let d := (target % 2 ^ 32 + 2 ^ 32 - a.step % 2 ^ 32) % 2 ^ 32
    decide (1 ≤ d) && decide (d < 0x80000000)
  else decide (target > a.step)

end Sys2Proof.Machine
end

