-- ==== Sys2Proof/Machine/Halo.lean ====
section
/-! DEFINITION. Halo's shared operations (spec/04): the time counter, the state machine of Table 4.2, the servo of R133, time quality (R129, R130) and the extension of t_ns (R142). -/
namespace Sys2Proof.Machine

/-- An s64 result wraps as two's complement (R20). -/
def wrapS64 (i : Int) : Int := signedOf 64 (wrapInt 64 i)

/-- step_frac of R132. -/
def stepFrac (adj : Int) : Nat := ((2 ^ 48 : Int) + (adj * 2 ^ 32).tdiv 1000000000).toNat

/-- One cycle of the 1.0 GHz clock (R132). -/
def TimePart.tick (t : TimePart) : TimePart :=
  let acc := t.frac.toNat + stepFrac t.adj
  { t with ns := t.ns + BitVec.ofNat 64 (acc / 2 ^ 48), frac := BitVec.ofNat 48 acc }

/-- Gains and thresholds of the servo, from a unit's objects. -/
structure ServoParams where
  kp : Int
  ki : Int
  maxAdj : Int
  stepThr : Nat
  relockThr : Nat
deriving DecidableEq, Repr

/-- max_adj is TIME.MAX_SLEW × 65,536 (R133). -/
def Core.servo (c : Core) : ServoParams :=
  { kp := signedOf 64 (c.num oTimeServoKp), ki := signedOf 64 (c.num oTimeServoKi),
    maxAdj := (c.num oTimeMaxSlew * 65536 : Nat), stepThr := c.used oTimeStepThreshold,
    relockThr := c.used oTimeRelockThreshold }

/-- Acquire branch of R133: the step the clock adds once (none within the threshold). -/
def acquireStep (p : ServoParams) (theta : Int) : Option Int :=
  if theta.natAbs > p.stepThr then some (wrapS64 (-theta)) else none

/-- Locked branch of R133 on an accepted offset: new integrator and rate. -/
def servoUpdate (p : ServoParams) (integ theta : Int) : Int × Int :=
  let i := clampInt (-p.maxAdj) p.maxAdj (wrapS64 (integ - p.ki * theta))
  (i, clampInt (-p.maxAdj) p.maxAdj (wrapS64 (i - p.kp * theta)))

/-! ### Time quality (R129, R130) -/

/-- Holdover rate in ns per hour: TIME.HOLDOVER_RATE where written, else R131's default; TIME.FREQREF_RATE in state 3. -/
def Core.holdRate (c : Core) (ovtan : Bool) (q : Nat) : Nat :=
  if q = 3 then c.num oTimeFreqrefRate
  else match storeGet c.store oTimeHoldoverRate with
    | some v => ofLe v
    | none => if ovtan then 3600000 else if c.num oTimeHoldoverOsc = 1 then 1000 else 20000

/-- State code of a unit's quality byte (Table 4.3). `noSrc`: a root without a phase source (R530). -/
def Core.qState (c : Core) (ovtan noSrc : Bool) : Nat :=
  let t := c.time
  match t.mode with
  | .unlocked => 7
  | .acquiring => 7
  | .locked => if noSrc then 1 else if ovtan then t.byte.toNat / 32 else t.srcState
  | .holdover =>
    if ovtan then 6
    else if noSrc then (if c.num oTimeHoldoverOsc = 1 then 4 else 5)
    else if t.forced || t.sourceLost then
      (if t.refPresent then 3 else if c.num oTimeHoldoverOsc = 1 then 4 else 5)
    else if t.srcState ≥ 2 then t.srcState else 2

/-- Hop term h of Table 4.9 for a group's phase source. -/
def Core.hop (c : Core) : Nat :=
  match c.num oTimePhaseSrc with
  | 1 => 50 | 2 => 50 | 4 => 0 | _ => 8

/-- Whether holdover has lasted 24 h (R130). -/
def Core.heldDay (c : Core) (now : Nat) : Bool :=
  match c.time.mode, c.time.holdSince with
  | .holdover, some s => decide (now - s ≥ 24 * hourNs)
  | _, _ => false

/-- Whether the unit runs without a phase source, in a holdover of states 3 to 6 (Table 4.3). -/
def Core.adrift (c : Core) (ovtan noSrc : Bool) : Bool :=
  c.time.mode == .holdover && (ovtan || noSrc || c.time.forced || c.time.sourceLost)

/-- Uncertainty bound b of R130, ns. In states 3 to 6 it grows by the holdover rate, rounded up to a whole ns. -/
def Core.bound (c : Core) (ovtan noSrc : Bool) (now : Nat) : Nat :=
  let t := c.time
  if c.adrift ovtan noSrc then
    match t.holdSince with
    | some s => t.bEntry + (c.holdRate ovtan (c.qState ovtan noSrc) * (now - s) + hourNs - 1) / hourNs
    | none => t.bEntry
  else if ovtan then t.bound
  else if noSrc then 0
  else t.bParent + c.hop + t.theta.natAbs + (if t.mode == .holdover then 20 else 0)

/-- Uncertainty class u (R130): 15 unlocked or after 24 h of holdover; a locked Ovtan reports the class it was given (R138). -/
def Core.uNow (c : Core) (ovtan noSrc : Bool) (now : Nat) : Nat :=
  if c.qState ovtan noSrc = 7 || c.heldDay now then 15
  else if ovtan && c.time.mode == .locked then c.time.byte.toNat % 16
  else uClass (c.bound ovtan noSrc now)

/-- Bound at holdover entry (R130): at class 15 nothing below 4^15 ns is known. -/
def Core.entryBound (c : Core) (ovtan noSrc : Bool) (now : Nat) : Nat :=
  let b := c.bound ovtan noSrc now
  if c.uNow ovtan noSrc now = 15 then Nat.max b (4 ^ 15) else b

/-- The unit's quality byte (Table 4.3) for unit time now. -/
def Core.quality (c : Core) (ovtan noSrc : Bool) (now : Nat) : Byte :=
  qualityByte (c.qState ovtan noSrc) (steppedAtTime c.time c.ns) (c.uNow ovtan noSrc now)

/-! ### State machine (Table 4.2) -/

/-- Sub-unit of the time block in events: 0x0A on an Ovtan, 0x70 on a Fabato (Table 2.1). -/
def timeSub (ovtan : Bool) : Nat := if ovtan then 0x0A else 0x70

/-- Step the unit's clock by `s` ns and raise TIME_STEPPED (R133, R134). -/
def Core.stepClock (c : Core) (ovtan noSrc : Bool) (now : Nat) (s : Int) : Core :=
  let ns' := BitVec.ofNat 64 (wrapInt 64 (c.ns + s))
  let c := { c with time := { c.time with ns := ns', steppedAt := some ns'.toNat } }
  c.raise 0x0402 (timeSub ovtan) [wrapInt 64 s, (c.quality ovtan noSrc now).toNat]

/-- Enter Locked and raise TIME_LOCKED (Table 4.13: source, θ at entry, quality). -/
def Core.enterLocked (c : Core) (ovtan noSrc : Bool) (now src : Nat) (theta : Int) : Core :=
  let c := { c with time := { c.time with mode := .locked, holdSince := none, valid := 0, bad := 0, sourceLost := false } }
  c.raise 0x0401 (timeSub ovtan) [src, wrapInt 64 theta, (c.quality ovtan noSrc now).toNat]

/-- Enter holdover: freeze the integrator, record the bound, raise HOLDOVER_ENTER with cause 0 phase, 1 frequency, 2 forced. -/
def Core.enterHoldover (c : Core) (ovtan noSrc : Bool) (now cause : Nat) : Core :=
  let b := c.entryBound ovtan noSrc now
  let c := { c with time := { c.time with mode := .holdover, holdSince := some now, bEntry := b, dayNoted := false,
                                          sourceLost := c.time.sourceLost || decide (cause ≠ 1), forced := decide (cause = 2) } }
  c.raise 0x0404 (timeSub ovtan) [cause, b]

/-- Entry to Locked of a unit with a phase source; without its rack reference it goes on to quality state 2 (Table 4.2, R154). -/
def Core.lockOrHold (c : Core) (now src : Nat) (theta : Int) : Core :=
  let c := c.enterLocked false false now src theta
  if c.time.refPresent then c else c.enterHoldover false false now 1

/-- Leave holdover for Locked and raise HOLDOVER_EXIT (elapsed, θ, stepped), then TIME_LOCKED. -/
def Core.exitHoldover (c : Core) (ovtan noSrc : Bool) (now src : Nat) (theta : Int) (stepped : Bool) : Core :=
  let e := match c.time.holdSince with
    | some s => now - s
    | none => 0
  let c := c.raise 0x0405 (timeSub ovtan) [e, wrapInt 64 theta, if stepped then 1 else 0]
  { c with time := { c.time with forced := false } }.enterLocked ovtan noSrc now src theta

/-- Acquire branch on the unit's own clock: step if needed, keep the rate learned (R133). The step taken, if any. -/
def Core.acquire (c : Core) (now : Nat) (theta : Int) : Core × Option Int :=
  match acquireStep c.servo theta with
  | some s =>
    let c := (c.stepClock false false now s).bump oTimeSteps
    ({ c with time := { c.time with integ := c.time.adj, bad := 0, theta := 0 } }, some s)
  | none => ({ c with time := { c.time with integ := c.time.adj, bad := 0 } }, none)

/-- Servo update on the unit's own clock. -/
def Core.servoRun (c : Core) (theta : Int) : Core :=
  let r := servoUpdate c.servo c.time.integ theta
  { c with time := { c.time with integ := r.1, adj := r.2, bad := 0 } }

/-- Locked branch of R133: the servo update, or the third far offset in a row, which loses the lock (Table 4.2). -/
def Core.lockedBranch (c : Core) (theta : Int) : Core :=
  let t := c.time
  if theta.natAbs > c.servo.relockThr then
    if t.bad + 1 ≥ 3 then
      let c := ({ c with time := { t with bad := t.bad + 1, mode := .acquiring, holdSince := none } }).bump oTimeLockLosses
      c.raise 0x0403 (timeSub false) (t.thetas.map (wrapInt 64))
    else { c with time := { t with bad := t.bad + 1 } }
  else c.servoRun theta

/-- An accepted exchange with the unit's own phase source (Table 4.2, R133, R531): the unit and the step it took. -/
def Core.ownExchange (c : Core) (now src : Nat) (theta delay : Int) : Core × Option Int :=
  let t := { c.time with theta := theta, delay := delay, thetas := (theta :: c.time.thetas).take 3, missed := 0, lastSync := now }
  let c := { c with time := t }.usePair oTimeStepThreshold oTimeRelockThreshold
  if t.forced then ({ c with time := t }, none)
  else match t.mode with
    | .unlocked =>
      if t.valid + 1 ≥ 3 then
        let r := c.acquire now theta
        (r.1.lockOrHold now src theta, r.2)
      else ({ c with time := { t with valid := t.valid + 1 } }, none)
    | .acquiring =>
      let r := c.acquire now theta
      (r.1.lockOrHold now src theta, r.2)
    | .locked => (c.lockedBranch theta, none)
    | .holdover =>
      if !t.sourceLost then (c.lockedBranch theta, none)
      else
        let r := if theta.natAbs > c.servo.relockThr then c.acquire now theta else (c.servoRun theta, none)
        let c := { r.1 with time := { r.1.time with sourceLost := false } }
        if t.refPresent then (c.exitHoldover false false now src theta r.2.isSome, r.2) else (c, r.2)

/-- Loss of the phase source with no alternate (Table 4.2). -/
def Core.sourceLoss (c : Core) (ovtan : Bool) (now : Nat) : Core :=
  match c.time.mode with
  | .locked => c.enterHoldover ovtan false now 0
  | .holdover =>
    if c.time.sourceLost then c
    else { c with time := { c.time with bEntry := c.entryBound ovtan false now, holdSince := some now, sourceLost := true } }
  | _ => { c with time := { c.time with valid := 0 } }

/-! ### Extending t_ns and steps (R142, R172, R317) -/

/-- R142: the total ns nearest `ref` whose low 32 bits are `tns`, ties to the earlier. -/
def extendNs (tns ref : Nat) : Nat :=
  let cand := ref / 2 ^ 32 * 2 ^ 32 + tns % 2 ^ 32
  if cand ≥ ref + 0x80000000 then (cand + 2 ^ 64 - 2 ^ 32) % 2 ^ 64
  else if cand + 0x80000000 < ref then (cand + 2 ^ 32) % 2 ^ 64
  else cand

/-- R172: the 64-bit step nearest `ref` whose low 32 bits are `step`, by the same rule. -/
def extendStep (step ref : Nat) : Nat := extendNs step ref

/-! ### Exchange arithmetic (R136) -/

/-- θ and delay of one exchange from corrected timestamps. -/
def exchangeOf (t1 t2 t3 t4 : Int) : Int × Int :=
  (((t2 - t1) - (t4 - t3)).fdiv 2, ((t4 - t1) - (t3 - t2)).fdiv 2)

end Sys2Proof.Machine
end

