-- ==== Sys2Proof/Machine/Meridian.lean ====
section
/-! DEFINITION. Meridian's shared operations (spec/05): marker classification, the angle lock, fire times and the schedule lists. -/
namespace Sys2Proof.Machine

/-- A schedule entry's fields (Table 5.2). -/
structure SchedEntry where
  kind : Nat
  optional : Bool
  tag : Nat
  program : Nat
  late : Nat
  phase : Nat
  period : Nat
  pos : Nat
deriving DecidableEq, Repr

/-- Fields of the 16 bytes of an entry (Table 5.2). -/
def schedEntry (b : Bytes) : SchedEntry :=
  let n := leAt b 0 16
  { kind := bitsOf n 1 0, optional := n.testBit 3, tag := bitsOf n 15 8, program := bitsOf n 29 20,
    late := bitsOf n 47 32, phase := bitsOf n 63 48,
    period := if bitsOf n 1 0 = 1 then bitsOf n 79 64 else bitsOf n 95 64, pos := bitsOf n 127 96 }

/-- Object number of entry `e` of the list in use (R164). -/
def Core.listObj (c : Core) (e : Nat) : Nat :=
  withElem (if c.num oAngleActiveList = 1 then oAngleListB else oAngleListA) e

/-- Entry `e` of the list in use; off beyond the elements in use (R58). -/
def Core.entry (c : Core) (e : Nat) : SchedEntry := schedEntry (if e ≤ c.num (c.listObj 0) then c.get (c.listObj e) else zeros 16)

/-- Fire time of an angle entry (R161). -/
def fireTime (tm lq a : Nat) : Nat := tm + (a * (lq / 65536) + 0xFFFFFFFF) / 2 ^ 32

/-- First instant at or after `t` that matches a time entry (R165). -/
def nextMatch (t period offset : Nat) : Nat :=
  if period = 0 then t else t + (offset % period + period - t % period) % period

/-- How R158 classifies a marker. -/
inductive MarkerKind where
  /-- discarded: closer than ANGLE.MIN_SPACING -/
  | glitch
  | first
  | normal
  | jump (d : Nat)
  | rewind
  | stray
deriving DecidableEq, Repr

/-- Width of step numbers in classification: 32 bits on an Ovtan, 64 in a group (R172). -/
def Core.stepWidth (c : Core) : Nat := if c.kind = 0 then 32 else 64

/-- R158, with the first marker since restart in Off (R532) and the first marker of Free (Table 5.1). -/
def Core.classify (c : Core) (t num : Nat) : MarkerKind :=
  let a := c.angle
  let w := c.stepWidth
  if a.seen && decide (sub64 t a.lastAt < c.num oAngleMinSpacing) then .glitch
  else if !a.seen || a.mode == .free then .first
  else
    let d := (num % 2 ^ w + 2 ^ w - a.step % 2 ^ w) % 2 ^ w
    if d = 1 then .normal
    else if 2 ≤ d ∧ d ≤ c.num oAngleJumpLimit then .jump d
    else if a.cand = some ((num + 2 ^ w - 1) % 2 ^ w) then .rewind
    else .stray

/-- k of R159 for an accepted marker. -/
def MarkerKind.k : MarkerKind → Nat
  | .normal => 1
  | .jump d => d
  | _ => 0

/-- Whether a marker of this kind is accepted. -/
def MarkerKind.accepted : MarkerKind → Bool
  | .glitch => false
  | .stray => false
  | _ => true

/-- Counts and events of classification (R158, Table 5.6), and the rewind candidate. -/
def Core.noteMarker (c : Core) (k : MarkerKind) (t num : Nat) : Core :=
  let old := c.angle.step
  let sub := if c.kind = 0 then 0x02 else 0x77
  let acc (c : Core) : Core :=
    { c with angle := { c.angle with cand := none, strayed := false, seen := true, lastAt := t } }
  match k with
  | .glitch => c.bump oAngleGlitches
  | .first => acc c
  | .normal => acc c
  | .jump d => ((acc c).count oAngleMissed (d - 1)).raise 0x0503 sub [old, num]
  | .rewind => ((acc c).bump oAngleRewinds).raise 0x0504 sub [old, num]
  | .stray =>
    let c := c.bump oAngleStray
    let c := if c.angle.strayed then c else c.raise 0x0505 sub [old, num]
    { c with angle := { c.angle with cand := some num, strayed := true } }

/-- R159 on an accepted marker, with the ends of R162. The unit and the events it raises. -/
def Core.angleLock (c : Core) (t num k : Nat) : Core :=
  let a := c.angle
  let sub := if c.kind = 0 then 0x02 else 0x77
  let lns := a.lq / 65536
  let tol := lns / 2 ^ c.num oAngleTolShift
  let per := if k = 0 then 0 else sub64 t a.tm / k
  let inRange := decide (10000 ≤ per) && decide (per ≤ 2 ^ 40)
  let near := decide (((per : Int) - lns).natAbs ≤ tol)
  let filt : Nat := ((a.lq : Int) + (((per * 65536 : Nat) : Int) - a.lq).fdiv (2 ^ c.num oAngleLengthShift : Nat)).toNat
  let c :=
    if k = 0 then c
    else match a.mode with
      | .acquiring =>
        let a :=
          if !inRange then { a with good := 0 }
          else if a.good > 0 && near then { a with lq := filt, good := a.good + 1 }
          else { a with lq := per * 65536, good := 1 }
        if a.good ≥ c.num oAngleAcquireSteps then
          ({ c with angle := { a with mode := .locked, out := 0 } }).raise 0x0501 sub [num, a.lq / 65536]
        else { c with angle := a }
      | _ =>
        if inRange && near then { c with angle := { a with lq := filt, out := 0 } }
        else
          let a := { a with early := decide (per < lns), slow := decide (per > lns), out := a.out + 1 }
          if a.out ≥ c.num oAngleRelockSteps && inRange then
            ({ c with angle := { a with lq := per * 65536, out := 0 } }).raise 0x0502 sub [lns, per, num]
          else { c with angle := a }
  let a := { c.angle with tm := t, step := num }
  let a := if a.mode == .stalled then { a with mode := .locked } else a
  let a := if a.mode == .free then { a with mode := .acquiring, good := 0 } else a
  { c with angle := a }

/-- Whether Meridian is locked in the sense of R72: Locked or Stalled. -/
def AnglePart.isLocked (a : AnglePart) : Bool := a.mode == .locked || a.mode == .stalled

/-- R163 step 1: cancel the old step's entries at or after the marker. -/
def cancelOld (a : AnglePart) (t : Nat) : AnglePart :=
  { a with armed := a.armed.filter (fun e => decide (e.fire < t)),
           cancelled := a.cancelled + (a.armed.filter (fun e => decide (e.fire ≥ t))).length }

/-- R163 step 5: the angle entries of the step that begins, from the list now active, in index order. -/
def Core.armStep (c : Core) : Core :=
  let a := c.angle
  if !a.isLocked then { c with angle := { a with armed := [] } }
  else
    let es := (List.range 255).filterMap (fun i =>
      let e := c.entry (i + 1)
      if e.kind = 1 && e.period ≠ 0 && a.step % 2 ^ 32 % e.period == e.phase then
        some ({ entry := i + 1, fire := fireTime a.tm a.lq e.pos, angle := e.pos, handed := false } : ArmedEntry)
      else none)
    { c with angle := { a with armed := es } }

/-- Next instants of the active list's time entries, from an instant of effect (R165, R534). -/
def Core.armTimed (c : Core) (now : Nat) : Core :=
  let t := now + c.num oAngleArmLead
  let es := (List.range 255).filterMap (fun i =>
    let e := c.entry (i + 1)
    if e.kind = 2 && e.period ≠ 0 then
      some ({ entry := i + 1, fire := nextMatch t e.period e.pos, angle := 0, handed := false } : ArmedEntry)
    else none)
  { c with angle := { c.angle with timed := es } }

/-- Angle status byte of a firing at time `t` (Table 5.3). -/
def AnglePart.statusByte (a : AnglePart) (t : Nat) (late timeEntry : Bool) : Nat :=
  (a.modeAt t).code * 32 + (if late then 16 else 0) + (if a.early then 8 else 0) + (if a.slow then 4 else 0)
    + (if a.jump then 2 else 0) + (if timeEntry then 1 else 0)

/-- Cleared Meridian, entered when ANGLE.LOCK_MODE takes effect as 1 (Table 5.1). -/
def AnglePart.toFree (a : AnglePart) : AnglePart :=
  { a with mode := .free, cand := none, lq := 0, good := 0, out := 0, early := false, slow := false, jump := false }

end Sys2Proof.Machine
end

