-- ==== Sys2Proof/Machine/Dictionary.lean ====
section
/-! DEFINITION. The object dictionary of a unit (spec/02): looking an object up, checking and applying a value, items, stage sets, commits, declared pairs, kept responses. Written once over what a unit supplies (`UnitOps`). -/
namespace Sys2Proof.Machine

/-- A request body (Tables 2.6, 2.10, 2.11). -/
inductive Request where
  | read (items : List ReadItem)
  | write (items : List WriteItem)
  | commit (desc : Bytes)
  | list (area start : Nat)
  /-- an opcode that no request has, with its body -/
  | other (opcode : Nat) (body : Bytes)
deriving DecidableEq, Repr

/-- Opcode of a request (Table 2.10). -/
def Request.opcode : Request → Nat
  | .read _ => 0x01 | .write _ => 0x02 | .commit _ => 0x03 | .list _ _ => 0x04 | .other o _ => o

/-- Body of a request. -/
def Request.body : Request → Bytes
  | .read l => l.flatMap readItemBytes
  | .write l => l.flatMap writeItemBytes
  | .commit d => d
  | .list a s => leBytes 1 0 ++ leBytes 2 s ++ leBytes 1 a ++ zeros 4
  | .other _ b => b

/-- A response: summary status and body (Table 2.8, R92, R97). -/
structure Response where
  summary : Nat
  body : Bytes
deriving DecidableEq, Repr

/-- A message-level error: no items (R98). -/
def Response.error (st : Nat) : Response := ⟨st, []⟩

/-- Who acts: role, tenant, entry port and session of a message (R96, R113). -/
structure Actor where
  role : Role
  tenant : Nat
  port : Port
  session : Nat
deriving DecidableEq, Repr

/-- What a unit supplies to its dictionary. -/
structure UnitOps (σ : Type) where
  get : σ → Core
  set : σ → Core → σ
  /-- running value of an object the device computes; none: the store's -/
  read : σ → Actor → Nat → Option Bytes
  /-- what a read changes besides the value returned (a read and clear of a value outside the store) -/
  didRead : σ → Nat → σ
  /-- elements in use of an array whose count the device computes -/
  inUse : σ → Nat → Option Nat
  /-- tenant of a job-scoped object (R116); none: not job-scoped -/
  tenant : σ → Nat → Option Nat
  /-- status of a value beyond the type, range and code checks of its row -/
  check : σ → Actor → Nat → Bytes → Nat
  /-- what a value about to take effect settles under the value it replaces -/
  before : σ → Nat → σ
  /-- what a value that has taken effect does to its block -/
  effect : σ → Nat → Bytes → σ
  /-- values that took effect at one instant have all done so: their objects -/
  done : σ → List Nat → σ
  /-- a write to a command object (WO): the unit and the status -/
  command : σ → Actor → Nat → Bytes → σ × Nat
  /-- the declared pairs: the objects of a pair, and its agreement rule over a view of values (R85) -/
  pairs : σ → List Nat → List (List Nat × ((Nat → Bytes) → Bool))

/-! ### Looking an object up (R57, R58, R61, R70) -/

/-- What an object number names at a unit. -/
inductive Target where
  | noObject
  | noElement
  | value (row : ObjRow)
  /-- element 0x00 of an array: the elements in use, at most `row.elems` -/
  | count (row : ObjRow)
  /-- element 0x00 of an object of named elements: how many it defines -/
  | defined (row : ObjRow) (n : Nat)
deriving DecidableEq, Repr

/-- Rows of the object that `o` belongs to, at a unit of a kind. -/
def objectRows (kind o : Nat) : List ObjRow :=
  (objectsOf (objArea o)).filter (fun r =>
    presentAt r.presence kind && decide (o / 256 ≥ r.base / 256) && decide (o / 256 - r.base / 256 < r.count))

/-- Elements of an array in use (R58). -/
def inUseOf {σ : Type} (u : UnitOps σ) (x : σ) (r : ObjRow) (o : Nat) : Nat :=
  match u.inUse x o with
  | some n => n
  | none => match storeGet (u.get x).store (withElem o 0) with
    | some v => ofLe v
    | none => r.used.getD r.elems

/-- R58's lookup. -/
def lookup {σ : Type} (u : UnitOps σ) (x : σ) (o : Nat) : Target :=
  let rows := objectRows (u.get x).kind o
  match rows with
  | [] => .noObject
  | r0 :: _ =>
    match rows.find? (fun r => rowHas r o) with
    | some r =>
      if r.named || r.elems = 0 then .value r
      else if objElem o = 0 then .count r
      else if objElem o ≤ inUseOf u x r o then .value r else .noElement
    | none => if objElem o = 0 then .defined r0 ((rows.filter (fun r => r.base % 256 != 0)).length) else .noElement

/-- Effective minimum role (R67, R70). -/
def needRole (o : Nat) (r : Role) : Nat := if objExpert o then Nat.max r.rank 2 else r.rank

/-- The lookup as a session of a role sees it: below Engineer an Expert object does not exist (R70). -/
def lookupFor {σ : Type} (u : UnitOps σ) (x : σ) (a : Actor) (o : Nat) : Target :=
  if objExpert o && decide (a.role.rank < 2) then .noObject else lookup u x o

/-- Areas that a Loft program cannot reach at any role (R302). -/
def loftBarred (a : Actor) (area : Nat) : Bool :=
  match a.port with
  | .loft _ => area == 0x01 || area == 0x14 || area == 0x1B
  | _ => false

/-- R69 and R116: role and tenant; R302 for a Loft program. -/
def access {σ : Type} (u : UnitOps σ) (x : σ) (a : Actor) (o : Nat) (need : Role) (write : Bool) : Nat :=
  if loftBarred a (objArea o) then eRole
  else match u.tenant x o with
  | some t =>
    if a.role.rank ≥ 1 then (if a.role.rank < needRole o need then eRole else stOk)
    else if a.tenant = 0 ∨ a.tenant ≠ t then eScope
    else if write && decide (needRole o need > 0) then eRole else stOk
  | none => if a.role.rank < needRole o need then eRole else stOk

/-! ### Values (R62–R66) -/

/-- UTF-8 well-formedness: `need` continuation bytes still to come, with the bounds of the next one. -/
def utf8Ok : Nat → Nat → Nat → Bytes → Bool
  | need, _, _, [] => need == 0
  | 0, _, _, b :: bs =>
    let n := b.toNat
    if n < 0x80 then utf8Ok 0 0 0 bs
    else if 0xC2 ≤ n ∧ n ≤ 0xDF then utf8Ok 1 0x80 0xBF bs
    else if n = 0xE0 then utf8Ok 2 0xA0 0xBF bs
    else if n = 0xED then utf8Ok 2 0x80 0x9F bs
    else if 0xE1 ≤ n ∧ n ≤ 0xEF then utf8Ok 2 0x80 0xBF bs
    else if n = 0xF0 then utf8Ok 3 0x90 0xBF bs
    else if 0xF1 ≤ n ∧ n ≤ 0xF3 then utf8Ok 3 0x80 0xBF bs
    else if n = 0xF4 then utf8Ok 3 0x80 0x8F bs
    else false
  | k + 1, lo, hi, b :: bs => decide (lo ≤ b.toNat) && decide (b.toNat ≤ hi) && utf8Ok k 0x80 0xBF bs

/-- Whether an encoded floating value is finite (R66). -/
def finiteOf (f : FFmt) (v : Bytes) : Bool :=
  match fdec f (ofLe v) with
  | .fin _ _ => true
  | _ => false

/-- The integer a numeric value stands for; fixed-point values as their stored integer. -/
def intOf (t : Ty) (v : Bytes) : Int :=
  match t with
  | .s32 | .fx32 => signedOf 32 (ofLe v)
  | .s64 | .fx64 => signedOf 64 (ofLe v)
  | _ => (ofLe v : Nat)

/-- Status of a value under its row's type, range and code list (Table 2.3, R66). -/
def checkType (r : ObjRow) (v : Bytes) : Nat :=
  let ok := match r.ty with
    | .bool => decide (ofLe v ≤ 1)
    | .enum8 => r.codes.isEmpty || r.codes.contains (ofLe v)
    | .f16 => finiteOf fmt16 v
    | .bf16 => finiteOf fmtB16 v
    | .f32 => finiteOf fmt32 v
    | .f64 => finiteOf fmt64 v
    | .str => decide (v.length ≤ 255) && utf8Ok 0 0 0 v
    | .blob => if r.size = 0 then decide (v.length ≤ 4064) else v.length == r.size
    | .lf8 => true
    | .time80 => true
    | _ => decide (r.hi < r.lo) || (decide (r.lo ≤ intOf r.ty v) && decide (intOf r.ty v ≤ r.hi))
  if ok then stOk else eRange

/-! ### Declared pairs (R84–R86) -/

/-- A view of the running values with some replaced. -/
def viewWith (c : Core) (extra : Store) (o : Nat) : Bytes := (storeGet extra o).getD (c.get o)

/-- Keep the last agreeing values of every pair that `os` touches, and forget them where the pair agrees again. -/
def notePairs {σ : Type} (u : UnitOps σ) (old x : σ) (os : List Nat) : σ :=
  (u.pairs x os).foldl (fun x p =>
    let c := u.get x
    let c :=
      if p.2 c.get then
        { c with pairGood := p.1.foldl storeErase c.pairGood, pairBad := c.pairBad.filter (fun o => o != p.1.headD 0) }
      else if p.1.any (fun o => (storeGet c.pairGood o).isSome) then c
      else { c with pairGood := p.1.foldl (fun s o => storeInsert s o ((u.get old).get o)) c.pairGood }
    u.set x c) x

/-! ### Keys (R100, R111) -/

/-- Close sessions that meet a test, with a reason of R111, discarding their stage sets. SESSION_CLOSED is raised for client
sessions only. -/
def Core.closeSessions (c : Core) (p : Session → Bool) (reason : Nat) : Core :=
  let gone := c.sessions.filter p
  let c := { c with sessions := c.sessions.filter (fun s => !p s) }
  gone.foldl (fun c s => if s.link || s.isLocal then c else c.raise 0x0304 (if c.kind = 0 then 0x09 else 0x76) [s.id, reason]) c

/-- Whether an object is a key object. -/
def isKeyObj (o : Nat) : Bool := o / 256 == oSessionRoleKey / 256 || o / 256 == oSessionTenantKey / 256 || o / 256 == oSessionTreeKey / 256

/-- A new key takes effect: KEY_CHANGED, and R111 closes the sessions it governs, save the committing one. -/
def Core.setKey (c : Core) (o : Nat) (v : Bytes) (by_ : Nat) : Core :=
  let sub := if c.kind = 0 then 0x09 else 0x76
  let e := objElem o
  if o / 256 = oSessionRoleKey / 256 then
    let c := { c with keys := { c.keys with roles := c.keys.roles.set (e - 1) v } }
    (c.raise 0x0305 sub [0, e, by_]).closeSessions (fun s => !s.link && !s.isLocal && s.role.rank == e - 1 && s.id != by_) 5
  else if o / 256 = oSessionTreeKey / 256 then
    let c := { c with keys := { c.keys with tree := v } }
    (c.raise 0x0305 sub [2, 0, by_]).closeSessions (fun s => s.link && s.id != by_) 5
  else
    let ts := c.keys.tenants.filter (fun t => t.1 != e)
    let ts := if v.drop 4 = zeros 32 then ts else ts ++ [(e, leAt v 0 4, v.drop 4)]
    ({ c with keys := { c.keys with tenants := sortBy ts (fun a b => decide (a.1 ≤ b.1)) } }).raise 0x0305 sub [1, e, by_]

/-- Status of a key value (R100, Table 3.9). -/
def Core.checkKey (c : Core) (o : Nat) (v : Bytes) : Nat :=
  if o = oSessionRoleKey + 4 ∧ v = zeros 32 then eRange
  else if o / 256 = oSessionTenantKey / 256 then
    let id := leAt v 0 4
    if id = 0 ∨ c.keys.tenants.any (fun t => t.1 != objElem o && t.2.1 == id) then eRange else stOk
  else stOk

/-! ### Stage sets and commit descriptors (R77–R81) -/

/-- The stage set of an actor's session. -/
def Core.stageOf (c : Core) (a : Actor) : Store :=
  match c.sessions.find? (fun s => s.id == a.session) with
  | some s => s.stage
  | none => []

/-- Replace the stage set of an actor's session. -/
def Core.setStage (c : Core) (a : Actor) (st : Store) : Core :=
  { c with sessions := modWhere (fun s => s.id == a.session) (fun s => { s with stage := st }) c.sessions }

/-- A staged write joins the set, replacing an earlier value of the object; the 257th entry is refused (R77). -/
def Core.stageWrite (c : Core) (a : Actor) (o : Nat) (v : Bytes) : Core × Nat :=
  let st := c.stageOf a
  if (storeGet st o).isSome then (c.setStage a (storeErase st o ++ [(o, v)]), stStaged)
  else if st.length ≥ 256 then (c, eStageFull)
  else (c.setStage a (st ++ [(o, v)]), stStaged)

/-- A commit descriptor (R78–R81, R84): the unit and the status. -/
def commitDesc {σ : Type} (u : UnitOps σ) (x : σ) (a : Actor) (d : Bytes) : σ × Nat :=
  let c := u.get x
  let n := leAt d 0 32
  let mode := bitsOf n 7 0
  let id := bitsOf n 63 32
  let step := bitsOf n 127 64
  let time := ofTime80 (bitsOf n 207 128)
  if d.length ≠ 32 then (x, eRange)
  else if bitsOf n 31 8 ≠ 0 ∨ bitsOf n 255 208 ≠ 0 then (x, eReserved)
  else if mode = 0 then (u.set x (c.setStage a []), stOk)
  else if mode > 3 ∨ id = 0 then (x, eRange)
  else if mode = 3 then
    if c.commits.any (fun k => k.id == id) then
      (u.set x (({ c with commits := c.commits.filter (fun k => k.id != id) }).raise 0x0205
        (if c.kind = 0 then 0x09 else 0x76) [id, a.session]), stOk)
    else (x, eRange)
  else if c.commits.any (fun k => k.id == id) then (x, eRange)
  else
    let fut := if mode = 1 then stepInFuture c.angle (c.kind = 0) step else decide (time ≥ c.ns + 10000)
    let st := c.stageOf a
    if !fut then (x, eCommitLate)
    else if (u.pairs x (st.map Prod.fst)).any (fun p => !p.2 (viewWith c st)) then (x, ePair)
    else if c.commits.length ≥ 16 then (x, eBusy)
    else
      let k : Commit := { id := id, step := if mode = 1 then some step else none,
                          time := if mode = 2 then some time else none, values := st, session := a.session }
      (u.set x ({ c.setStage a [] with commits := c.commits ++ [k] }), stCommitPending)

/-! ### Values taking effect -/

/-- One value takes effect (Table 2.5): a key, a commit descriptor (R78), a command, or a running value and what it does to its block. -/
def applyValue {σ : Type} (u : UnitOps σ) (a : Actor) (x : σ) (o : Nat) (v : Bytes) : σ × Nat :=
  if isKeyObj o then (u.set x ((u.get x).setKey o v a.session), stOk)
  else if o = oSessionCommit then commitDesc u x a v
  else match findRow (u.get x).kind o with
    | some r =>
      if r.access = .wo then u.command x a o v
      else
        let x := u.before x o
        (u.effect (u.set x ((u.get x).put o v)) o v, stOk)
    | none => (x, eNoObject)

/-- Values take effect together, in order: the last one written wins (R76). -/
def applyAll {σ : Type} (u : UnitOps σ) (a : Actor) (x : σ) (vs : Store) : σ :=
  let os := vs.map Prod.fst
  u.done (notePairs u x (vs.foldl (fun x w => (applyValue u a x w.1 w.2).1) x) os) os

/-! ### Commits taking effect (R82, R83) -/

/-- One pending commit takes effect: its values, then COMMIT_APPLIED (R82, Table 2.14). -/
def commitOne {σ : Type} (u : UnitOps σ) (x : σ) (k : Commit) : σ :=
  let a : Actor := { role := .custodian, tenant := 0, port := .mailbox, session := k.session }
  let x := u.set x ({ u.get x with commits := (u.get x).commits.filter (fun j => j.id != k.id) })
  let x := applyAll u a x k.values
  let c := u.get x
  u.set x (c.raise 0x0202 (if c.kind = 0 then 0x09 else 0x76) [k.id, k.values.length, c.angle.step, c.ns])

/-- Whether a step commit's target is the step, or lies at or before it (R82, R83). -/
def Commit.atStep (c : Core) (k : Commit) : Option Bool :=
  match k.step with
  | none => none
  | some t =>
    if (if c.kind = 0 then t % 2 ^ 32 == c.angle.step % 2 ^ 32 else t == c.angle.step) then some true
    else if stepInFuture c.angle (c.kind = 0) t then none else some false

/-- Class B values, then the commits for the step whose marker has been accepted, in order of acceptance (R76, R82, R83). -/
def commitsAtMarker {σ : Type} (u : UnitOps σ) (x : σ) : σ :=
  let a : Actor := { role := .custodian, tenant := 0, port := .mailbox, session := 0 }
  let wb := (u.get x).waitB
  let x := applyAll u a (u.set x { u.get x with waitB := [] }) wb
  (u.get x).commits.foldl (fun x k =>
    match k.atStep (u.get x) with
    | none => x
    | some true => commitOne u x k
    | some false =>
      let c := u.get x
      commitOne u (u.set x (c.raise 0x0203 (if c.kind = 0 then 0x09 else 0x76) [k.id, k.step.getD 0, c.angle.step])) k) x

/-- The pending time commits whose target unit time has reached, in order of acceptance (R82). -/
def commitsAtTime {σ : Type} (u : UnitOps σ) (x : σ) : σ :=
  (u.get x).commits.foldl (fun x k =>
    match k.time with
    | some t => if t ≤ (u.get x).ns then commitOne u x k else x
    | none => x) x

/-! ### Items (R92) -/

/-- Running value as a read returns it (R75, R119). -/
def readValue {σ : Type} (u : UnitOps σ) (x : σ) (a : Actor) (o : Nat) : Bytes :=
  match u.read x a o with
  | some v => v
  | none => (u.get x).get o

/-- One element read: the unit (a read-and-clear object is cleared), its response item and status. -/
def readElement {σ : Type} (u : UnitOps σ) (x : σ) (a : Actor) (o flags : Nat) : σ × Bytes × Nat :=
  let bad (st : Nat) := (x, responseItemBytes o 0 st [], st)
  match lookupFor u x a o with
  | .noObject => bad eNoObject
  | .noElement => bad eNoElement
  | .count r =>
    let st := access u x a o r.rdRole false
    if st ≠ stOk then bad st else (x, responseItemBytes o Ty.u32.code stOk (leBytes 4 (inUseOf u x r o)), stOk)
  | .defined r n =>
    let st := access u x a o r.rdRole false
    if st ≠ stOk then bad st else (x, responseItemBytes o Ty.u32.code stOk (leBytes 4 n), stOk)
  | .value r =>
    if r.access = .wo then bad eWriteOnly
    else
      let st := access u x a o r.rdRole false
      if st ≠ stOk then bad st
      else
        let c := u.get x
        let v := match (if flags % 2 = 1 then storeGet (c.stageOf a) o else none) with
          | some v => v
          | none => match (if flags / 2 % 2 = 1 then storeGet c.waitX o else none) with
            | some v => v
            | none => readValue u x a o
        let x := if r.access = .rc then u.didRead (u.set x (c.put o (zeros v.length))) o else u.didRead x o
        (x, responseItemBytes o r.ty.code stOk v, stOk)

/-- One read item: `count` elements from the item's element on (Table 2.11). -/
def readItem {σ : Type} (u : UnitOps σ) (x : σ) (a : Actor) (i : ReadItem) : σ × Bytes × Nat :=
  (List.range i.count).foldl (fun (p : σ × Bytes × Nat) k =>
    if objElem i.obj + k > 255 then (p.1, p.2.1 ++ responseItemBytes i.obj 0 eNoElement [], Nat.max p.2.2 eNoElement)
    else
      let r := readElement u p.1 a (i.obj + k) i.flags
      (r.1, p.2.1 ++ r.2.1, Nat.max p.2.2 r.2.2)) (x, [], 0)

/-- A checked value is written under its apply class (Table 2.5, R74, R86). -/
def writeChecked {σ : Type} (u : UnitOps σ) (x : σ) (a : Actor) (flags o : Nat) (cls : Apply) (v : Bytes) : σ × Nat :=
  let paired := !(u.pairs x [o]).isEmpty
  if flagForce flags && paired then
    if a.role.rank < 2 then (x, eRole)
    else (applyAll u a x [(o, v)], stOk)
  else match cls with
    | .restart =>
      if flagStage flags then (x, eApply)
      else (u.set x { u.get x with waitX := storeInsert (u.get x).waitX o v }, stPendingRestart)
    | .staged => let r := (u.get x).stageWrite a o v; (u.set x r.1, r.2)
    | .boundary =>
      if flagStage flags then let r := (u.get x).stageWrite a o v; (u.set x r.1, r.2)
      else if (u.get x).angle.isLocked then
        (u.set x { u.get x with waitB := storeErase (u.get x).waitB o ++ [(o, v)] }, stPendingBoundary)
      else (applyAll u a x [(o, v)], stAppliedUnlocked)
    | _ =>
      if flagStage flags then let r := (u.get x).stageWrite a o v; (u.set x r.1, r.2)
      else let r := applyValue u a x o v; (u.done r.1 [o], r.2)

/-- One write item (R66, R68, R69, Table 2.11): the unit and the item's status. -/
def writeItem {σ : Type} (u : UnitOps σ) (x : σ) (a : Actor) (flags : Nat) (w : WriteItem) : σ × Nat :=
  let dflt := w.flags % 2 = 1
  match lookupFor u x a w.obj with
  | .noObject => (x, eNoObject)
  | .noElement => (x, eNoElement)
  | .defined _ _ => (x, eReadOnly)
  | .count r =>
    if r.access ≠ .rw ∨ (u.inUse x w.obj).isSome then (x, eReadOnly)
    else
      let st := access u x a w.obj r.wrRole true
      let v := if dflt then leBytes 4 (r.used.getD r.elems) else w.value
      if st ≠ stOk then (x, st)
      else if !dflt ∧ w.ty ≠ Ty.u32.code then (x, eType)
      else if v.length ≠ 4 ∨ ofLe v > r.elems then (x, eRange)
      else writeChecked u x a flags w.obj r.apply v
  | .value r =>
    if r.access = .ro ∨ r.access = .rc then (x, eReadOnly)
    else
      let st := access u x a w.obj r.wrRole true
      if st ≠ stOk then (x, st)
      else if dflt then writeChecked u x a flags w.obj r.apply (rowDefault (u.get x).made r w.obj)
      else if w.ty ≠ r.ty.code then (x, eType)
      else
        let st := checkType r w.value
        if st ≠ stOk then (x, st)
        else
          let st := if isKeyObj w.obj then (u.get x).checkKey w.obj w.value else u.check x a w.obj w.value
          if st ≠ stOk then (x, st) else writeChecked u x a flags w.obj r.apply w.value

/-- Object numbers of an area from a start on, each with element 0x00, rising, as a role sees them (R70, R92). -/
def listOf {σ : Type} (u : UnitOps σ) (x : σ) (a : Actor) (area start : Nat) : List Nat :=
  let rows := (objectsOf area).filter (fun r => presentAt r.presence (u.get x).kind)
  let all := rows.flatMap (fun r => (List.range r.count).map (fun i => (r.base / 256 + i) * 256))
  let keep := all.filter (fun o => decide (o / 256 % 65536 ≥ start) && !(objExpert o && decide (a.role.rank < 2)))
  (sortBy keep (fun p q => decide (p ≤ q))).eraseDups

/-- Body of a LIST response (R92). -/
def listBody (os : List Nat) : Bytes :=
  (os.take 1000).flatMap (leBytes 4) ++
    (match os.drop 1000 with
     | [] => []
     | o :: _ => leBytes 4 0xFFFFFFFF ++ leBytes 4 o)

/-- Whether an item's length agrees with its type's (Table 2.3, Table 2.12). -/
def itemLengthOk (w : WriteItem) : Bool :=
  if w.flags % 2 = 1 then w.value.isEmpty
  else
    let t := [Ty.bool, .enum8, .u32, .u64, .u128, .s32, .s64, .fx32, .fx64, .f16, .bf16, .f32, .f64, .lf8, .time80].find?
      (fun t => t.code == w.ty)
    match t with
    | some t => w.value.length == t.bytes
    | none => true

/-- Whether a message's header is well formed for a body of `n` bytes (Tables 2.8, 2.9); LOCAL only on the mailbox and management ports. -/
def headerOk (e : Envelope) (n : Nat) : Bool :=
  let local_ := match e.port with
    | .mailbox => true
    | .mgmt _ => true
    | .loft _ => true
    | _ => false
  decide (e.flags < 32) && !e.flags.testBit 3 && (!flagLocal e.flags || local_)
    && e.bodyLen == n && decide (e.bodyLen ≤ 4096)
    && e.pathCount == e.paths.length && decide (1 ≤ e.pathCount) && decide (e.pathCount ≤ 4)

/-- Whether a request is well formed under its flags (Tables 2.9–2.11, R97). -/
def requestOk (e : Envelope) (q : Request) : Bool :=
  headerOk e q.body.length
    && (match q with
        | .read l => !flagFanout e.flags && l.all (fun i => decide (1 ≤ i.count) && decide (i.flags < 4))
        | .write l => l.all (fun w => decide (w.flags < 2) && itemLengthOk w)
        | .commit d => d.length == 32
        | .list _ _ => !flagFanout e.flags
        | .other _ _ => false)

/-- Message-level error of a session message (Table 3.1), 0 for none (R97, R98): FANOUT goes on WRITE and COMMIT only. -/
def sessionError (e : Envelope) (n need : Nat) : Nat :=
  if e.version ≠ 1 then eVersion
  else if !headerOk e n || flagFanout e.flags || n != need then eMalformed
  else if e.hop = 0 then eHopLimit else stOk

/-- The unit acts on a well-formed request addressed to it (R92). -/
def act {σ : Type} (u : UnitOps σ) (x : σ) (a : Actor) (flags : Nat) (q : Request) : σ × Response :=
  match q with
  | .read l =>
    let r := l.foldl (fun (p : σ × Bytes × Nat) i =>
      let r := readItem u p.1 a i
      (r.1, p.2.1 ++ r.2.1, Nat.max p.2.2 r.2.2)) (x, [], 0)
    (r.1, ⟨r.2.2, r.2.1⟩)
  | .write l =>
    let r := l.foldl (fun (p : σ × Bytes × Nat) w =>
      let r := writeItem u p.1 a flags w
      (r.1, p.2.1 ++ responseItemBytes w.obj (if r.2 ≥ 0x80 then 0 else w.ty) r.2 [], Nat.max p.2.2 r.2)) (x, [], 0)
    (r.1, ⟨r.2.2, r.2.1⟩)
  | .commit d =>
    let r := if a.role.rank < 1 then (x, eRole) else commitDesc u x a d
    (r.1, ⟨r.2, []⟩)
  | .list area start => if loftBarred a area then (x, .error eRole) else (x, ⟨stOk, listBody (listOf u x a area start)⟩)
  | .other _ _ => (x, .error eMalformed)

/-! ### Kept responses (R96) -/

/-- Principal of an actor. -/
def Actor.principal (a : Actor) : Principal := { role := a.role, tenant := a.tenant, port := a.port }

/-- The kept response to a message id of a principal, younger than 86,400 s and with the same digest. -/
def Core.keptFor (c : Core) (a : Actor) (id : Nat) (digest : Bytes) : Option Kept :=
  c.kept.find? (fun k => k.who == a.principal && k.msgId == id && k.digest == digest && decide (c.up - k.at_ < 86400000000000))

/-- Keep a response; a 65th id of a principal displaces its oldest. -/
def Core.keep (c : Core) (a : Actor) (id : Nat) (digest : Bytes) (opcode : Nat) (r : Response) : Core :=
  let k : Kept := { who := a.principal, msgId := id, digest := digest, opcode := opcode, summary := r.summary, body := r.body, at_ := c.up }
  let l := c.kept.filter (fun j => !(j.who == k.who && j.msgId == id)) ++ [k]
  let mine := l.filter (fun j => j.who == k.who)
  { c with kept := if mine.length > 64 then (match mine with
      | o :: _ => l.erase o
      | [] => l) else l }

end Sys2Proof.Machine
end

