-- ==== Sys2Proof/Machine/Sessions.lean ====
section
/-! DEFINITION. Sessions, roles and keys (spec/03): the opening handshake, the MAC and sequence checks of a message, responses, closing, lockout. -/
namespace Sys2Proof.Machine

/-- Sub-unit of the dictionary in events (Table 2.1). -/
def Core.dictSub (c : Core) : Nat := if c.kind = 0 then 0x09 else 0x76

/-- An entry port as a number in event payloads: management, Sky, Drizzle, mailbox, Loft slot. -/
def Port.code : Port → Nat
  | .mgmt p => p
  | .sky p => 0x100 + p
  | .drizzle p => 0x200 + p
  | .mailbox => 0x300
  | .loft s => 0x400 + s

/-- Whether a port carries a tree neighbour (Table 3.6, result 7): Drizzle and Sky ports do. -/
def Port.hasNeighbour : Port → Bool
  | .sky _ => true
  | .drizzle _ => true
  | _ => false

def secNs : Nat := 1000000000

/-! ### Messages under a session (R109–R111) -/

/-- Whether a sequence is acceptable under the 64-number window (R110), and the window after it. -/
def seqAccept (high window seq : Nat) : Option (Nat × Nat) :=
  if seq > high then
    let d := seq - high
    some (seq, (if d ≥ 64 then 0 else window * 2 ^ d % 2 ^ 64) ||| 1)
  else
    let d := high - seq
    if d ≥ 64 ∨ window.testBit d then none else some (high, window ||| 2 ^ d)

/-- MAC of a message under a session key (R109). -/
def macOf (key : Bytes) (e : Envelope) (opcode summary : Nat) (body : Bytes) : Bytes :=
  (hmac key (messageBytes e opcode summary body)).take 16

/-- Sessions whose idle time or lifetime has run out close (R111), reasons 1 and 2. -/
def Core.expireSessions (c : Core) : Core :=
  let c := c.closeSessions (fun s => decide (c.up ≥ s.lastAt + s.idle * secNs)) 1
  c.closeSessions (fun s => decide (c.up ≥ s.openedAt + s.life * secNs)) 2

/-- The open session that a message is valid under, and the unit with the message accepted (R109, R110). -/
def Core.authenticate (c : Core) (e : Envelope) (opcode : Nat) (body : Bytes) : Option (Session × Core) :=
  match c.sessions.find? (fun s => s.id == e.session && !s.isLocal) with
  | none => none
  | some s =>
    if e.mac ≠ macOf s.key e opcode 0 body then none
    else match seqAccept s.high s.window e.seq with
      | none => none
      | some (h, w) =>
        let s' := { s with high := h, window := w, lastAt := c.up }
        some (s', { c with sessions := modWhere (fun t => t.id == s.id) (fun _ => s') c.sessions })

/-- The actor of a message under a session (R96, R113). -/
def Session.actor (s : Session) : Actor := { role := s.role, tenant := s.tenant, port := s.port, session := s.id }

/-- Send a response under a session (R110): the next own sequence number, the request's message id and paths. A session whose
sequence in either direction has reached 0xFFFFFFFF closes after it (R111, reason 3). -/
def Core.respond (c : Core) (e : Envelope) (opcode : Nat) (r : Response) (replayed : Bool) : Core :=
  match c.sessions.find? (fun s => s.id == e.session) with
  | none => c
  | some s =>
    let own := s.own + 1
    let env := { e with version := 1, flags := if replayed then 8 else 0, seq := own, bodyLen := r.body.length,
                        pathCount := e.paths.length, hop := 15 }
    let op := opcode + 0x80
    let bytes := messageBytes env op r.summary r.body
    let c := c.send (.message e.port op (e.paths.headD 0) (bytes ++ (hmac s.key bytes).take 16))
    let c := { c with sessions := modWhere (fun t => t.id == s.id) (fun t => { t with own := own }) c.sessions }
    if own ≥ 0xFFFFFFFF ∨ s.high ≥ 0xFFFFFFFF then c.closeSessions (fun t => t.id == s.id) 3 else c

/-! ### Locks (R120) -/

/-- The lock entry of a role on a port. -/
def Core.lockOf (c : Core) (p : Port) (r : Role) : Lock :=
  (c.locks.find? (fun l => l.port == p && l.role == r)).getD { port := p, role := r, fails := 0, k := 0, until? := none }

def Core.setLock (c : Core) (l : Lock) : Core :=
  { c with locks := c.locks.filter (fun m => !(m.port == l.port && m.role == l.role)) ++ [l] }

/-- Whether a role is locked on a port now. -/
def Core.isLocked (c : Core) (p : Port) (r : Role) : Bool :=
  match (c.lockOf p r).until? with
  | some t => decide (c.up < t)
  | none => false

/-- Seconds of the k-th consecutive lockout (R120). -/
def Core.lockSeconds (c : Core) (k : Nat) : Nat :=
  let t := c.num oSessionLockoutTime
  Nat.min (t * 2 ^ (k - 1)) (8 * t)

/-- One authentication failure (R107, R120): counted and reported; a client's counts towards the lock. -/
def Core.authFail (c : Core) (p : Port) (r : Role) (tenant : Nat) (link : Bool) : Core :=
  let c := c.bump oSessionAuthFails
  if link then c.raise 0x0302 c.dictSub [r.rank, tenant, p.code, 0]
  else
    let l := c.lockOf p r
    let n := l.fails + 1
    let c := c.raise 0x0302 c.dictSub [r.rank, tenant, p.code, n]
    if n ≥ c.num oSessionLockoutLimit then
      let k := l.k + 1
      let t := c.lockSeconds k
      (c.setLock { l with fails := 0, k := k, until? := some (c.up + t * secNs) }).raise 0x0303 c.dictSub [r.rank, p.code, k, t]
    else c.setLock { l with fails := n }

/-- A lock's time has passed: it ends, and LOCKOUT is raised with 0 seconds left. -/
def Core.lockEnd (c : Core) (p : Port) (r : Role) : Core :=
  let l := c.lockOf p r
  match l.until? with
  | some t => if c.up ≥ t then (c.setLock { l with until? := none }).raise 0x0303 c.dictSub [r.rank, p.code, l.k, 0] else c
  | none => c

/-! ### Opening a session (R104–R108) -/

/-- A HELLO body (Table 3.2). -/
def helloBody (role : Nat) (link : Bool) (tenant nonce : Nat) : Bytes :=
  leBytes 1 role ++ leBytes 1 (if link then 1 else 0) ++ zeros 10 ++ leBytes 4 tenant ++ leBytes 16 nonce

/-- A CHALLENGE body (Table 3.3). -/
def challengeBody (c : Core) (role result id nonce : Nat) : Bytes :=
  leBytes 1 role ++ leBytes 1 result ++ zeros 6 ++ leBytes 4 id ++ leBytes 4 (c.num oSessionKdfIter) ++ slice (c.get oSessionSalt) 0 16
    ++ leBytes 16 nonce ++ slice (c.get oIdentUid) 0 16

/-- An OPENED body (Table 3.5). -/
def openedBody (role result id life idle : Nat) (proof : Bytes) : Bytes :=
  leBytes 1 role ++ leBytes 1 result ++ zeros 2 ++ leBytes 4 id ++ leBytes 4 life ++ leBytes 4 idle ++ proof

/-- Summary status of an open result (Table 3.6). -/
def resultStatus (r : Nat) : Nat :=
  match r with
  | 0 => stOk | 1 => eRole | 2 => eRole | 3 => eRole | 4 => eScope | 5 => eBusy | _ => eMalformed

/-- The ASCII bytes of "LMN-" followed by a letter (R105). -/
def lmn (letter : Nat) : Bytes := [76, 77, 78, 45, BitVec.ofNat 8 letter]
/-- Proofs and session key of a transcript (R105, R106). -/
def clientProof (k t : Bytes) : Bytes := hmac k (lmn 67 ++ t)
def tenantProof (k t : Bytes) : Bytes := hmac k (lmn 84 ++ t)
def unitProof (k t : Bytes) : Bytes := hmac k (lmn 85 ++ t)
def sessionKey (k t : Bytes) : Bytes := hmac k (lmn 83 ++ t)

/-- Key K of a handshake (R105). -/
def Core.openKey (c : Core) (link : Bool) (r : Role) : Bytes := if link then c.keys.tree else c.keys.roles.getD r.rank (zeros 32)

/-- Key of a configured tenant. -/
def Core.tenantKey (c : Core) (id : Nat) : Option Bytes := (c.keys.tenants.find? (fun t => t.2.1 == id)).map (fun t => t.2.2)

/-- Send an opening message: session 0 or the handshake's, sequence 0, MAC zeros. -/
def Core.sendOpening (c : Core) (e : Envelope) (opcode summary : Nat) (body : Bytes) : Core :=
  let env := { e with version := 1, flags := 0, session := 0, seq := 0, bodyLen := body.length, pathCount := e.paths.length, hop := 15 }
  c.send (.message e.port opcode (e.paths.headD 0) (messageBytes env opcode summary body ++ zeros 16))

/-- An id no session or handshake has: the drawn one where it will do, else the least that is free. -/
def Core.freshId (c : Core) (drawn : Nat) : Nat :=
  let taken := c.sessions.map (fun s => s.id) ++ c.handshakes.map (fun h => h.id)
  if drawn ≠ 0 ∧ !taken.contains drawn then drawn
  else ((List.range (taken.length + 1)).find? (fun i => !taken.contains (i + 1))).getD 0 + 1

/-- Handshakes still open: within 10 s of their CHALLENGE (R108). -/
def Core.liveHandshakes (c : Core) : List Handshake := c.handshakes.filter (fun h => decide (c.up < h.expires))

/-- Result of a HELLO before the tables are asked (Table 3.6). -/
def Core.helloResult (c : Core) (p : Port) (r : Role) (link : Bool) (tenant : Nat) : Nat :=
  if link && !p.hasNeighbour then 7
  else if !link && c.isLocked p r then 2
  else if c.openKey link r = zeros 32 then 3
  else if !link && decide (tenant ≠ 0) && (c.tenantKey tenant).isNone then 4
  else if c.liveHandshakes.length ≥ (if c.kind = 0 then 4 else 64) then 5
  else 0

/-- A message-level error of an opening message: no items (R98). -/
def Core.openingRefused (c : Core) (e : Envelope) (opcode st : Nat) : Core :=
  (if st = eMalformed then c.bump oSessionMsgMalformed else c).sendOpening e opcode st []

/-- A HELLO (R104, R107, R108). -/
def Core.hello (c : Core) (e : Envelope) (body : Bytes) : Core :=
  let code := leAt body 0 1
  let link := (leAt body 1 1).testBit 0
  let tenant := leAt body 12 4
  let bad := if sessionError e body.length 32 = stOk ∧ code > 3 then eMalformed else sessionError e body.length 32
  if bad ≠ stOk then c.openingRefused e 0x90 bad
  else
    let r := Role.ofCode code
    let res := c.helloResult e.port r link tenant
    let c := { c with handshakes := c.liveHandshakes }
    if res = 0 then
      let d := c.draw 1 128
      let i := d.2.draw 2 32
      let id := c.freshId i.1.toNat
      let ch := challengeBody c code 0 id d.1.toNat
      let h : Handshake := { id := id, transcript := body ++ ch, role := r, tenant := tenant, link := link, port := e.port,
                             expires := c.up + 10 * secNs }
      ({ i.2 with handshakes := i.2.handshakes ++ [h] }).sendOpening e 0x90 stOk ch
    else
      let d := c.draw 1 128
      let c := if res = 4 then d.2.authFail e.port r tenant link else d.2
      c.sendOpening e 0x90 (resultStatus res) (challengeBody c code res 0 d.1.toNat)

/-- Whether a session slot is free (R108). -/
def Core.slotFree (c : Core) (link : Bool) : Bool :=
  if c.kind = 0 then decide (c.sessions.length < 16)
  else decide ((c.sessions.filter (fun s => s.link == link && !s.isLocal)).length < (if link then 4096 else 64))

/-- Result of a PROOF for an open handshake (Tables 3.4, 3.6). -/
def Core.proofResult (c : Core) (h : Handshake) (proof : Bytes) : Nat :=
  let k := c.openKey h.link h.role
  if !h.link && c.isLocked h.port h.role then 2
  else if k = zeros 32 then 3
  else if proof.take 32 ≠ clientProof k h.transcript then 1
  else if !h.link && decide (h.tenant ≠ 0) &&
      (match c.tenantKey h.tenant with
       | none => true
       | some tk => proof.drop 32 != tenantProof tk h.transcript) then 4
  else if !c.slotFree h.link then 5
  else 0

/-- A PROOF (R105–R108): the handshake is consumed. -/
def Core.proof (c : Core) (e : Envelope) (proof : Bytes) : Core :=
  let c := c.expireSessions
  let refuse (c : Core) (role res : Nat) := c.sendOpening e 0x91 (resultStatus res) (openedBody role res 0 (c.num oSessionLifetime) (c.num oSessionIdleTimeout) (zeros 32))
  if sessionError e proof.length 64 ≠ stOk then c.openingRefused e 0x91 (sessionError e proof.length 64)
  else match (c.liveHandshakes).find? (fun h => h.id == e.session && h.port == e.port && decide (h.id ≠ 0)) with
  | none => refuse { c with handshakes := c.liveHandshakes } 0 6
  | some h =>
    let c := { c with handshakes := c.liveHandshakes.filter (fun g => g.id != h.id) }
    let res := c.proofResult h proof
    if res = 0 then
      let k := c.openKey h.link h.role
      let s : Session := { id := h.id, role := h.role, tenant := h.tenant, port := h.port, link := h.link, key := sessionKey k h.transcript,
                           high := 0, window := 1, own := 0, openedAt := c.up, lastAt := c.up, idle := c.num oSessionIdleTimeout,
                           life := c.num oSessionLifetime, stage := [] }
      let c := { c with sessions := c.sessions ++ [s] }
      let c := if h.link then c
        else (c.setLock { port := h.port, role := h.role, fails := 0, k := 0, until? := none }).raise 0x0301 c.dictSub
          [h.id, h.role.rank, h.tenant, h.port.code]
      c.sendOpening e 0x91 stOk (openedBody h.role.rank 0 h.id s.life s.idle (unitProof k h.transcript))
    else
      let c := if res = 1 ∨ res = 4 then c.authFail h.port h.role h.tenant h.link else c
      refuse c h.role.rank res

/-- A handshake 10 s after its CHALLENGE is discarded (R108). -/
def Core.handshakeExpire (c : Core) (id : Nat) : Core :=
  { c with handshakes := c.handshakes.filter (fun h => !(h.id == id && decide (c.up ≥ h.expires))) }

/-- A named session's idle time has run out (R111). -/
def Core.idleOut (c : Core) (id : Nat) : Core :=
  c.closeSessions (fun s => s.id == id && decide (c.up ≥ s.lastAt + s.idle * secNs)) 1

/-- A named session's lifetime has ended (R111). -/
def Core.lifeOut (c : Core) (id : Nat) : Core :=
  c.closeSessions (fun s => s.id == id && decide (c.up ≥ s.openedAt + s.life * secNs)) 2

/-- A write to SESSION.CLOSE_SESSION (R111). -/
def Core.closeNamed (c : Core) (id : Nat) : Core × Nat :=
  if c.sessions.any (fun s => s.id == id) then (c.closeSessions (fun s => s.id == id) 4, stOk) else (c, eRange)

/-- A kept response at 86,400 s of age is dropped (R96). -/
def Core.keptExpire (c : Core) : Core := { c with kept := c.kept.filter (fun k => decide (c.up - k.at_ < 86400000000000)) }

/-- SESSION.LOCKED as read on a port (R122): the eight positions of the reading port's group. -/
def Core.lockedMask (c : Core) (p : Port) : Nat :=
  let ports : List Port := match p with
    | .mgmt _ => [.mgmt 0, .mgmt 1]
    | .sky q => (List.range 8).map (fun i => .sky (q / 8 * 8 + i))
    | .drizzle q => if c.kind = 0 then [.drizzle 0, .mailbox] else (List.range 8).map (fun i => .drizzle (q / 8 * 8 + i))
    | .mailbox => [.drizzle 0, .mailbox]
    | .loft _ => []
  (List.range ports.length).foldl (fun m i =>
    [Role.observer, .operator, .engineer, .custodian].foldl (fun m r =>
      if c.isLocked (ports.getD i .mailbox) r then m ||| 2 ^ (4 * i + r.rank) else m) m) 0

/-! ### Messages as bytes (R90, Tables 2.8–2.11) -/

/-- Read items of a body. -/
def parseReads : Nat → Bytes → List ReadItem
  | 0, _ => []
  | n + 1, b => { obj := leAt b 0 4, count := leAt b 4 1, flags := leAt b 5 1 } :: parseReads n (b.drop 8)

/-- Write items of a body; `fuel` bounds their number. -/
def parseWrites : Nat → Bytes → List WriteItem
  | 0, _ => []
  | n + 1, b =>
    if b.isEmpty then []
    else
      let k := leAt b 6 2
      { obj := leAt b 0 4, ty := leAt b 4 1, flags := leAt b 5 1, value := (b.drop 8).take k } :: parseWrites n (b.drop (8 + roundUp k 8))

/-- The request an opcode and a body spell; a body whose items do not spell it back is malformed and stays as bytes. -/
def parseRequest (opcode : Nat) (b : Bytes) : Request :=
  let q : Request := match opcode with
    | 1 => .read (parseReads (b.length / 8) b)
    | 2 => .write (parseWrites (b.length / 8) b)
    | 3 => .commit b
    | 4 => .list (leAt b 3 1) (leAt b 1 2)
    | o => .other o b
  if q.body = b then q else .other opcode b

/-- The envelope, opcode, summary and body that a message's bytes spell (Table 2.8); none where the lengths do not fit. -/
def parseMessage (port : Port) (b : Bytes) : Option (Envelope × Nat × Nat × Bytes) :=
  let pc := leAt b 22 1
  let bl := leAt b 20 2
  let off := 32 + 4 * (pc - 1)
  if pc = 0 ∨ b.length ≠ off + bl + 16 then none
  else
    some ({ port := port, version := leAt b 0 1, flags := leAt b 2 2, msgId := leAt b 4 4, session := leAt b 8 4, seq := leAt b 12 4,
            paths := leAt b 16 4 :: (List.range (pc - 1)).map (fun i => leAt b (32 + 4 * i) 4), pathCount := pc, bodyLen := bl,
            hop := leAt b 23 1, mac := b.drop (off + bl) }, leAt b 1 1, leAt b 24 1, (b.drop off).take bl)

/-! ### Fan-out bodies (R97) -/

/-- Index of the first item that failed and its status, none when the unit succeeded. -/
def failureOf (q : Request) (r : Response) : Option (Nat × Nat) :=
  if r.summary < 0x80 then none
  else match q with
    | .write l =>
      match (List.range l.length).find? (fun i => decide (leAt r.body (8 * i + 5) 1 ≥ 0x80)) with
      | some i => some (i, leAt r.body (8 * i + 5) 1)
      | none => some (0, r.summary)
    | _ => some (0, r.summary)

/-- A fan-out response body: units addressed, succeeded, failed, then at most 32 entries of path, item and status. -/
def fanBody (addressed ok failed : Nat) (entries : List (Nat × Nat × Nat)) : Bytes :=
  let es := entries.take 32
  leBytes 4 addressed ++ leBytes 4 ok ++ leBytes 4 failed ++ leBytes 4 es.length
    ++ es.flatMap (fun x => leBytes 4 x.1 ++ leBytes 1 x.2.1 ++ leBytes 1 x.2.2 ++ zeros 2)

/-! ### One message at a unit that acts on it itself -/

/-- The unit discards a message that fails the session check, and counts it (R90). -/
def Core.macFail (c : Core) : Core := c.bump oSessionMacFails

/-- CLOSE: an authenticated message that closes the session that carries it (R104, R111). -/
def Core.closeMessage (c : Core) (e : Envelope) : Core :=
  let c := c.expireSessions
  match c.authenticate e 0x12 [] with
  | none => c.macFail
  | some (s, c) =>
    let st := sessionError e 0 0
    if st ≠ stOk then (if st = eMalformed then c.bump oSessionMsgMalformed else c).respond e 0x12 (.error st) false
    else (c.respond e 0x12 ⟨stOk, []⟩ false).closeSessions (fun t => t.id == s.id) 0

/-- Act on a request of a known actor, with the kept responses of R96: the unit, the response, and whether it is a replay. -/
def actKept {σ : Type} (u : UnitOps σ) (x : σ) (a : Actor) (e : Envelope) (q : Request) : σ × Response × Bool :=
  let d := requestDigest e q.opcode q.body
  match (u.get x).keptFor a e.msgId d with
  | some k => (x, ⟨k.summary, k.body⟩, true)
  | none =>
    let r := act u x a e.flags q
    (u.set r.1 ((u.get r.1).keep a e.msgId d (q.opcode + 0x80) r.2), r.2, false)

end Sys2Proof.Machine
end

