-- ==== Sys2Proof/Machine/Cuts.lean ====
section
/-! DEFINITION. Arming and cancelling a cut at any unit (R455, R456), and the values of objects that Ovtan and group compute alike. -/
namespace Sys2Proof.Machine

/-- Sub-unit of a unit's cuts in events: the capture sequencer of an Ovtan, Overcast of a Fabato (Table 2.1). -/
def Core.cutSub (c : Core) : Nat := if c.kind = 0 then 0x00 else 0x73

/-- Fields of a cut descriptor (Table 18.1). -/
def cutId (d : Bytes) : Nat := leAt d 28 4
def cutStep (d : Bytes) : Nat := leAt d 20 8
def cutAngle (d : Bytes) : Nat := leAt d 16 4
def cutInitiator (d : Bytes) : Nat := leAt d 12 4
def cutTenant (d : Bytes) : Nat := leAt d 8 4
def cutKind (d : Bytes) : Nat := leAt d 0 1

/-- A cut descriptor (Table 18.1). -/
def cutDesc (kind tenant initiator angle step id : Nat) : Bytes :=
  leBytes 1 kind ++ zeros 7 ++ leBytes 4 tenant ++ leBytes 4 initiator ++ leBytes 4 angle ++ leBytes 8 step ++ leBytes 4 id

/-- Status of a descriptor's own fields: kind 1 or 2, nonzero id, reserved bits 0. -/
def cutFields (d : Bytes) : Nat :=
  if d.length ≠ 32 ∨ cutKind d = 0 ∨ cutKind d > 2 ∨ cutId d = 0 then eRange
  else if leAt d 1 7 ≠ 0 then eReserved else stOk

/-- Steps from the current one to a cut's step, none where the step has passed (R455). -/
def Core.cutAhead (c : Core) (step : Nat) : Option Nat :=
  if c.kind = 0 then
    let ds := (step % 2 ^ 32 + 2 ^ 32 - c.angle.step % 2 ^ 32) % 2 ^ 32
    if ds ≥ 0x80000000 then none else some ds
  else if step < c.angle.step then none else some (step - c.angle.step)

/-- Predicted instant of (S, A) (R455): none where the step has passed. -/
def Core.cutPredict (c : Core) (step angle : Nat) : Option Nat :=
  (c.cutAhead step).map (fun ds =>
    let l := c.angle.lq / 65536
    c.angle.tm + ds * l + (angle * l + 0xFFFFFFFF) / 2 ^ 32)

/-- An arm arrives (R455): the unit and the status. -/
def Core.armCut (c : Core) (d : Bytes) : Core × Nat :=
  if cutFields d ≠ stOk then (c, cutFields d)
  else if !c.angle.isLocked then (c, eCommitLate)
  else if c.cuts.length ≥ 4 then (c, eBusy)
  else if c.cuts.any (fun k => k.id == cutId d) then (c, eRange)
  else match c.cutPredict (cutStep d) (cutAngle d) with
    | none => (c, eCommitLate)
    | some t =>
      if t < c.ns + 2000000 then (c, eCommitLate)
      else
        let k : ArmedCut := { id := cutId d, step := cutStep d, angle := cutAngle d, flags := cutKind d, desc := d, armedAt := c.ns }
        ({ c with cuts := c.cuts ++ [k] }.raise 0x0F01 c.cutSub [k.id, k.step, k.angle], stOk)

/-- A cancel at one unit (R456): an armed cut is discarded; one that has latched stays, E_APPLY (Table 18.7). -/
def Core.cancelCut (c : Core) (id : Nat) (latched : Bool) : Core × Nat :=
  if c.cuts.any (fun k => k.id == id) then ({ c with cuts := c.cuts.filter (fun k => k.id != id) }, stOk)
  else if latched then (c, eApply) else (c, eRange)

/-! ### Values that every unit computes -/

/-- Table number a list holds at element `e`, from 1. -/
def nthLe (k : Nat) (l : List Nat) (e : Nat) : Bytes := leBytes k (l.getD (e - 1) 0)

/-- Effective calibration of the object that `o` belongs to (R89): element 0x80 the offset, 0x81 the gain. -/
def Core.effective (c : Core) (o : Nat) : Bytes :=
  let f (e : Nat) := f32Val (c.num (withElem o e))
  if objElem o = 0x80 then leBytes 4 (toF32 (effOffset (f 1) (f 0x41) (f 0x40)))
  else leBytes 4 (toF32 (effGain (f 2) (f 0x41)))

/-- Objects whose value an Ovtan and a group compute alike; `q` is the quality byte now. -/
def Core.readShared (c : Core) (q : Byte) (a : Actor) (o : Nat) : Option Bytes :=
  let sess := c.sessions
  match o with
  | 0x00000300 => some (leBytes 1 c.kind)
  | 0x00000500 => some (leBytes 4 c.path)
  | 0x01000900 => some (leBytes 4 ((sess.filter (fun s => !s.link && !s.isLocal)).length % 65536 + (sess.filter (fun s => s.link)).length % 65536 * 65536))
  | 0x01000D00 => some (leBytes 4 (c.lockedMask a.port))
  | 0x01001100 => some (leBytes 4 (c.stageOf a).length)
  | 0x02000000 => some (leBytes 10 (time80 c.ns))
  | 0x02000100 => some (leBytes 4 q.toNat)
  | 0x02000200 => some (leBytes 1 (match c.time.mode with | .unlocked => 0 | .acquiring => 1 | .locked => 2 | .holdover => 3))
  | 0x02000300 => some (leBytes 8 (wrapInt 64 c.time.theta))
  | 0x02000400 => some (leBytes 8 (wrapInt 64 c.time.delay))
  | 0x02000500 => some (leBytes 8 (wrapInt 64 c.time.adj))
  | 0x02000E00 => some (leBytes 8 (match c.time.mode, c.time.holdSince with | .holdover, some s => c.up - s | _, _ => 0))
  | 0x02800300 => some (leBytes 4 (c.holdRate (c.kind = 0) 6))
  | 0x03000100 => some (leBytes 1 (c.angle.modeAt c.ns).code)
  | 0x03000200 => some (leBytes 8 c.angle.step)
  | 0x03000300 => some (leBytes 4 (angleAt c.angle c.ns))
  | 0x03000400 => some (leBytes 8 c.angle.lq)
  | 0x0F000400 => some c.cutLast
  | _ =>
    if o / 256 = oSessionTenantIds / 256 then some (nthLe 4 (c.keys.tenants.map (fun t => t.2.1)) (objElem o))
    else if o / 256 = oSessionPending / 256 then some (nthLe 4 (c.commits.map (fun k => k.id)) (objElem o))
    else if o / 256 = oCutPending / 256 then some ((c.cuts.getD (objElem o - 1) { id := 0, step := 0, angle := 0, flags := 0, desc := zeros 32, armedAt := 0 }).desc)
    else if objArea o = 0x0B ∧ (objElem o = 0x80 ∨ objElem o = 0x81) then some (c.effective o)
    else none

/-- Elements in use of the arrays that every unit computes (R58). -/
def Core.inUseShared (c : Core) (o : Nat) : Option Nat :=
  if o / 256 = oSessionTenantIds / 256 then some c.keys.tenants.length
  else if o / 256 = oSessionPending / 256 then some c.commits.length
  else if o / 256 = oCutPending / 256 then some c.cuts.length
  else if isKeyObj o then some (if o / 256 = oSessionRoleKey / 256 then 4 else 32)
  else none

/-- Whether an f32 value lies in a range of rationals given as numerators over 100. -/
def f32In (v : Bytes) (lo hi : Int) : Bool := fle (fofRat lo 100) (f32Val (ofLe v)) && fle (f32Val (ofLe v)) (fofRat hi 100)

/-- The user elements of a calibration object: gain 0.25 to 4.0 (Table 2.7), and 1.0 for a timestamp path (R136). -/
def checkCal (o : Nat) (v : Bytes) : Nat :=
  if objElem o = 0x41 then
    if 0x0400 ≤ o / 256 % 65536 ∧ o / 256 % 65536 < 0x0700 then (if ofLe v = 0x3F800000 then stOk else eRange)
    else if f32In v 25 400 then stOk else eRange
  else stOk

/-- Checks that an Ovtan and a group have alike: a schedule entry (Table 5.2). -/
def checkEntry (v : Bytes) : Nat :=
  let n := leAt v 0 16
  let e := schedEntry v
  if e.kind = 3 then eRange
  else if n.testBit 2 || bitsOf n 7 4 != 0 || bitsOf n 19 16 != 0 || bitsOf n 31 30 != 0 then eReserved
  else if e.kind = 0 then stOk
  else if e.kind = 1 then
    if bitsOf n 95 80 ≠ 0 then eReserved
    else if e.period = 0 ∨ e.phase ≥ e.period then eRange else stOk
  else
    if bitsOf n 63 48 ≠ 0 then eReserved
    else if e.period < 10000 ∨ e.pos ≥ e.period then eRange else stOk

/-- The pair of R135, which every unit has. -/
def timePair : List Nat × ((Nat → Bytes) → Bool) :=
  ([oTimeStepThreshold, oTimeRelockThreshold], fun v => decide (ofLe (v oTimeStepThreshold) < ofLe (v oTimeRelockThreshold)))

end Sys2Proof.Machine
end

