-- ==== Sys2Proof/Machine/Aes.lean ====
section
/-! DEFINITION. AES-256-GCM, the cipher that R428 names. The manual names it by name only; the algorithm is the published one (PRESUMED, log entry 4). -/
namespace Sys2Proof.Machine

/-! ### The field of the S-box -/

/-- One doubling in the field of AES. -/
def aesDouble (b : Byte) : Byte := (b <<< 1) ^^^ (if b.msb then 0x1B else 0)

/-- Product of `a` and the low `n` bits of `b`. -/
def aesMul : Nat → Byte → Byte → Byte
  | 0, _, _ => 0
  | n + 1, a, b => (if b.getLsbD 0 then a else 0) ^^^ aesMul n (aesDouble a) (b >>> 1)

/-- Inverse: the 254th power. -/
def aesInv (a : Byte) : Byte :=
  (List.range 7).foldl (fun r i => let s := aesMul 8 r r; if i < 6 then aesMul 8 s a else s) a

/-- The S-box. -/
def aesSub (b : Byte) : Byte :=
  let i := aesInv b
  i ^^^ i.rotateLeft 1 ^^^ i.rotateLeft 2 ^^^ i.rotateLeft 3 ^^^ i.rotateLeft 4 ^^^ 0x63

/-- Bytewise exclusive or, as long as the shorter. -/
def xorBytes (a b : Bytes) : Bytes := List.zipWith (fun x y => x ^^^ y) a b

/-! ### The cipher -/

/-- The key schedule of AES-256: 60 words of 4 bytes. -/
def aesSchedule (key : Bytes) : List Bytes :=
  let w0 := (List.range 8).map (fun i => slice key (4 * i) 4)
  let r := (List.range 52).foldl (fun (p : List Bytes × Byte) j =>
    let i := j + 8
    let t := p.1.getD (i - 1) []
    let u := if i % 8 = 0 then xorBytes ((t.drop 1 ++ t.take 1).map aesSub) [p.2, 0, 0, 0] else if i % 8 = 4 then t.map aesSub else t
    (p.1 ++ [xorBytes (p.1.getD (i - 8) []) u], if i % 8 = 0 then aesDouble p.2 else p.2)) (w0, 1)
  r.1

/-- Round key `r`. -/
def aesRoundKey (ws : List Bytes) (r : Nat) : Bytes := ((ws.drop (4 * r)).take 4).flatten

/-- ShiftRows over a state held column by column. -/
def aesShift (s : Bytes) : Bytes := (List.range 16).map (fun i => s.getD (i % 4 + 4 * ((i / 4 + i % 4) % 4)) 0)

/-- MixColumns. -/
def aesMix (s : Bytes) : Bytes :=
  (List.range 16).map (fun i =>
    let c (k : Nat) : Byte := s.getD (i / 4 * 4 + (i % 4 + k) % 4) 0
    aesDouble (c 0) ^^^ (aesDouble (c 1) ^^^ c 1) ^^^ c 2 ^^^ c 3)

/-- One block. -/
def aesBlock (ws : List Bytes) (b : Bytes) : Bytes :=
  let s := (List.range 13).foldl (fun s r => xorBytes (aesMix (aesShift (s.map aesSub))) (aesRoundKey ws (r + 1))) (xorBytes b (aesRoundKey ws 0))
  xorBytes (aesShift (s.map aesSub)) (aesRoundKey ws 14)

/-! ### GCM -/

/-- The big-endian number of some bytes. -/
def ofBe (b : Bytes) : Nat := b.foldl (fun n x => n * 256 + x.toNat) 0

/-- `k` bytes of a number, big-endian. -/
def beBytes (k n : Nat) : Bytes := (leBytes k n).reverse

/-- Product in the field of GCM, over the top `n` bits of `x` still to come. -/
def gcmMul (x y : Nat) : Nat :=
  ((List.range 128).foldl (fun (p : Nat × Nat) i =>
    (if x.testBit (127 - i) then p.1 ^^^ p.2 else p.1, if p.2 % 2 = 1 then p.2 / 2 ^^^ 0xE1 * 2 ^ 120 else p.2 / 2)) (0, y)).1

/-- Sixteen-byte blocks, the last padded with zeros. -/
def gcmBlocks (b : Bytes) : List Nat := (List.range ((b.length + 15) / 16)).map (fun i => ofBe (slice b (16 * i) 16))

/-- GHASH. -/
def gcmHash (h : Nat) (aad c : Bytes) : Nat :=
  (gcmBlocks aad ++ gcmBlocks c ++ [aad.length * 8 * 2 ^ 64 + c.length * 8]).foldl (fun y x => gcmMul (y ^^^ x) h) 0

/-- Counter mode from block number `n` on. -/
def gcmStream (ws : List Bytes) (nonce b : Bytes) : Bytes :=
  (List.range ((b.length + 15) / 16)).flatMap (fun i => xorBytes ((b.drop (16 * i)).take 16) (aesBlock ws (nonce ++ beBytes 4 (i + 2))))

/-- The tag of a ciphertext. -/
def gcmTag (ws : List Bytes) (nonce aad c : Bytes) : Bytes :=
  beBytes 16 (ofBe (aesBlock ws (nonce ++ beBytes 4 1)) ^^^ gcmHash (ofBe (aesBlock ws (zeros 16))) aad c)

/-- Seal: ciphertext and tag. -/
def gcmSeal (key nonce aad plain : Bytes) : Bytes × Bytes :=
  let ws := aesSchedule key
  let c := gcmStream ws nonce plain
  (c, gcmTag ws nonce aad c)

/-- Open: the plaintext where the tag fits. -/
def gcmOpen (key nonce aad c tag : Bytes) : Option Bytes :=
  let ws := aesSchedule key
  if gcmTag ws nonce aad c = tag then some (gcmStream ws nonce c) else none

end Sys2Proof.Machine
end

