-- ==== Sys2Proof/Parts/Capture.lean ====
section
/-! DEFINITION. State of the Ovtan's capture side (spec/06): counters, sensors, the capture sequencer, the record buffer and the spill ring. -/
namespace Sys2Proof.Machine

/-- A record held at the Ovtan, with the full Ovtan time of its capture (R279). -/
structure Held where
  base : Record
  time : Nat
  /-- its place in the unit's order of placement -/
  ord : Nat
deriving DecidableEq, Repr

/-- An entry of the spill ring: a record, or a time mark (R280). -/
inductive RingEntry where
  | mark (time : Nat)
  | held (h : Held)
deriving DecidableEq, Repr

/-- A coalesced pending gap (R192, R195): class, reason, records lost, first step, entry, detail. -/
structure PendGap where
  cls : RClass
  reason : Nat
  lost : Nat
  step : Nat
  entry : Nat
  detail : Nat
deriving DecidableEq, Repr

/-- Record buffer, spill ring and alarm bucket (R192–R196, R535). -/
structure RecBuf where
  a : List Held
  c : List Held
  s : List Held
  t : List Held
  ring : List RingEntry
  /-- reference of the last time mark written (R280) -/
  lastMark : Option Nat
  /-- class C records waiting outside the buffer (R535) -/
  waitC : List Held
  /-- the ring in host memory: bytes written before its first entry; entries (from the first) whose write has been
  acknowledged, entries in the write in flight, entries read back for replay, entries in the read in flight (R254, R255) -/
  ringPos : Nat
  ringAcked : Nat
  ringWriting : Nat
  ringRead : Nat
  ringReading : Nat
  /-- next sequence numbers by class code T, S, C, A (R40, RECORD.NEXT_SEQ) -/
  seq : List U16
  pend : List PendGap
  /-- alarm tokens in 10⁻⁹ token, and the unit time they were last refilled (R195) -/
  tokens : Nat
  tokensAt : Nat
  /-- episodes in progress: alarm drops, sample losses -/
  dropEpisode : Bool
  lossEpisode : Bool
  /-- LINK_SPILL in force; and the ring still holds records since, the lane being back (R280) -/
  spilling : Bool
  replaying : Bool
  /-- records placed so far, which orders buffer and ring (R41) -/
  ord : Nat
  /-- by class code, records of the buffer that an anchor sent covers and that have not left (R144) -/
  covered : List Nat
  /-- SPILL_START raised since the ring was last empty, and bytes spilled since -/
  spillOpen : Bool
  spilled : Nat
  /-- records replayed and anchors emitted since the return to Up (R281) -/
  replayed : Nat
  anchors : Nat
  /-- the ring's first run is open for sending: its mark has been taken off and its anchors have gone (R281) -/
  runOpen : Bool
  /-- anchors still to be placed in flits ahead of the open run -/
  anchorQ : List Record
  /-- the run is held until the flit with this sequence number, which carries the last anchor, is acknowledged (R144) -/
  anchorWait : Option Nat
  /-- ring disabled by a spill error (R255) -/
  ringOff : Bool
  /-- record-buffer macros failed beyond repair (R193) -/
  failedMacros : Nat
  /-- an alarm record has passed R195 since the command in progress began: the trace trigger of Table 7.3 reads it -/
  alarmed : Bool
deriving DecidableEq, Repr

/-- A sensor channel: latest conversion (R184) and the copy READ takes into R (R187). -/
structure Chan where
  /-- raw as f32 bits, calibrated value as f32 bits -/
  raw : Nat
  value : Nat
  time : Nat
  valid : Bool
  stretch : Bool
  seen : Bool
deriving DecidableEq, Repr

/-- What a firing carries when it is a cut's (R457): the cut, and whether its class A, C and T markers are in place. -/
structure CutFire where
  id : Nat
  step : Nat
  angle : Nat
  early : Bool
  jumped : Bool
  marked : Bool
deriving DecidableEq, Repr

/-- A firing queued for the sequencer (R166), or a cut's in the slot reserved for cuts (R457). -/
structure Firing where
  entry : Nat
  program : Nat
  tag : Nat
  lateLimit : Nat
  optional : Bool
  timeEntry : Bool
  fire : Nat
  angle : Nat
  /-- step, angle field and angle status byte of the fire time, once it is reached (R169) -/
  stamp : Option (Nat × Nat × Nat)
  cut : Option CutFire
deriving DecidableEq, Repr

/-- A program run (R187–R191). -/
structure Run where
  fir : Firing
  start : Nat
  /-- latch time L_T -/
  lt : Nat
  lateness : Nat
  /-- the program store as the run started with it (R200) -/
  words : List U64
  pc : Nat
  flag : Bool
  count : Nat
  staging : List Record
  /-- still among the SNAP words at the head -/
  head : Bool
  snapped : Bool
  /-- unit time at which the next word executes -/
  ready : Nat
  waited : Bool
  alarm : Bool
  trunc : Bool
deriving DecidableEq, Repr

/-- The latch shared by firings of one fire time (R188, R189). -/
structure LatchPart where
  fire : Nat
  lt : Nat
  armed : Nat
  latched : Nat
  frozen : Nat
  off : Nat
  uncertainty : Nat
deriving DecidableEq, Repr

/-- Counters, sensors and the capture sequencer. -/
structure Capture where
  /-- counters 0–575, 64 bits each (R179) -/
  ctr : List U64
  base : List (List U64)
  /-- RESET marks: for each counter, bit s set while its set-s baseline predates its configuration (Table 6.8) -/
  resets : List Nat
  snap : List U64
  delta : List U64
  /-- delta RESET flags of the last DELTA, by counter -/
  deltaReset : List Bool
  /-- the latest conversion, and the one before the latest cycle that brought one (Table 6.12) -/
  chans : List Chan
  chansPrev : List Chan
  r : List Chan
  /-- channels whose trip is disarmed until its re-arm condition (R196) -/
  tripped : List Nat
  /-- previous cycle's bits of each bus (mode 4 of Table 6.1) -/
  prev : List U128
  /-- CG_NOTE[31:0]; domains power-gated by a completed PD_ACK; time each domain went off -/
  cgNote : Nat
  gated : Nat
  /-- the program store's 1,024 words (R187, R197) -/
  prog : List U64
  queue : List Firing
  run : Option Run
  /-- the latest latch: its frozen and off masks are those of Table 6.8 -/
  latch : Option LatchPart
  /-- end of each frequency monitor's last window, and the monitors with a stretch interval ended since (R185) -/
  fmonAt : List Nat
  stretched : List Nat
  repaired : List Nat
  /-- counters beyond the spares, which hold 0 (R258) -/
  dead : List Nat
deriving DecidableEq, Repr

end Sys2Proof.Machine
end

