-- ==== Sys2Proof/Machine/Records.lean ====
section
/-! DEFINITION. Forming records (R56, R198) and placing them in the Ovtan's record buffer, spill ring or a pending gap (R40, R192, R193, R195, R199, R280, R535). -/
namespace Sys2Proof.Machine

/-- Bytes 14–15 of an Ovtan record: sub-unit and index (Table 1.11). -/
def srcOf (sub idx : Nat) : U16 := BitVec.ofNat 16 (sub % 64 * 1024 + idx % 1024)

/-- A record with the unit's step and angle at time `t` (R56) and sequence 0. -/
def mkRecord (c : Core) (t type : Nat) (cls : RClass) (src : U16) (payload : Nat) : Record :=
  { type := BitVec.ofNat 8 type, flags := 0, cont := false, cls := cls, seq := 0, tns := BitVec.ofNat 32 t,
    step := BitVec.ofNat 32 c.angle.step, angle := BitVec.ofNat 16 (angleAt c.angle t / 65536), src := src,
    payload := BitVec.ofNat 128 payload }

/-- Payload of a time/sync record (Table 4.5). -/
def timePayload (reference count first : Nat) (late : Bool) (arg quality sub : Nat) : Nat :=
  reference % 2 ^ 64 * 2 ^ 64 + count % 65536 * 2 ^ 48 + first % 65536 * 2 ^ 32 + (if late then 2 ^ 24 else 0)
    + arg % 256 * 65536 + quality % 256 * 256 + sub % 256

/-- Payload of a gap record (Table 6.11). -/
def gapPayload (lost span reason step entry : Nat) (cls : RClass) (detail : Nat) : Nat :=
  lost % 2 ^ 32 * 2 ^ 96 + span % 65536 * 2 ^ 80 + reason % 65536 * 2 ^ 64 + step % 2 ^ 32 * 2 ^ 32
    + entry % 256 * 2 ^ 24 + cls.code * 65536 + Nat.min detail 65535

/-! ### Sequence numbers and occupancy -/

/-- Next sequence number of a class, and the buffer with it taken (R40). -/
def RecBuf.take1 (b : RecBuf) (cls : RClass) : U16 × RecBuf :=
  let s := b.seq.getD cls.code 0
  (s, { b with seq := b.seq.set cls.code (s + 1) })

/-- The class S share of R193. -/
def shareS (c : Core) (b : RecBuf) : Nat := 8192 - 512 - c.num oRecordTQuota - 1024 * b.failedMacros

/-- The records of one class in the ring. -/
def RecBuf.ringOf (b : RecBuf) (cls : RClass) : List Held :=
  b.ring.filterMap (fun e => match e with
    | .held h => if h.base.cls == cls then some h else none
    | .mark _ => none)

/-- Whether the ring holds a record of a class. -/
def RecBuf.ringHas (b : RecBuf) (cls : RClass) : Bool := !(b.ringOf cls).isEmpty

/-- The records of one class in the buffer. -/
def RecBuf.held (b : RecBuf) : RClass → List Held
  | .t => b.t | .s => b.s | .c => b.c | .a => b.a

/-- The buffer with the records of one class replaced. -/
def RecBuf.setHeld (b : RecBuf) (l : List Held) : RClass → RecBuf
  | .t => { b with t := l } | .s => { b with s := l } | .c => { b with c := l } | .a => { b with a := l }

/-- Records as they are held, in order of placement. -/
def RecBuf.holdAll (b : RecBuf) (time : Nat) (rs : List Record) : List Held × RecBuf :=
  ((List.range rs.length).zip rs |>.map (fun p => { base := p.2, time := time, ord := b.ord + p.1 : Held }),
   { b with ord := b.ord + rs.length })

/-- Whether a record of a class goes to the ring although its region has room: while LINK_SPILL is in force, and after the return while
the ring holds records of the class (R280). -/
def RecBuf.linkRing (b : RecBuf) (cls : RClass) : Bool := b.spilling || (b.replaying && b.ringHas cls)

/-- Ring capacity in 32-byte entries; 0 while the ring is disabled (R193, R194, R255). -/
def ringCap (c : Core) (b : RecBuf) : Nat := if b.ringOff then 0 else c.used oRecordSpillSize / 32

/-- The ring with a list of records appended, with the time marks of R280. -/
def ringWith (now : Nat) : List RingEntry → Option Nat → List Held → List RingEntry × Option Nat
  | ring, m, [] => (ring, m)
  | ring, m, h :: hs =>
    match m with
    | some k =>
      if Nat.max k h.time - Nat.min k h.time > 500000000 then
        ringWith now (ring ++ [.mark now, .held h]) (some now) hs
      else ringWith now (ring ++ [.held h]) m hs
    | none => ringWith now (ring ++ [.mark now, .held h]) (some now) hs

/-- The ring's two objects are used as a pair (R86, R194). -/
def Core.useSpill (c : Core) : Core := c.usePair oRecordSpillBase oRecordSpillSize

/-- Append records to the ring whole, or answer none when they do not fit (R192, R280). Raises SPILL_START at the first. -/
def ringPut (c : Core) (b : RecBuf) (hs : List Held) : Option (Core × RecBuf) :=
  let c := c.useSpill
  let r := ringWith c.ns b.ring b.lastMark hs
  if r.1.length ≤ ringCap c b then
    let c := if b.spillOpen then c else c.raise 0x0604 0x07 [b.s.length]
    some (c, { b with ring := r.1, lastMark := r.2, spillOpen := true, spilled := b.spilled + 32 * (r.1.length - b.ring.length) })
  else none

/-- The gap record of a pending gap, with its sequence number still 0 (R199: one number, span 1). -/
def gapRecord (c : Core) (g : PendGap) : Record :=
  mkRecord c c.ns 0x50 g.cls (srcOf 0x07 0) (gapPayload g.lost 1 g.reason g.step g.entry g.cls g.detail)

/-- REPLAY_DONE and SPILL_END once the ring holds no record (R281). -/
def ringEmptied (c : Core) (b : RecBuf) : Core × RecBuf :=
  if b.spillOpen && b.ring.all (fun e => match e with
      | .held _ => false
      | .mark _ => true) then
    ((c.raise 0x0A04 0x08 [b.replayed, b.anchors]).raise 0x0605 0x07 [b.spilled],
     { b with ring := [], spillOpen := false, spilled := 0, replayed := 0, anchors := 0, runOpen := false, lastMark := none, ringAcked := 0,
              ringWriting := 0, ringRead := 0, ringReading := 0, replaying := false })
  else (c, b)

/-- Gap records of reason 0x02 for numbered records that are discarded (R199, R277): each takes the numbers of a stretch of one class, and its place
in the order. -/
def gapsFor (c : Core) : List Held → List Held
  | [] => []
  | h :: rest =>
    match gapsFor c rest with
    | g :: more =>
      let span := bitsOf g.base.payload.toNat 95 80
      if g.base.cls == h.base.cls && g.base.seq == h.base.seq + 1 && decide (span < 65535) then
        { h with base := { gapRecord c ⟨h.base.cls, 0x02, 1, h.base.step.toNat, 0xFF, 0⟩ with
                             seq := h.base.seq, payload := BitVec.ofNat 128 (gapPayload (span + 1) (span + 1) 0x02 h.base.step.toNat 0xFF h.base.cls 0) },
                 time := c.ns } :: more
      else { h with base := { gapRecord c ⟨h.base.cls, 0x02, 1, h.base.step.toNat, 0xFF, 0⟩ with seq := h.base.seq }, time := c.ns } :: g :: more
    | [] => [{ h with base := { gapRecord c ⟨h.base.cls, 0x02, 1, h.base.step.toNat, 0xFF, 0⟩ with seq := h.base.seq }, time := c.ns }]

/-- A record enters its class's region at its place in the order. -/
def insertHeld (h : Held) : List Held → List Held
  | [] => [h]
  | g :: rest => if h.ord < g.ord then h :: g :: rest else g :: insertHeld h rest

/-- Discard records that were in the ring (R255, R277): gap records take the numbers of those numbered; class C records had none, and their gap takes
one. -/
def RecBuf.discard (b : RecBuf) (c : Core) (recs : List Held) : RecBuf :=
  let of_ (cls : RClass) : List Held := recs.filter (fun h => h.base.cls == cls)
  let b := ([RClass.t, .s, .a]).foldl (fun b cls => (gapsFor c (of_ cls)).foldl (fun (b : RecBuf) g => b.setHeld (insertHeld g (b.held cls)) cls) b) b
  match of_ .c with
  | [] => b
  | h :: rest => b.setHeld (insertHeld { h with base := { gapRecord c ⟨.c, 0x02, 1, h.base.step.toNat, 0xFF, 0⟩ with
      payload := BitVec.ofNat 128 (gapPayload (rest.length + 1) 1 0x02 h.base.step.toNat 0xFF .c 0) }, time := c.ns } b.c) .c

/-- Add a loss to the pending gap of its class and reason, or open one (R192, R195). -/
def RecBuf.addGap (b : RecBuf) (cls : RClass) (reason lost step entry detail : Nat) : RecBuf :=
  if b.pend.any (fun g => g.cls == cls && g.reason == reason) then
    { b with pend := b.pend.map (fun g =>
        if g.cls == cls && g.reason == reason then { g with lost := g.lost + lost, detail := g.detail + detail } else g) }
  else { b with pend := b.pend ++ [{ cls := cls, reason := reason, lost := lost, step := step, entry := entry, detail := detail }] }

/-- Number records of a class in order, CONT set on all but the last (R191). -/
def numberChain (b : RecBuf) (cls : RClass) : List Record → List Record × RecBuf
  | [] => ([], b)
  | r :: rs =>
    let t := b.take1 cls
    let rest := numberChain t.2 cls rs
    ({ r with seq := t.1, cont := !rs.isEmpty } :: rest.1, rest.2)

/-- Emit the pending gaps of a class that are not waiting for a token (reason 0x05), ahead of its next record. Gaps go where
the class's next record goes: to the ring, else to the reserved slot of the buffer (R192). -/
def flushGaps (c : Core) (b : RecBuf) (cls : RClass) (toRing : Bool) : Core × RecBuf :=
  let due := b.pend.filter (fun g => g.cls == cls && g.reason != 0x05)
  let b := { b with pend := b.pend.filter (fun g => !(g.cls == cls && g.reason != 0x05)) }
  due.foldl (fun (cb : Core × RecBuf) g =>
    let t := cb.2.take1 cls
    let hs := t.2.holdAll cb.1.ns [{ gapRecord cb.1 g with seq := t.1 }]
    if toRing then
      match ringPut cb.1 hs.2 hs.1 with
      | some r => r
      | none => (cb.1, { cb.2 with pend := cb.2.pend ++ [g] })
    else (cb.1, hs.2.setHeld (hs.2.held cls ++ hs.1) cls)) (c, b)

/-- A sample of `n` records is lost (R192): SAMPLE_LOST at the first of an episode, and the pending gap. -/
def loseSample (c : Core) (b : RecBuf) (n step entry : Nat) : Core × RecBuf :=
  let c := if b.lossEpisode then c else c.raise 0x0603 0x07 [2, step]
  (c.bump oRecordSampleLosses, { b.addGap .s 0x02 n step entry 0 with lossEpisode := true })

/-- Commit a class S chain whole: to the buffer, to the ring, or to a gap (R191, R192). -/
def commitS (c : Core) (b : RecBuf) (entry : Nat) (time : Nat) (recs : List Record) : Core × RecBuf :=
  let toRing := b.linkRing .s || decide (b.s.length ≥ c.num oRecordSpillLevel)
    || decide (b.s.length + recs.length > shareS c b)
  let c := if toRing then c.useSpill else c
  let g := if toRing && decide (ringCap c b ≤ b.ring.length) then (c, b) else flushGaps c b .s toRing
  let n := numberChain g.2 .s recs
  let hs := n.2.holdAll time n.1
  if toRing then
    match ringPut g.1 hs.2 hs.1 with
    | some r => (r.1, { r.2 with lossEpisode := false })
    | none => loseSample g.1 g.2 recs.length c.angle.step entry
  else (g.1, { hs.2 with s := hs.2.s ++ hs.1, lossEpisode := false })

/-- Place a class A record (R193, R535); the token bucket is R195's, below. -/
def placeA (c : Core) (b : RecBuf) (r : Record) (time : Nat) : Core × RecBuf :=
  let toRing := b.linkRing .a || decide (b.a.length ≥ 256)
  let c := if toRing then c.useSpill else c
  if toRing && decide (ringCap c b ≤ b.ring.length) then (c, b.addGap .a 0x02 1 c.angle.step 0xFF 0)
  else
    let g := flushGaps c b .a toRing
    let t := g.2.take1 .a
    let hs := t.2.holdAll time [{ r with seq := t.1 }]
    if toRing then
      match ringPut g.1 hs.2 hs.1 with
      | some x => x
      | none => (g.1, g.2.addGap .a 0x02 1 c.angle.step 0xFF 0)
    else (g.1, { hs.2 with a := hs.2.a ++ hs.1 })

/-- Place a class C record (R279, R535): its number is assigned when it enters a data flit; it is never dropped. -/
def placeC (c : Core) (b : RecBuf) (r : Record) : Core × RecBuf :=
  let hs := b.holdAll c.ns [r]
  let b := hs.2
  if !b.waitC.isEmpty then (c, { b with waitC := b.waitC ++ hs.1 })
  else if b.linkRing .c || decide (b.c.length ≥ 256) then
    let c := c.useSpill
    match ringPut c b hs.1 with
    | some x => x
    | none => (c, { b with waitC := b.waitC ++ hs.1 })
  else (c, { b with c := b.c ++ hs.1 })

/-- Refill of the alarm bucket to unit time now (R195): tokens in 10⁻⁹ token. -/
def refillTokens (c : Core) (b : RecBuf) : RecBuf :=
  let t := c.ns
  { b with tokens := Nat.min (c.num oRecordAlarmBurst * 1000000000) (b.tokens + c.num oRecordAlarmRate * (t - b.tokensAt)),
           tokensAt := t }

/-- The pending reason 0x05 gap takes the next token, before any later alarm (R195). -/
def alarmGap (c : Core) (b : RecBuf) : Core × RecBuf :=
  match b.pend.find? (fun g => g.cls == .a && g.reason == 0x05) with
  | none => (c, b)
  | some g =>
    if b.tokens ≥ 1000000000 then
      let b := { b with tokens := b.tokens - 1000000000, dropEpisode := false,
                        pend := b.pend.filter (fun g => !(g.cls == .a && g.reason == 0x05)) }
      placeA c b (gapRecord c g) c.ns
    else (c, b)

/-- Offer an alarm record to the token bucket (R195). -/
def offerAlarm (c : Core) (b : RecBuf) (r : Record) (code entry : Nat) : Core × RecBuf :=
  let g := alarmGap c (refillTokens c b)
  if decide (g.2.tokens ≥ 1000000000) && !(g.2.pend.any (fun p => p.cls == .a && p.reason == 0x05)) then
    placeA g.1 { g.2 with tokens := g.2.tokens - 1000000000, alarmed := true } r (extendNs r.tns.toNat c.ns)
  else
    let c := g.1.bump oRecordAlarmDrops
    let c := if g.2.dropEpisode then c else c.raise 0x0606 0x00 [code]
    (c, { g.2.addGap .a 0x05 1 c.angle.step entry 0 with dropEpisode := true })

/-- Emit a class C time/sync record of the unit (Table 4.5). -/
def emitTime (c : Core) (b : RecBuf) (payload : Nat) : Core × RecBuf :=
  placeC c b (mkRecord c c.ns 0x40 .c (srcOf 0x0A 0) payload)

end Sys2Proof.Machine
end

