-- ==== Sys2Proof/Parts/Dew.lean ====
section
/-! DEFINITION. State of Dew, Contrail and Dewpoint (spec/08) and of the MEM port they share (R254). -/
namespace Sys2Proof.Machine

/-- A queued Dew write: `n` bytes of `v`, and the source address when Contrail feeds it (R221, R227). -/
structure DewWrite where
  n : Nat
  v : Nat
  addr : Option Nat
deriving DecidableEq, Repr

/-- A Dew channel (R221, R222). -/
structure DewCh where
  reg : Nat
  addr : U64
  seq : U64
  queue : List DewWrite
  /-- writes that found the queue full and wait for space -/
  held : List DewWrite
  fed : U64
  /-- Contrail channel that feeds it (R223) -/
  feeder : Option Nat
deriving DecidableEq, Repr

/-- Where the burst of a running Contrail channel stands. -/
inductive BurstAt where
  | idle
  /-- reading `len` bytes at offset `off` -/
  | reading (off len : Nat)
  /-- compare: the source bytes are in, the second range is being read -/
  | second (off len : Nat) (got : Bytes)
  | writing (off len : Nat)
deriving DecidableEq, Repr

/-- A running Contrail channel: the 32 bytes of its descriptor and its progress. -/
structure DmaRun where
  desc : Bytes
  done : Nat
  stopping : Bool
  burst : BurstAt
deriving DecidableEq, Repr

/-- A Contrail channel (R225). -/
structure DmaCh where
  run : Option DmaRun
  /-- DMA.CH status: 0 idle, 1 running, 2 done, 3 error, 4 stopped; Table 8.3 code; bytes completed -/
  state : Nat
  code : Nat
  bytes : Nat
  mismatch : Nat
  mismatches : Nat
deriving DecidableEq, Repr

/-- A request on the MEM port without its response (R254, R255). -/
structure MemReq where
  id : Nat
  write : Bool
  addr : Nat
  len : Nat
  at_ : Nat
  /-- it has timed out; its late response is discarded -/
  dead : Bool
deriving DecidableEq, Repr

/-- A Dewpoint sweep (R233–R236) with the settings it started with. -/
structure DpRun where
  seed : U64
  a : U64
  b : U64
  sampled : Nat
  /-- base, line count, first line of each segment -/
  segs : List (Nat × Nat × Nat)
  lines : Nat
  shift : Nat
  id : Nat
  replica : Nat
  start : Nat
  step : Nat
  angle : Nat
  /-- selector's position: segment and line within it -/
  seg : Nat
  line : Nat
  /-- sampled lines not yet read: logical index and address -/
  todo : List (Nat × Nat)
  /-- line being read -/
  reading : Option Nat
  overran : Bool
  /-- the Contrail channel it reads on -/
  ch : Nat
deriving DecidableEq, Repr

/-- Contrail, the MEM port and Dewpoint. -/
structure DmaPart where
  ch : List DmaCh
  /-- budget bucket in 0.001 byte, and the powered time of its last refill (R230) -/
  tokens : Nat
  tokensAt : Nat
  last : Nat
  /-- pairs of a fill run and the run it overlapped, already raised (R228): 8 stands for Dewpoint -/
  overlaps : List (Nat × Nat)
  mem : List MemReq
  dp : Option DpRun
  /-- payloads of the last digest pair (DEW.DP_LAST) -/
  dpLast : Bytes
deriving DecidableEq, Repr

end Sys2Proof.Machine
end

