-- ==== Sys2Proof/Machine/Dew.lean ====
section
/-! DEFINITION. Dew: the check-value channels (spec/08, R220–R223). -/
namespace Sys2Proof.Machine

/-- Configuration of a Dew channel (Table 8.1, R220). -/
structure DewCfg where
  w : Nat
  poly : Nat
  init : Nat
  xorout : Nat
  fold : Nat
  reflectOut : Bool
  reflectIn : Bool
  foldStart : Nat
deriving DecidableEq, Repr

/-- Object number of element `e` of DEW.CH `c`. -/
def dewObj (c e : Nat) : Nat := 0x07010000 + c * 256 + e

/-- Configuration of channel `c` from its objects; a width outside 8 to 64, which no write leaves, is read as 64. -/
def Core.dewCfg (k : Core) (c : Nat) : DewCfg :=
  let ctl := k.num (dewObj c 4)
  let w0 := bitsOf ctl 7 0
  { w := if 8 ≤ w0 ∧ w0 ≤ 64 then w0 else 64, poly := k.num (dewObj c 1), init := k.num (dewObj c 2), xorout := k.num (dewObj c 3),
    fold := bitsOf ctl 11 10, reflectOut := ctl.testBit 9, reflectIn := ctl.testBit 8, foldStart := k.num (dewObj c 5) }

/-- One shift of the register (R221). -/
def dewShift (f : DewCfg) (reg : Nat) : Nat :=
  let m := 2 ^ f.w
  if reg.testBit (f.w - 1) then (reg * 2 % m) ^^^ (f.poly % m) else reg * 2 % m

/-- feed_byte of R221. -/
def dewByte (f : DewCfg) (reg b : Nat) : Nat :=
  let b := if f.reflectIn then reverseBits 8 b else b
  (List.range 8).foldl (fun r _ => dewShift f r) (reg ^^^ (b * 2 ^ (f.w - 8)))

/-- A channel after reset (R221). -/
def DewCh.reset (d : DewCh) (f : DewCfg) : DewCh :=
  { d with reg := f.init % 2 ^ f.w, addr := BitVec.ofNat 64 f.foldStart, seq := 0, queue := [], held := [], fed := 0 }

/-- One write of R221. -/
def DewCh.write (d : DewCh) (f : DewCfg) (x : DewWrite) : DewCh :=
  let start := match x.addr with
    | some a => if f.fold = 1 then BitVec.ofNat 64 a else d.addr
    | none => d.addr
  let fv := if f.fold = 1 then start.toNat else if f.fold = 2 then d.seq.toNat else 0
  let v := x.v % 2 ^ (8 * x.n) ^^^ fv % 2 ^ (8 * x.n)
  let reg := (List.range x.n).foldl (fun r k => dewByte f r (v / 2 ^ (8 * k) % 256)) d.reg
  { d with reg := reg, addr := start + BitVec.ofNat 64 x.n, seq := d.seq + 1, fed := d.fed + BitVec.ofNat 64 x.n }

/-- The check value (R221). -/
def DewCh.result (d : DewCh) (f : DewCfg) : Nat :=
  let r := if f.reflectOut then reverseBits f.w d.reg else d.reg
  (r ^^^ f.xorout) % 2 ^ f.w

/-- Bytes queued in a channel. -/
def DewCh.queued (d : DewCh) : Nat := d.queue.foldl (fun n x => n + x.n) 0

/-- Accept a write (R222): it is queued, or held when the queue of 64 bytes is full. -/
def DewCh.accept (d : DewCh) (x : DewWrite) : DewCh :=
  if d.held.isEmpty && decide (d.queued + x.n ≤ 64) then { d with queue := d.queue ++ [x] }
  else { d with held := d.held ++ [x] }

/-- Move held writes into the queue while there is space; `fuel` of them at most. -/
def DewCh.refill (d : DewCh) : Nat → DewCh
  | 0 => d
  | k + 1 =>
    match d.held with
    | x :: rest => if d.queued + x.n ≤ 64 then DewCh.refill { d with queue := d.queue ++ [x], held := rest } k else d
    | [] => d

/-- Process the oldest queued write. -/
def DewCh.process (d : DewCh) (f : DewCfg) : DewCh :=
  match d.queue with
  | x :: rest =>
    let d := { d with queue := rest }.write f x
    d.refill d.held.length
  | [] => d

/-- Process every write accepted so far, oldest first (R222: a result read waits for them). -/
def DewCh.drain (d : DewCh) (f : DewCfg) : DewCh :=
  { (d.queue ++ d.held).foldl (fun e x => e.write f x) d with queue := [], held := [] }

end Sys2Proof.Machine
end

