-- ==== Sys2Proof/Machine/Contrail.lean ====
section
/-! DEFINITION. Contrail (spec/08, R224–R231), the MEM port's requests (R254, R255) and Dewpoint's sweep (R233–R237, R536). -/
namespace Sys2Proof.Machine

/-- The parts of an Ovtan that the MEM port's users read and write. -/
structure MemSide where
  core : Core
  buf : RecBuf
  dew : List DewCh
  dma : DmaPart
  /-- end of each IRQ line's pulse, on the powered-time count (R245) -/
  irq : List (Option Nat)
deriving DecidableEq, Repr

/-- Fields of a Contrail descriptor (Table 8.2). -/
structure DmaDesc where
  src : Nat
  dst : Nat
  len : Nat
  pattern : Nat
  srcWrap : Nat
  dstWrap : Nat
  dew : Nat
  unit : Nat
  prio : Nat
  line : Nat
  irq : Bool
  mode : Nat
  reserved : Bool
deriving DecidableEq, Repr

/-- The descriptor that 32 bytes spell. -/
def dmaDesc (b : Bytes) : DmaDesc :=
  let n := leAt b 0 32
  { src := bitsOf n 255 208, dst := bitsOf n 207 160, len := bitsOf n 159 120, pattern := bitsOf n 119 56,
    srcWrap := bitsOf n 55 50, dstWrap := bitsOf n 49 44, dew := bitsOf n 34 32, unit := bitsOf n 31 30, prio := bitsOf n 25 24,
    line := bitsOf n 17 16, irq := n.testBit 8, mode := bitsOf n 2 0,
    reserved := bitsOf n 43 35 != 0 || bitsOf n 29 26 != 0 || bitsOf n 23 18 != 0 || bitsOf n 15 9 != 0 || bitsOf n 7 3 != 0 }

/-- Address of byte `k` of a side that starts at `start` and wraps in a block of 2^wrap bytes (0: linear). -/
def sideAddr (start wrap k : Nat) : Nat :=
  if wrap = 0 then start + k else start / 2 ^ wrap * 2 ^ wrap + (start % 2 ^ wrap + k) % 2 ^ wrap

/-- Bytes a side touches, as base and length: a wrapping side's whole block (Table 8.3). -/
def sideRange (start wrap len : Nat) : Nat × Nat :=
  if wrap = 0 then (start, len) else (start / 2 ^ wrap * 2 ^ wrap, 2 ^ wrap)

/-- Whether two ranges share a byte. -/
def overlap (a b : Nat × Nat) : Bool := decide (a.1 < b.1 + b.2) && decide (b.1 < a.1 + a.2)

/-- Whether a linear side runs past 2⁴⁸, a wrapping side is longer than its block, or a wrap is not of Table 8.2. -/
def sideBad (start wrap len : Nat) : Bool :=
  if wrap = 0 then decide (start + len > 2 ^ 48)
  else decide (wrap < 12) || decide (wrap > 40) || decide (len > 2 ^ wrap)

/-- Sides that a mode uses: source, destination. -/
def usesSrc (mode : Nat) : Bool := mode == 1 || mode == 3 || mode == 4
def usesDst (mode : Nat) : Bool := mode == 1 || mode == 2 || mode == 3

/-- First failing check of a descriptor at GO (Table 8.3): 0 none. `busy` says whether its Dew channel is being fed. -/
def dmaCheck (d : DmaDesc) (busy : Bool) : Nat :=
  let u := 2 ^ d.unit
  if d.reserved || d.mode == 0 || decide (d.mode ≥ 5) || decide (d.len = 0) || (d.mode == 4 && d.unit == 3) then 6
  else if (usesSrc d.mode && sideBad d.src d.srcWrap d.len) || (usesDst d.mode && sideBad d.dst d.dstWrap d.len)
      || (d.mode == 4 && d.len % u != 0) then 3
  else if d.mode == 1 && (d.srcWrap != 0 || d.dstWrap != 0)
      && overlap (sideRange d.src d.srcWrap d.len) (sideRange d.dst d.dstWrap d.len) then 4
  else if d.mode == 4 && busy then 5
  else 0

/-- Whether a run goes through its range from the top (R226). -/
def DmaDesc.down (d : DmaDesc) : Bool := d.mode == 1 && decide (d.dst > d.src)

/-- The next burst of a run: offset and length (R226). -/
def nextBurst (d : DmaDesc) (done : Nat) : Nat × Nat :=
  let left := d.len - done
  let lim := Nat.min 256 left
  if d.down then
    let top := left - 1
    let room (start wrap : Nat) : Nat := sideAddr start wrap top % 256 + 1
    let l := Nat.min lim (Nat.min (room d.src d.srcWrap) (room d.dst d.dstWrap))
    (left - l, l)
  else
    let room (use : Bool) (start wrap : Nat) : Nat := if use then 256 - sideAddr start wrap done % 256 else 256
    (done, Nat.min lim (Nat.min (room (usesSrc d.mode) d.src d.srcWrap) (room (usesDst d.mode) d.dst d.dstWrap)))

/-- Tokens a burst of `len` bytes takes (R230): each byte read or written. -/
def burstCost (mode len : Nat) : Nat := if mode = 1 ∨ mode = 3 then 2000 * len else 1000 * len

/-- Request an IRQ pulse of 64 ns; requests within a pulse merge (R245). -/
def MemSide.pulse (x : MemSide) (line : Nat) : MemSide :=
  match x.irq.getD line none with
  | some _ => x
  | none => { x with irq := x.irq.set line (some (x.core.up + 64)), core := x.core.send (.pin line true) }

/-- Issue a request on the MEM port (R254). -/
def MemSide.request (x : MemSide) (id : Nat) (write : Bool) (addr len : Nat) (data : Bytes) : MemSide :=
  { x with core := x.core.send (.mem id write addr len data),
           dma := { x.dma with mem := x.dma.mem ++ [{ id := id, write := write, addr := addr, len := len, at_ := x.core.up, dead := false }] } }

/-- Replace channel `c`. -/
def MemSide.setCh (x : MemSide) (c : Nat) (h : DmaCh) : MemSide := { x with dma := { x.dma with ch := x.dma.ch.set c h } }

/-- An idle channel. -/
def DmaCh.idle : DmaCh := { run := none, state := 0, code := 0, bytes := 0, mismatch := 2 ^ 64 - 1, mismatches := 0 }

/-- End the run of channel `c` with a code of Table 8.3 (R231). -/
def MemSide.endDma (x : MemSide) (c code : Nat) : MemSide :=
  let h := x.dma.ch.getD c DmaCh.idle
  match h.run with
  | none => x
  | some r =>
    let d := dmaDesc r.desc
    let st := if code = 0 then 2 else if code = 7 then 4 else 3
    let x := x.setCh c { h with run := none, state := st, code := code, bytes := r.done }
    let x := { x with dew := modWhere (fun w => w.feeder == some c) (fun w => { w with feeder := none }) x.dew,
                      dma := { x.dma with overlaps := x.dma.overlaps.filter (fun p => p.1 != c && p.2 != c) } }
    let core := if code = 0 then x.core.raise 0x0801 0x06 [c, d.mode, r.done] else x.core.raise 0x0802 0x06 [c, code, r.done]
    let x := { x with core := core }
    if d.irq then x.pulse d.line else x

/-- Whether Dewpoint holds channel `c` (R225, R536). -/
def MemSide.dpHolds (x : MemSide) (c : Nat) : Bool :=
  (x.core.num oDewDpDmaCh == c && x.core.flag oDewDpEnable) || x.dma.dp.any (fun r => r.ch == c)

/-- What a DMA.GO to channel `c` is answered with. -/
inductive GoResult where
  | busy | range | started
deriving DecidableEq, Repr

/-- A GO to channel `c` (R225, R223). -/
def MemSide.go (x : MemSide) (c : Nat) : MemSide × GoResult :=
  let h := x.dma.ch.getD c DmaCh.idle
  if h.run.isSome || x.dpHolds c then (x, .busy)
  else
    let b := x.core.get (0x08010000 + c * 256 + 1)
    let d := dmaDesc b
    let busy := (x.dew.getD d.dew { reg := 0, addr := 0, seq := 0, queue := [], held := [], fed := 0, feeder := none }).feeder.isSome
    let code := dmaCheck d busy
    if code ≠ 0 then
      let x := x.setCh c { h with state := 3, code := code, bytes := 0 }
      ({ x with core := x.core.raise 0x0802 0x06 [c, code, 0] }, .range)
    else
      let x := x.setCh c { run := some { desc := b, done := 0, stopping := false, burst := .idle }, state := 1, code := 0,
                           bytes := 0, mismatch := 2 ^ 64 - 1, mismatches := 0 }
      let x := if d.mode = 4 then { x with dew := modAt x.dew d.dew (fun w => { w with feeder := some c }) } else x
      (x, .started)

/-- A STOP of channel `c`: after its current burst, with code 0x07 (R231). -/
def MemSide.stop (x : MemSide) (c : Nat) : MemSide :=
  let h := x.dma.ch.getD c DmaCh.idle
  match h.run with
  | none => x
  | some r =>
    if r.burst = .idle then x.endDma c 7
    else x.setCh c { h with run := some { r with stopping := true } }

/-- A channel's burst of `len` bytes is complete: count it, and end the run when it was the last or a stop waits. -/
def MemSide.burstDone (x : MemSide) (c len : Nat) : MemSide :=
  let h := x.dma.ch.getD c DmaCh.idle
  match h.run with
  | none => x
  | some r =>
    let done := r.done + len
    let r' := { r with done := done, burst := .idle }
    let x := x.setCh c { h with run := some r', bytes := done }
    let x := { x with core := x.core.count (0x08010000 + c * 256 + 5) len }
    if done ≥ (dmaDesc r.desc).len then x.endDma c 0
    else if r.stopping then x.endDma c 7
    else x

/-- Refill of the budget bucket to now (R230). -/
def MemSide.refill (x : MemSide) : MemSide :=
  let cap := 1000 * x.core.num oDmaBwBurst
  { x with dma := { x.dma with tokens := Nat.min cap (x.dma.tokens + x.core.num oDmaBwBudget * (x.core.up - x.dma.tokensAt)),
                               tokensAt := x.core.up } }

/-- Pattern bytes of a fill of `len` bytes at address `a` (R227, Table 8.2). -/
def fillBytes (pattern a len : Nat) : Bytes :=
  (List.range len).map (fun k => BitVec.ofNat 8 (pattern / 2 ^ (8 * ((a + k) % 8))))

/-! ### Dewpoint -/

/-- mix64 of R234. -/
def mix64 (x : U64) : U64 :=
  let x := x ^^^ (x >>> 32)
  let x := x * 0xD1B54A32D192ED03
  let x := x ^^^ (x >>> 29)
  let x := x * 0x8CB92BA72F3D8DD7
  x ^^^ (x >>> 32)

/-- The segments of DEW.DP_SEGMENT with a nonzero count, in index order: base, count, first line (Table 8.4). -/
def Core.dpSegments (c : Core) : List (Nat × Nat × Nat) :=
  (List.range (Nat.min 16 (c.used oDewDpSegment))).filterMap (fun i =>
    let n := leAt (c.usedBytes (oDewDpSegment + i + 1)) 0 32
    if bitsOf n 207 176 = 0 then none else some (bitsOf n 255 208, bitsOf n 207 176, bitsOf n 175 144))

/-- Start a sweep at time `t` (R233, R234). -/
def MemSide.dpStart (x : MemSide) (t : Nat) : MemSide :=
  let c := x.core
  let seed := mix64 (BitVec.ofNat 64 (c.num oDewDpKey) ^^^ BitVec.ofNat 64 (c.angle.step % 2 ^ 32))
  let r : DpRun :=
    { seed := seed, a := 0, b := 0, sampled := 0, segs := c.dpSegments, lines := c.used oDewDpLines, shift := c.num oDewDpShift,
      id := c.num oDewDpId, replica := c.num oDewDpReplica, start := t, step := c.angle.step % 2 ^ 32,
      angle := angleAt c.angle t / 65536, seg := 0, line := 0, todo := [], reading := none, overran := false, ch := c.num oDewDpDmaCh }
  { x with dma := { x.dma with dp := some r } }

/-- A start that arrives while a sweep runs (R233). -/
def MemSide.dpOverrun (x : MemSide) : MemSide :=
  match x.dma.dp with
  | none => x
  | some r =>
    let c := x.core.bump oDewDpOverruns
    let c := if r.overran then c else c.raise 0x0805 0x05 [r.id, r.step]
    { x with core := c, dma := { x.dma with dp := some { r with overran := true } } }

/-- Whether logical line `i` is sampled, and its `sel` (R234). -/
def dpSel (seed : U64) (i : Nat) : U64 := mix64 (seed ^^^ (BitVec.ofNat 64 i * 0x9E3779B97F4A7C15))
def dpSampled (r : DpRun) (i : Nat) : Bool :=
  r.shift == 0 || decide ((dpSel r.seed i).toNat / 2 ^ (64 - r.shift) = 0)

/-- The selector evaluates up to `n` logical indices (R235). -/
def DpRun.select (r : DpRun) : Nat → DpRun
  | 0 => r
  | n + 1 =>
    match r.segs[r.seg]? with
    | none => r
    | some (base, count, first) =>
      let i := first + r.line
      let r' := if r.line + 1 ≥ count then { r with seg := r.seg + 1, line := 0 } else { r with line := r.line + 1 }
      DpRun.select (if dpSampled r i then { r' with todo := r'.todo ++ [(i, base + 64 * r.line)] } else r') n

/-- Hash a sampled line's 64 bytes (R234). -/
def DpRun.hash (r : DpRun) (i : Nat) (data : Bytes) : DpRun :=
  let w (j : Nat) : U64 := BitVec.ofNat 64 (leAt data (8 * j) 8)
  let h := (List.range 8).foldl (fun (p : U64 × U64) j => (mix64 (p.1 ^^^ w j), mix64 (p.2 + w j)))
    (r.seed ^^^ BitVec.ofNat 64 i, dpSel r.seed i)
  { r with a := r.a + h.1, b := r.b + h.2, sampled := r.sampled + 1, reading := none }

/-- The segment that the sweep reads: that of the line being read, else of the next sampled line, else the selector's. -/
def DpRun.segment (r : DpRun) : Option (Nat × Nat × Nat) :=
  match r.reading, r.todo with
  | some i, _ => r.segs.find? (fun s => decide (s.2.2 ≤ i) && decide (i < s.2.2 + s.2.1))
  | none, (i, _) :: _ => r.segs.find? (fun s => decide (s.2.2 ≤ i) && decide (i < s.2.2 + s.2.1))
  | none, [] => r.segs[r.seg]?

/-- Whether the sweep is complete (R236). -/
def DpRun.complete (r : DpRun) : Bool := decide (r.seg ≥ r.segs.length) && r.todo.isEmpty && r.reading.isNone

/-- Commit the digest pair of the sweep (R236, R237), the sweep aborted or complete. -/
def MemSide.dpCommit (x : MemSide) (aborted : Bool) : MemSide :=
  match x.dma.dp with
  | none => x
  | some r =>
    let t := x.core.ns
    let dur := t - r.start
    let late := decide (dur > x.core.num oDewDpDeadline * 1000)
    let st := (if late then 1 else 0) + (if aborted then 2 else 0) + (if r.sampled = 0 ∧ ¬ aborted then 4 else 0)
    let a := if aborted then 0 else r.a.toNat
    let b := if aborted then 0 else r.b.toNat
    let p1 := b * 2 ^ 64 + a
    let p2 := r.sampled % 2 ^ 32 * 2 ^ 96 + r.lines % 2 ^ 32 * 2 ^ 64 + r.replica % 65536 * 2 ^ 48
      + 2 ^ (bitsOf r.replica 18 16) % 256 * 2 ^ 40 + bitsOf r.replica 27 24 * 2 ^ 32 + r.shift * 2 ^ 24
      + Nat.min (dur / 1000) 65535 * 256 + st
    let rec_ (p : Nat) : Record :=
      { type := 0x30, flags := 0, cont := false, cls := .s, seq := 0, tns := BitVec.ofNat 32 r.start, step := BitVec.ofNat 32 r.step,
        angle := BitVec.ofNat 16 r.angle, src := srcOf 0x05 r.id, payload := BitVec.ofNat 128 p }
    let c := x.core.bump oDewDpDigests
    let c := if late then c.bump oDewDpLate else c
    let y := commitS c x.buf 0xFF r.start [rec_ p1, rec_ p2]
    let x := { x with core := y.1.raise 0x0804 0x05 [r.id, r.step, r.sampled, st], buf := y.2,
                      dma := { x.dma with dp := none, dpLast := leBytes 16 p1 ++ leBytes 16 p2 } }
    let irq := x.core.num oDewDpIrq
    if irq < 4 then x.pulse irq else x

/-! ### Grants (R228, R229) -/

/-- Fill-overlap check of a granted fill burst (R228). -/
def MemSide.fillCheck (x : MemSide) (c addr len : Nat) : MemSide :=
  let others := (List.range 8).filterMap (fun k =>
    if k = c then none
    else match (x.dma.ch.getD k DmaCh.idle).run with
      | some r =>
        let d := dmaDesc r.desc
        if usesSrc d.mode && overlap (sideRange d.src d.srcWrap d.len) (addr, len) then some k else none
      | none => none)
  let dpHit := match x.dma.dp with
    | some r => (match r.segment with
      | some (base, count, _) => overlap (base, 64 * count) (addr, len)
      | none => false)
    | none => false
  let hits := others ++ (if dpHit then [8] else [])
  hits.foldl (fun x k =>
    let core := x.core.bump oDmaFillOverlaps
    if x.dma.overlaps.contains (c, k) then { x with core := core }
    else { x with core := core.raise 0x0803 0x06 [c, k, addr], dma := { x.dma with overlaps := (c, k) :: x.dma.overlaps } }) x

/-- Issue the next burst of channel `c` (R226, R227). -/
def MemSide.issue (x : MemSide) (c : Nat) (r : DmaRun) : MemSide :=
  let d := dmaDesc r.desc
  let b := nextBurst d r.done
  let h := x.dma.ch.getD c DmaCh.idle
  let cost := burstCost d.mode b.2
  let x := { x with dma := { x.dma with last := c, tokens := if x.core.num oDmaBwBudget = 0 then x.dma.tokens else x.dma.tokens - cost } }
  if d.mode = 2 then
    let a := sideAddr d.dst d.dstWrap b.1
    let x := (x.setCh c { h with run := some { r with burst := .writing b.1 b.2 } }).fillCheck c a b.2
    x.request c true a b.2 (fillBytes d.pattern a b.2)
  else
    (x.setCh c { h with run := some { r with burst := .reading b.1 b.2 } }).request c false (sideAddr d.src d.srcWrap b.1) b.2 []

/-- Channels with a burst ready: channel, priority, cost. Dewpoint's line reads are on the channel it holds (R229). -/
def MemSide.ready (x : MemSide) : List (Nat × Nat × Nat) :=
  (List.range 8).filterMap (fun c =>
    match (x.dma.ch.getD c DmaCh.idle).run with
    | some r => if r.burst = .idle then
        let d := dmaDesc r.desc
        some (c, d.prio, burstCost d.mode (nextBurst d r.done).2)
      else none
    | none =>
      match x.dma.dp with
      | some r => if r.ch = c && r.reading.isNone && !r.todo.isEmpty then some (c, x.core.num oDewDpPriority, 64000) else none
      | none => none)

/-- The channel granted (R229): of the highest priority with a burst ready, the first in channel order after the channel last
granted whose burst the bucket covers. -/
def MemSide.pick (x : MemSide) : Option Nat :=
  let rs := x.ready
  let top := rs.foldl (fun m p => Nat.max m p.2.1) 0
  let lim := x.core.num oDmaBwBudget != 0
  let ok := rs.filter (fun p => p.2.1 == top && (!lim || decide (p.2.2 ≤ x.dma.tokens)))
  ((List.range 8).map (fun k => (x.dma.last + 1 + k) % 8)).find? (fun c => ok.any (fun p => p.1 == c))

/-- Grant one Contrail or Dewpoint burst (R229, rules 2 and 3). -/
def MemSide.grantChannel (x : MemSide) : MemSide :=
  let x := x.refill
  match x.pick with
  | none => x
  | some c =>
    match (x.dma.ch.getD c DmaCh.idle).run with
    | some r => x.issue c r
    | none =>
      match x.dma.dp with
      | some r =>
        match r.todo with
        | (i, a) :: rest =>
          let tok := if x.core.num oDmaBwBudget = 0 then x.dma.tokens else x.dma.tokens - 64000
          { x with dma := { x.dma with last := c, tokens := tok, dp := some { r with todo := rest, reading := some i } } }.request c false a 64 []
        | [] => x
      | none => x

/-- The selector's cycle: 64 logical indices (R235). -/
def MemSide.selectCycle (x : MemSide) : MemSide := { x with dma := { x.dma with dp := x.dma.dp.map (fun r => r.select 64) } }

/-! ### Spill traffic -/

/-- Bytes of a ring entry: a record, or a time mark of type 0x40, subtype 0x81 (R280). -/
def ringBytes (e : RingEntry) : Bytes :=
  match e with
  | .held h => recordBytes h.base
  | .mark t => recordBytes
      { type := 0x40, flags := 0, cont := false, cls := .c, seq := 0, tns := BitVec.ofNat 32 t, step := 0, angle := 0,
        src := srcOf 0x0A 0, payload := BitVec.ofNat 128 (timePayload t 0 0 false 0 0 0x81) }

/-- Address of ring entry `k` in host memory. -/
def ringAddr (x : MemSide) (k : Nat) : Nat :=
  let size := x.core.used oRecordSpillSize
  x.core.used oRecordSpillBase + (if size = 0 then 0 else (x.buf.ringPos + 32 * k) % size)

/-- Entries from entry `k` that one burst of at most 8 beats moves without wrapping, of `n` that wait. -/
def ringBurst (x : MemSide) (k n : Nat) : Nat :=
  let size := x.core.used oRecordSpillSize
  let room := if size = 0 then 8 else (size - (x.buf.ringPos + 32 * k) % size) / 32
  Nat.min 8 (Nat.min n room)

/-- Grant spill-ring traffic when some waits: a write of the oldest entries not yet written, else a read of the oldest entries
written, while the lane replays (R229, R254). -/
def MemSide.grantSpill (x : MemSide) (replay : Bool) : Option MemSide :=
  let b := x.buf
  if b.ringWriting = 0 ∧ b.ringAcked < b.ring.length then
    let n := ringBurst x b.ringAcked (b.ring.length - b.ringAcked)
    let es := (b.ring.drop b.ringAcked).take n
    some ({ x with buf := { b with ringWriting := n } }.request 8 true (ringAddr x b.ringAcked) (32 * n) (es.flatMap ringBytes))
  else if replay ∧ b.ringReading = 0 ∧ b.ringRead < b.ringAcked then
    let n := ringBurst x b.ringRead (b.ringAcked - b.ringRead)
    some ({ x with buf := { b with ringReading := n } }.request 9 false (ringAddr x b.ringRead) (32 * n) [])
  else none

/-- Lose `n` ring entries from entry `k`, whose first is at position `pos`, to a memory error (R255): gap records of reason 0x02 in their place (R277), the
ring disabled, SPILL_MEM_ERROR raised. Time marks among them are kept. -/
def MemSide.spillError (x : MemSide) (k n addr : Nat) (read : Bool) : MemSide :=
  let es := (x.buf.ring.drop k).take n
  let recs := es.filterMap (fun e => match e with
    | .held h => some h
    | .mark _ => none)
  let marks := es.filter (fun e => match e with
    | .held _ => false
    | .mark _ => true)
  let gone := recs.length
  let buf := { x.buf with ring := x.buf.ring.take k ++ marks ++ x.buf.ring.drop (k + n), ringOff := true,
                          ringAcked := if read then x.buf.ringAcked - gone else x.buf.ringAcked,
                          ringPos := if read then x.buf.ringPos + 32 * gone else x.buf.ringPos }
  let e := ringEmptied (x.core.raise 0x0904 0x07 [addr, gone]) (buf.discard x.core recs)
  { x with core := e.1, buf := e.2 }

/-! ### Responses (R254, R255) -/

/-- Take the oldest request of an id and kind from the outstanding list. -/
def takeReq (id : Nat) (write : Bool) : List MemReq → Option (MemReq × List MemReq)
  | [] => none
  | r :: rest =>
    if r.id = id ∧ r.write = write then some (r, rest)
    else (takeReq id write rest).map (fun p => (p.1, r :: p.2))

/-- The digest feed of a burst: writes of the unit size (R227). -/
def digestWrites (unit addr : Nat) (data : Bytes) : List DewWrite :=
  let u := 2 ^ unit
  (List.range (data.length / u)).map (fun k => { n := u, v := leAt data (u * k) u, addr := some (addr + u * k) })

/-- Compare two ranges' bytes at offset `off`: first mismatch and count (R227). -/
def compareAt (off : Nat) (a b : Bytes) : Option Nat × Nat :=
  let bad := (List.range a.length).filter (fun k => a.getD k 0 != b.getD k 0)
  ((bad.head?).map (· + off), bad.length)

/-- What a request's response does to its user: a Contrail channel, Dewpoint or the spill ring. -/
def MemSide.respond (x : MemSide) (q : MemReq) (data : Bytes) (err : Bool) : MemSide :=
  if q.id = 8 then
    let b := x.buf
    if err then { x with buf := { b with ringWriting := 0 } }.spillError b.ringAcked b.ringWriting q.addr false
    else { x with buf := { b with ringAcked := b.ringAcked + b.ringWriting, ringWriting := 0 } }
  else if q.id = 9 then
    let b := x.buf
    if err then
      { x with buf := { b with ringReading := 0 } }.spillError b.ringRead b.ringReading q.addr true
    else { x with buf := { b with ringRead := b.ringRead + b.ringReading, ringReading := 0 } }
  else
    let h := x.dma.ch.getD q.id DmaCh.idle
    match h.run with
    | some r =>
      let d := dmaDesc r.desc
      if err then x.endDma q.id (if q.write then 2 else 1)
      else
        match r.burst with
        | .idle => x
        | .writing _ len => x.burstDone q.id len
        | .second off len got =>
          let m := compareAt off got (slice data 0 len)
          let first := match m.1 with
            | some k => if h.mismatch = 2 ^ 64 - 1 then k else h.mismatch
            | none => h.mismatch
          (x.setCh q.id { h with mismatch := first, mismatches := h.mismatches + m.2 }).burstDone q.id len
        | .reading off len =>
          if d.mode = 1 then
            (x.setCh q.id { h with run := some { r with burst := .writing off len } }).request q.id true
              (sideAddr d.dst d.dstWrap off) len (slice data 0 len)
          else if d.mode = 3 then
            (x.setCh q.id { h with run := some { r with burst := .second off len (slice data 0 len) } }).request q.id false
              (sideAddr d.dst d.dstWrap off) len []
          else
            let ws := digestWrites d.unit (sideAddr d.src d.srcWrap off) (slice data 0 len)
            let f := x.core.dewCfg d.dew
            let dew := modAt x.dew d.dew (fun w => ws.foldl (fun w v => w.write f v) (w.drain f))
            { x with dew := dew }.burstDone q.id len
    | none =>
      match x.dma.dp with
      | some r =>
        match r.reading with
        | some i =>
          if err then
            let x := { x with core := x.core.raise 0x0802 0x06 [q.id, 1, 64 * r.sampled] }
            x.dpCommit true
          else { x with dma := { x.dma with dp := some (r.hash i data) } }
        | none => x
      | none => x

/-- A response on the MEM port: the oldest request of its id; a timed-out request's late response is discarded (R255). -/
def MemSide.response (x : MemSide) (id : Nat) (write : Bool) (data : Bytes) (err : Bool) : MemSide :=
  match takeReq id write x.dma.mem with
  | none => x
  | some (q, rest) =>
    let x := { x with dma := { x.dma with mem := rest } }
    if q.dead then x else x.respond q data err

/-- The oldest request of an id has had no response within POWER.MEM_TIMEOUT (R255). -/
def MemSide.timeout (x : MemSide) (id : Nat) : MemSide :=
  match x.dma.mem.find? (fun q => q.id == id && !q.dead) with
  | none => x
  | some q =>
    if x.core.up < q.at_ + x.core.num oPowerMemTimeout * 1000 then x
    else
      let mark (m : List MemReq) : List MemReq := (m.map (fun r => if r == q then { r with dead := true } else r))
      let x := { x with core := (x.core.bump oPowerMemTimeouts).raise 0x0903 0x06 [q.id, q.addr], dma := { x.dma with mem := mark x.dma.mem } }
      x.respond q [] true

end Sys2Proof.Machine
end

