-- ==== Sys2Proof/Machine/Exp.lean ====
section
/-! DEFINITION. The correctly rounded binary64 exponentials of R380 and R390, by a Taylor series in 320-bit fixed point. -/
namespace Sys2Proof.Machine

/-- Fraction bits of the fixed-point series. -/
def expP : Nat := 320

/-- ln 2 in 320-bit fixed point: the sum of 1 / (k 2ᵏ), in guard bits of 2⁻³⁶⁰. -/
def ln2Fix : Nat := (((List.range 370).map (fun k => 2 ^ 360 / ((k + 1) * 2 ^ (k + 1)))).sum) / 2 ^ 40

/-- Taylor series of the exponential: `fuel` more terms from the term number `k`, `t` being the term before it. -/
def expTerms : Nat → Nat → Nat → Nat → Nat
  | 0, _, _, _ => 0
  | fuel + 1, k, r, t =>
    let t' := t * r / 2 ^ expP / k
    t' + expTerms fuel (k + 1) r t'

/-- e^r of a fixed-point r in [0, 1), in fixed point. -/
def expFix (r : Nat) : Nat := 2 ^ expP + expTerms 80 1 r (2 ^ expP)

/-- `m` × 2⁻ᴾ × 2ᵉ as a binary64 value, an overflow being +∞ and an underflow 0. -/
def expScale (m : Nat) (e : Int) : FVal :=
  if e > 1100 then .inf false
  else if e < -1200 then .fin 0 1
  else
    let p := pow2 (e - expP)
    r64 (.fin ((m : Int) * p.1) p.2)

/-- 2ˣ, correctly rounded to binary64 (R390). -/
def fexp2 : FVal → FVal
  | .nan => .nan
  | .inf neg => if neg then .fin 0 1 else .inf false
  | .fin n d =>
    let e := n.fdiv d
    let r := (n - e * d).toNat
    if r = 0 then expScale (2 ^ expP) e
    else expScale (expFix (r * 2 ^ expP / d * ln2Fix / 2 ^ expP)) e

/-- eˣ, correctly rounded to binary64 (R380). -/
def fexp : FVal → FVal
  | .nan => .nan
  | .inf neg => if neg then .fin 0 1 else .inf false
  | .fin n d =>
    if n = 0 then .fin 1 1
    else if n > 2000 * (d : Int) then .inf false
    else if n < -2000 * (d : Int) then .fin 0 1
    else
      let x := (n * (2 ^ expP : Nat)).fdiv d
      let e := x.fdiv ln2Fix
      expScale (expFix (x - e * ln2Fix).toNat) e

end Sys2Proof.Machine
end

