-- ==== Sys2Proof/Machine/Deflate.lean ====
section
/-! DEFINITION. DEFLATE as Condenser uses it (R476–R478, R482): the tokens of a level, one block with fixed or dynamic codes, and decoding of any stream valid under RFC 1951. -/
namespace Sys2Proof.Machine

/-! ### Tables of RFC 1951 -/

/-- Base length and extra bits of length codes 257–285. -/
def lengthTable : List (Nat × Nat) :=
  [(3, 0), (4, 0), (5, 0), (6, 0), (7, 0), (8, 0), (9, 0), (10, 0), (11, 1), (13, 1), (15, 1), (17, 1), (19, 2), (23, 2), (27, 2),
   (31, 2), (35, 3), (43, 3), (51, 3), (59, 3), (67, 4), (83, 4), (99, 4), (115, 4), (131, 5), (163, 5), (195, 5), (227, 5), (258, 0)]

/-- Base distance and extra bits of distance codes 0–29. -/
def distTable : List (Nat × Nat) :=
  [(1, 0), (2, 0), (3, 0), (4, 0), (5, 1), (7, 1), (9, 2), (13, 2), (17, 3), (25, 3), (33, 4), (49, 4), (65, 5), (97, 5), (129, 6),
   (193, 6), (257, 7), (385, 7), (513, 8), (769, 8), (1025, 9), (1537, 9), (2049, 10), (3073, 10), (4097, 11), (6145, 11),
   (8193, 12), (12289, 12), (16385, 13), (24577, 13)]

/-- Order of the code-length code's lengths. -/
def clOrder : List Nat := [16, 17, 18, 0, 8, 7, 9, 6, 10, 5, 11, 4, 12, 3, 13, 2, 14, 1, 15]

/-- Fixed literal and length code lengths, and fixed distance code lengths. -/
def fixedLit : List Nat := List.replicate 144 8 ++ List.replicate 112 9 ++ List.replicate 24 7 ++ List.replicate 8 8
def fixedDist : List Nat := List.replicate 30 5

/-- Canonical codes of a list of lengths: symbol, length, code. -/
def huffCodes (lens : List Nat) : List (Nat × Nat × Nat) :=
  let used := ((List.range lens.length).map (fun i => (i, lens.getD i 0))).filter (fun p => p.2 != 0)
  let sorted := sortBy used (fun a b => decide (a.2 < b.2) || (a.2 == b.2 && decide (a.1 ≤ b.1)))
  (sorted.foldl (fun (a : List (Nat × Nat × Nat) × Nat × Nat) p =>
    let code := a.2.1 * 2 ^ (p.2 - a.2.2)
    (a.1 ++ [(p.1, p.2, code)], code + 1, p.2)) ([], 0, 0)).1

/-- Code lengths that RFC 1951 admits: complete, or at most one code. -/
def lensOk (lens : List Nat) : Bool :=
  let used := lens.filter (fun l => l != 0)
  let sum := used.foldl (fun a l => a + 2 ^ (15 - l)) 0
  decide (used.length ≤ 1) || sum == 2 ^ 15

/-! ### Decoding (R482) -/

/-- Bits of a byte string, least significant first. -/
def bitStream (b : Bytes) : List Bool := b.flatMap (fun x => (List.range 8).map (fun i => x.toNat.testBit i))

/-- `n` bits, least significant first, and the rest; code 3 where the stream ends. -/
def takeBits : Nat → List Bool → Except Nat (Nat × List Bool)
  | 0, s => .ok (0, s)
  | _ + 1, [] => .error 3
  | n + 1, b :: s =>
    match takeBits n s with
    | .ok (v, s) => .ok ((if b then 1 else 0) + 2 * v, s)
    | .error e => .error e

/-- One symbol of a code table, bits most significant first; `fuel` bits at most. -/
def takeSym (codes : List (Nat × Nat × Nat)) : Nat → Nat → Nat → List Bool → Except Nat (Nat × List Bool)
  | 0, _, _, _ => .error 1
  | _ + 1, _, _, [] => .error 3
  | k + 1, len, code, b :: s =>
    let code := 2 * code + (if b then 1 else 0)
    match codes.find? (fun c => c.2.1 == len + 1 && c.2.2 == code) with
    | some c => .ok (c.1, s)
    | none => takeSym codes k (len + 1) code s

/-- `n` bytes copied from `d` back; the output is held most recent first. -/
def copyBack (d : Nat) : Nat → Bytes → Bytes
  | 0, rev => rev
  | n + 1, rev => copyBack d n (rev.getD (d - 1) 0 :: rev)

/-- Symbols of one block until its end; `made` bytes are out, `limit` at most. -/
def inflateSyms (lit dist : List (Nat × Nat × Nat)) (limit : Nat) : Nat → List Bool → Bytes → Nat → Except Nat (List Bool × Bytes × Nat)
  | 0, _, _, _ => .error 1
  | k + 1, s, rev, made =>
    match takeSym lit 15 0 0 s with
    | .error e => .error e
    | .ok (sym, s) =>
      if sym < 256 then
        if made ≥ limit then .error 2 else inflateSyms lit dist limit k s (BitVec.ofNat 8 sym :: rev) (made + 1)
      else if sym = 256 then .ok (s, rev, made)
      else match lengthTable[sym - 257]? with
        | none => .error 1
        | some l =>
          match takeBits l.2 s with
          | .error e => .error e
          | .ok (x, s) =>
            match takeSym dist 15 0 0 s with
            | .error e => .error e
            | .ok (ds, s) =>
              match distTable[ds]? with
              | none => .error 1
              | some d =>
                match takeBits d.2 s with
                | .error e => .error e
                | .ok (y, s) =>
                  let n := l.1 + x
                  let back := d.1 + y
                  if back > rev.length then .error 1
                  else if made + n > limit then .error 2
                  else inflateSyms lit dist limit k s (copyBack back n rev) (made + n)

/-- `n` code lengths by a code-length code. -/
def takeLens (cl : List (Nat × Nat × Nat)) : Nat → Nat → List Bool → List Nat → Except Nat (List Nat × List Bool)
  | 0, _, _, _ => .error 1
  | k + 1, n, s, acc =>
    if acc.length ≥ n then (if acc.length = n then .ok (acc, s) else .error 1)
    else match takeSym cl 7 0 0 s with
      | .error e => .error e
      | .ok (sym, s) =>
        if sym < 16 then takeLens cl k n s (acc ++ [sym])
        else
          let bits := if sym = 16 then 2 else if sym = 17 then 3 else 7
          match takeBits bits s with
          | .error e => .error e
          | .ok (x, s) =>
            if sym = 16 then
              (match acc.getLast? with
               | none => .error 1
               | some v => takeLens cl k n s (acc ++ List.replicate (3 + x) v))
            else takeLens cl k n s (acc ++ List.replicate ((if sym = 17 then 3 else 11) + x) 0)

/-- The tables of a dynamic block's header. -/
def dynamicHead (s : List Bool) : Except Nat ((List Nat × List Nat) × List Bool) :=
  match takeBits 14 s with
  | .error e => .error e
  | .ok (h, s) =>
    let hlit := h % 32 + 257
    let hdist := h / 32 % 32 + 1
    let hclen := h / 1024 + 4
    let r := (List.range hclen).foldl (fun (a : Except Nat (List Nat × List Bool)) _ =>
      match a with
      | .error e => .error e
      | .ok (l, s) => match takeBits 3 s with
        | .error e => .error e
        | .ok (x, s) => .ok (l ++ [x], s)) (.ok ([], s))
    match r with
    | .error e => .error e
    | .ok (l, s) =>
      let lens := (List.range 19).map (fun sym => match clOrder.findIdx? (fun c => c == sym) with
        | some i => l.getD i 0
        | none => 0)
      if !lensOk lens then .error 1
      else match takeLens (huffCodes lens) 400 (hlit + hdist) s [] with
        | .error e => .error e
        | .ok (ls, s) =>
          let a := ls.take hlit
          let b := ls.drop hlit
          if hlit > 286 ∨ hdist > 30 ∨ a.getD 256 0 = 0 ∨ !lensOk a ∨ !lensOk b then .error 1 else .ok ((a, b), s)

/-- Blocks until the last; `pos` counts bits taken for a stored block's alignment by what is left. -/
def inflateBlocks (limit : Nat) : Nat → List Bool → Bytes → Nat → Except Nat (Bytes × Nat)
  | 0, _, _, _ => .error 1
  | k + 1, s, rev, made =>
    match takeBits 3 s with
    | .error e => .error e
    | .ok (h, s) =>
      let r : Except Nat (List Bool × Bytes × Nat) :=
        match h / 2 with
        | 0 =>
          let s := s.drop (s.length % 8)
          match takeBits 32 s with
          | .error e => .error e
          | .ok (n, s) =>
            let len := n % 65536
            if len + n / 65536 ≠ 65535 then .error 1
            else if made + len > limit then .error 2
            else if s.length < 8 * len then .error 3
            else
              let bytes := (List.range len).map (fun i => BitVec.ofNat 8 ((List.range 8).foldl (fun a j =>
                a + (if s.getD (8 * i + j) false then 2 ^ j else 0)) 0))
              .ok (s.drop (8 * len), bytes.reverse ++ rev, made + len)
        | 1 => inflateSyms (huffCodes fixedLit) (huffCodes fixedDist) limit (s.length + 1) s rev made
        | 2 => match dynamicHead s with
          | .error e => .error e
          | .ok ((a, b), s) => inflateSyms (huffCodes a) (huffCodes b) limit (s.length + 1) s rev made
        | _ => .error 1
      match r with
      | .error e => .error e
      | .ok (s, rev, made) => if h % 2 = 1 then .ok (rev, made) else inflateBlocks limit k s rev made

/-- The output of a stream with a preset history, or the code of Table 19.3. -/
def inflate (history data : Bytes) (limit : Nat) : Except Nat Bytes :=
  let s := bitStream data
  match inflateBlocks limit (s.length + 1) s history.reverse 0 with
  | .error e => .error e
  | .ok (rev, made) => .ok (rev.take made).reverse

/-! ### Coding (R477, R478) -/

/-- A token: a literal byte, or a match of a length at a distance. -/
inductive Tok where
  | lit (b : Byte)
  | mat (len dist : Nat)
deriving DecidableEq, Repr

/-- A level of Table 19.2: candidates, lazy, nice length. -/
def levelOf (l : Nat) : Nat × Bool × Nat :=
  match l with
  | 1 => (4, false, 16) | 2 => (8, false, 32) | 3 => (16, false, 32) | 4 => (16, true, 64) | 5 => (32, true, 128)
  | 6 => (128, true, 128) | 7 => (256, true, 258) | 8 => (1024, true, 258) | _ => (4096, true, 258)

/-- Length of the match of `rest` with the bytes `d` back, at most 258; `past` is held most recent first. -/
def matchLen (past rest : Bytes) (d : Nat) : Nat :=
  let src := (past.take d).reverse ++ rest
  ((src.zip (rest.take 258)).takeWhile (fun p => p.1 == p.2)).length

/-- The search at one position: candidates share a 3-byte prefix, nearest first, `left` of them at most. -/
def bestMatch (past rest : Bytes) (nice : Nat) : Nat → Nat → Nat → Nat × Nat → Nat × Nat
  | 0, _, _, best => best
  | k + 1, d, left, best =>
    if d > past.length ∨ d > 32768 ∨ left = 0 ∨ best.1 ≥ nice then best
    else
      let n := matchLen past rest d
      if n < 3 then bestMatch past rest nice k (d + 1) left best
      else bestMatch past rest nice k (d + 1) (left - 1) (if n > best.1 then (n, d) else best)

/-- The longest match at a position, length 0 where there is none. -/
def matchAt (level : Nat) (past rest : Bytes) : Nat × Nat :=
  let l := levelOf level
  bestMatch past rest l.2.2 (past.length + 1) 1 l.1 (0, 0)

/-- The tokens of a frame's data after its history. -/
def tokensOf (level : Nat) : Nat → Bytes → Bytes → List Tok
  | 0, _, _ => []
  | _, _, [] => []
  | k + 1, past, b :: rest =>
    let m := matchAt level past (b :: rest)
    let defer := (levelOf level).2.1 && decide ((matchAt level (b :: past) rest).1 > m.1)
    if m.1 < 3 ∨ defer then .lit b :: tokensOf level k (b :: past) rest
    else .mat m.1 m.2 :: tokensOf level k (((b :: rest).take m.1).reverse ++ past) ((b :: rest).drop m.1)

/-- Code, extra value and extra bits of a number in a table of bases. -/
def tableCode (t : List (Nat × Nat)) (v : Nat) : Nat × Nat × Nat :=
  let i := ((List.range t.length).filter (fun i => decide ((t.getD i (0, 0)).1 ≤ v))).getLast?.getD 0
  let e := t.getD i (0, 0)
  (i, v - e.1, e.2)

/-- One round of package-merge: the items sorted with the pairs of the last round. -/
def packRound (items packs : List (Nat × List Nat)) : List (Nat × List Nat) :=
  let le (a b : Nat × List Nat) : Bool := decide (a.1 < b.1) || (a.1 == b.1 && decide (a.2.headD 0 ≤ b.2.headD 0))
  let pairs := (List.range (packs.length / 2)).map (fun i =>
    ((packs.getD (2 * i) (0, [])).1 + (packs.getD (2 * i + 1) (0, [])).1,
     (packs.getD (2 * i) (0, [])).2 ++ (packs.getD (2 * i + 1) (0, [])).2))
  sortBy (items ++ pairs) le

/-- Code lengths of symbol counts, at most `limit` bits, by package-merge with ties in ascending symbol order (R478). -/
def packageMerge (limit : Nat) (freq : List Nat) : List Nat :=
  let items := ((List.range freq.length).filter (fun i => freq.getD i 0 != 0)).map (fun i => (freq.getD i 0, [i]))
  match items with
  | [] => freq.map (fun _ => 0)
  | [x] => (List.range freq.length).map (fun i => if x.2.contains i then 1 else 0)
  | _ =>
    let last := (List.range limit).foldl (fun p _ => packRound items p) []
    let used := (last.take (2 * (items.length - 1))).flatMap (fun p => p.2)
    (List.range freq.length).map (fun i => (used.filter (fun s => s == i)).length)

/-- Number of times each symbol below `n` occurs. -/
def countSyms (n : Nat) (l : List Nat) : List Nat := (List.range n).map (fun i => (l.filter (fun s => s == i)).length)

/-- `n` bits of a value, least significant first; a code goes most significant first. -/
def bitsLe (n v : Nat) : List Bool := (List.range n).map (fun i => v.testBit i)
def bitsMsb (n v : Nat) : List Bool := (bitsLe n v).reverse

/-- The bits of one symbol under a code table. -/
def symBits (codes : List (Nat × Nat × Nat)) (s : Nat) : List Bool :=
  match codes.find? (fun c => c.1 == s) with
  | some c => bitsMsb c.2.1 c.2.2
  | none => []

/-- The bits of the tokens and the end of block. -/
def tokenBits (lit dist : List (Nat × Nat × Nat)) (ts : List Tok) : List Bool :=
  ts.flatMap (fun t => match t with
    | .lit b => symBits lit b.toNat
    | .mat n d =>
      let l := tableCode lengthTable n
      let c := tableCode distTable d
      symBits lit (257 + l.1) ++ bitsLe l.2.2 l.2.1 ++ symBits dist c.1 ++ bitsLe c.2.2 c.2.1) ++ symBits lit 256

/-- Runs of a list of code lengths as code-length symbols, longest runs first (log entry 8): symbol, extra bits, extra value. -/
def runLens : Nat → List Nat → List (Nat × Nat × Nat)
  | 0, _ => []
  | _, [] => []
  | k + 1, v :: rest =>
    let n := 1 + (rest.takeWhile (fun x => x == v)).length
    if v = 0 ∧ n ≥ 11 then
      let m := Nat.min n 138
      (18, 7, m - 11) :: runLens k (rest.drop (m - 1))
    else if v = 0 ∧ n ≥ 3 then (17, 3, n - 3) :: runLens k (rest.drop (n - 1))
    else if v ≠ 0 ∧ n ≥ 4 then
      let m := Nat.min (n - 1) 6
      (v, 0, 0) :: (16, 2, m - 3) :: runLens k (rest.drop m)
    else (v, 0, 0) :: runLens k rest

/-- The last used index plus 1, at least `lo`. -/
def usedTo (lo : Nat) (l : List Nat) : Nat :=
  Nat.max lo (((List.range l.length).filter (fun i => l.getD i 0 != 0)).getLast?.elim 0 (fun i => i + 1))

/-- One block with dynamic codes. -/
def dynamicBlock (ts : List Tok) : List Bool :=
  let lits := ts.map (fun t => match t with | .lit b => b.toNat | .mat n _ => 257 + (tableCode lengthTable n).1)
  let dists := ts.filterMap (fun t => match t with | .lit _ => none | .mat _ d => some (tableCode distTable d).1)
  let ll := packageMerge 15 (countSyms 286 (lits ++ [256]))
  let dl := packageMerge 15 (countSyms 30 dists)
  let hlit := usedTo 257 ll
  let hdist := usedTo 1 dl
  let runs := runLens 400 (ll.take hlit ++ dl.take hdist)
  let cl := packageMerge 7 (countSyms 19 (runs.map (fun r => r.1)))
  let ordered := clOrder.map (fun s => cl.getD s 0)
  let hclen := usedTo 4 ordered
  let cc := huffCodes cl
  [true] ++ bitsLe 2 2 ++ bitsLe 5 (hlit - 257) ++ bitsLe 5 (hdist - 1) ++ bitsLe 4 (hclen - 4)
    ++ (ordered.take hclen).flatMap (bitsLe 3) ++ runs.flatMap (fun r => symBits cc r.1 ++ bitsLe r.2.1 r.2.2)
    ++ tokenBits (huffCodes ll) (huffCodes dl) ts

/-- One block with fixed codes. -/
def fixedBlock (ts : List Tok) : List Bool := [true] ++ bitsLe 2 1 ++ tokenBits (huffCodes fixedLit) (huffCodes fixedDist) ts

/-- Bits packed into bytes, the last padded with zeros. -/
def packBits (s : List Bool) : Bytes :=
  (List.range ((s.length + 7) / 8)).map (fun i => BitVec.ofNat 8 ((List.range 8).foldl (fun a j =>
    a + (if s.getD (8 * i + j) false then 2 ^ j else 0)) 0))

/-- The DEFLATE stream of a frame: the smaller block, the fixed one on equal size; none where it is no shorter than the data (R478). -/
def deflate (level : Nat) (history data : Bytes) : Option Bytes :=
  let ts := tokensOf level (data.length + 1) history.reverse data
  let f := fixedBlock ts
  let d := dynamicBlock ts
  let b := packBits (if d.length < f.length then d else f)
  if b.length ≥ data.length then none else some b

end Sys2Proof.Machine
end

