-- ==== Sys2Proof/Parts/Lane.lean ====
section
/-! DEFINITION. State of one end of a Drizzle lane (spec/10, R263–R281). -/
namespace Sys2Proof.Machine

/-- Lane states of Table 10.5. -/
inductive DzState where
  | disabled | train | align | hello | up | retrain
deriving DecidableEq, Repr

/-- LINK.DZ_STATE code. -/
def DzState.code : DzState → Nat
  | .disabled => 0 | .train => 1 | .align => 2 | .hello => 3 | .up => 4 | .retrain => 5

/-- Training, block lock and hello (R264–R266, R274). -/
structure LanePhy where
  state : DzState
  /-- powered time of the entry into the state -/
  since : Nat
  lock : Bool
  good : Nat
  bad : Nat
  /-- count of the last block received -/
  count : Nat
  epoch : Nat
  /-- peer epoch last seen on this lane -/
  peerEpoch : Option Nat
  /-- own HELLO_INFO carries ECHO -/
  echo : Bool
  /-- last HELLO_UID and HELLO_INFO received, as the 16 bytes of each item -/
  peerUid : Bytes
  peerInfo : Bytes
  resume : Option Nat
  /-- powered time the lane last left Up, and the unit's time then (R278) -/
  downAt : Option Nat
  downRef : Nat
deriving DecidableEq, Repr

/-- A data flit in the retry buffer (R273): `ends` are the records whose last byte it carries. -/
structure Flit where
  seq : Nat
  old : Bool
  payload : Bytes
  ends : List Held
  sends : Nat
deriving DecidableEq, Repr

/-- Sending side of a lane (R269–R273). -/
structure LaneTx where
  seq : Nat
  retry : List Flit
  /-- index in the retry buffer of the next flit to resend -/
  resend : Option Nat
  progressAt : Nat
  nakIn : Bool
  /-- cumulative grants from the peer and slots sent, by class code T, S, C, A (R272) -/
  granted : List Nat
  sent : List Nat
  /-- bytes of the stream not yet in a flit, and the record they end, none for an empty slot -/
  tail : Bytes
  tailRec : Option Held
  /-- rest of the frame in progress, and slots of it already placed (R270) -/
  frame : List Held
  placed : Nat
  /-- the second slot of an alarm pair is owed -/
  alarmSlot : Bool
  deficit : List Nat
  turn : Nat
  /-- flits since the last control flit -/
  flits : Nat
  /-- own grants as last sent -/
  grantSent : List Nat
  /-- a TIME_RSP owed: exchange id and t2 (Ovtan) -/
  rsp : Option (Nat × Nat)
  /-- a TIME_REQ owed: exchange id (tray) -/
  req : Option Nat
  /-- powered time since which class S credit has stayed below 32 slots (R322), and whether it counts as withheld -/
  lowSince : Option Nat
  withheld : Bool
deriving DecidableEq, Repr

/-- A record received and not yet taken: the record, OLD, the unit's time at its arrival. -/
structure RxRec where
  base : Record
  old : Bool
  at_ : Nat
deriving DecidableEq, Repr

/-- Receiving side of a lane. -/
structure LaneRx where
  seq : Nat
  nakOut : Bool
  tail : Bytes
  queue : List RxRec
  /-- slots taken from the lane by class code (R321) -/
  taken : List Nat
deriving DecidableEq, Repr

/-- One end of a Drizzle lane. -/
structure Lane where
  phy : LanePhy
  tx : LaneTx
  rx : LaneRx
deriving DecidableEq, Repr

/-- What an Ovtan keeps of its lane besides (R271, R138, R280). -/
structure OvLane where
  lane : Lane
  stepId : Nat
  /-- rate command in force came with this SERVO since the last lock -/
  servoSeen : Bool
  spillRaised : Bool
deriving DecidableEq, Repr

end Sys2Proof.Machine
end

