-- ==== Sys2Proof/Machine/Lane.lean ====
section
/-! DEFINITION. The Drizzle lane at either end (spec/10, R263–R281): blocks, flits, credits, retry and the states of Table 10.5. -/
namespace Sys2Proof.Machine

/-- A reflected 32-bit CRC over bytes, by the procedure of R221. -/
def crc32With (poly : Nat) (b : Bytes) : Nat :=
  let f : DewCfg := { w := 32, poly := poly, init := 0xFFFFFFFF, xorout := 0xFFFFFFFF, fold := 0, reflectOut := true, reflectIn := true, foldStart := 0 }
  let r := b.foldl (fun r x => dewByte f r x.toNat) 0xFFFFFFFF
  (reverseBits 32 r ^^^ 0xFFFFFFFF) % 2 ^ 32

/-- CRC-32 of IEEE 802.3, the check of the fuse image (R249). -/
def crc32 (b : Bytes) : Nat := crc32With 0x04C11DB7 b
/-- CRC-32C, the flit check (R268). -/
def crc32c (b : Bytes) : Nat := crc32With 0x1EDC6F41 b

/-- A lane as it is at restart (R274), with link epoch `epoch`. -/
def Lane.fresh (epoch : Nat) : Lane :=
  { phy := { state := .disabled, since := 0, lock := false, good := 0, bad := 0, count := 0, epoch := epoch, peerEpoch := none,
             echo := false, peerUid := zeros 16, peerInfo := zeros 16, resume := none, downAt := none, downRef := 0 },
    tx := { seq := 0, retry := [], resend := none, progressAt := 0, nakIn := false, granted := [0, 0, 0, 0], sent := [0, 0, 0, 0],
            tail := [], tailRec := none, frame := [], placed := 0, alarmSlot := false, deficit := [0, 0, 0, 0], turn := 2, flits := 0,
            grantSent := [0, 0, 0, 0], rsp := none, req := none, lowSince := none, withheld := false },
    rx := { seq := 0, nakOut := false, tail := [], queue := [], taken := [0, 0, 0, 0] } }

/-! ### States (Table 10.5) -/

/-- Enter a state at powered time `up`. -/
def Lane.enter (l : Lane) (s : DzState) (up : Nat) : Lane := { l with phy := { l.phy with state := s, since := up } }

/-- Disabled (Table 10.5): the retry buffer is discarded. -/
def Lane.disable (l : Lane) (up : Nat) : Lane := { l.enter .disabled up with tx := { l.tx with retry := [], resend := none } }

/-- Start full training. -/
def Lane.train (l : Lane) (up : Nat) : Lane :=
  let l := l.enter .train up
  { l with phy := { l.phy with lock := false, good := 0, bad := 0, echo := false, resume := none } }

/-- Enter Align: look for block lock. -/
def Lane.align (l : Lane) (up : Nat) : Lane :=
  let l := l.enter .align up
  { l with phy := { l.phy with lock := false, good := 0, bad := 0, echo := false, resume := none } }

/-- Leave Up (Table 10.5): keep the retry buffer, start timing the outage. -/
def Lane.down (l : Lane) (up ns : Nat) : Lane :=
  let l := l.enter .retrain up
  { l with phy := { l.phy with downAt := some up, downRef := ns, lock := false, good := 0, bad := 0, echo := false, resume := none },
           tx := { l.tx with resend := none, nakIn := false, rsp := none, req := none },
           rx := { l.rx with nakOut := false } }

/-- Raise LINK_DOWN with a cause: 0 block lock, 1 retry limit, 2 peer training, 3 forced, 4 reference lost. -/
def laneDown (c : Core) (l : Lane) (port sub cause : Nat) : Core × Lane :=
  if l.phy.state = .up then (c.raise 0x0A02 sub [port, cause], l.down c.up c.ns) else (c, l)

/-- 2¹² and 2²⁴ moduli of flit sequences and slot counts. -/
def seqAdd (a n : Nat) : Nat := (a + n) % 4096
def slotAdd (a n : Nat) : Nat := (a + n) % 2 ^ 24

/-- Cut a byte stream into flits of 248 payload bytes from flit number `i`, the last padded with empty slots; `fuel` flits at
most. Flit `i` carries the last bytes of the records that end in bytes 248i to 248i + 247. -/
def packFlits : Nat → Nat → Bytes → List Held → List Flit
  | 0, _, _, _ => []
  | k + 1, i, b, hs =>
    if b.isEmpty then []
    else
      let n := 248 * (i + 1) / 32 - 248 * i / 32
      { seq := i % 4096, old := true, payload := slice b 0 248, ends := hs.take n, sends := 0 } :: packFlits k (i + 1) (b.drop 248) (hs.drop n)

/-- The records that unacknowledged flits and the unsent tail still carry (Table 10.5). -/
def LaneTx.unacked (t : LaneTx) : List Held :=
  t.retry.flatMap (fun f => f.ends) ++ (match t.tailRec with
    | some h => [h]
    | none => [])

/-- Entry to Up with a peer epoch: resume, or restart and repack (Table 10.5). -/
def Lane.goUp (l : Lane) (up peer : Nat) : Lane × Bool :=
  let same := l.phy.peerEpoch == some peer
  let phy := { l.phy with peerEpoch := some peer, downAt := none, state := .up, since := up }
  if same then
    let seq := l.phy.resume.getD ((l.tx.retry.head?.map (fun f => f.seq)).getD l.tx.seq)
    let d (f : Flit) : Nat := (f.seq + 4096 - seq) % 4096
    let keep := (l.tx.retry.filter (fun f => decide (d f < 2048))).map (fun f => { f with old := true, sends := 0 })
    ({ l with phy := phy, tx := { l.tx with retry := keep, resend := if keep.isEmpty then none else some 0, progressAt := up } }, false)
  else
    let hs := l.tx.unacked
    let stream := hs.flatMap (fun h => recordBytes h.base)
    let fl := packFlits 257 0 stream hs
    let sent := (List.range 4).map (fun k => (hs.filter (fun h => h.base.cls.code == k)).length)
    ({ l with phy := phy,
              tx := { l.tx with seq := fl.length % 4096, retry := fl, resend := if fl.isEmpty then none else some 0, progressAt := up, granted := [0, 0, 0, 0], sent := sent, tail := zeros ((32 - 248 * fl.length % 32) % 32), tailRec := none, grantSent := [0, 0, 0, 0], nakIn := false },
              rx := { l.rx with seq := 0, tail := [], nakOut := false, taken := [0, 0, 0, 0] } }, true)

/-! ### Blocks (R265, R266) -/

/-- Block lock after a block: `hdr` is its 40-bit header, `bad` says a codeword was uncorrectable. -/
def LanePhy.block (p : LanePhy) (hdr : Nat) (bad : Bool) : LanePhy :=
  let cnt := bitsOf hdr 23 16
  let syncOk := bitsOf hdr 39 24 == 0x4C6E
  let cntOk := cnt == (p.count + 1) % 256
  if p.lock then
    let n := if syncOk && cntOk && !bad then 0 else p.bad + 1
    { p with count := if syncOk then cnt else (p.count + 1) % 256, bad := n, lock := decide (n < 4), good := 0 }
  else
    let g := if !syncOk then 0 else if cntOk || p.good == 0 then p.good + 1 else 1
    { p with count := cnt, good := g, bad := 0, lock := decide (g ≥ 4) }

/-! ### Flits (R267–R273) -/

/-- Fields of the first 32 bits of a flit (Table 10.3). -/
structure FlitHead where
  kind : Nat
  seq : Nat
  ack : Nat
  nak : Bool
  ackValid : Bool
  old : Bool
deriving DecidableEq, Repr

/-- The header of a flit's 256 bytes. -/
def flitHead (b : Bytes) : FlitHead :=
  let n := leAt b 0 4
  { kind := bitsOf n 31 30, seq := bitsOf n 29 18, ack := bitsOf n 17 6, nak := n.testBit 5, ackValid := n.testBit 4, old := n.testBit 3 }

/-- Whether a flit passes its CRC (R268). -/
def flitGood (b : Bytes) : Bool := b.length == 256 && crc32c (b.take 252) == leAt b 252 4

/-- The 256 bytes of a flit. -/
def flitBytes (h : FlitHead) (payload : Bytes) : Bytes :=
  let n := h.kind * 2 ^ 30 + h.seq * 2 ^ 18 + h.ack * 64 + (if h.nak then 32 else 0) + (if h.ackValid then 16 else 0) + (if h.old then 8 else 0)
  let b := leBytes 4 n ++ slice payload 0 248
  b ++ leBytes 4 (crc32c b)

/-- Take the acknowledgement of a received flit (R273). -/
def LaneTx.acked (t : LaneTx) (ack : Nat) (nak : Bool) (up : Nat) : LaneTx :=
  let done (f : Flit) : Bool := decide ((ack + 4096 - f.seq) % 4096 - 1 < 2047) && decide ((ack + 4096 - f.seq) % 4096 ≠ 0)
  let rest := t.retry.dropWhile done
  let progress := decide (rest.length < t.retry.length)
  let n := t.retry.length - rest.length
  let rs := t.resend.map (fun i => i - n)
  let rs := match rs with
    | some i => if i < rest.length then some i else none
    | none => none
  let rs := if nak && !t.nakIn && !rest.isEmpty then some 0 else rs
  { t with retry := rest, resend := rs, nakIn := nak, progressAt := if progress then up else t.progressAt }

/-- The records of the 32-byte slots of a stream, empty slots left out, with the bytes after the last whole slot; `fuel` slots. -/
def cutSlots : Nat → Bytes → List Record × Bytes
  | 0, b => ([], b)
  | k + 1, b =>
    if b.length < 32 then ([], b)
    else
      let s := b.take 32
      let r := cutSlots k (b.drop 32)
      if s.headD 0 = 0 then r else (recordOfBytes s :: r.1, r.2)

/-- A data flit is accepted in sequence, or discarded with NAK (R273). -/
def Lane.acceptData (l : Lane) (seq : Nat) (old : Bool) (payload : Bytes) (ns : Nat) : Lane :=
  if seq ≠ l.rx.seq then { l with rx := { l.rx with nakOut := true } }
  else
    let c := cutSlots 9 (l.rx.tail ++ slice payload 0 248)
    { l with rx := { l.rx with seq := seqAdd seq 1, nakOut := false, tail := c.2,
                               queue := l.rx.queue ++ c.1.map (fun r => { base := r, old := old, at_ := ns }) } }

/-- Cumulative grant of a class to the peer (R272, R321): class A at least LINK.A_CREDITS beyond what ingest has taken. -/
def Lane.grantOf (l : Lane) (cls aCredits : Nat) : Nat :=
  slotAdd (l.rx.taken.getD cls 0) (if cls = 3 then aCredits else 512)

/-- The CREDIT item (Table 10.4). -/
def Lane.creditItem (l : Lane) (aCredits : Nat) : Nat :=
  1 + l.grantOf 3 aCredits * 2 ^ 32 + l.grantOf 2 aCredits * 2 ^ 56 + l.grantOf 1 aCredits * 2 ^ 80 + l.grantOf 0 aCredits * 2 ^ 104

/-- A CREDIT item updates the grants from the peer (R272); the class S watch of R322 ends at 32 slots or more. -/
def Lane.credit (l : Lane) (t s c a : Nat) : Lane :=
  let tx := { l.tx with granted := [t % 2 ^ 24, s % 2 ^ 24, c % 2 ^ 24, a % 2 ^ 24] }
  let avail := (s + 2 ^ 24 - l.tx.sent.getD 1 0) % 2 ^ 24
  let tx := if 32 ≤ avail ∧ avail < 2 ^ 23 then { tx with lowSince := none, withheld := false } else tx
  { l with tx := tx }

/-- Available credit of a class: slots that may still be filled (R272). -/
def LaneTx.avail (t : LaneTx) (cls : Nat) : Nat :=
  let d := (t.granted.getD cls 0 + 2 ^ 24 - t.sent.getD cls 0) % 2 ^ 24
  if d < 2 ^ 23 then d else 0

/-- Start of the class S watch of R322 when the available credit falls below 32 slots. -/
def LaneTx.watch (t : LaneTx) (up : Nat) : LaneTx :=
  if t.avail 1 < 32 then (if t.lowSince.isNone then { t with lowSince := some up } else t)
  else { t with lowSince := none, withheld := false }

/-- Class A and control-flit triggers: whether a control flit is due (R271); a time item is due only in flit slot 0 (R267). -/
def Lane.controlDue (l : Lane) (aCredits : Nat) (slot0 : Bool) : Bool :=
  let moved (cls lim : Nat) : Bool := decide ((l.grantOf cls aCredits + 2 ^ 24 - l.tx.grantSent.getD cls 0) % 2 ^ 24 ≥ lim)
  (slot0 && (l.tx.rsp.isSome || l.tx.req.isSome)) || decide (l.tx.flits ≥ 1023)
    || (decide (l.tx.flits ≥ 63) && (moved 0 64 || moved 1 64 || moved 2 64 || moved 3 1))

/-- HELLO items of one end (Table 10.4). -/
def helloItems (l : Lane) (uid path kind fuse port phys : Nat) : List Nat :=
  let info := 7 + l.phy.epoch % 2 ^ 32 * 2 ^ 96 + path % 2 ^ 32 * 2 ^ 64 + kind % 256 * 2 ^ 56 + fuse % 256 * 2 ^ 48 + port % 256 * 2 ^ 40
    + phys % 256 * 2 ^ 32 + uid / 2 ^ 120 % 256 * 2 ^ 24 + (if l.phy.echo then 2 ^ 16 else 0)
  [6 + uid % 2 ^ 120 * 256, info, 8 + l.rx.seq * 65536]

/-- Mark a control flit as sent: its items leave, time items only from slot 0, and the counts of R271 start again. -/
def Lane.sentControl (l : Lane) (aCredits : Nat) (slot0 : Bool) : Lane :=
  { l with tx := { l.tx with flits := 0, rsp := if slot0 then none else l.tx.rsp, req := if slot0 then none else l.tx.req,
                             grantSent := (List.range 4).map (fun k => l.grantOf k aCredits) } }

/-- The next flit to resend, with the lane after it: its send count up by one, OLD kept. -/
def Lane.resendOne (l : Lane) : Option (Flit × Lane) :=
  match l.tx.resend with
  | none => none
  | some i =>
    match l.tx.retry[i]? with
    | none => none
    | some f =>
      let f' := { f with sends := f.sends + 1 }
      let nxt := if i + 1 < l.tx.retry.length then some (i + 1) else none
      some (f', { l with tx := { l.tx with retry := l.tx.retry.set i f', resend := nxt, flits := l.tx.flits + 1 } })

/-- Put a new data flit's payload into the retry buffer: its sequence number and the lane after it. -/
def Lane.pushFlit (l : Lane) (payload : Bytes) (ends : List Held) (up : Nat) : Nat × Lane :=
  let s := l.tx.seq
  let f : Flit := { seq := s, old := false, payload := payload, ends := ends, sends := 1 }
  (s, { l with tx := { l.tx with seq := seqAdd s 1, retry := l.tx.retry ++ [f], flits := l.tx.flits + 1,
                                 progressAt := if l.tx.retry.isEmpty then up else l.tx.progressAt } })

/-! ### Filling slots (R270) -/

/-- Where a lane end's next frame and next alarm come from: `σ` is what it takes them out of. -/
structure SlotSource (σ : Type) where
  /-- next class A record when one waits -/
  alarm : σ → Option (Held × σ)
  /-- next frame of class C, S or T that the lane's credits admit -/
  frame : LaneTx → σ → Option (List Held × LaneTx × σ)

/-- Note a record in its slot: credits are counted by class (R272). -/
def LaneTx.fill (t : LaneTx) (h : Held) : LaneTx :=
  { t with sent := modAt t.sent h.base.cls.code (fun n => slotAdd n 1) }

/-- The next slot (R270): an owed alarm slot, an alarm at an even slot or between frames, the frame's next record, a new frame. -/
def nextSlot {σ : Type} (src : SlotSource σ) (t : LaneTx) (s : σ) : Option Held × LaneTx × σ :=
  let alarm := if t.avail 3 ≥ 1 then src.alarm s else none
  if t.alarmSlot then
    match alarm with
    | some (h, s) => (some h, { t.fill h with alarmSlot := false }, s)
    | none => (none, { t with alarmSlot := false }, s)
  else
    match t.frame with
    | h :: rest =>
      if t.placed % 2 = 0 then
        match alarm with
        | some (a, s) => (some a, { t.fill a with alarmSlot := true }, s)
        | none => (some h, { t.fill h with frame := rest, placed := t.placed + 1 }, s)
      else (some h, { t.fill h with frame := rest, placed := t.placed + 1 }, s)
    | [] =>
      match alarm with
      | some (a, s) => (some a, t.fill a, s)
      | none =>
        match src.frame t s with
        | some (h :: rest, t, s) => (some h, { t.fill h with frame := rest, placed := 1 }, s)
        | _ => (none, t, s)

/-- Fill the stream to 248 bytes; `fuel` slots at most. Answers the bytes, the records that end in them, the record in the last
slot, the sender and the source. -/
def fillStream {σ : Type} (src : SlotSource σ) : Nat → LaneTx → σ → Bytes → List Held → Option Held
    → Bytes × List Held × Option Held × LaneTx × σ
  | 0, t, s, b, hs, last => (b, hs, last, t, s)
  | k + 1, t, s, b, hs, last =>
    if b.length ≥ 248 then (b, hs, last, t, s)
    else
      let r := nextSlot src t s
      match r.1 with
      | some h => fillStream src k r.2.1 r.2.2 (b ++ recordBytes h.base) (hs ++ [h]) (some h)
      | none => fillStream src k r.2.1 r.2.2 (b ++ zeros 32) hs none

/-- Whether a lane end has data to put into a data flit. -/
def hasData {σ : Type} (src : SlotSource σ) (t : LaneTx) (s : σ) : Bool :=
  t.tailRec.isSome || t.alarmSlot || !t.frame.isEmpty || (decide (t.avail 3 ≥ 1) && (src.alarm s).isSome) || (src.frame t s).isSome

/-- A new data flit (R269, R273): its payload, the records that end in it, the lane and the source. -/
def newFlit {σ : Type} (src : SlotSource σ) (l : Lane) (s : σ) (up : Nat) : Nat × List Held × Lane × σ :=
  let head := match l.tx.tailRec with
    | some h => [h]
    | none => []
  let f := fillStream src 9 l.tx s l.tx.tail [] none
  let rest := f.1.drop 248
  let part := decide (rest.length > 0)
  let recs := head ++ f.2.1
  let ends := if part && f.2.2.1.isSome then recs.dropLast else recs
  let tx := { f.2.2.2.1 with tail := rest, tailRec := if part then f.2.2.1 else none }
  let p := Lane.pushFlit { l with tx := tx } (f.1.take 248) ends up
  (p.1, ends, p.2, f.2.2.2.2)

/-- 2 µs have passed without progress of Ack while flits are outstanding (R273). -/
def Lane.retryTimeout (l : Lane) (up : Nat) : Lane :=
  if !l.tx.retry.isEmpty && decide (up ≥ l.tx.progressAt + 2000) && l.phy.state == .up then
    { l with tx := { l.tx with resend := some 0, progressAt := up } }
  else l

end Sys2Proof.Machine
end

