-- ==== Sys2Proof/Parts/Commands.lean ====
section
/-! DEFINITION. What commands carry besides numbers: Sky transport headers, transfers, PTP messages, the content of relay frames. -/
namespace Sys2Proof.Machine

/-- What the transport header of a frame carries, its kind and lengths apart. -/
structure SkyHead where
  acks : List Nat
  seq : Nat
  nak : Nat
  cls : RClass
deriving DecidableEq, Repr

/-- A received transfer: its header's fields, its ciphertext and its tag. -/
structure Transfer where
  seq : Nat
  off : Nat
  owner : Nat
  gen : Nat
  count : Nat
  body : Bytes
  tag : Bytes
deriving DecidableEq, Repr

/-- PTP messages Halo takes part in; times are total ns as the sender states them. -/
inductive PtpMsg where
  | sync (seq : Nat) (origin : Option Nat)
  | followUp (seq origin : Nat)
  | pdelayReq (seq : Nat)
  | pdelayResp (seq t2 : Nat)
  | pdelayRespFollowUp (seq t3 : Nat)
  | delayReq (seq : Nat)
  | delayResp (seq t4 : Nat)
  | announce (clockClass accuracy quality : Nat)
deriving DecidableEq, Repr

/-- What a relay frame carries (Table 10.9): a payload of kind 0x01, 0x02 or 0x04. -/
inductive SkyBody where
  | records (l : List ExtRecord)
  | message (b : Bytes)
  | condenser (b : Bytes)
deriving DecidableEq, Repr

end Sys2Proof.Machine
end

