-- ==== Sys2Proof/Parts/Group.lean ====
section
/-! DEFINITION. The middle of a Fabato: Drizzle lanes, Sky ports, ingest, Jetstream, Vantage and stores (spec/10, spec/12), with time and Meridian. -/
namespace Sys2Proof.Machine

/-! ### Jetstream (R323–R334) -/

/-- What a queue holds: an extended record, or another frame content of Table 10.9 with its kind and class. -/
inductive JItem where
  | record (r : ExtRecord)
  | frame (kind : Nat) (cls : RClass) (bytes : Bytes)
deriving DecidableEq, Repr

/-- A pending gap of an output queue, a policer or a Vantage stream (R199, R328, R330, R334): the first record lost, how many, why. -/
structure JGap where
  first : ExtRecord
  lost : Nat
  reason : Nat
deriving DecidableEq, Repr

/-- One service queue (R323, R327, R328, R330). -/
structure JQueue where
  items : List JItem
  deficit : Nat
  fresh : Bool
  gap : Option JGap
  episode : Bool
  /-- shaper tokens, in 10⁻⁹ byte, and the unit time they stand for -/
  tokens : Int
  tokensAt : Nat
  /-- end of the wait on a wheel, and whether it still stands on the coarse wheel -/
  eligibleAt : Option Nat
  coarse : Bool
deriving DecidableEq, Repr

/-- One allocated subscriber (R324, R325, R330). -/
structure JSub where
  idx : Nat
  path : Nat
  port : Nat
  quantum : Nat
  /-- profiles by class code T, S, C -/
  profiles : List Nat
  deficit : Nat
  fresh : Bool
  /-- queues T, S, C -/
  queues : List JQueue
  /-- class codes in the subscriber's list, head first (R327) -/
  order : List Nat
  /-- class A policer: tokens in 10⁻⁹ record, their instant, the pending gap, the episode -/
  tokens : Nat
  tokensAt : Nat
  gap : Option JGap
  episode : Bool
  idleSince : Nat
deriving DecidableEq, Repr

/-- A gate control list in force (R329): its bytes, its base, the entry in force and that entry's start. -/
structure Gcl where
  list : Bytes
  base : Nat
  entry : Nat
  start : Nat
deriving DecidableEq, Repr

/-- One output port (R323, R327, R329). -/
structure JPort where
  /-- subscribers in the port's list, head first -/
  subs : List Nat
  oper : Gcl
  pending : Option Gcl
  /-- class A records with their subscriber, in the order they entered Jetstream -/
  alarms : List (Nat × JItem)
deriving DecidableEq, Repr

/-- A merged Vantage copy and its arrival (R333). -/
structure MergeCopy where
  r : ExtRecord
  at_ : Nat
deriving DecidableEq, Repr

/-- Sequence check of one source and class (R276). -/
structure SeqCheck where
  path : Nat
  cls : RClass
  exp : Nat
  episode : Bool
deriving DecidableEq, Repr

/-- An anchor in force (R144, R145). -/
structure Anchor where
  path : Nat
  cls : RClass
  first : Nat
  count : Nat
  ref : Nat
deriving DecidableEq, Repr

/-- A chain whose last record has not arrived (R538). -/
structure ChainHold where
  path : Nat
  cls : RClass
  recs : List ExtRecord
  broken : Bool
  /-- the JET.STEER rule in force at the chain's first record (Table 12.11), as its 16 bytes -/
  rule : Option Bytes
deriving DecidableEq, Repr

/-- One ingest engine's turn (R313): the lane served last, and the class S records taken since the last class T one by lane. -/
structure Engine where
  last : Nat
  st : List (Nat × Nat)
deriving DecidableEq, Repr

/-- Ingest, Jetstream, Vantage and the record store. -/
structure JetPart where
  engines : List Engine
  checks : List SeqCheck
  anchors : List Anchor
  chains : List ChainHold
  subs : List JSub
  ports : List JPort
  /-- the overflow event has been raised for the records now in subscriber 2,047 -/
  overflow : Bool
  /-- sequence numbers of the group's own records by class code (R318) -/
  seq : List U16
  /-- record and bulk store (Table 11.6), oldest first -/
  store : List ExtRecord
  /-- records copied to a Loft firmware queue (Table 12.3) -/
  loft : List ExtRecord
  /-- class C items whose producer stalls: source path, port, item (R328) -/
  stalled : List (Nat × Nat × JItem)
  merge : List MergeCopy
  /-- capture time of the last merged record sent, and its source -/
  mergeLast : Option (Nat × Nat)
  /-- pending gaps of the Vantage stream by source and class -/
  vgap : List JGap
  vEpisode : Bool
deriving DecidableEq, Repr

/-! ### Condenser (spec/19) -/

/-- A stream context in use (R473–R483). -/
structure CondCtx where
  idx : Nat
  /-- compressor: subscriber, port and class code it is bound to, and the context its profile names -/
  bound : Option (Nat × Nat × Nat × Nat)
  /-- decoder: sender path, class code, sender's context -/
  key : Option (Nat × Nat × Nat)
  history : Bytes
  /-- next frame number, or the one expected -/
  frame : Nat
  /-- frames since the last RESET, and whether the next frame carries it -/
  since : Nat
  resetDue : Bool
  broken : Bool
  /-- records gathered, and the unit time of the first -/
  gather : List ExtRecord
  gatherAt : Nat
  /-- powered time of the last frame sent or decoded -/
  lastUse : Nat
deriving DecidableEq, Repr

/-- Condenser. -/
structure CondPart where
  ctxs : List CondCtx
  /-- keys in a decode-error episode -/
  errs : List (Nat × Nat × Nat)
  exhausted : Bool
deriving DecidableEq, Repr

/-! ### Sky (R283–R292) -/

/-- A frame kept until acknowledged (R287). -/
structure SkyFrame where
  seq : Nat
  kind : Nat
  count : Nat
  bytes : Bytes
  slots : Nat
deriving DecidableEq, Repr

/-- One class of one Sky port's transport. -/
structure SkyClass where
  seq : Nat
  retry : List SkyFrame
  /-- frames of the retry buffer still to be resent -/
  resend : Option Nat
  progressAt : Nat
  nakIn : Bool
  granted : Nat
  sent : Nat
  exp : Nat
  nakOut : Bool
  taken : Nat
deriving DecidableEq, Repr

/-- An extended record received on a port and not yet taken, with the unit's time at its arrival; `relay` set in a relay frame; the slots its taking
frees (R287). -/
structure SkyRx where
  r : ExtRecord
  relay : Bool
  at_ : Nat
  slots : Nat
deriving DecidableEq, Repr

/-- Port states of LINK.SKY_STATE. -/
inductive SkyState where
  | down | training | verifying | hello | up
deriving DecidableEq, Repr

/-- LINK.SKY_STATE code. -/
def SkyState.code : SkyState → Nat
  | .down => 0 | .training => 1 | .verifying => 2 | .hello => 3 | .up => 4

/-- One Sky port (R284–R290). -/
structure SkyPort where
  state : SkyState
  /-- lanes in use, 0 while down -/
  lanes : Nat
  /-- first lane of the width in use -/
  first : Nat
  preempt : Nat
  epoch : Nat
  peerEpoch : Option Nat
  echo : Bool
  /-- 32 bytes of the last hello -/
  peerHello : Bytes
  cls : List SkyClass
  rx : List SkyRx
  /-- powered time of the last frame received, the last frame sent, entry to Up, exit from Up -/
  lastRx : Nat
  lastTx : Nat
  upAt : Option Nat
  downAt : Option Nat
  /-- powered time a lane became faulty, and the lanes faulty -/
  faultAt : Option Nat
  faulty : List Nat
  /-- width being tried after a loss and since when (R284) -/
  tryWidth : Nat
  tryAt : Nat
deriving DecidableEq, Repr

/-- Failover of the parent ports (R288–R290). -/
structure ParentPart where
  /-- classes on P1, by code -/
  onP1 : List Bool
  /-- classes draining from P1 -/
  drain : List Bool
  /-- a takeover has made this group the parent of its partner's members (R292, R432) -/
  hosting : Bool
deriving DecidableEq, Repr

/-! ### Drizzle lanes of a tray -/

/-- One physical Drizzle lane of a Fabato. -/
structure FabLane where
  lane : Lane
  /-- class C records toward the die, not yet in a frame -/
  out : List Held
  seqC : U16
  /-- STEP item sent until echoed (R271): step, id -/
  step : Option (Int × Nat)
  stepId : Nat
  /-- exchange id of the next TIME_REQ -/
  exch : Nat
  /-- a SERVO item has been formed for the member -/
  servo : Bool
  /-- TIME_REQ sent and not answered in this interval -/
  waiting : Bool
  /-- powered time of the last request, and t1 of R134's steps -/
  reqAt : Nat
deriving DecidableEq, Repr

/-- The middle of a Fabato. -/
structure Group where
  core : Core
  halo : HaloPart
  win : WindowPart
  lanes : List FabLane
  /-- physical lane of logical die port n (Table 16.6): identity until spares are mapped -/
  laneMap : List Nat
  sky : List SkyPort
  parent : ParentPart
  jet : JetPart
  cond : CondPart
deriving DecidableEq, Repr

end Sys2Proof.Machine
end

