-- ==== Sys2Proof/Machine/GroupOps.lean ====
section
/-! DEFINITION. A group's ports, its own records (R318, R537), gap records it inserts (R199), and the way into Jetstream's queues: subscribers, Condenser at enqueue, limits and the class A policer (R323–R330, R472–R479). -/
namespace Sys2Proof.Machine

/-! ### Port map (Table 10.7) and time -/

/-- A Sky port map entry. -/
structure SkyMap where
  first : Nat
  lanes : Nat
  role : Nat
  member : Nat
  reach : Nat
deriving DecidableEq, Repr

/-- Fields of the 8 bytes of an entry. -/
def skyMapOf (b : Bytes) : SkyMap :=
  { first := leAt b 0 1, lanes := leAt b 1 1, role := leAt b 2 1, member := leAt b 3 1, reach := leAt b 4 1 }

/-- Entry of Sky port `p`, 0–23. -/
def Core.skyMap (c : Core) (p : Nat) : SkyMap := skyMapOf (c.get (oLinkSkyPortMap + p + 1))

/-- Sky ports of a role, in ascending order. -/
def Core.portsOf (c : Core) (role : Nat) : List Nat :=
  (List.range 24).filter (fun p => (c.skyMap p).lanes != 0 && (c.skyMap p).role == role)

/-- P0 and P1. -/
def Core.parentPort (c : Core) (second : Bool) : Option Nat := (c.portsOf (if second then 1 else 0)).head?

/-- Sky port of member `i` of a rack or row. -/
def Core.memberPort (c : Core) (i : Nat) : Option Nat := (c.portsOf 2).find? (fun p => (c.skyMap p).member == i)

/-- A root has no parent port. -/
def Core.isRoot (c : Core) : Bool := (c.parentPort false).isNone

/-- A root with phase source code 0 has no phase source (R530). -/
def Core.noSrc (c : Core) : Bool := c.isRoot && c.num oTimePhaseSrc == 0

/-- The group's own quality byte. -/
def Group.quality (g : Group) : Byte := g.core.quality false g.core.noSrc g.core.up

/-- Act on the shared part. -/
def Group.onCore (g : Group) (f : Core → Core) : Group := { g with core := f g.core }

/-! ### The group's own records (R318, R537) -/

/-- Bytes 14–15 of a group's record: sub-unit and index. -/
def ownSrc (sub idx : Nat) : U16 := BitVec.ofNat 16 (sub % 256 * 256 + idx % 256)

/-- A record formed by the group at time `t` with 64-bit step `step`, not yet numbered. -/
def Group.own (g : Group) (t step epoch : Nat) (r : Record) : ExtRecord :=
  { base := r, path := BitVec.ofNat 32 g.core.path, roster := 0xFFFF, quality := g.quality, old := false, anchored := false,
    relayed := false, quarantined := false, probation := false, lateMerge := false, time := BitVec.ofNat 64 t,
    epoch := BitVec.ofNat 32 epoch, step := BitVec.ofNat 64 step }

/-- Number a group's own record (R40, R318). -/
def Group.number (g : Group) (e : ExtRecord) : ExtRecord × Group :=
  let k := e.base.cls.code
  let s := g.jet.seq.getD k 0
  ({ e with base := { e.base with seq := s } }, { g with jet := { g.jet with seq := g.jet.seq.set k (s + 1) } })

/-- A gap record that stands for `lost` records from `first` on (R199): it keeps the revealing record's time, step, angle and source
bytes. -/
def gapOf (first : ExtRecord) (seq lost reason : Nat) : ExtRecord :=
  let r := first.base
  { first with base := { r with type := 0x50, flags := 0, cont := false, seq := BitVec.ofNat 16 seq,
                                payload := BitVec.ofNat 128 (gapPayload lost (Nat.min lost 65535) reason r.step.toNat 0xFF r.cls 0) } }

/-- A gap record with nothing to reveal it (R199): Halo time and step at insertion, angle 0, bytes 14–15 of 0. -/
def Group.bareGap (g : Group) (path : Nat) (cls : RClass) (seq lost reason : Nat) : ExtRecord :=
  let r : Record := { type := 0x50, flags := 0, cont := false, cls := cls, seq := BitVec.ofNat 16 seq, tns := BitVec.ofNat 32 g.core.ns,
                      step := BitVec.ofNat 32 g.core.angle.step, angle := 0, src := 0,
                      payload := BitVec.ofNat 128 (gapPayload lost (Nat.min lost 65535) reason g.core.angle.step 0xFF cls 0) }
  { g.own g.core.ns g.core.angle.step 0 r with path := BitVec.ofNat 32 path }

/-! ### Profiles and subscribers (Tables 12.4, 12.5) -/

/-- A queue profile. -/
structure JProfile where
  rate : Nat
  burst : Nat
  ctx : Nat
  quantum : Nat
deriving DecidableEq, Repr

/-- Profile `n`, 0–63. -/
def Core.profile (c : Core) (n : Nat) : JProfile :=
  let b := c.get (oJetProfile + n + 1)
  { rate := leAt b 8 8, burst := leAt b 4 4, ctx := leAt b 2 2, quantum := leAt b 0 2 }

/-- An empty queue under a profile's burst. -/
def JQueue.start (p : JProfile) (now : Nat) : JQueue :=
  { items := [], deficit := 0, fresh := true, gap := none, episode := false, tokens := p.burst * 1000000000, tokensAt := now,
    eligibleAt := none, coarse := false }

/-- A subscriber as allocated (R324, R325). -/
def JSub.start (c : Core) (idx path port : Nat) : JSub :=
  { idx := idx, path := path, port := port, quantum := c.num oJetSubQuantum, profiles := [2, 1, 0], deficit := 0, fresh := true,
    queues := [JQueue.start (c.profile 2) c.ns, JQueue.start (c.profile 1) c.ns, JQueue.start (c.profile 0) c.ns], order := [],
    tokens := c.num oJetAPoliceBurst * 1000000000, tokensAt := c.ns, gap := none, episode := false, idleSince := c.up }

/-- Whether a subscriber is the one of an index and port. -/
def JSub.is (s : JSub) (idx port : Nat) : Bool := s.idx == idx && s.port == port

/-- A subscriber by index and port. -/
def JetPart.sub (j : JetPart) (idx port : Nat) : Option JSub := j.subs.find? (fun s => s.is idx port)

/-- Replace a subscriber. -/
def JetPart.setSub (j : JetPart) (s : JSub) : JetPart := { j with subs := modWhere (fun t => t.is s.idx s.port) (fun _ => s) j.subs }

/-- Replace the queue of a class code in a subscriber. -/
def JSub.setQueue (s : JSub) (cls : Nat) (q : JQueue) : JSub := { s with queues := s.queues.set cls q }

/-- The queue of a class code. -/
def JSub.queue (s : JSub) (cls : Nat) : JQueue :=
  s.queues.getD cls { items := [], deficit := 0, fresh := true, gap := none, episode := false, tokens := 0, tokensAt := 0,
                      eligibleAt := none, coarse := false }

/-- The subscriber of a source on a port, allocated when it has none (R324); the group's own path on the parent port is 0. -/
def Group.subFor (g : Group) (path port : Nat) : Group × JSub :=
  let idx? := if path = g.core.path ∧ port = 31 then some 0
    else (g.jet.subs.find? (fun s => s.path == path && s.port == port && s.idx != 2047)).map (fun s => s.idx)
  match idx?.bind (fun i => g.jet.sub i port) with
  | some s => (g, s)
  | none =>
    match (List.range 2047).find? (fun i => (decide (i ≠ 0) || (path == g.core.path && port == 31)) && !g.jet.subs.any (fun s => s.idx == i)) with
    | some i =>
      let s := JSub.start g.core i path port
      ({ g with jet := { g.jet with subs := sortBy (s :: g.jet.subs) (fun a b => decide (a.idx ≤ b.idx)) } }, s)
    | none =>
      let c := g.core.bump oJetSubOverflow
      let c := if g.jet.overflow then c else c.raise 0x0C05 0x58 [path, port]
      match g.jet.sub 2047 port with
      | some s => ({ g with core := c, jet := { g.jet with overflow := true } }, s)
      | none =>
        let s := JSub.start g.core 2047 0xFFFFFFFF port
        ({ g with core := c, jet := { g.jet with overflow := true, subs := g.jet.subs ++ [s] } }, s)

/-! ### Queues (R324, R326, R328) -/

/-- Bytes an item takes in its queue: 64 for a record, the content of another frame. -/
def JItem.bytes : JItem → Nat
  | .record _ => 64
  | .frame _ _ b => b.length

/-- Class code of an item. -/
def JItem.cls : JItem → RClass
  | .record r => r.base.cls
  | .frame _ k _ => k

/-- Bytes queued. -/
def JQueue.bytes (q : JQueue) : Nat := q.items.foldl (fun n i => n + i.bytes) 0

/-- A queue's class joins its subscriber's list, and the subscriber its port's, at the tail (R327). -/
def JetPart.join (j : JetPart) (s : JSub) (cls : Nat) : JetPart :=
  let s := if s.order.contains cls then s else { s with order := s.order ++ [cls] }
  let j := j.setSub s
  { j with ports := modAt j.ports s.port (fun p => if p.subs.contains s.idx then p else { p with subs := p.subs ++ [s.idx] }) }

/-- Append an item to a class C, S or T queue, behind the queue's pending gap record. -/
def JetPart.append (j : JetPart) (s : JSub) (it : JItem) : JetPart :=
  let k := it.cls.code
  let q := s.queue k
  let gaps := match q.gap with
    | some x => [JItem.record (gapOf x.first x.first.base.seq.toNat x.lost x.reason)]
    | none => []
  j.join (s.setQueue k { q with items := q.items ++ gaps ++ [it], gap := none, episode := false }) k

/-- The record an item stands for when it is dropped. -/
def JItem.lead (it : JItem) : Option ExtRecord :=
  match it with
  | .record r => some r
  | .frame _ _ _ => none

/-- Put an item into its queue (R328): class S and T up to JET.QUEUE_LIMIT, class C always unless its producer stalls. -/
def Group.put (g : Group) (s : JSub) (it : JItem) : Group :=
  let k := it.cls.code
  let q := s.queue k
  let full := decide (q.bytes + it.bytes > g.core.num oJetQueueLimit)
  if !full then { g with jet := g.jet.append s it }
  else if it.cls == .c then { g with jet := { g.jet with stalled := g.jet.stalled ++ [(s.path, s.port, it)] } }
  else
    let c := g.core.bump (oJetQueueDrops + k + 1)
    let c := if q.episode then c else c.raise 0x0C03 0x58 [s.idx, k]
    let gap := match q.gap, it.lead with
      | some x, _ => some { x with lost := x.lost + 1 }
      | none, some r => some { first := r, lost := 1, reason := 0x07 }
      | none, none => none
    { g with core := c, jet := g.jet.setSub (s.setQueue k { q with gap := gap, episode := true }) }

/-! ### Class A (R330) -/

/-- Refill a subscriber's policer to unit time now. -/
def JSub.refill (s : JSub) (c : Core) : JSub :=
  { s with tokens := Nat.min (c.num oJetAPoliceBurst * 1000000000) (s.tokens + c.num oJetAPoliceRate * (c.ns - s.tokensAt)), tokensAt := c.ns }

/-- A class A record enters Jetstream's order list of its port. -/
def JetPart.alarm (j : JetPart) (s : JSub) (e : ExtRecord) : JetPart :=
  { j with ports := modAt j.ports s.port (fun p => { p with alarms := p.alarms ++ [(s.idx, .record e)] }) }

/-- The policer's pending gap record takes the next token. -/
def JetPart.policeGap (j : JetPart) (s : JSub) : JetPart × JSub :=
  match s.gap with
  | some x =>
    if s.tokens ≥ 1000000000 then
      let s := { s with tokens := s.tokens - 1000000000, gap := none, episode := false }
      ((j.setSub s).alarm s (gapOf x.first x.first.base.seq.toNat x.lost x.reason), s)
    else (j.setSub s, s)
  | none => (j.setSub s, s)

/-- A class A record passes its subscriber's policer, or is dropped and counted. -/
def Group.police (g : Group) (s : JSub) (e : ExtRecord) : Group :=
  let r := g.jet.policeGap (s.refill g.core)
  let s := r.2
  if s.gap.isNone && decide (s.tokens ≥ 1000000000) then
    let s := { s with tokens := s.tokens - 1000000000 }
    { g with jet := (r.1.setSub s).alarm s e }
  else
    let c := g.core.bump oJetAPoliced
    let c := if s.episode then c else c.raise 0x0C04 0x58 [s.idx, s.path]
    let gap := match s.gap with
      | some x => { x with lost := x.lost + 1 }
      | none => { first := e, lost := 1, reason := 0x05 }
    { g with core := c, jet := r.1.setSub { s with gap := some gap, episode := true } }

/-! ### Condenser at enqueue (R472–R479) -/

/-- Object of element `e` of context `c` (Table 19.6). -/
def condObj (c e : Nat) : Nat := 0x19100000 + c * 256 + e

/-- A context fresh from the pool. -/
def CondCtx.fresh (idx up : Nat) : CondCtx :=
  { idx := idx, bound := none, key := none, history := [], frame := 0, since := 0, resetDue := true, broken := false, gather := [],
    gatherAt := 0, lastUse := up }

/-- Replace a context. -/
def CondPart.set (p : CondPart) (x : CondCtx) : CondPart := { p with ctxs := modWhere (fun y => y.idx == x.idx) (fun _ => x) p.ctxs }

/-- The context bound to a queue under its profile's context `c`, bound now when it has none (R473); none when the pool is full. -/
def Group.bindCtx (g : Group) (s : JSub) (cls c : Nat) : Group × Option CondCtx :=
  match g.cond.ctxs.find? (fun x => x.bound == some (s.idx, s.port, cls, c)) with
  | some x => (g, some x)
  | none =>
    let free (i : Nat) : Bool := !g.cond.ctxs.any (fun x => x.idx == i)
    let pick := if free c then some c else (List.range 4096).find? free
    match pick with
    | none =>
      let k := g.core
      let k := if g.cond.exhausted then k
        else k.raise 0x1902 0x60 [(g.cond.ctxs.filter (fun x => x.bound.isSome)).length, (g.cond.ctxs.filter (fun x => x.key.isSome)).length]
      ({ g with core := k, cond := { g.cond with exhausted := true } }, none)
    | some i =>
      let k := if i = c then g.core else g.core.put (condObj i 1) (g.core.get (condObj c 1))
      let x := { CondCtx.fresh i g.core.up with bound := some (s.idx, s.port, cls, c) }
      ({ g with core := k, cond := { g.cond with ctxs := g.cond.ctxs ++ [x], exhausted := false } }, some x)

/-- The last 32,768 bytes of a history. -/
def trimHistory (h : Bytes) : Bytes := h.drop (h.length - 32768)

/-- The Condenser frame of a context's gathered records (R475–R479), and the context after it. -/
def condFrame (c : Core) (path : Nat) (x : CondCtx) : Bytes × Core × CondCtx :=
  let data := x.gather.flatMap extBytes
  let set := c.num (condObj x.idx 1)
  let reset := x.resetDue || decide (x.since ≥ bitsOf set 31 16)
  let hist := if reset then [] else x.history
  let body := deflate (bitsOf set 7 0) hist data
  let first := match x.gather with | e :: _ => e.base.seq.toNat | [] => 0
  let level := if body.isSome then bitsOf set 7 0 else 0
  let b := body.getD data
  let hdr := leBytes 4 ((if body.isSome then 0 else 1) + (if reset then 2 else 0)) ++ zeros 2 ++ leBytes 2 x.idx ++ leBytes 1 level
    ++ leBytes 1 x.gather.length ++ leBytes 2 first ++ leBytes 4 x.frame ++ leBytes 4 (crc32c data) ++ leBytes 4 path
  let f := hdr ++ b
  let c := if body.isSome then c else c.bump oCondenseRawFrames
  let c := if reset then c.bump oCondenseResets else c
  let c := (c.count (condObj x.idx 4) data.length).count (condObj x.idx 5) f.length
  (f, c, { x with history := trimHistory (hist ++ data), frame := (x.frame + 1) % 2 ^ 32, since := if reset then 1 else x.since + 1,
                  resetDue := false, gather := [], lastUse := c.up })

/-- Close a context's gathered frame and queue it as one unit. A frame dropped at the limit makes the next one a RESET. -/
def Group.closeFrame (g : Group) (idx : Nat) : Group :=
  match g.cond.ctxs.find? (fun x => x.idx == idx) with
  | none => g
  | some x =>
    match x.bound with
    | none => g
    | some (si, port, cls, _) =>
      if x.gather.isEmpty then g
      else match g.jet.sub si port with
        | none => g
        | some s =>
          let lead := x.gather.head?
          let r := condFrame g.core s.path x
          let g := { g with core := r.2.1, cond := g.cond.set r.2.2 }
          let q := s.queue cls
          let it := JItem.frame 0x04 (RClass.ofCode cls) r.1
          if q.bytes + it.bytes > g.core.num oJetQueueLimit then
            let n := x.gather.length
            let c := g.core.count (oJetQueueDrops + cls + 1) n
            let c := if q.episode then c else c.raise 0x0C03 0x58 [s.idx, cls]
            let gap := match q.gap, lead with
              | some y, _ => some { y with lost := y.lost + n }
              | none, some e => some { first := e, lost := n, reason := 0x07 }
              | none, none => none
            { g with core := c, jet := g.jet.setSub (s.setQueue cls { q with gap := gap, episode := true }),
                     cond := g.cond.set { r.2.2 with resetDue := true } }
          else { g with jet := g.jet.append s it }

/-- Whether a queue is compressed (R472), and the context its profile names. -/
def Group.condOf (g : Group) (s : JSub) (cls : Nat) : Option Nat :=
  let ctx := (g.core.profile (s.profiles.getD cls 0)).ctx
  if cls < 2 ∧ (s.port < 24 ∨ s.port = 31) ∧ s.idx ≠ 2047 ∧ ctx < 4096 then some ctx else none

/-- A record enters a compressed queue (R474): it is gathered, and the frame closes when it is full, at a cut marker, or at once
under a gather of 0. -/
def Group.gatherRec (g : Group) (x : CondCtx) (e : ExtRecord) : Group :=
  let x := { x with gatherAt := if x.gather.isEmpty then g.core.up else x.gatherAt, gather := x.gather ++ [e] }
  let g := { g with cond := g.cond.set x }
  if x.gather.length ≥ g.core.num oJetFrameRecords ∨ e.base.type = 0x60 ∨ g.core.num oCondenseGather = 0 then g.closeFrame x.idx else g

/-! ### Into Jetstream -/

/-- A record enters Jetstream for a source path on a port (R324, R325, R330). A root has no parent port. -/
def Group.enqueue (g : Group) (path port : Nat) (e : ExtRecord) : Group :=
  if port = 31 ∧ g.core.isRoot then g
  else
  let r := g.subFor path port
  let g := r.1
  let s := r.2
  let s := { s with idleSince := g.core.up }
  let g := { g with jet := g.jet.setSub s }
  match e.base.cls with
  | .a => g.police s e
  | cls =>
    match g.condOf s cls.code with
    | none => g.put s (.record e)
    | some c =>
      let b := g.bindCtx s cls.code c
      match b.2 with
      | some x => b.1.gatherRec x e
      | none => ({ b.1 with core := b.1.core.bump oCondenseNoContext }).put s (.record e)

/-- Another frame content enters Jetstream: a message (kind 0x02), a Sundog transfer (0x05), a relay frame (0x07). -/
def Group.enqueueFrame (g : Group) (path port kind : Nat) (cls : RClass) (b : Bytes) : Group :=
  if port = 31 ∧ g.core.isRoot then g
  else
  let r := g.subFor path port
  let s := { r.2 with idleSince := r.1.core.up }
  if cls = .a then
    { r.1 with jet := { r.1.jet.setSub s with ports := modAt r.1.jet.ports port (fun p => { p with alarms := p.alarms ++ [(s.idx, .frame kind cls b)] }) } }
  else ({ r.1 with jet := r.1.jet.setSub s }).put s (.frame kind cls b)

/-- The group forms a record of its own and sends it toward its parent (R318): the record as numbered. -/
def Group.emitAt (g : Group) (t step epoch : Nat) (r : Record) : Group × ExtRecord :=
  let n := g.number (g.own t step epoch r)
  (n.2.enqueue g.core.path 31 n.1, n.1)

/-- The same, at unit time now and the group's step. -/
def Group.emit (g : Group) (r : Record) : Group := (g.emitAt g.core.ns g.core.angle.step 0 r).1

/-- A group's class A alarm record (Table 15.4's layout is the payload's): sub-unit, index, payload and type flags. -/
def Group.alarm (g : Group) (sub idx : Nat) (payload : Nat) : Group :=
  g.emit (mkRecord g.core g.core.ns 0x10 .a (ownSrc sub idx) payload)

end Sys2Proof.Machine
end

