-- ==== Sys2Proof/Parts/Analytics.lean ====
section
/-! DEFINITION. The Cells' work of a group: reductions (spec/13), feature contexts, models and Drift (spec/14), Cells, fills and spares (spec/11, spec/15, spec/16). -/
namespace Sys2Proof.Machine

/-! ### Reductions (R336–R364) -/

/-- An accumulator (R336, R337, R339). Kind 0 lane sum, 1 segmented sum, 2 segmented sum of squares; `a` is its unsigned bit pattern. -/
structure Acc where
  kind : Nat
  a : Nat
  pinf : Nat
  ninf : Nat
  nan : Nat
deriving DecidableEq, Repr

/-- A histogram (R342): nonzero buckets by index, ascending. -/
structure Hist where
  under : Nat
  above : Nat
  nan : Nat
  buckets : List (Nat × Nat)
deriving DecidableEq, Repr

/-- Everything a context accumulates for one value. -/
structure VAcc where
  sum : Acc
  sq : Acc
  min : Option Nat
  max : Option Nat
  hist : Hist
deriving DecidableEq, Repr

/-- One epoch of a context (R351–R353). -/
structure REpoch where
  /-- step or slot, and entry -/
  key : Nat × Nat
  /-- descriptor and value descriptors it opened with (Table 13.7) -/
  desc : Bytes
  values : Bytes
  /-- the expected set, fixed at the open -/
  expected : Nat
  opened : Nat
  quorumAt : Option Nat
  included : Nat
  lost : Nat
  leaves : Nat
  acc : List VAcc
  /-- included member and, for each value, the type code and the encoding of its x (R360); none where it lacks the value -/
  inputs : List (Nat × List (Nat × Option Nat))
  /-- children whose partial was discarded (R356) -/
  bad : Nat
  /-- operations and image kinds of the first partial -/
  shape : Option (Nat × List Nat)
  /-- child, last correction index applied, leaf count -/
  kids : List (Nat × Nat × Nat)
  step : Nat
  angle : Nat
  overflow : Bool
  delayed : Bool
  rewound : Bool
  config : Bool
  closedAt : Option Nat
  status : Nat
  corr : Nat
deriving DecidableEq, Repr

/-- One reduction context's epochs (Table 13.3). -/
structure RCtx where
  idx : Nat
  /-- oldest first -/
  opens : List REpoch
  closed : List REpoch
  /-- forgotten keys, and whether TOO_LATE was raised for each -/
  forgotten : List ((Nat × Nat) × Bool)
  /-- keys whose next result carries REWOUND -/
  rewound : List (Nat × Nat)
deriving DecidableEq, Repr

/-! ### Feature contexts, models, Drift (R365–R390) -/

/-- One member's vector of a key before its release (R369, R370). -/
structure FVec where
  member : Nat
  sample : Option (List ExtRecord)
  /-- unit time of the sample's arrival -/
  at_ : Nat
  /-- completed: whether it carries PARTIAL, and the source value of each slot that is not a Drift statistic, none where absent -/
  done : Option (Bool × List (Option Nat))
  /-- released -/
  out : Bool
deriving DecidableEq, Repr

/-- Features one reduction delivered for a key: member and value, six f32, and their arrival. -/
structure FPeer where
  red : Nat
  member : Nat
  value : Nat
  feats : List Nat
  at_ : Nat
deriving DecidableEq, Repr

/-- One open key of a feature context. -/
structure FKey where
  key : Nat × Nat
  desc : Bytes
  slots : List Bytes
  /-- reductions that have closed the key -/
  closed : List Nat
  peers : List FPeer
  vecs : List FVec
deriving DecidableEq, Repr

/-- A feature context's open keys, oldest first. -/
structure FeatCtx where
  idx : Nat
  keys : List FKey
deriving DecidableEq, Repr

/-- A released vector (R370). -/
structure QVec where
  member : Nat
  path : Nat
  key : Nat × Nat
  values : List Nat
  partial_ : Bool
  subst : Nat
  nans : Nat
  time : Nat
  step : Nat
  angle : Nat
  /-- unit time of the release -/
  at_ : Nat
deriving DecidableEq, Repr

/-- One model slot (R377, R378). -/
structure Model where
  idx : Nat
  staging : Bytes
  shadow : Option Bytes
  active : Option Bytes
  /-- Cells that the shadow's ranges are reserved on, lead first (R376) -/
  reserve : List Nat
  /-- a switch in progress: by step (true) or time, the target, the version, Cells still to reload -/
  switch : Option (Bool × Nat × Nat × List Nat)
  /-- by step or time and target of the last switch: earlier keys are retired (R378) -/
  force : Option (Bool × Nat)
  queue : List QVec
  held : List QVec
  episode : Bool
  /-- R375 code of the last install -/
  fault : Nat
  /-- scored and unscored of the window in progress, and the last window's fraction in ppm -/
  scored : Nat
  unscored : Nat
  ppm : Nat
deriving DecidableEq, Repr

/-- One Drift stream (R385); binary64 values by their bits. -/
structure Stream where
  desc : Nat
  member : Nat
  n : Nat
  armed : Bool
  m : Nat
  v : Nat
  sp : Nat
  sn : Nat
  mean : Nat
  mt : Nat
  mm : Nat
  q : Nat
  /-- missed updates while shed since its reset -/
  missed : Bool
deriving DecidableEq, Repr

/-- One Drift set. -/
structure DriftSet where
  idx : Nat
  streams : List Stream
  /-- descriptors as last committed -/
  desc : Bytes := []
deriving DecidableEq, Repr

/-- The analytics of a group. -/
structure AnalyticsPart where
  reds : List RCtx
  /-- object numbers of member masks written since restart (R348, R441) -/
  masks : List Nat
  /-- the copy of ANGLE.GROUP_REF that an unwritten mask reads as -/
  planMask : Nat
  feats : List FeatCtx
  models : List Model
  sets : List DriftSet
  /-- ŝ by model and member, f64 bits -/
  shat : List (Nat × Nat × Nat)
  /-- r_A by member, f64 bits -/
  ra : List Nat
  /-- dv and t_d by member (R390) -/
  dv : List (Nat × Nat)
deriving DecidableEq, Repr

/-! ### Cells (R298, R394–R403, R418–R424) -/

/-- Roles of Table 16.3. -/
inductive CellRole where
  | active | spare | filling | warm | testing | failed
deriving DecidableEq, Repr

/-- CELL.ROLE code. -/
def CellRole.code : CellRole → Nat
  | .active => 0 | .spare => 1 | .filling => 2 | .warm => 3 | .testing => 4 | .failed => 5

/-- Input of a context: a chain of records of one member, or a vector of a model. -/
inductive WorkItem where
  | chain (member : Nat) (recs : List ExtRecord)
  | vector (v : QVec)
deriving DecidableEq, Repr

/-- Progress of a shadowed unit (R400–R402). -/
inductive ShadowStage where
  /-- waiting for an idle spare since a powered time -/
  | waiting (since : Nat)
  | running (spare : Nat)
deriving DecidableEq, Repr

/-- One work unit in progress (R298, R395, R400). -/
structure WorkUnit where
  handle : Nat
  seq : Nat
  cell : Nat
  items : List WorkItem
  /-- the first run's check failed and the unit runs again -/
  rerun : Bool
  shadow : Option ShadowStage
deriving DecidableEq, Repr

/-- Where a context is served (R298, R421, R422). -/
structure Place where
  /-- the context's handle; part k of a model's gang has handle + 65,536 k -/
  handle : Nat
  /-- the Cell whose fill will move it, when it is folded, hosted or suspended; else the Cell that holds it -/
  home : Nat
  /-- the Cell that serves it now; none while suspended, in readout or not yet placed -/
  cell : Option Nat
  /-- 0 placed, 1 folded, 2 hosted, 3 suspended, 4 being read out -/
  mode : Nat
  /-- work units so far (unit_seq) -/
  seq : Nat
  /-- target of a move in progress and the powered time it started -/
  moving : Option (Nat × Nat)
deriving DecidableEq, Repr

/-- One Cell. -/
structure Cell where
  role : CellRole
  /-- busy ns of the window in progress, and the last window's load in ppm -/
  busy : Nat
  load : Nat
  lastWork : Nat
  warmSince : Nat
  /-- powered time it became due for test -/
  dueSince : Option Nat
  lastTest : Nat
  /-- FT.LAST: time80 and result -/
  result : Nat × Nat
  /-- an injected error waits for the next check of a kind -/
  inject : Option Nat
deriving DecidableEq, Repr

/-- A fill in progress (R421): failed Cell, target, contexts still to move, contexts moved, start. -/
structure Fill where
  source : Nat
  target : Nat
  todo : List Nat
  moved : Nat
  startAt : Nat
deriving DecidableEq, Repr

/-- An in-field or readmission test in progress: Cell, path (0 none, 1 spare, 2 save, 3 deferred), readmission, start, contexts saved. -/
structure CellTest where
  cell : Nat
  path : Nat
  readmit : Bool
  startAt : Nat
  saved : List Nat
deriving DecidableEq, Repr

/-- Cells, the work of their contexts and the group's spares. -/
structure CellPart where
  cells : List Cell
  places : List Place
  /-- handle and input, in the order ingest formed them -/
  inputs : List (Nat × WorkItem)
  units : List WorkUnit
  /-- handle served last on each Cell -/
  turn : List Nat
  /-- failed Cell and powered time of its failure, in order -/
  fillQueue : List (Nat × Nat)
  fill : Option Fill
  test : Option CellTest
  /-- readmissions asked for and waiting -/
  readmit : List Nat
  /-- SPARE.CANDIDATES: sub-unit, cause, time80 -/
  cands : List (Nat × Nat × Nat)
  dzOut : List Bool
  skyOut : Nat
  /-- LPDDR device in force and staged, 0xFF none; a second device is a candidate -/
  lpddr : Nat × Nat
  lpddrTwo : Bool
  /-- failed fast retrains seen by each Drizzle lane, training attempts failed by each Sky lane -/
  skyTries : List Nat
  healthLast : Nat
  activeLast : Nat
  /-- saturation: rows holding in this window, rows flagged, window start, windows held by row -/
  satSeen : Nat
  satFlags : Nat
  satStart : Nat
  satHeld : List Nat
  ingestBusy : List Nat
  ingestLoad : List Nat
  portBusy : List Nat
  /-- powered time of the last work of each block of Table 11.8 and the blocks gated -/
  blockAt : List Nat
  blockState : List Nat
deriving DecidableEq, Repr

end Sys2Proof.Machine
end

