-- ==== Sys2Proof/Parts/Manager.lean ====
section
/-! DEFINITION. The managers of a Fabato: fencing and votes (spec/15), Sundog (spec/16), Horizon (spec/17), Overcast, hang graphs and cadence (spec/18), Loft programs (spec/11), Almanac and firmware (spec/20), the board (spec/21), forwarding (spec/02, spec/03). -/
namespace Sys2Proof.Machine

/-! ### Fencing (R404–R417) -/

/-- A token bucket (R414): tokens in 2⁻³² token, their instant, exhaustions. -/
structure Bucket where
  tokens : Nat
  t : Nat
  runs : List Nat
deriving DecidableEq, Repr

/-- A token request a tray has sent, or one a level above has passed on. -/
structure TokenReq where
  num : Nat
  /-- member path and index -/
  path : Nat
  member : Nat
  kinds : Nat
  minority : Bool
  at_ : Nat
deriving DecidableEq, Repr

/-- A known-answer test request (R408). -/
structure Kat where
  num : Nat
  path : Nat
  step : Nat
  digest : Nat
  at_ : Nat
  /-- result: none, pass or fail -/
  result : Option Bool
  timedOut : Bool
deriving DecidableEq, Repr

/-- A received digest pair of R238. -/
structure DigestPair where
  path : Nat
  a : Nat
  b : Nat
  sampled : Nat
  lines : Nat
  mask : Nat
  count : Nat
  shift : Nat
  status : Nat
deriving DecidableEq, Repr

/-- A key's combined entry of one replica (R238). -/
structure DigestEntry where
  replica : Nat
  a : Nat
  b : Nat
  sampled : Nat
  lines : Nat
  mask : Nat
  count : Nat
  shift : Nat
  status : Nat
  conflict : Bool
  config : Bool
  duplicates : Nat
  kept : List DigestPair
deriving DecidableEq, Repr

/-- An open vote key (R406): digest id and step, the powered time of its first pair, its replicas. -/
structure VoteKey where
  id : Nat
  step : Nat
  at_ : Nat
  angle : Nat
  time : Nat
  entries : List DigestEntry
deriving DecidableEq, Repr

/-- r_V of one member: f64 bits last set, unit time, named by a majority. -/
structure VoteRisk where
  value : Nat
  at_ : Nat
  majority : Bool
deriving DecidableEq, Repr

/-- The fencing manager. -/
structure FencePart where
  bucket : Bucket
  reqs : List TokenReq
  suspicion : Nat
  /-- each the 64 bytes of two records, newest last -/
  decisions : List Bytes
  rv : List VoteRisk
  fenced : Nat
  health : List Nat
  kats : List Kat
  votes : List VoteKey
  decNum : Nat
  reqNum : Nat
  verdNum : Nat
  alarmNum : Nat
  katNum : Nat
  /-- powered hours of the lockstep divergences, restarting since, failed for good -/
  diverged : List Nat
  halted : Option Nat
  failed : Bool
  /-- unit time of the last charged source-3 alarm by member -/
  coalesce : List Nat
  /-- unhealthy member groups already alarmed -/
  unwell : Nat
deriving DecidableEq, Repr

/-! ### Sundog (R427–R436) -/

/-- States of Table 16.8. -/
inductive SundogState where
  | alone | paired | refused | lost | serving | hosting | refilling | snapRefill
deriving DecidableEq, Repr

/-- SUNDOG.STATE code. -/
def SundogState.code : SundogState → Nat
  | .alone => 0 | .paired => 1 | .refused => 2 | .lost => 3 | .serving => 4 | .hosting => 5 | .refilling => 6 | .snapRefill => 7

/-- A journal item (R429): sequence, bytes, unit time it was made. -/
structure JournalItem where
  seq : Nat
  bytes : Bytes
  at_ : Nat
deriving DecidableEq, Repr

/-- A snapshot of a child (R431): path, time of its completion, image, complete. -/
structure Snapshot where
  path : Nat
  at_ : Nat
  image : Bytes
  complete : Bool
deriving DecidableEq, Repr

/-- Sundog. -/
structure SundogPart where
  state : SundogState
  path : Nat
  uid : Nat
  feed : Nat
  coFed : Bool
  seq : Nat
  journal : List JournalItem
  /-- highest journal sequence stored for the partner, and its mirrored state -/
  peerSeq : Nat
  mirror : Store
  /-- link epoch, key generation and count of each Sky port -/
  gen : List (Nat × Nat × Nat)
  snaps : List Snapshot
  /-- refill: stage, source, bytes done, bytes total -/
  refill : Nat × Nat × Nat × Nat
  load : Bytes
  /-- the MRAM part of the load has been applied -/
  loaded : Bool
  /-- journal items held during a refill -/
  later : List JournalItem
  /-- records collected before the MRAM part was loaded (R527), and whether they wait to be sent -/
  stored : List ExtRecord
  /-- a hand-back is owed (R432) -/
  handBack : Bool
  hosting : Option Nat
  /-- the hosted group's changes since the takeover -/
  hostLog : List JournalItem
  gaps : List (Nat × Nat)
  /-- records of 24 bytes (SUNDOG.CUT_LAG) -/
  cutLag : List Bytes
  lastSnap : Nat
  /-- powered time and unit time of the last push, powered time of the last hosted push -/
  pushAt : Nat
  pushTime : Nat
  hostPush : Nat
  lostAt : Option Nat
  noKey : Bool
  /-- the own durable region was empty at this restart, which was at `refillAt` -/
  empty : Bool
  refillAt : Nat
  /-- the Sundog link was in Up at the end of the last command -/
  linkUp : Bool
  bulkFull : Bool
  /-- the partner is still to be asked whether it hosts this group (R504) -/
  askHost : Bool
  /-- the durable set as last journalled -/
  last : Store
deriving DecidableEq, Repr

/-! ### Horizon (R437–R453) -/

/-- A roster entry (Table 17.4); states of Table 17.5. -/
structure RosterEntry where
  idx : Nat
  uid : Nat
  path : Nat
  changed : Nat
  left : Nat
  member : Option Nat
  port : Nat
  causes : Nat
  state : Nat
  /-- the first group marker after admission has been seen (R450) -/
  counting : Bool
  /-- HORIZON.END_PROBATION written -/
  endNow : Bool
  /-- powered time of admission, and since when its link is out of Up -/
  since : Nat
  downAt : Option Nat
deriving DecidableEq, Repr

/-- Horizon. -/
structure HorizonPart where
  roster : List RosterEntry
  swaps : List (Nat × Nat)
  valid : Bool
  /-- powered time of restart or plan commit -/
  startAt : Nat
  comm : List Bytes
  /-- cut id and capture -/
  captures : List (Nat × Bytes)
  /-- children whose alarm 0x32 stands -/
  invalid : List Nat
  full : Bool
  /-- members whose link was in Up at the end of the last command, as a mask -/
  upLast : Nat
deriving DecidableEq, Repr

/-! ### Overcast, hang graphs, cadence (R454–R471) -/

/-- Last consistent snapshot of a source (R462): path, step, class S sequence, entry. -/
structure LastSample where
  path : Nat
  step : Nat
  seq : Nat
  entry : Nat
deriving DecidableEq, Repr

/-- A cut at a group (Table 18.3). -/
structure GCut where
  desc : Bytes
  self : Bool
  /-- the initiator: this group's CUT.REQUEST made it -/
  initiator : Bool
  /-- powered time of the processing instant once latched -/
  latched : Option Nat
  /-- direct members: path, reason (0 in the cut), classes whose marker arrived, report -/
  members : List (Nat × Nat × List Nat × Option Nat)
  /-- channel state: source, class code, first expected, marker's number once it arrived -/
  channel : List (Nat × Nat × Nat × Option Nat)
  /-- last consistent snapshots at the processing instant -/
  snaps : List LastSample
deriving DecidableEq, Repr

/-- A wait-for build in progress (R466): graph id, T, stage start, children's summaries by member index, whether merging. -/
structure WfBuild where
  graph : Nat
  t : Nat
  at_ : Nat
  merging : Bool
  edges : List (Nat × Nat)
  flags : Nat
  kids : List (Nat × Bytes)
deriving DecidableEq, Repr

/-- A registered job (Table 18.10), binary64 values by their bits. -/
structure Job where
  idx : Nat
  tenant : Nat
  n : Nat
  e : Nat
  t : Nat
  interval : Nat
  steps : Nat
  risk : Nat
  ckpt : Nat
  count : Nat
  armed : Bool
  clamped : Bool
  lastInt : Option Nat
  lastReq : Option Nat
deriving DecidableEq, Repr

/-- A cadence request (Table 18.11). -/
structure CadReq where
  num : Nat
  tenant : Nat
  member : Nat
  step : Nat
  kind : Nat
deriving DecidableEq, Repr

/-- Overcast, the hang graph and cadence. -/
structure CastPart where
  cuts : List GCut
  /-- CUT.RESULT, oldest first, 48 bytes each -/
  results : List Bytes
  outside : List Bytes
  channel : List Bytes
  samples : List LastSample
  wf : List WfBuild
  graph : Bytes
  jobs : List Job
  reqs : List CadReq
  reqNum : Nat
deriving DecidableEq, Repr

/-! ### Loft (R300–R302) -/

/-- One program slot (Tables 11.3–11.5). -/
structure LoftSlot where
  state : Nat
  staged : Bytes
  image : Bytes
  fault : Nat
  core : Option Nat
  out : List Nat
  /-- ns of core time used in the second that began at `second`, and paused -/
  used : Nat
  second : Nat
  paused : Bool
  /-- a sleep call's Halo time -/
  sleep : Option Nat
  /-- sequence of the slot's local session -/
  seq : Nat
deriving DecidableEq, Repr

/-! ### Almanac and firmware (R485–R505) -/

/-- A unit history slot (R493): its header fields and ring of 64-byte entries. -/
structure History where
  slot : Nat
  kind : Nat
  identity : Nat
  corrected : Nat
  uncorrectable : Nat
  gaps : Nat
  changed : Nat
  head : Nat
  permanent : Bool
  wrapped : Bool
  /-- ring position and entry -/
  ring : List (Nat × Bytes)
deriving DecidableEq, Repr

/-- Almanac (R485–R496). -/
structure AlmanacPart where
  /-- written entries; with `torn` entries keeping a valid byte of 0 -/
  log : List Bytes
  refused : Nat
  /-- Table 20.3's fields of a clear in progress, and the events queued -/
  clearing : Option Bytes
  queue : List Event
  dropped : Nat
  /-- how many of the unit's raised events Almanac has looked at -/
  seen : Nat
  histories : List History
  /-- spare MRAM blocks used, and log or history blocks that failed with none left -/
  sparesUsed : Nat
  beyond : Nat
  /-- recording stopped for want of a spare block -/
  stopped : Bool
  hours : Nat
  hoursAt : Nat
  cycles : Nat
deriving DecidableEq, Repr

/-- Firmware (R497–R505). -/
structure FwPart where
  flash : Bytes
  running : Bytes
  staging : Bytes
  stage : Nat
  fault : Nat
  revoked : Bool
  /-- fetch from the parent: bytes so far -/
  fetching : Bool
  recoveries : Nat
  /-- FW.ACTIVATE commit waiting for lag 0: powered time of the instant -/
  activate : Option Nat
  /-- recovery source 0 P0, 1 P1, 2 host on port 0, 3 host on port 1; waiting between rounds -/
  source : Nat
  waiting : Bool
  recovering : Bool
  since : Nat
  /-- the flash may hold something else than was last read: an external programmer had it, or a write broke off -/
  open_ : Bool
  torn : Bool
deriving DecidableEq, Repr

/-! ### The board (R506–R523) -/

/-- The board's side. -/
structure BoardPart where
  /-- boot state 0–3 -/
  boot : Nat
  /-- why it is held in boot state 0: 0 not, 1 mode invalid, 2 flash owned, 3 LPDDR training -/
  hold : Nat
  por : Bool
  straps : Nat
  alert : Bool
  trip : Bool
  /-- controlled power-down flag in MRAM (R514) -/
  clean : Bool
  /-- what MRAM held when a brown-out stopped its writes: the own durable set and the partner's (R514) -/
  mramHeld : Option (Store × Store)
  /-- rack reference at the pins -/
  reference : Bool
  refPll : Nat
  temps : List Nat
  /-- unit time of the last 1 ms conversion since restart -/
  convAt : Option Nat
  belowAt : Option Nat
  hot : List Bool
  rails : List Nat
  modules : List Bool
  lpFail : List Nat
  margins : List Nat
  trainAt : Nat
  /-- warm restarts, restart cause, and the self-test's results (R307) -/
  restarts : Nat
  cause : Nat
  cellPass : Bool
  loftPass : Bool
  bist : Bytes
  /-- GiB granted to the trace store at this restart (R304) -/
  storeGib : Nat
deriving DecidableEq, Repr

/-! ### Forwarding and trace export -/

/-- A trace export in progress (R217). -/
structure Export where
  desc : Bytes
  dest : Nat
  todo : List ExtRecord
deriving DecidableEq, Repr

/-- Dictionary forwarding (R94–R97, R112–R115) and the group trace store (R216, R217). -/
structure ForwardPart where
  pending : List Forwarded
  fans : List Fanout
  clients : List LinkClient
  /-- failed link handshakes hold a neighbour off until a powered time -/
  holdoff : List (Port × Nat)
  nextMsg : Nat
  nextFan : Nat
  trace : List ExtRecord
  /-- time of the newest record overwritten -/
  overwritten : Option Nat
  /-- refused records by member path (R216) -/
  lostTrace : List (Nat × Nat)
  full : Bool
  exporting : Option Export
deriving DecidableEq, Repr

/-- A Fabato. -/
structure Fabato where
  g : Group
  an : AnalyticsPart
  cel : CellPart
  fen : FencePart
  sun : SundogPart
  hor : HorizonPart
  cast : CastPart
  loft : List LoftSlot
  alm : AlmanacPart
  fw : FwPart
  board : BoardPart
  fwd : ForwardPart
deriving DecidableEq, Repr

end Sys2Proof.Machine
end

