-- ==== Sys2Proof/Machine/Accum.lean ====
section
/-! DEFINITION. Exact accumulators, min and max, histograms and quantiles (R336–R344), and their images (R355, Table 13.5). Every fold is commutative and associative, which is what R46 rests on. -/
namespace Sys2Proof.Machine

/-! ### Input values (R63, R64, Table 13.1) -/

/-- Bits of a value of a type code 0x03–0x0E (Table 2.3). -/
def fmtBits (ty : Nat) : Nat :=
  match ty with
  | 0x04 => 64 | 0x05 => 128 | 0x07 => 64 | 0x09 => 64 | 0x0A => 16 | 0x0B => 16 | 0x0D => 64 | 0x0E => 8 | _ => 32

/-- Exact value of an encoding (R64). -/
def fmtVal (ty b : Nat) : FVal :=
  let b := b % 2 ^ fmtBits ty
  match ty with
  | 0x06 => fofInt (signedOf 32 b)
  | 0x07 => fofInt (signedOf 64 b)
  | 0x08 => .fin (signedOf 32 b) 65536
  | 0x09 => .fin (signedOf 64 b) 4294967296
  | 0x0A => fdec fmt16 b
  | 0x0B => fdec fmtB16 b
  | 0x0C => f32Val b
  | 0x0D => f64Val b
  | 0x0E => lf8Val b
  | _ => fofInt b

/-- Key of the order of R341: totalOrder of a floating format (a NaN is not asked for), numeric value of the others. -/
def fmtKey (ty b : Nat) : Int :=
  let w := fmtBits ty
  let b := b % 2 ^ w
  match ty with
  | 0x06 | 0x07 | 0x08 | 0x09 => signedOf w b
  | 0x0A | 0x0B | 0x0C | 0x0D => if b / 2 ^ (w - 1) = 1 then -((b - 2 ^ (w - 1) : Nat) : Int) - 1 else b
  | _ => b

/-! ### Accumulators (R336–R340) -/

/-- Width and weight of bit 0: 2⁻¹⁴⁹ in 384 bits, 2⁻²²⁰⁰ in 4,352 bits. -/
def accBits (kind : Nat) : Nat := if kind = 0 then 384 else 4352
def accWeight (kind : Nat) : Nat := if kind = 0 then 149 else 2200

/-- An empty accumulator. -/
def Acc.zero (kind : Nat) : Acc := { kind := kind, a := 0, pinf := 0, ninf := 0, nan := 0 }

/-- The sum path of a format (Table 13.1). -/
def sumKind (ty : Nat) : Nat := if ty = 0x0D then 1 else 0

/-- The accumulator that holds one value alone (R338, R339); an absent value is a NaN (R349). -/
def Acc.single (kind : Nat) : FVal → Acc
  | .nan => { Acc.zero kind with nan := 1 }
  | .inf neg => if neg && kind != 2 then { Acc.zero kind with ninf := 1 } else { Acc.zero kind with pinf := 1 }
  | .fin n d =>
    let p := if kind = 2 then (n * n, d * d) else (n, d)
    { Acc.zero kind with a := wrapInt (accBits kind) (p.1 * (2 ^ accWeight kind : Nat) / (p.2 : Int)) }

/-- Fold two accumulators: modular addition and counts (u32). -/
def Acc.add (x y : Acc) : Acc :=
  { kind := x.kind, a := (x.a + y.a) % 2 ^ accBits x.kind, pinf := (x.pinf + y.pinf) % 2 ^ 32, ninf := (x.ninf + y.ninf) % 2 ^ 32,
    nan := (x.nan + y.nan) % 2 ^ 32 }

/-- Exact finite part A × 2⁻ʷ. -/
def Acc.finite (x : Acc) : FVal := .fin (signedOf (accBits x.kind) x.a) (2 ^ accWeight x.kind)

/-- Whether an accumulator is in range (R340). -/
def Acc.inRange (x : Acc) : Bool :=
  let top := if x.kind = 0 then x.a / 2 ^ 319 else x.a / 2 ^ 4287
  top == 0 || top == (if x.kind = 0 then 2 ^ 65 - 1 else 2 ^ 65 - 1)

/-- Whether a result of an accumulator carries OVERFLOW (R340). -/
def Acc.overflows (x : Acc) : Bool := x.nan == 0 && x.pinf == 0 && x.ninf == 0 && !x.inRange

/-- The value of an accumulator, before its rounding to the output format (R340): out of range it is an infinity of its sign. -/
def Acc.value (x : Acc) : FVal :=
  if x.nan ≠ 0 ∨ (x.pinf ≠ 0 ∧ x.ninf ≠ 0) then .nan
  else if x.pinf ≠ 0 then .inf false
  else if x.ninf ≠ 0 then .inf true
  else x.finite

/-- Result of an accumulator in an output format (R340, R65): saturated when it overflows. -/
def Acc.result (x : Acc) (ty : Nat) : Nat :=
  let neg := signedOf (accBits x.kind) x.a < 0
  let big : FVal := if neg then .inf true else .inf false
  let v := if x.overflows then big else x.value
  match ty with
  | 0x04 => (ftoInt 0 (2 ^ 64 - 1) v).toNat
  | 0x07 => wrapInt 64 (ftoInt (-(2 ^ 63)) (2 ^ 63 - 1) v)
  | 0x09 => wrapInt 64 (ftoInt (-(2 ^ 63)) (2 ^ 63 - 1) (fmul v (fofInt 4294967296)))
  | 0x0D => if x.overflows then (if neg then 0xFFEFFFFFFFFFFFFF else 0x7FEFFFFFFFFFFFFF) else toF64 v
  | _ => if x.overflows then (if neg then 0xFF7FFFFF else 0x7F7FFFFF) else toF32 v

/-! ### Histograms (R342–R344) -/

/-- An empty histogram. -/
def Hist.zero : Hist := { under := 0, above := 0, nan := 0, buckets := [] }

/-- Add to a bucket of an ascending list. -/
def bucketAdd (i n : Nat) : List (Nat × Nat) → List (Nat × Nat)
  | [] => [(i, n)]
  | (j, m) :: rest => if i < j then (i, n) :: (j, m) :: rest else if i = j then (j, m + n) :: rest else (j, m) :: bucketAdd i n rest

/-- Upper end of the interval of lf8 code `c`: the next code's value, or 2³¹. -/
def lf8Next (c : Nat) : FVal := if c = 255 then fofInt 2147483648 else lf8Val (c + 1)

/-- Bucket of a unit value u ≥ 0 below 2³¹ (R342). -/
def bucketOf (u : FVal) : Nat :=
  let c := ((List.range 256).reverse.find? (fun c => fle (lf8Val c) u)).getD 0
  match fdiv (fmul (fsub u (lf8Val c)) (fofInt 8)) (fsub (lf8Next c) (lf8Val c)) with
  | .fin n d => 8 * c + (n / d).toNat
  | _ => 8 * c

/-- The histogram of one value under unit exponent `k` (R342). -/
def Hist.single (k : Int) (v : FVal) : Hist :=
  match v with
  | .nan => { Hist.zero with nan := 1 }
  | .inf neg => if neg then { Hist.zero with under := 1 } else { Hist.zero with above := 1 }
  | .fin n d =>
    let p := pow2 (-k)
    let u := FVal.fin (n * p.1) (d * p.2)
    if n < 0 then { Hist.zero with under := 1 }
    else if fle (fofInt 2147483648) u then { Hist.zero with above := 1 }
    else { Hist.zero with buckets := [(bucketOf u, 1)] }

/-- Merge histograms (R343). -/
def Hist.add (x y : Hist) : Hist :=
  { under := x.under + y.under, above := x.above + y.above, nan := x.nan + y.nan,
    buckets := y.buckets.foldl (fun l b => bucketAdd b.1 b.2 l) x.buckets }

/-- Quantile p of 2³² over a histogram, as f32 bits (R344). -/
def Hist.quantile (x : Hist) (k : Int) (p : Nat) : Nat :=
  let n := (x.buckets.map (fun b => b.2)).sum
  if n = 0 then nan32
  else
    let r := Nat.max 1 ((p * n + 4294967295) / 4294967296)
    let rec_ := x.buckets.foldl (fun (s : Nat × Option (Nat × Nat × Nat)) b =>
      match s.2 with
      | some _ => s
      | none => if s.1 + b.2 ≥ r then (s.1, some (b.1, b.2, s.1)) else (s.1 + b.2, none)) (0, none)
    match rec_.2 with
    | none => nan32
    | some (i, cb, below) =>
      let c := i / 8
      let w := fdiv (fsub (lf8Next c) (lf8Val c)) (fofInt 8)
      let lo := fadd (lf8Val c) (fmul w (fofInt (i % 8 : Nat)))
      let q := fadd lo (fmul w (.fin (2 * ((r : Int) - below) - 1) (2 * cb)))
      let s := pow2 k
      toF32 (fmul q (.fin s.1 s.2))

/-! ### What a context keeps for one value -/

/-- Keep the smaller of two encodings under a key. -/
def pickMin (ty : Nat) : Option Nat → Option Nat → Option Nat
  | none, y => y
  | x, none => x
  | some x, some y => if fmtKey ty x ≤ fmtKey ty y then some x else some y

/-- Keep the larger. -/
def pickMax (ty : Nat) : Option Nat → Option Nat → Option Nat
  | none, y => y
  | x, none => x
  | some x, some y => if fmtKey ty x ≤ fmtKey ty y then some y else some x

/-- Nothing accumulated. -/
def VAcc.zero (ty : Nat) : VAcc := { sum := Acc.zero (sumKind ty), sq := Acc.zero 2, min := none, max := none, hist := Hist.zero }

/-- One input alone: an encoding, or none where the chain lacks the value. -/
def VAcc.single (ty : Nat) (k : Int) (b : Option Nat) : VAcc :=
  let v := match b with | some b => fmtVal ty b | none => .nan
  let raw := match b with | some b => if v = .nan then none else some (b % 2 ^ fmtBits ty) | none => none
  { sum := Acc.single (sumKind ty) v, sq := Acc.single 2 v, min := raw, max := raw, hist := Hist.single k v }

/-- Fold two (R341, R343). -/
def VAcc.add (ty : Nat) (x y : VAcc) : VAcc :=
  { sum := x.sum.add y.sum, sq := x.sq.add y.sq, min := pickMin ty x.min y.min, max := pickMax ty x.max y.max, hist := x.hist.add y.hist }

/-! ### Images (Table 13.5) -/

/-- Segment `i` of a pattern. -/
def segOf (a i : Nat) : Nat := a / 2 ^ (64 * i) % 2 ^ 64

/-- First segment and segment count of an accumulator's image. -/
def accSpan (x : Acc) : Nat × Nat :=
  let n := accBits x.kind / 64
  if x.a = 0 then (0, 0)
  else
    let f := ((List.range n).find? (fun i => segOf x.a i != 0)).getD 0
    let ext (i : Nat) : Nat := if segOf x.a i / 2 ^ 63 = 1 then 2 ^ 64 - 1 else 0
    let top := ((List.range n).find? (fun i => decide (f ≤ i) && (List.range n).all (fun j => decide (j ≤ i) || segOf x.a j == ext i))).getD (n - 1)
    (f, top - f + 1)

/-- Payloads of an accumulator image of value `i`. -/
def accImage (x : Acc) (i : Nat) : List Nat :=
  let fs := accSpan x
  let head := x.pinf % 2 ^ 32 * 2 ^ 96 + x.ninf % 2 ^ 32 * 2 ^ 64 + x.nan % 2 ^ 32 * 2 ^ 32 + x.kind * 2 ^ 24 + fs.1 * 65536 + fs.2 * 256 + i
  head :: (List.range ((fs.2 + 1) / 2)).map (fun j =>
    segOf x.a (fs.1 + 2 * j) + (if 2 * j + 1 < fs.2 then segOf x.a (fs.1 + 2 * j + 1) else 0) * 2 ^ 64)

/-- Entries of a bucket: counts above 2⁵³ − 1 are split. -/
def bucketEntries (i n : Nat) : List Nat :=
  let lim := 2 ^ 53 - 1
  (List.replicate ((n - 1) / lim) (i * 2 ^ 53 + lim)) ++ [i * 2 ^ 53 + (n - (n - 1) / lim * lim)]

/-- Pairs of u64 entries, low first. -/
def pairUp : List Nat → List Nat
  | [] => []
  | [a] => [a]
  | a :: b :: rest => (a + b * 2 ^ 64) :: pairUp rest

/-- Payloads of a histogram image of value `i`. -/
def histImage (h : Hist) (i : Nat) : List Nat :=
  let es := h.buckets.flatMap (fun b => bucketEntries b.1 b.2)
  [h.under % 2 ^ 64 * 2 ^ 64 + h.above % 2 ^ 64, h.nan % 2 ^ 64 * 2 ^ 64 + es.length % 65536 * 2 ^ 48 + i] ++ pairUp es

/-- Payload and EMPTY flag of each record of a value's images under operations `ops` (R355). -/
def valueImages (ops i : Nat) (v : VAcc) : List (Nat × Bool) :=
  let plain (l : List Nat) := l.map (fun p => (p, false))
  let mm (x : Option Nat) := match x with | some b => [(b, false)] | none => [(0, true)]
  (if ops.testBit 0 then plain (accImage v.sum i) else []) ++ (if ops.testBit 1 then plain (accImage v.sq i) else [])
    ++ (if ops.testBit 2 then mm v.min else []) ++ (if ops.testBit 3 then mm v.max else [])
    ++ (if ops.testBit 4 then plain (histImage v.hist i) else [])

/-- Read an accumulator image of value `i` from the payloads at the head of a list. -/
def readAcc (kinds : List Nat) (i : Nat) : List (Nat × Bool) → Option (Acc × List (Nat × Bool))
  | [] => none
  | (h, _) :: rest =>
    let kind := bitsOf h 31 24
    let s := bitsOf h 15 8
    let f := bitsOf h 23 16
    let n := (s + 1) / 2
    if !kinds.contains kind || h % 256 != i || decide (rest.length < n) || decide (f + s > accBits kind / 64) then none
    else
      let raw := ((List.range s).map (fun j => segOf ((rest.getD (j / 2) (0, false)).1) (j % 2) * 2 ^ (64 * (f + j)))).sum
      let top := f + s
      let neg := s > 0 && raw / 2 ^ (64 * top - 1) % 2 == 1
      let a := if neg then raw + (2 ^ accBits kind - 2 ^ (64 * top)) else raw
      some ({ kind := kind, a := a, pinf := bitsOf h 127 96, ninf := bitsOf h 95 64, nan := bitsOf h 63 32 }, rest.drop n)

/-- Read a histogram image. -/
def readHist (i : Nat) : List (Nat × Bool) → Option (Hist × List (Nat × Bool))
  | (a, _) :: (b, _) :: rest =>
    let n := bitsOf b 63 48
    if b % 256 ≠ i ∨ rest.length < (n + 1) / 2 then none
    else
      let es := (List.range n).map (fun j => segOf ((rest.getD (j / 2) (0, false)).1) (j % 2))
      some ({ under := segOf a 1, above := segOf a 0, nan := segOf b 1,
              buckets := es.foldl (fun l e => bucketAdd (e / 2 ^ 53) (e % 2 ^ 53) l) [] }, rest.drop ((n + 1) / 2))
  | _ => none

/-- Read one value's images under operations `ops`. -/
def readValueImages (ops i : Nat) (l : List (Nat × Bool)) : Option (VAcc × List (Nat × Bool)) :=
  let v0 : VAcc := { sum := Acc.zero 0, sq := Acc.zero 2, min := none, max := none, hist := Hist.zero }
  let s1 := if ops.testBit 0 then (readAcc [0, 1] i l).map (fun r => ({ v0 with sum := r.1 }, r.2)) else some (v0, l)
  let s2 := s1.bind (fun s => if ops.testBit 1 then (readAcc [2] i s.2).map (fun r => ({ s.1 with sq := r.1 }, r.2)) else some s)
  let one (s : VAcc × List (Nat × Bool)) (put : VAcc → Option Nat → VAcc) : Option (VAcc × List (Nat × Bool)) :=
    match s.2 with
    | [] => none
    | (p, e) :: rest => some (put s.1 (if e then none else some p), rest)
  let s3 := s2.bind (fun s => if ops.testBit 2 then one s (fun v m => { v with min := m }) else some s)
  let s4 := s3.bind (fun s => if ops.testBit 3 then one s (fun v m => { v with max := m }) else some s)
  s4.bind (fun s => if ops.testBit 4 then (readHist i s.2).map (fun r => ({ s.1 with hist := r.1 }, r.2)) else some s)

/-- Read the images of `n` values, from value `i`: none where the chain does not have this layout. -/
def readImages (ops : Nat) : Nat → Nat → List (Nat × Bool) → Option (List VAcc)
  | 0, _, l => if l.isEmpty then some [] else none
  | n + 1, i, l =>
    match readValueImages ops i l with
    | none => none
    | some (v, rest) => (readImages ops n (i + 1) rest).map (fun vs => v :: vs)

end Sys2Proof.Machine
end

