-- ==== Sys2Proof/Machine/Sky.lean ====
section
/-! DEFINITION. Sky ports (spec/10, R283–R292): the transport of each class, states, widths, preemption, failover and failback. -/
namespace Sys2Proof.Machine

/-! ### Ports -/

/-- One class of a port with nothing sent or received. -/
def SkyClass.fresh : SkyClass :=
  { seq := 0, retry := [], resend := none, progressAt := 0, nakIn := false, granted := 0, sent := 0, exp := 0, nakOut := false, taken := 0 }

/-- A port as it is at restart. -/
def SkyPort.fresh (epoch : Nat) : SkyPort :=
  { state := .down, lanes := 0, first := 0, preempt := 0, epoch := epoch, peerEpoch := none, echo := false, peerHello := zeros 32,
    cls := List.replicate 4 SkyClass.fresh, rx := [], lastRx := 0, lastTx := 0, upAt := none, downAt := none, faultAt := none,
    faulty := [], tryWidth := 0, tryAt := 0 }

/-- A port by number. -/
def Group.port (g : Group) (p : Nat) : SkyPort := g.sky.getD p (SkyPort.fresh 0)

/-- Change a port. -/
def Group.onPort (g : Group) (p : Nat) (f : SkyPort → SkyPort) : Group := { g with sky := modAt g.sky p f }

/-- Change a class of a port. -/
def SkyPort.onCls (s : SkyPort) (c : Nat) (f : SkyClass → SkyClass) : SkyPort := { s with cls := modAt s.cls c f }

/-- A class of a port. -/
def SkyPort.class (s : SkyPort) (c : Nat) : SkyClass := s.cls.getD c SkyClass.fresh

/-- Whether a Sky port is in Up. -/
def Group.portUp (g : Group) (p : Nat) : Bool := (g.port p).state == .up

/-- Sky port that an output port of Jetstream uses for a class: port 31 is P0 or P1 by LINK.ACTIVE_PARENT (R323). -/
def Group.outPort (g : Group) (port cls : Nat) : Option Nat :=
  if port < 24 then some port
  else if port = 31 then g.core.parentPort (g.parent.onP1.getD cls false) else none

/-- Whether the group's Sundog link is in Up (R292). -/
def Group.sundogUp (g : Group) : Bool := (g.core.portsOf 3).any (fun p => g.portUp p)

/-! ### Credits and sending (R287) -/

/-- Slots a frame uses: its records, or 64-byte units of its payload. -/
def skySlots (kind count len : Nat) : Nat := if kind = 1 then count else (len + 63) / 64

/-- Whether a class has credit for a number of slots. -/
def SkyClass.credit (c : SkyClass) (slots : Nat) : Bool :=
  let d := (c.granted + 2 ^ 32 - c.sent) % 2 ^ 32
  decide (slots ≤ d) && decide (d < 2 ^ 31)

/-- Bytes a port's retry buffer holds. -/
def SkyPort.held (s : SkyPort) : Nat := s.cls.foldl (fun n c => c.retry.foldl (fun m f => m + 32 + f.bytes.length) n) 0

/-- Whether a port can take a new frame of a class (R287): in Up, credit, retry buffer space, no resend pending. -/
def SkyPort.canSend (s : SkyPort) (cls kind count len : Nat) : Bool :=
  s.state == .up && (s.class cls).credit (skySlots kind count len) && decide (s.held + 32 + len ≤ 262144 * s.lanes)
    && (s.class cls).resend.isNone

/-- A new sequenced frame leaves a port. -/
def Group.skySend (g : Group) (p cls kind count : Nat) (b : Bytes) : Group :=
  let c := (g.port p).class cls
  let n := skySlots kind count b.length
  let f : SkyFrame := { seq := c.seq, kind := kind, count := count, bytes := b, slots := n }
  let g := g.onPort p (fun s => { s.onCls cls (fun c =>
    { c with seq := (c.seq + 1) % 2 ^ 32, retry := c.retry ++ [f], sent := (c.sent + n) % 2 ^ 32,
             progressAt := if c.retry.isEmpty then g.core.up else c.progressAt }) with lastTx := g.core.up })
  { g with core := g.core.send (.frame p kind b) }

/-- Resend the next pending frame of a class: none where no resend is pending. -/
def Group.skyResend (g : Group) (p cls : Nat) : Option Group :=
  let c := (g.port p).class cls
  match c.resend with
  | none => none
  | some i =>
    match c.retry[i]? with
    | none => some (g.onPort p (fun s => s.onCls cls (fun c => { c with resend := none })))
    | some f =>
      let g := g.onPort p (fun s => { s.onCls cls (fun c =>
        { c with resend := if i + 1 < c.retry.length then some (i + 1) else none }) with lastTx := g.core.up })
      some { g with core := (g.core.bump (oLinkSkyResent + p + 1)).send (.frame p f.kind f.bytes) }

/-- The cumulative grant of a class to the peer of a port (R272, R287, R292, R321). -/
def Group.skyGrant (g : Group) (p cls : Nat) : Nat :=
  let t := ((g.port p).class cls).taken
  if cls = 3 then (t + g.core.num oLinkACredits) % 2 ^ 32
  else if (g.core.skyMap p).role = 5 ∧ !g.sundogUp ∧ !g.parent.hosting then t
  else (t + g.core.num oJetSkyWindow) % 2 ^ 32

/-- A control frame (kind 0x03). -/
def Group.skyControl (g : Group) (p : Nat) : Group :=
  let b := leBytes 4 (g.skyGrant p 3) ++ leBytes 4 (g.skyGrant p 2) ++ leBytes 4 (g.skyGrant p 1) ++ leBytes 4 (g.skyGrant p 0)
  let g := g.onPort p (fun s => { s with lastTx := g.core.up })
  { g with core := g.core.send (.frame p 0x03 b) }

/-- The hello payload of a port (Table 10.11). -/
def Group.helloBytes (g : Group) (p : Nat) : Bytes :=
  let s := g.port p
  leBytes 1 (if s.echo then 1 else 0) ++ zeros 4 ++ leBytes 1 s.lanes ++ leBytes 1 (g.core.skyMap p).role ++ leBytes 1 g.core.kind
    ++ leBytes 4 s.epoch ++ leBytes 4 g.core.path ++ slice (g.core.get oIdentUid) 0 16

/-- Send a hello frame. -/
def Group.sendHello (g : Group) (p : Nat) : Group :=
  let b := g.helloBytes p
  let g := g.onPort p (fun s => { s with lastTx := g.core.up })
  { g with core := g.core.send (.frame p 0x06 b) }

/-- A port with nothing to send for 2 µs sends a control frame (R287). -/
def Group.skyIdle (g : Group) (p : Nat) : Group :=
  let s := g.port p
  if s.state = .up ∧ g.core.up ≥ s.lastTx + 2000 then g.skyControl p else g

/-! ### Arrivals (Table 10.8) -/

/-- One class takes an ack and a NAK bit (R273, R287). -/
def SkyClass.acked (c : SkyClass) (ack : Nat) (nak : Bool) (up : Nat) : SkyClass :=
  let done (f : SkyFrame) : Bool := decide ((ack + 2 ^ 32 - f.seq) % 2 ^ 32 ≠ 0) && decide ((ack + 2 ^ 32 - f.seq) % 2 ^ 32 < 2 ^ 31)
  let rest := c.retry.dropWhile done
  let n := c.retry.length - rest.length
  let rs := match c.resend with
    | some i => if i - n < rest.length then some (i - n) else none
    | none => none
  { c with retry := rest, resend := if nak && !c.nakIn && !rest.isEmpty then some 0 else rs, nakIn := nak,
           progressAt := if n > 0 then up else c.progressAt }

/-- A frame's header at a port in Up: acks of every class, and for a sequenced frame whether it is the one expected. -/
def Group.skyHead (g : Group) (p : Nat) (h : SkyHead) (sequenced : Bool) : Group × Bool :=
  if !g.portUp p then (g, false)
  else
    let k := h.cls.code
    let ok := !sequenced || h.seq == ((g.port p).class k).exp
    let g := g.onPort p (fun s =>
      let s := { s with lastRx := g.core.up }
      let s := (List.range 4).foldl (fun s c => s.onCls c (fun x => x.acked (h.acks.getD c x.seq) (h.nak.testBit c) g.core.up)) s
      if sequenced then s.onCls k (fun x => if ok then { x with exp := (x.exp + 1) % 2 ^ 32, nakOut := false } else { x with nakOut := true })
      else s)
    (g, ok)

/-- Slots taken from a port in a class, for the grants of R321. -/
def Group.skyTaken (g : Group) (p cls n : Nat) : Group :=
  g.onPort p (fun s => s.onCls cls (fun c => { c with taken := (c.taken + n) % 2 ^ 32 }))

/-- A control frame's grants. -/
def Group.skyGrants (g : Group) (p : Nat) (h : SkyHead) (a c s t : Nat) : Group :=
  let r := g.skyHead p h false
  if !g.portUp p then g
  else
    r.1.onPort p (fun x => (((x.onCls 3 (fun k => { k with granted := a % 2 ^ 32 })).onCls 2 (fun k => { k with granted := c % 2 ^ 32 })).onCls 1
      (fun k => { k with granted := s % 2 ^ 32 })).onCls 0 (fun k => { k with granted := t % 2 ^ 32 }))

/-! ### Failover and failback (R288–R290) -/

/-- Move a class from P0 to P1: its unacknowledged frames go as new frames of P1 (R288, R289). -/
def Group.moveClass (g : Group) (p0 p1 cls : Nat) : Group :=
  let fs := ((g.port p0).class cls).retry
  let g := g.onPort p0 (fun s => s.onCls cls (fun c => { c with retry := [], resend := none }))
  let g := fs.foldl (fun g f => g.skySend p1 cls f.kind f.count f.bytes) g
  { g with parent := { g.parent with onP1 := g.parent.onP1.set cls true, drain := g.parent.drain.set cls false } }

/-- Class A follows the loss of P0 at once when P1 is in Up (R288); `cause` is the link loss's. -/
def Group.failA (g : Group) (p cause : Nat) : Group :=
  match g.core.parentPort false, g.core.parentPort true with
  | some p0, some p1 =>
    if p = p0 ∧ g.portUp p1 ∧ !g.parent.onP1.getD 3 false then
      let g := g.moveClass p0 p1 3
      { g with core := (g.core.bump oLinkFailovers).raise 0x0A05 (0xB0 + (g.core.skyMap p0).first) [8, cause] }
    else g
  | _, _ => g

/-- P1 leaves Up with P0 in Up: the classes on P1 return at once, each resent from its last Ack (R525). -/
def Group.failBackNow (g : Group) (p : Nat) : Group :=
  match g.core.parentPort false, g.core.parentPort true with
  | some p0, some p1 =>
    if p = p1 ∧ g.portUp p0 then
      let cs := [3, 2, 1, 0].filter (fun c => g.parent.onP1.getD c false)
      let g := cs.foldl (fun (g : Group) c =>
        let fs := ((g.port p1).class c).retry
        let g := g.onPort p1 (fun s => s.onCls c (fun k => { k with retry := [], resend := none }))
        fs.foldl (fun (g : Group) f => g.skySend p0 c f.kind f.count f.bytes) g) g
      let g := { g with parent := { g.parent with onP1 := List.replicate 4 false, drain := List.replicate 4 false } }
      if cs.isEmpty then g else { g with core := g.core.raise 0x0A06 (0xB0 + (g.core.skyMap p1).first) [ofBits cs] }
    else g
  | _, _ => g

/-- P0 has stayed out of Up for LINK.FAILOVER_HOLD: classes C, S and T move to P1 (R289). -/
def Group.failoverHold (g : Group) : Group :=
  match g.core.parentPort false, g.core.parentPort true with
  | some p0, some p1 =>
    match (g.port p0).state, (g.port p0).downAt with
    | .up, _ => g
    | _, none => g
    | _, some t =>
      let cs := [2, 1, 0].filter (fun c => !g.parent.onP1.getD c false)
      if g.core.up ≥ t + 1000 * g.core.num oLinkFailoverHold ∧ g.portUp p1 ∧ !cs.isEmpty then
        let g := cs.foldl (fun g c => g.moveClass p0 p1 c) g
        { g with core := (g.core.bump oLinkFailovers).raise 0x0A05 (0xB0 + (g.core.skyMap p0).first) [ofBits cs, 1] }
      else g
  | _, _ => g

/-- P0 has stayed in Up for LINK.FAILBACK_HOLD: new frames of each class stop on P1 (R290). -/
def Group.failbackHold (g : Group) : Group :=
  match g.core.parentPort false with
  | some p0 =>
    match (g.port p0).state, (g.port p0).upAt with
    | .up, some t =>
      if g.core.up ≥ t + 1000000 * g.core.num oLinkFailbackHold then { g with parent := { g.parent with drain := g.parent.onP1 } } else g
    | _, _ => g
  | none => g

/-- P1 has acknowledged every frame of a draining class: the class returns to P0 (R290). -/
def Group.failbackDone (g : Group) (cls : Nat) : Group :=
  match g.core.parentPort true with
  | some p1 =>
    if g.parent.drain.getD cls false ∧ ((g.port p1).class cls).retry.isEmpty then
      { g with parent := { g.parent with onP1 := g.parent.onP1.set cls false, drain := g.parent.drain.set cls false },
               core := g.core.raise 0x0A06 (0xB0 + (g.core.skyMap p1).first) [2 ^ cls] }
    else g
  | none => g

/-! ### States -/

/-- A port leaves Up (R288): causes 0 dead time, 1 link fault. A failback in progress ends with the loss of P0. -/
def Group.skyDown (g : Group) (p cause : Nat) : Group :=
  if !g.portUp p then g
  else
    let g := g.onPort p (fun s => { s with state := .training, upAt := none, downAt := some g.core.up, echo := false, preempt := 0,
                                           tryWidth := (g.core.skyMap p).lanes, tryAt := g.core.up })
    let g := { g with core := g.core.raise 0x0A02 (0xB0 + (g.core.skyMap p).first) [0x100 + p, cause] }
    let g : Group := if g.core.parentPort false = some p then { g with parent := { g.parent with drain := List.replicate 4 false } } else g
    (g.failA p cause).failBackNow p

/-- LINK.SKY_DEAD without a frame. -/
def Group.skyDead (g : Group) (p : Nat) : Group :=
  if g.core.up ≥ (g.port p).lastRx + 1000 * g.core.num oLinkSkyDead then g.skyDown p 0 else g

/-- A PHY link fault or loss of PCS alignment, in any state. -/
def Group.skyFault (g : Group) (p : Nat) : Group :=
  if g.portUp p then g.skyDown p 1
  else if (g.port p).state = .down then g
  else g.onPort p (fun s => { s with state := .training, preempt := 0, echo := false, tryWidth := (g.core.skyMap p).lanes, tryAt := g.core.up })

/-- PHY training completes at the width in use (R283): verification starts (R286). -/
def Group.skyTrained (g : Group) (p : Nat) : Group :=
  let m := g.core.skyMap p
  if (g.port p).state = .training ∧ m.lanes ≠ 0 then
    g.onPort p (fun s => { s with state := .verifying, preempt := 1, lanes := if s.tryWidth = 0 then m.lanes else s.tryWidth,
                                  first := if s.tryWidth = 0 ∨ s.tryWidth = m.lanes then m.first else s.first })
  else g

/-- Preemption verification ends (R286); the port goes on to hello either way. -/
def Group.preemptDone (g : Group) (p : Nat) (ok : Bool) : Group :=
  if (g.port p).preempt ≠ 1 then g
  else
    let up := (g.port p).state = .verifying
    let g := g.onPort p (fun s => { s with preempt := if ok then 2 else 3, state := if up then .hello else s.state })
    let g := if ok then g else { g with core := g.core.raise 0x0A07 (0xB0 + (g.core.skyMap p).first) [p] }
    if up then g.sendHello p else g

/-- Entry to Up with a peer epoch (R274, R287): a new epoch restarts the sequences and repacks what is unacknowledged. -/
def SkyPort.goUp (s : SkyPort) (up peer : Nat) : SkyPort × Bool :=
  let same := s.peerEpoch == some peer
  let s := { s with state := .up, peerEpoch := some peer, upAt := some up, downAt := none, lastRx := up }
  if same then ({ s with cls := s.cls.map (fun c => { c with resend := if c.retry.isEmpty then none else some 0, progressAt := up }) }, false)
  else
    ({ s with cls := s.cls.map (fun c =>
        let fs := (List.range c.retry.length).map (fun i => { (c.retry.getD i { seq := 0, kind := 0, count := 0, bytes := [], slots := 0 }) with seq := i })
        { SkyClass.fresh with seq := fs.length, retry := fs, resend := if fs.isEmpty then none else some 0, progressAt := up,
                              sent := fs.foldl (fun n f => n + f.slots) 0 }), rx := s.rx }, true)

/-- A hello frame (R287): with ECHO the port reaches Up. Compressors of queues on the port RESET on a new peer epoch (R479), and the
sequence check of the peer's path is reset (R277). -/
def Group.skyHello (g : Group) (p : Nat) (b : Bytes) : Group :=
  let s := g.port p
  let echo := (leAt b 0 1).testBit 0
  match s.state with
  | .hello =>
    let g := g.onPort p (fun s => { s with peerHello := b, echo := true, lastRx := g.core.up })
    if echo then
      let out := match s.downAt with | some t => g.core.up - t | none => 0
      let r := (g.port p).goUp g.core.up (leAt b 8 4)
      let g := g.onPort p (fun _ => r.1)
      let g := { g with core := g.core.raise 0x0A01 (0xB0 + (g.core.skyMap p).first) [0x100 + p, if r.2 then 1 else 0, out] }
      let g := if r.2 then
          { g with jet := { g.jet with checks := g.jet.checks.filter (fun k => k.path != leAt b 12 4) },
                   cond := { g.cond with ctxs := g.cond.ctxs.map (fun x => match x.bound with
                     | some (_, port, cls, _) => if g.outPort port cls = some p then { x with resetDue := true } else x
                     | none => x) } }
        else g
      g.sendHello p
    else g.sendHello p
  | .up =>
    let g := g.onPort p (fun s => { s with lastRx := g.core.up, peerHello := b })
    if echo then g else g.sendHello p
  | _ => g

/-- A port has come to Up: class A goes to P1 at once where P0 is out of Up (R288, R525). -/
def Group.parentScan (g : Group) (p : Nat) : Group :=
  match g.core.parentPort false, g.core.parentPort true with
  | some p0, some p1 => if p = p1 ∧ g.portUp p1 ∧ !g.portUp p0 ∧ (g.port p0).downAt.isSome then g.failA p0 1 else g
  | _, _ => g

/-- A lane has stayed faulty for 10 ms (R284): the port reforms at the next lower width on the lowest aligned group of healthy lanes. -/
def Group.skyReform (g : Group) (p : Nat) (faulty : List Nat) : Group :=
  let m := g.core.skyMap p
  let s := g.port p
  if m.lanes = 0 ∨ s.state = .down then g
  else
    let bad := (s.faulty ++ faulty).eraseDups
    let w0 := if s.lanes = 0 then m.lanes else s.lanes
    let groups (w : Nat) : List Nat := ((List.range (m.lanes / w)).map (fun i => m.first + i * w)).filter (fun f =>
      (List.range w).all (fun k => !bad.contains (f + k)))
    let pick := ([2, 1].filter (fun w => decide (w < w0))).findSome? (fun w => (groups w).head?.map (fun f => (w, f)))
    match pick with
    | some (w, f) =>
      let g := g.skyDown p 1
      let g := g.onPort p (fun s => { s with state := .training, faulty := bad, lanes := w, first := f, tryWidth := w, tryAt := g.core.up })
      { g with core := g.core.raise 0x0A08 (0xB0 + m.first) [p, w0, w] }
    | none => (g.skyDown p 1).onPort p (fun s => { s with faulty := bad })

/-- A 50 ms attempt at one width ends, and the next lower width is tried, the configured one after the lowest (R284). -/
def Group.skyWidthTry (g : Group) (p : Nat) : Group :=
  let s := g.port p
  if s.state = .training ∧ s.tryWidth ≠ 0 ∧ g.core.up ≥ s.tryAt + 50000000 then
    g.onPort p (fun s => { s with tryWidth := if s.tryWidth ≤ 1 then (g.core.skyMap p).lanes else s.tryWidth / 2, tryAt := g.core.up })
  else g

/-- LINK.SKY_RTO without progress of a class's Ack (R287). -/
def Group.skyRto (g : Group) (p cls : Nat) : Group :=
  let c := (g.port p).class cls
  if g.portUp p ∧ !c.retry.isEmpty ∧ g.core.up ≥ c.progressAt + 1000 * g.core.num oLinkSkyRto then
    g.onPort p (fun s => s.onCls cls (fun c => { c with resend := some 0, progressAt := g.core.up }))
  else g

end Sys2Proof.Machine
end

