-- ==== Sys2Proof/Machine/Jet.lean ====
section
/-! DEFINITION. Jetstream's output (R326–R330) and Vantage (R332–R334): frames by deficit round robin, gates, shapers, policers, subscribers that end, merged copies. -/
namespace Sys2Proof.Machine

/-! ### Gates (R329) -/

/-- Entry count of a gate control list (Table 12.7). -/
def gclCount (l : Bytes) : Nat := leAt l 0 1
/-- Interval and open mask of entry `n`. -/
def gclEntry (l : Bytes) (n : Nat) : Nat × Nat := (leAt l (8 * n + 20) 4, leAt l (8 * n + 16) 1 % 16)
/-- Base of a list, total ns. -/
def gclBase (l : Bytes) : Nat := ofTime80 (leAt l 6 10)
/-- Cycle of a list. -/
def gclCycle (l : Bytes) : Nat := ((List.range (gclCount l)).map (fun n => (gclEntry l n).1)).sum

/-- A list that is never closed. -/
def Gcl.open_ : Gcl := { list := zeros 16, base := 0, entry := 0, start := 0 }

/-- Check of an admin list (Table 12.7): reserved bits 0, count at most 64, intervals in range, class A open. -/
def gclCheck (l : Bytes) : Nat :=
  let n := gclCount l
  if l.length ≠ 16 + 8 * n ∨ n > 64 then eRange
  else if leAt l 1 5 ≠ 0 ∨ (List.range n).any (fun i => leAt l (8 * i + 16) 4 / 16 ≠ 0) then eReserved
  else if (List.range n).any (fun i => decide ((gclEntry l i).1 < 100) || decide ((gclEntry l i).1 > 1000000000) || !(gclEntry l i).2.testBit 3) then eRange
  else stOk

/-- An admin list is committed at unit time now: pending, from its base or the first whole cycle at least 10 µs ahead (GCL_LATE). -/
def Group.gclCommit (g : Group) (port : Nat) (l : Bytes) : Group :=
  let b := gclBase l
  let need := g.core.ns + 10000
  let late := decide (b < need)
  let cy := gclCycle l
  let base := if !late then b else if cy = 0 then need else b + (need - b + cy - 1) / cy * cy
  let c := if late then g.core.raise 0x0C01 0x58 [port, b, base] else g.core
  { g with core := c, jet := { g.jet with ports := modAt g.jet.ports port (fun p => { p with pending := some { list := l, base := base, entry := 0, start := base } }) } }

/-- A pending list's base time has come (GCL_SWITCHED). -/
def Group.gclTakeover (g : Group) (port : Nat) : Group :=
  match (g.jet.ports[port]?).bind (fun p => p.pending) with
  | some l =>
    if l.base ≤ g.core.ns then
      { g with core := g.core.raise 0x0C02 0x58 [port, l.base, gclCycle l.list],
               jet := { g.jet with ports := modAt g.jet.ports port (fun p => { p with oper := l, pending := none }) } }
    else g
  | none => g

/-- The interval of the entry in force has ended: the next entry applies. -/
def Group.gclNext (g : Group) (port : Nat) : Group :=
  { g with jet := { g.jet with ports := modAt g.jet.ports port (fun p =>
      let l := p.oper
      let n := gclCount l.list
      let e := gclEntry l.list l.entry
      if n > 0 && decide (l.start + e.1 ≤ g.core.ns) then { p with oper := { l with entry := (l.entry + 1) % n, start := l.start + e.1 } } else p) } }

/-- Ns from now until class `cls`'s gate closes, none where it does not close: the current entry's rest and the open entries after it. -/
def gateLeft (l : Gcl) (now cls : Nat) : Option Nat :=
  let n := gclCount l.list
  if n = 0 then none
  else
    let es := (List.range n).map (fun i => gclEntry l.list ((l.entry + i) % n))
    if es.all (fun e => e.2.testBit cls) then none
    else
      let opens := es.takeWhile (fun e => e.2.testBit cls)
      some ((opens.map (fun e => e.1)).sum + l.start - now)

/-! ### Frames and eligibility (R326, R327, R330) -/

/-- The items of a queue's next frame: records up to a limit, or one other content. -/
def frontItems (limit : Nat) (items : List JItem) : List JItem :=
  match items with
  | .frame k c b :: _ => [.frame k c b]
  | l => (l.takeWhile (fun i => match i with | .record _ => true | .frame _ _ _ => false)).take limit

/-- Kind, record count and content of a frame of items. -/
def frameOf (items : List JItem) : Nat × Nat × Bytes :=
  match items with
  | .frame k _ b :: _ => (k, 0, b)
  | l => (1, l.length, l.flatMap (fun i => match i with | .record r => extBytes r | .frame _ _ b => b))

/-- Bytes a frame counts (R326). -/
def frameBytes (f : Nat × Nat × Bytes) : Nat := 32 + f.2.2.length

/-- Refill of a shaped queue to unit time now: tokens in 10⁻⁹ byte. -/
def JQueue.refill (q : JQueue) (p : JProfile) (now : Nat) : JQueue :=
  if p.rate = 0 then { q with tokensAt := now }
  else
    let t := q.tokens + (p.rate * (now - q.tokensAt) : Nat)
    let b : Int := (p.burst * 1000000000 : Nat)
    { q with tokens := if t > b then b else t, tokensAt := now }

/-- Tokens after a frame, with the wait on a wheel when they fall below 0 (R330). -/
def JQueue.charge (q : JQueue) (p : JProfile) (n now : Nat) : JQueue :=
  if p.rate = 0 then q
  else
    let q := q.refill p now
    let t := q.tokens - ((n * 1000000000 : Nat) : Int)
    if t < 0 then
      let wait := ((-t).toNat + p.rate - 1) / p.rate
      { q with tokens := t, eligibleAt := some (now + wait), coarse := decide (wait > 262144) }
    else { q with tokens := t }

/-- Whether a Sky or management port can send a frame of a class now: link, credit, retry buffer, no drain of the class (R290). -/
def Group.linkTakes (g : Group) (port cls : Nat) (f : Nat × Nat × Bytes) : Bool :=
  if port = 24 ∨ port = 25 then true
  else match g.outPort port cls with
    | none => false
    | some p => (g.port p).canSend cls f.1 f.2.1 f.2.2.length && !(port == 31 && g.parent.drain.getD cls false)

/-- Rate of an output port in bytes per ns × 8: 25 bytes a ns for each Sky lane, 3.125 for a management port. -/
def Group.rate8 (g : Group) (port cls : Nat) : Nat :=
  if port = 24 ∨ port = 25 then 25 else match g.outPort port cls with
    | some p => 200 * (g.port p).lanes
    | none => 0

/-- Whether a queue is eligible (R327). -/
def Group.eligible (g : Group) (port : Nat) (s : JSub) (cls : Nat) : Bool :=
  let q := s.queue cls
  if q.items.isEmpty then false
  else
    let f := frameOf (frontItems (g.core.num oJetFrameRecords) q.items)
    let shaped := match q.eligibleAt with | some _ => false | none => true
    let gate := match (g.jet.ports[port]?) with
      | some p => (match gateLeft p.oper g.core.ns cls with
        | none => true
        | some left => decide (frameBytes f * 8 ≤ left * g.rate8 port cls))
      | none => false
    shaped && gate && g.linkTakes port cls f

/-- Queues that are not eligible leave their lists with their deficits; eligible ones rejoin at the tail (R327). -/
def Group.refreshPort (g : Group) (port : Nat) : Group :=
  let subs := g.jet.subs.map (fun s =>
    if s.port ≠ port then s
    else
      let ok := [2, 1, 0].filter (fun c => g.eligible port s c)
      let stay := s.order.filter (fun c => ok.contains c)
      { s with order := stay ++ ok.filter (fun c => !stay.contains c) })
  let live := (subs.filter (fun s => s.port == port && !s.order.isEmpty)).map (fun s => s.idx)
  { g with jet := { g.jet with subs := subs, ports := modAt g.jet.ports port (fun p =>
      let stay := p.subs.filter (fun i => live.contains i)
      { p with subs := stay ++ live.filter (fun i => !stay.contains i) }) } }

/-- A frame leaves a queue: its items go, the link sends it, bytes and tokens are counted, an emptied queue and subscriber leave their
lists with deficit 0, fresh. -/
def Group.sendFrom (g : Group) (port : Nat) (s : JSub) (cls : Nat) (items : List JItem) (n : Nat) : Group :=
  let f := frameOf items
  let g := match g.outPort port cls with
    | some p => g.skySend p cls f.1 f.2.1 f.2.2
    | none => { g with core := g.core.send (.frame port f.1 f.2.2) }
  let g := { g with core := g.core.count (oJetPortBytes + port + 1) n }
  let q := s.queue cls
  let q := { q with items := q.items.drop items.length, deficit := q.deficit - n }
  let q := q.charge (g.core.profile (s.profiles.getD cls 0)) n g.core.ns
  let s := { s with deficit := s.deficit - n, idleSince := g.core.up }
  let s := if q.items.isEmpty then { s.setQueue cls { q with deficit := 0, fresh := true } with order := s.order.filter (fun c => c != cls) }
    else s.setQueue cls q
  let out := s.order.isEmpty
  let s := if out then { s with deficit := 0, fresh := true } else s
  { g with jet := { (g.jet.setSub s) with ports := modAt g.jet.ports port (fun p =>
      if out then { p with subs := p.subs.filter (fun i => i != s.idx) } else p) } }

/-- The deficit round robin of R327; `fuel` turns at most. -/
def Group.drr (port : Nat) : Nat → Group → Group
  | 0, g => g
  | k + 1, g =>
    match ((g.jet.ports[port]?).map (fun p => p.subs)).getD [] with
    | [] => g
    | i :: rest =>
      match g.jet.sub i port with
      | none => Group.drr port k { g with jet := { g.jet with ports := modAt g.jet.ports port (fun p => { p with subs := rest }) } }
      | some s =>
        let s := if s.fresh then { s with deficit := s.deficit + 64 * s.quantum, fresh := false } else s
        match s.order with
        | [] => Group.drr port k { g with jet := { (g.jet.setSub s) with ports := modAt g.jet.ports port (fun p => { p with subs := rest }) } }
        | cls :: others =>
          let q := s.queue cls
          let prof := g.core.profile (s.profiles.getD cls 0)
          let q := if q.fresh then { q with deficit := q.deficit + 64 * prof.quantum, fresh := false } else q
          let s := s.setQueue cls q
          let items := frontItems (g.core.num oJetFrameRecords) q.items
          let n := frameBytes (frameOf items)
          if n > q.deficit then
            let s := { s.setQueue cls { q with fresh := true } with order := others ++ [cls] }
            Group.drr port k { g with jet := g.jet.setSub s }
          else if n > s.deficit then
            let s := { s with fresh := true }
            Group.drr port k { g with jet := { (g.jet.setSub s) with ports := modAt g.jet.ports port (fun p => { p with subs := rest ++ [i] }) } }
          else Group.sendFrom { g with jet := g.jet.setSub s } port s cls items n

/-- Next pending resend of a port among some classes, higher first. -/
def Group.resendAny (g : Group) (port : Nat) (classes : List Nat) : Option Group :=
  classes.findSome? (fun c => match g.outPort port c with
    | some p => if (g.port p).state = .up then g.skyResend p c else none
    | none => none)

/-- A port starts a frame of class C, S or T: a pending resend first (R287), then the round robin's choice, unless class A waits. -/
def Group.portFrame (g : Group) (port : Nat) : Group :=
  match g.resendAny port [2, 1, 0] with
  | some g => g
  | none => (g.refreshPort port).drr port 65536

/-- A port sends waiting class A records as one express frame (R327). -/
def Group.portAlarm (g : Group) (port : Nat) : Group :=
  match g.resendAny port [3] with
  | some g => g
  | none =>
    let l := ((g.jet.ports[port]?).map (fun p => p.alarms)).getD []
    if l.isEmpty then g
    else
      let items := frontItems (g.core.num oJetAFrameRecords) (l.map (fun x => x.2))
      let f := frameOf items
      if g.linkTakes port 3 f then
        let g := match g.outPort port 3 with
          | some p => g.skySend p 3 f.1 f.2.1 f.2.2
          | none => { g with core := g.core.send (.frame port f.1 f.2.2) }
        { g with core := g.core.count (oJetPortBytes + port + 1) (frameBytes f),
                 jet := { g.jet with ports := modAt g.jet.ports port (fun p => { p with alarms := p.alarms.drop items.length }) } }
      else g

/-! ### Shapers, policers, subscribers -/

/-- A shaped queue's slot comes up (R330): the first fine slot at or after its time makes it eligible; a coarse slot moves it to the
fine wheel. -/
def Group.shaperSlot (g : Group) (idx port cls : Nat) : Group :=
  match g.jet.sub idx port with
  | none => g
  | some s =>
    let q := s.queue cls
    match q.eligibleAt with
    | none => g
    | some t =>
      if g.core.ns ≥ roundUp t 64 then
        { g with jet := g.jet.setSub (s.setQueue cls { (q.refill (g.core.profile (s.profiles.getD cls 0)) g.core.ns) with eligibleAt := none, coarse := false }) }
      else if q.coarse ∧ g.core.ns ≥ t / 262144 * 262144 then { g with jet := g.jet.setSub (s.setQueue cls { q with coarse := false }) }
      else g

/-- A profile takes effect: waits on the wheels are computed anew from the tokens (Table 12.11). -/
def Group.profileChanged (g : Group) (n : Nat) : Group :=
  let p := g.core.profile n
  { g with jet := { g.jet with subs := g.jet.subs.map (fun s =>
      [0, 1, 2].foldl (fun s k =>
        if s.profiles.getD k 0 ≠ n then s
        else
          let q := s.queue k
          let q := { q with tokensAt := g.core.ns, eligibleAt :=
            (if p.rate = 0 ∨ q.tokens ≥ 0 then none else some (g.core.ns + ((-q.tokens).toNat + p.rate - 1) / p.rate)) }
          s.setQueue k q) s) } }

/-- A class A policer refills and sends its coalesced gap record (R330). -/
def Group.policerRefill (g : Group) (idx port : Nat) : Group :=
  match g.jet.sub idx port with
  | some s => { g with jet := (g.jet.policeGap (s.refill g.core)).1 }
  | none => g

/-- A subscriber's queues have stayed empty for JET.SUB_IDLE: it is freed, and its Condenser bindings end (R324, R473). Subscriber 0
stays. -/
def Group.subIdle (g : Group) (idx port : Nat) : Group :=
  match g.jet.sub idx port with
  | none => g
  | some s =>
    let busy := s.queues.any (fun q => !q.items.isEmpty || q.gap.isSome) || s.gap.isSome
      || g.jet.ports.any (fun p => p.alarms.any (fun a => a.1 == idx && p.subs.contains idx))
      || g.cond.ctxs.any (fun x => !x.gather.isEmpty && (match x.bound with | some (i, p, _, _) => i == idx && p == port | none => false))
    if idx = 0 ∨ busy ∨ g.core.up < s.idleSince + 1000000 * g.core.num oJetSubIdle then g
    else
      { g with jet := { g.jet with subs := g.jet.subs.filter (fun t => !t.is idx port), overflow := g.jet.overflow && idx != 2047,
                                   ports := modAt g.jet.ports port (fun p => { p with subs := p.subs.filter (fun i => i != idx) }) },
               cond := { g.cond with ctxs := g.cond.ctxs.filter (fun x => match x.bound with | some (i, p, _, _) => !(i == idx && p == port) | none => true) } }

/-- A class C queue is below JET.QUEUE_LIMIT again: its stalled producer resumes (R328). -/
def Group.stallEnd (g : Group) (idx port : Nat) : Group :=
  match g.jet.sub idx port with
  | none => g
  | some s =>
    let mine := g.jet.stalled.filter (fun x => x.1 == s.path && x.2.1 == port)
    let rest := g.jet.stalled.filter (fun x => !(x.1 == s.path && x.2.1 == port))
    mine.foldl (fun g x =>
      match g.jet.sub idx port with
      | some s => g.put s x.2.2
      | none => g) { g with jet := { g.jet with stalled := rest } }

/-! ### Vantage (R332–R334) -/

/-- The Vantage port's Sky port number. -/
def Core.vantagePort (c : Core) : Option Nat := (c.portsOf 4).head?

/-- Mode of the first subscription that matches a record: 0 none, 1 live, 2 merged (Table 12.10). -/
def Core.vantageMode (c : Core) (e : ExtRecord) : Nat :=
  let m := (List.range 16).find? (fun i =>
    let b := c.get (oVantageSub + i + 1)
    let mode := leAt b 0 1
    (mode == 1 || mode == 2) && (e.path.toNat &&& leAt b 8 4) == (leAt b 12 4 &&& leAt b 8 4)
      && (leAt b 7 1 / 16).testBit e.base.cls.code && (leAt b 6 1 == 0 || leAt b 6 1 == e.base.type.toNat))
  match m with
  | some i => leAt (c.get (oVantageSub + i + 1)) 0 1
  | none => 0

/-- A copy enters the Vantage port's queues, or is dropped at VANTAGE.QUEUE_LIMIT with a gap record in its place (R334). -/
def Group.vantagePut (g : Group) (e : ExtRecord) : Group :=
  match g.core.vantagePort with
  | none => g
  | some p =>
    let gap := g.jet.vgap.find? (fun x => x.first.path == e.path && x.first.base.cls == e.base.cls)
    let used := ((g.jet.subs.filter (fun s => s.port == p && s.path == e.path.toNat)).map (fun s => (s.queue e.base.cls.code).bytes)).sum
    if e.base.cls ≠ .a ∧ used + 64 > g.core.num oVantageQueueLimit then
      let c := g.core.bump oVantageDrops
      let c := if g.jet.vEpisode then c else c.raise 0x0C06 0xD2 [g.core.vantageMode e, e.path.toNat]
      let vg := match gap with
        | some x => g.jet.vgap.map (fun y => if y = x then { y with lost := y.lost + 1 } else y)
        | none => g.jet.vgap ++ [{ first := e, lost := 1, reason := 0x07 }]
      { g with core := c, jet := { g.jet with vgap := vg, vEpisode := true } }
    else
      let g := { g with core := g.core.bump oVantageCopied, jet := { g.jet with vEpisode := false } }
      let g := match gap with
        | some x => { g with jet := { g.jet with vgap := g.jet.vgap.filter (fun y => y != x) } }.enqueue e.path.toNat p
            (gapOf x.first x.first.base.seq.toNat x.lost x.reason)
        | none => g
      g.enqueue e.path.toNat p e

/-- A record is copied to Vantage when a subscription matches: a live copy at once, a merged one after its window; class A at once. -/
def Group.vantageCopy (g : Group) (e : ExtRecord) : Group :=
  match g.core.vantageMode e with
  | 0 => g
  | 2 => if e.base.cls = .a then g.vantagePut e else { g with jet := { g.jet with merge := g.jet.merge ++ [{ r := e, at_ := g.core.ns }] } }
  | _ => g.vantagePut e

/-- Heads of the merge FIFOs: the first copy of each source and class. -/
def mergeHeads : List MergeCopy → List (Nat × RClass) → List MergeCopy
  | [], _ => []
  | m :: rest, seen =>
    let k := (m.r.path.toNat, m.r.base.cls)
    if seen.contains k then mergeHeads rest seen else m :: mergeHeads rest (k :: seen)

/-- Order of merged copies: extended time, path, source sub-identifier, sequence. -/
def mergeLe (a b : MergeCopy) : Bool :=
  let ka := (a.r.time.toNat, a.r.path.toNat, a.r.base.src.toNat, a.r.base.seq.toNat)
  let kb := (b.r.time.toNat, b.r.path.toNat, b.r.base.src.toNat, b.r.base.seq.toNat)
  decide (ka.1 < kb.1) || (ka.1 == kb.1 && (decide (ka.2.1 < kb.2.1) || (ka.2.1 == kb.2.1 && (decide (ka.2.2.1 < kb.2.2.1)
    || (ka.2.2.1 == kb.2.2.1 && decide (ka.2.2.2 ≤ kb.2.2.2))))))

/-- The smallest-time head whose window has passed is sent (R333). -/
def Group.mergeRelease (g : Group) : Group :=
  match sortBy (mergeHeads g.jet.merge []) mergeLe with
  | [] => g
  | m :: _ =>
    if g.core.ns ≥ m.at_ + 1000 * g.core.num oVantageMergeWindow then
      let late := match g.jet.mergeLast with
        | some (t, p) => decide (m.r.time.toNat < t) && m.r.path.toNat != p
        | none => false
      let g := { g with jet := { g.jet with merge := g.jet.merge.erase m,
                                            mergeLast := if late then g.jet.mergeLast else some (m.r.time.toNat, m.r.path.toNat) } }
      g.vantagePut { m.r with lateMerge := m.r.lateMerge || late }
    else g

end Sys2Proof.Machine
end

