-- ==== Sys2Proof/Machine/Condense.lean ====
section
/-! DEFINITION. Condenser's frames as they arrive, and what its contexts do with time (spec/19, R473–R483). -/
namespace Sys2Proof.Machine

/-- Header of a Condenser frame (Table 19.1). -/
structure CondHead where
  path : Nat
  check : Nat
  num : Nat
  first : Nat
  count : Nat
  level : Nat
  ctx : Nat
  reset : Bool
  raw : Bool
  reserved : Nat
deriving DecidableEq, Repr

/-- Fields of the 24 bytes of a header. -/
def condHead (b : Bytes) : CondHead :=
  let f := leAt b 0 4
  { path := leAt b 20 4, check := leAt b 16 4, num := leAt b 12 4, first := leAt b 10 2, count := leAt b 9 1, level := leAt b 8 1,
    ctx := leAt b 6 2, reset := f.testBit 1, raw := f.testBit 0, reserved := leAt b 0 6 / 4 }

/-- The data of a frame, or the code of Table 19.3 by which it fails. -/
def condDecode (limit : Nat) (h : CondHead) (history body : Bytes) : Except Nat Bytes :=
  let want := 64 * h.count
  let out : Except Nat Bytes := if h.raw then (if body.length = want then .ok body else .error 3)
    else if want > limit then (match inflate history body limit with | .error e => .error e | .ok b => if b.length < want then .error 3 else .ok b)
    else match inflate history body want with
      | .error e => .error e
      | .ok b => if b.length < want then .error 3 else .ok b
  match out with
  | .error e => .error e
  | .ok b => if h.raw ∧ want > limit then .error 2 else if crc32c b = h.check then .ok b else .error 4

/-- The extended records of uncompressed data. -/
def extList (b : Bytes) : List ExtRecord := (List.range (b.length / 64)).map (fun i => extOfBytes (slice b (64 * i) 64))

/-- A frame fails with a code (R482): counted, its gap record of reason 0x03 in its place, DECODE_ERROR once an episode. -/
def Group.condFail (g : Group) (key : Nat × Nat × Nat) (h : CondHead) (code : Nat) : Group × List ExtRecord :=
  let c := g.core.bump (oCondenseDecodeErrors + code)
  let c := if g.cond.errs.contains key then c else c.raise 0x1901 0x60 [key.1, key.2.1, key.2.2, code]
  let ctxs := if code = 6 ∨ code = 8 then g.cond.ctxs else g.cond.ctxs.map (fun x => if x.key = some key then { x with broken := true } else x)
  let g := { g with core := c, cond := { g.cond with ctxs := ctxs, errs := if g.cond.errs.contains key then g.cond.errs else key :: g.cond.errs } }
  ({ g with core := g.core.bump oLinkGapsInserted }, [g.bareGap h.path (RClass.ofCode key.2.1) h.first h.count 0x03])

/-- The decoder context of a key after a RESET frame's allocation (R480, R481): the highest free one; none when the pool is full. -/
def Group.condAlloc (g : Group) (key : Nat × Nat × Nat) : Option (Group × CondCtx) :=
  match g.cond.ctxs.find? (fun x => x.key == some key) with
  | some x => some (g, x)
  | none =>
    match (List.range 4096).reverse.find? (fun i => !g.cond.ctxs.any (fun x => x.idx == i)) with
    | some i =>
      let x := { CondCtx.fresh i g.core.up with key := some key }
      some ({ g with cond := { g.cond with ctxs := g.cond.ctxs ++ [x], exhausted := false } }, x)
    | none => none

/-- A kind 0x04 payload of class `cls` from the unit of path `sender` (R480–R482): the group and the records that enter ingest. -/
def Group.condReceive (g : Group) (sender cls : Nat) (b : Bytes) : Group × List ExtRecord :=
  let h := condHead b
  let key := (sender, cls, h.ctx)
  if h.reserved ≠ 0 ∨ h.count = 0 ∨ h.count > 140 ∨ h.level > 9 then g.condFail key h 8
  else
    let a := if h.reset then g.condAlloc key else (g.cond.ctxs.find? (fun x => x.key == some key)).map (fun x => (g, x))
    match a with
    | none =>
      if h.reset then
        let c := if g.cond.exhausted then g.core
          else g.core.raise 0x1902 0x60 [(g.cond.ctxs.filter (fun x => x.bound.isSome)).length, (g.cond.ctxs.filter (fun x => x.key.isSome)).length]
        Group.condFail { g with core := c, cond := { g.cond with exhausted := true } } key h 6
      else g.condFail key h 7
    | some (g, x) =>
      let x := if h.reset then { x with history := [], frame := h.num, broken := false } else x
      let g := { g with cond := g.cond.set x }
      let d := (h.num + 2 ^ 32 - x.frame) % 2 ^ 32
      if d ≥ 0x80000000 then ({ g with core := g.core.bump oCondenseDuplicates }, [])
      else if d > 0 ∨ x.broken then g.condFail key h 5
      else match condDecode (g.core.num oCondenseOutLimit) h x.history (b.drop 24) with
        | .error e => g.condFail key h e
        | .ok data =>
          let x := { x with history := trimHistory (x.history ++ data), frame := (h.num + 1) % 2 ^ 32, lastUse := g.core.up }
          let c := (g.core.count (condObj x.idx 4) b.length).count (condObj x.idx 5) data.length
          ({ g with core := c, cond := { g.cond.set x with errs := g.cond.errs.filter (fun k => k != key) } }, extList data)

/-- CONDENSE.GATHER has passed since a gathered frame's first record (R474). -/
def Group.gatherExpire (g : Group) (idx : Nat) : Group :=
  match g.cond.ctxs.find? (fun x => x.idx == idx) with
  | some x => if !x.gather.isEmpty ∧ g.core.up ≥ x.gatherAt + 1000 * g.core.num oCondenseGather then g.closeFrame idx else g
  | none => g

/-- The next frame of a compressor is a RESET frame (R479). -/
def Group.condReset (g : Group) (idx : Nat) : Group :=
  { g with cond := { g.cond with ctxs := g.cond.ctxs.map (fun x => if x.idx = idx ∧ x.bound.isSome then { x with resetDue := true } else x) } }

/-- CONDENSE.IDLE_RESET without a frame (R479). -/
def Group.condIdleReset (g : Group) (idx : Nat) : Group :=
  match g.cond.ctxs.find? (fun x => x.idx == idx) with
  | some x =>
    let g := { g with core := g.core.usePair oCondenseIdleReset oCondenseDecodeIdle }
    if x.bound.isSome ∧ g.core.up ≥ x.lastUse + 1000000 * g.core.used oCondenseIdleReset then g.condReset idx else g
  | none => g

/-- CONDENSE.DECODE_IDLE without a frame decoded: the decoder context is freed (R480). -/
def Group.condDecodeIdle (g : Group) (idx : Nat) : Group :=
  match g.cond.ctxs.find? (fun x => x.idx == idx) with
  | some x =>
    let g := { g with core := g.core.usePair oCondenseIdleReset oCondenseDecodeIdle }
    if x.key.isSome ∧ g.core.up ≥ x.lastUse + 1000000 * g.core.used oCondenseDecodeIdle then
      { g with cond := { g.cond with ctxs := g.cond.ctxs.filter (fun y => y.idx != idx) } }
    else g
  | none => g

/-- A profile or subscriber commit ends bindings to contexts that no profile of their queue names any more (R473, Table 19.4): a
gathered frame closes under its old binding first. -/
def Group.rebind (g : Group) : Group :=
  let stale (x : CondCtx) : Bool := match x.bound with
    | some (i, p, cls, c) => (match g.jet.sub i p with
      | some s => g.condOf s cls != some c
      | none => true)
    | none => false
  let g := (g.cond.ctxs.filter stale).foldl (fun g x => g.closeFrame x.idx) g
  { g with cond := { g.cond with ctxs := g.cond.ctxs.filter (fun x => !stale x) } }

/-- State of a context as it reads (Table 19.6). -/
def CondCtx.word (x : CondCtx) : Nat :=
  let sub := match x.bound with | some (i, _, _, _) => i | none => 0xFFFF
  x.frame * 2 ^ 32 + sub * 65536 + (if x.bound.isSome then 1 else 2) * 256 + (if x.broken then 128 else 0) + 0xF

end Sys2Proof.Machine
end

