-- ==== Sys2Proof/Machine/Capture.lean ====
section
/-! DEFINITION. The Ovtan's capture side (spec/06): counters and banks, sensors and trips, the program words of Table 6.4 and the runs of R187–R191. -/
namespace Sys2Proof.Machine

/-- The parts of an Ovtan that capture reads and writes. -/
structure CapSide where
  core : Core
  buf : RecBuf
  cap : Capture
deriving DecidableEq, Repr

/-! ### Counters (R176–R183) -/

/-- Configuration word of a programmable counter; mode 1 on bits 124–127 for an always-on counter (R181, R182). -/
def counterConfig (c : Core) (i : Nat) : Nat :=
  if i < 512 then c.num (oCountCtrConfiguration + i * 256)
  else
    let k := i - 512
    2 ^ 24 + k / 4 * 128 + (124 + k % 4)

/-- Bank of a counter (R178). -/
def counterBank (c : Core) (i : Nat) : Nat := bitsOf (counterConfig c i) 10 7

/-- Host domain of bank `b` (R178). -/
def bankDomain (c : Core) (b : Nat) : Nat := c.num (oCountBusDomain + b + 1)

/-- How much a counter adds in one cycle of its source bus, from the cycle's bits and the previous cycle's (Table 6.1). -/
def countStep (cfg : Nat) (now prev : U128) : Nat :=
  let src := bitsOf cfg 6 0
  let q := now.getLsbD (bitsOf cfg 22 16) != cfg.testBit 23
  match bitsOf cfg 26 24 with
  | 1 => if now.getLsbD src then 1 else 0
  | 2 => if now.getLsbD src && q then 1 else 0
  | 3 => 1
  | 4 => if now.getLsbD src && !prev.getLsbD src then 1 else 0
  | 5 => if q then 1 else 0
  | _ => 0

/-- Clear a counter and its four baselines, so its next delta of each set carries RESET (R181, R260). -/
def Capture.clearCounter (p : Capture) (i : Nat) : Capture :=
  { p with ctr := p.ctr.set i 0, base := p.base.map (fun b => b.set i 0), resets := p.resets.set i 15 }

/-- A counter's parity error (R260). -/
def parityError (x : CapSide) (i : Nat) : CapSide :=
  { x with core := (x.core.bump oPowerCtrParity).raise 0x0905 0x00 [i], cap := x.cap.clearCounter i }

/-- Latch bank `b` for the latch in progress, from the counters (R189). `cycle` is its domain's cycle in ns, rounded up. -/
def latchBank (x : CapSide) (l : LatchPart) (b cycle : Nat) : CapSide :=
  let d := bankDomain x.core b
  let off := x.cap.gated.testBit d
  let frozen := !off && x.cap.cgNote.testBit d
  let snap := (List.range 576).map (fun i =>
    if counterBank x.core i = b then x.cap.ctr.getD i 0 else x.cap.snap.getD i 0)
  let l' := { l with latched := l.latched ||| 2 ^ b,
                     off := if off then l.off ||| 2 ^ b else l.off,
                     frozen := if frozen then l.frozen ||| 2 ^ b else l.frozen,
                     uncertainty := if off || frozen then l.uncertainty else Nat.max l.uncertainty cycle }
  { x with cap := { x.cap with snap := snap, latch := some l' } }

/-- Whether bank `b` is armed and not yet latched. -/
def LatchPart.waits (l : LatchPart) (b : Nat) : Bool := l.armed.testBit b && !l.latched.testBit b

/-- Latch bank `b` by a cycle whose length no command names: a free value of at least 1 ns (log entry 3). -/
def latchFree (x : CapSide) (l : LatchPart) (b : Nat) : CapSide :=
  let r := x.core.draw 9 16
  latchBank { x with core := r.2 } l b (Nat.max 1 r.1.toNat)

/-- Latch the banks `pick` names that L_T has left waiting, before something changes what they would latch (Table 6.12): `after`
for a change at L_T itself that the latch already sees. -/
def latchDue (x : CapSide) (pick : Nat → Bool) (after : Bool) : CapSide :=
  (List.range 16).foldl (fun x b =>
    match x.cap.latch with
    | some l => if l.waits b && pick b && decide (x.core.ns ≥ l.lt + if after then 1 else 0) then latchFree x l b else x
    | none => x) x

/-- One domain cycle of a bus counted by the counters that select it (R176, R179, R181, R182). -/
def countBus (x : CapSide) (bus : Nat) (bits : U128) : CapSide :=
  let prev := x.cap.prev.getD bus 0
  let ctr := (List.range 576).map (fun i =>
    let cfg := counterConfig x.core i
    let v := x.cap.ctr.getD i 0
    if bitsOf cfg 10 7 = bus ∧ !x.cap.dead.contains i then v + BitVec.ofNat 64 (countStep cfg bits prev) else v)
  { x with cap := { x.cap with ctr := ctr, prev := x.cap.prev.set bus bits } }

/-- An alarm record's payload (Table 6.10). -/
def alarmPayload (value code source threshold relation entry : Nat) : Nat :=
  value % 2 ^ 64 * 2 ^ 64 + code % 256 * 2 ^ 56 + source % 256 * 2 ^ 48 + threshold % 256 * 2 ^ 40
    + relation % 256 * 2 ^ 32 + entry % 256 * 2 ^ 24

/-- Raise an alarm record at time `t` through the token bucket (R195, R196). -/
def raiseAlarm (x : CapSide) (t sub idx value code source threshold relation entry : Nat) : CapSide :=
  let r := mkRecord x.core t 0x10 .a (srcOf sub idx) (alarmPayload value code source threshold relation entry)
  let y := offerAlarm x.core x.buf r code entry
  { x with core := y.1, buf := y.2 }

/-- Always-on error alarms of a bus's cycle (Table 6.5, code 0x03): the four always-on counters of the bus, in index order. -/
def aoAlarms (x : CapSide) (bus : Nat) (bits : U128) (t : Nat) : CapSide :=
  (List.range 4).foldl (fun x j =>
    let k := 4 * bus + j
    if bits.getLsbD (124 + j) && !x.cap.dead.contains (512 + k) && (x.core.num oCountAoAlarmMask).testBit k then
      raiseAlarm x t 0x00 (512 + k) (x.cap.ctr.getD (512 + k) 0).toNat 0x03 3 0 0 0xFF
    else x) x

/-! ### Sensors (R184–R186, R196) -/

/-- Calibrated value of a raw reading under the calibration object whose element 0x00 is object number `o` (Table 2.7, R89). -/
def calibratedBy (c : Core) (o : Nat) (raw : FVal) : FVal :=
  calibrate raw (f32Val (c.num (o + 2))) (f32Val (c.num (o + 1))) (f32Val (c.num (o + 0x41))) (f32Val (c.num (o + 0x40)))

/-- Calibrated value of channel `ch` (R186). -/
def calibrated (c : Core) (ch : Nat) (raw : FVal) : FVal := calibratedBy c (0x0B010000 + ch * 256) raw

/-- A raw timestamp corrected to its package ball by the effective offset of a timestamp path, rounded to whole ns (R136, R89). -/
def correctStamp (c : Core) (o : Nat) (raw : Nat) : Int :=
  ftoInt (-(2 ^ 63)) (2 ^ 63 - 1)
    (fadd (fofInt raw) (effOffset (f32Val (c.num (o + 1))) (f32Val (c.num (o + 0x41))) (f32Val (c.num (o + 0x40)))))

/-- Keep a conversion as a channel's latest (R184). -/
def keepConversion (x : CapSide) (ch : Nat) (raw : FVal) (t : Nat) (valid stretch : Bool) : CapSide :=
  let v : Chan := { raw := toF32 raw, value := toF32 (calibrated x.core ch raw), time := t, valid := valid,
                    stretch := stretch, seen := true }
  let old := x.cap.chans.getD ch v
  let prev := if old.seen && decide (old.time = t) then x.cap.chansPrev else x.cap.chansPrev.set ch old
  { x with cap := { x.cap with chans := x.cap.chans.set ch v, chansPrev := prev } }

/-- Trip conditions of a valid conversion (Table 6.5, codes 0x01 and 0x02). -/
def checkTrip (x : CapSide) (ch t : Nat) : CapSide :=
  let v := x.cap.chans.getD ch { raw := 0, value := 0, time := 0, valid := false, stretch := false, seen := false }
  let val := f32Val v.value
  let disarmed := x.cap.tripped.contains ch
  let arm (x : CapSide) : CapSide := { x with cap := { x.cap with tripped := x.cap.tripped.filter (· != ch) } }
  let trip (x : CapSide) (code : Nat) : CapSide :=
    raiseAlarm { x with cap := { x.cap with tripped := ch :: x.cap.tripped } } t 0x01 ch (v.value % 2 ^ 32) code code 0 0 0xFF
  if !v.valid then x
  else if ch < 64 then
    let thr := f32Val (x.core.num oSenseThermalTrip)
    if disarmed then (if fle val (fsub thr (fofInt 2)) then arm x else x)
    else if fle thr val then trip x 0x01 else x
  else if ch < 88 then
    let thr := f32Val (x.core.num (oSenseDroopTrip + (ch - 64) + 1))
    if disarmed then (if fle thr val then arm x else x)
    else if flt val thr then trip x 0x02 else x
  else x

/-- A conversion of `SNS` (R184): a 16-bit code. -/
def snsConversion (x : CapSide) (ch code : Nat) (valid : Bool) : CapSide :=
  checkTrip (keepConversion x ch (fofInt (signedOf 16 code)) x.core.ns valid false) ch x.core.ns

/-! ### Program words (Table 6.4) -/

/-- A program word. -/
inductive PWord where
  | halt
  | snap (mask : Nat)
  | read (n first : Nat)
  | delta (set n first : Nat)
  | cmp (alarm : Bool) (code rel thr kind idx : Nat)
  | br (cond target : Nat)
  | emit (kind n first : Nat)
  | bad
deriving DecidableEq, Repr

/-- The word that 64 bits spell; `bad` for an undefined opcode, a refused field or a reserved field that is set (R190). -/
def decodeWord (w : Nat) : PWord :=
  let z (hi lo : Nat) : Bool := bitsOf w hi lo == 0
  match bitsOf w 63 58 with
  | 0 => if z 57 0 then .halt else .bad
  | 1 => if z 57 16 then .snap (bitsOf w 15 0) else .bad
  | 2 =>
    let n := bitsOf w 14 8
    let f := bitsOf w 6 0
    if z 57 15 && z 7 7 && decide (1 ≤ n) && decide (f + n ≤ 96) then .read n f else .bad
  | 3 =>
    let n := bitsOf w 25 16
    let f := bitsOf w 9 0
    if z 57 34 && z 31 26 && z 15 10 && decide (1 ≤ n) && decide (f + n ≤ 576) then .delta (bitsOf w 33 32) n f else .bad
  | 4 =>
    let al := w.testBit 49
    let code := bitsOf w 47 40
    let rel := bitsOf w 34 32
    let thr := bitsOf w 31 24
    let kind := bitsOf w 13 12
    let idx := bitsOf w 9 0
    if z 57 50 && z 48 48 && z 39 35 && z 23 14 && z 11 10 && decide (rel ≤ 5) && decide (1 ≤ thr) && decide (kind ≤ 2)
        && decide (idx < if kind = 2 then 96 else 576) && (!al || decide (code ≥ 0x10)) then .cmp al code rel thr kind idx
    else .bad
  | 5 => if z 57 12 && decide (bitsOf w 11 10 ≤ 2) then .br (bitsOf w 11 10) (bitsOf w 9 0) else .bad
  | 6 =>
    let n := bitsOf w 25 16
    let f := bitsOf w 9 0
    let k := bitsOf w 35 32
    if z 57 36 && z 31 26 && z 15 10 && decide (k ≤ 2) && decide (f + n ≤ if k = 2 then 96 else 576) then .emit k n f else .bad
  | _ => .bad

/-- The word at address `a` of a program; an address past word 0x3FF is a program error (R190). -/
def wordAt (words : List U64) (a : Nat) : PWord :=
  match words[a]? with
  | some w => decodeWord w.toNat
  | none => .bad

/-- Union of the masks of the SNAP words at the head of a program; `fuel` words at most (R188, R189). -/
def headMask (words : List U64) : Nat → Nat → Nat
  | 0, _ => 0
  | k + 1, a =>
    match wordAt words a with
    | .snap m => m ||| headMask words k (a + 1)
    | _ => 0

/-! ### Standard programs (Table 6.6) -/

/-- Words 0x000–0x01F over the ranges of COUNT.STD_RANGE and SENSE.STD_RANGE (R197). -/
def standardWords (countRange senseRange : Nat) : List U64 :=
  let cf := bitsOf countRange 9 0
  let cn := bitsOf countRange 25 16
  let sf := bitsOf senseRange 9 0
  let sn := bitsOf senseRange 25 16
  let w (n : Nat) : U64 := BitVec.ofNat 64 n
  let snapAll := w (1 * 2 ^ 58 + 0xFFFF)
  [snapAll, w (3 * 2 ^ 58 + 3 * 2 ^ 32 + cn * 2 ^ 16 + cf), w (2 * 2 ^ 58 + sn * 2 ^ 8 + sf),
   w (6 * 2 ^ 58 + 1 * 2 ^ 32 + cn * 2 ^ 16 + cf), w (6 * 2 ^ 58 + 2 * 2 ^ 32 + sn * 2 ^ 16 + sf), w 0]
    ++ List.replicate 10 (w 0)
    ++ [snapAll, w (3 * 2 ^ 58 + 2 * 2 ^ 32 + 64 * 2 ^ 16 + 512), w (6 * 2 ^ 58 + 1 * 2 ^ 32 + 64 * 2 ^ 16 + 512), w 0]
    ++ List.replicate 12 (w 0)

/-- The program store with the standard programs written over words 0x000–0x01F (R197). -/
def Capture.writeStandard (p : Capture) (c : Core) : Capture :=
  { p with prog := standardWords (c.num oCountStdRange) (c.num oSenseStdRange) ++ p.prog.drop 32 }

/-! ### Firings and stamps (R166–R169) -/

/-- Take the step, angle and angle status of a firing whose fire time has come (R165, R169). -/
def Firing.stampAt (f : Firing) (a : AnglePart) (t : Nat) : Firing :=
  if f.stamp.isNone && decide (f.fire ≤ t) then
    { f with stamp := some (a.step % 2 ^ 32, (if f.timeEntry then angleAt a f.fire else f.angle) / 65536,
                            a.statusByte f.fire false f.timeEntry) }
  else f

/-- Stamp every firing, queued or running, whose fire time is at or before `t`. -/
def Capture.stampDue (p : Capture) (a : AnglePart) (t : Nat) : Capture :=
  { p with queue := p.queue.map (fun f => f.stampAt a t),
           run := p.run.map (fun r => { r with fir := r.fir.stampAt a t }) }

/-- The sample header of a run (Table 6.7), its t_ns L_T and its step and angle those of R169. -/
def headerRecord (program : Nat) (sub lt : Nat) (stamp : Nat × Nat × Nat) (follow frozen off unc late entry tag runStatus : Nat) :
    Record :=
  { type := 0x01, flags := 0, cont := false, cls := .s, seq := 0, tns := BitVec.ofNat 32 lt,
    step := BitVec.ofNat 32 stamp.1, angle := BitVec.ofNat 16 stamp.2.1, src := srcOf sub program,
    payload := BitVec.ofNat 128 (follow % 65536 * 2 ^ 112 + frozen % 65536 * 2 ^ 96 + off % 65536 * 2 ^ 80
      + Nat.min unc 65535 * 2 ^ 64 + Nat.min late (2 ^ 32 - 1) * 2 ^ 32 + entry % 256 * 2 ^ 24 + tag % 256 * 2 ^ 16
      + stamp.2.2 % 256 * 256 + runStatus % 256) }

/-- Count an optional skip of entry `e` (R166, R167). -/
def skipOptional (c : Core) (e : Nat) : Core :=
  { c.bump (oAngleOptionalSkips + e) with angle := { c.angle with skipped := c.angle.skipped + 1 } }

/-- The queue with a firing behind those before it; firings at one nanosecond go in entry index order (R166). -/
def insertFiring (f : Firing) : List Firing → List Firing
  | [] => [f]
  | g :: rest =>
    if f.cut.isNone && g.cut.isNone && g.fire == f.fire && decide (f.entry < g.entry) then f :: g :: rest
    else g :: insertFiring f rest

/-- Put a firing into the sequencer's queue of 16, or lose it (R166). -/
def enqueueFiring (x : CapSide) (f : Firing) : CapSide :=
  if (x.cap.queue.filter (fun g => g.cut.isNone)).length < 16 then
    { x with cap := { x.cap with queue := insertFiring f x.cap.queue },
             core := { x.core with angle := { x.core.angle with fired := x.core.angle.fired + (if f.timeEntry then 0 else 1) } } }
  else if f.optional then { x with core := skipOptional x.core f.entry }
  else
    let c := x.core.bump oAngleQueueLosses
    let g := mkRecord c c.ns 0x50 .s (srcOf 0x00 f.program) (gapPayload 1 1 0x01 c.angle.step f.entry .s 0)
    let y := commitS c x.buf f.entry c.ns [g]
    { x with core := y.1, buf := y.2 }

/-! ### Runs (R187–R191) -/

/-- Start the run at the head of the queue (R188), or skip it when it is optional and too late (R166). -/
def startRun (x : CapSide) : CapSide :=
  match x.cap.run, x.cap.queue with
  | none, f :: rest =>
    let now := x.core.ns
    let cap := { x.cap with queue := rest }
    let latched := x.cap.latch.filter (fun l => l.fire == f.fire)
    let lt := match latched with
      | some l => l.lt
      | none => Nat.max f.fire now
    let late := lt - f.fire
    if f.optional && decide (f.lateLimit ≠ 0) && decide (late > f.lateLimit * 1000) then
      let c := skipOptional x.core f.entry
      let a := if f.timeEntry then c.angle else { c.angle with fired := c.angle.fired - 1 }
      { x with core := { c with angle := a }, cap := cap }
    else
      let core := if late > 0 then x.core.bump oAngleLateFirings else x.core
      let pre := (rest.filter (fun g => g.fire == f.fire)).foldl (fun m g => m ||| headMask x.cap.prog 1024 g.program) 0
      let latch := match latched with
        | some l => some l
        | none => some { fire := f.fire, lt := lt, armed := pre, latched := 0, frozen := 0, off := 0, uncertainty := 0 }
      let run : Run := { fir := f, start := now, lt := lt, lateness := late, words := x.cap.prog, pc := f.program,
                         flag := false, count := 0, staging := [], head := true, snapped := false, ready := now,
                         waited := false, alarm := false, trunc := false }
      { x with core := core, cap := { cap with run := some run, latch := latch } }
  | _, _ => x

/-- Whether a run may execute its next word: its cycles are spent and, past the SNAP words at its head, the latch wait is over
(R189); a run without a SNAP goes on at L_T. -/
def Run.ready? (r : Run) (now : Nat) (w : PWord) : Bool :=
  decide (now ≥ r.ready) && (match w with
    | .snap _ => r.head || r.waited
    | _ => if r.snapped then r.waited else decide (now ≥ r.lt))

/-- The instant at which a run's next word executes: never before L_T once the head is past. -/
def Run.at? (r : Run) : Nat := if r.snapped then r.ready else Nat.max r.ready r.lt

/-- Advance a run past a word of `cycles` cycles. -/
def Run.next (r : Run) (pc cycles : Nat) : Run :=
  { r with pc := pc, count := r.count + 1, ready := r.at? + cycles, head := false }

/-- Number of records an EMIT stages: two counters or two channels a record. -/
def emitCount (n : Nat) : Nat := (n + 1) / 2

/-- A counter record (Table 6.8) of counters `i` and, unless `single`, `i + 1`. -/
def counterRecord (x : CapSide) (r : Run) (kind i : Nat) (single : Bool) : Record :=
  let store := if kind = 0 then x.cap.snap else x.cap.delta
  let bank (j : Nat) := counterBank x.core j
  let both (p : Nat → Bool) : Bool := p i || (!single && p (i + 1))
  let l := x.cap.latch.getD { fire := 0, lt := 0, armed := 0, latched := 0, frozen := 0, off := 0, uncertainty := 0 }
  let fl := (if kind = 1 then 16 else 0) + (if both (fun j => l.frozen.testBit (bank j)) then 8 else 0)
    + (if both (fun j => l.off.testBit (bank j)) then 4 else 0)
    + (if kind = 1 && both (fun j => x.cap.deltaReset.getD j false) then 2 else 0) + (if single then 1 else 0)
  let st := r.fir.stamp.getD (0, 0, 0)
  { type := 0x02, flags := BitVec.ofNat 5 fl, cont := false, cls := .s, seq := 0, tns := BitVec.ofNat 32 r.lt,
    step := BitVec.ofNat 32 st.1, angle := BitVec.ofNat 16 st.2.1, src := srcOf 0x00 i,
    payload := BitVec.ofNat 128 ((store.getD i 0).toNat + (if single then 0 else (store.getD (i + 1) 0).toNat * 2 ^ 64)) }

/-- One 64-bit channel slot of a sensor record (Table 6.9) for latch time `lt`. -/
def sensorSlot (v : Chan) (ch lt : Nat) : Nat :=
  let raw : Int := ((v.time : Int) - lt).tdiv 1000
  let age : Int := if v.seen then satSigned 16 raw else 0
  let stale := !v.seen || decide (age ≠ raw)
  let inv := v.seen && !v.valid
  let value := if inv || !v.seen then nan32 else v.value
  value * 2 ^ 32 + wrapInt 16 age * 2 ^ 16 + ch % 256 * 256 + (if v.stretch then 4 else 0) + (if stale then 2 else 0)
    + (if inv then 1 else 0)

/-- A channel nothing has converted yet. -/
def Chan.none : Chan := { raw := nan32, value := nan32, time := 0, valid := false, stretch := false, seen := false }

/-- A sensor record (Table 6.9) of channels `i` and, unless `single`, `i + 1`. -/
def sensorRecord (x : CapSide) (r : Run) (i : Nat) (single : Bool) : Record :=
  let slot (j : Nat) := sensorSlot (x.cap.r.getD j Chan.none) j r.lt
  let st := r.fir.stamp.getD (0, 0, 0)
  { type := 0x03, flags := 0, cont := false, cls := .s, seq := 0, tns := BitVec.ofNat 32 r.lt,
    step := BitVec.ofNat 32 st.1, angle := BitVec.ofNat 16 st.2.1, src := srcOf 0x01 i,
    payload := BitVec.ofNat 128 (slot i + (if single then 0 else slot (i + 1) * 2 ^ 64)) }

/-- The records of an EMIT word (R190). -/
def emitRecords (x : CapSide) (r : Run) (kind n first : Nat) : List Record :=
  (List.range (emitCount n)).map (fun j =>
    let i := first + 2 * j
    let single := decide (2 * j + 1 = n)
    if kind = 2 then sensorRecord x r i single else counterRecord x r kind i single)

/-- Payload of a cut marker (Table 18.2), subtype 0x01. -/
def cutPayload (id late frozen off unc follow : Nat) (lateF jumped early : Bool) : Nat :=
  id % 2 ^ 32 * 2 ^ 96 + frozen % 65536 * 2 ^ 80 + off % 65536 * 2 ^ 64 + Nat.min unc 65535 * 2 ^ 48 + Nat.min late 65535 * 2 ^ 32
    + follow % 256 * 2 ^ 24 + (if lateF then 2 ^ 18 else 0) + (if jumped then 2 ^ 17 else 0) + (if early then 2 ^ 16 else 0) + 1

/-- A cut marker of a class (R458): t_ns L_T, step S, angle field A[31:16]. -/
def cutRecord (k : CutFire) (lt : Nat) (cls : RClass) (payload : Nat) : Record :=
  { type := 0x60, flags := 0, cont := false, cls := cls, seq := 0, tns := BitVec.ofNat 32 lt, step := BitVec.ofNat 32 k.step,
    angle := BitVec.ofNat 16 (k.angle / 65536), src := srcOf 0x00 0, payload := BitVec.ofNat 128 payload }

/-- Commit a run's sample and end the run (R191); a cut's chain has the class S marker in the header's place (R458): `status` adds the ABORT, program-error and word-limit bits. -/
def endRun (x : CapSide) (r : Run) (status : Nat) : CapSide :=
  let f := r.fir.stampAt x.core.angle (Nat.max x.core.ns r.fir.fire)
  let st0 := f.stamp.getD (0, 0, 0)
  let st := (st0.1, st0.2.1, st0.2.2 + (if r.lateness > 0 then 16 else 0))
  let l := x.cap.latch.getD { fire := 0, lt := 0, armed := 0, latched := 0, frozen := 0, off := 0, uncertainty := 0 }
  let rs := (if r.alarm then 1 else 0) + (if r.trunc then 2 else 0) + status
  let l := if r.snapped then l else { l with frozen := 0, off := 0, uncertainty := 0 }
  let h := headerRecord f.program 0x00 r.lt st r.staging.length l.frozen l.off l.uncertainty r.lateness f.entry f.tag rs
  let h := match f.cut with
    | some k => { cutRecord k r.lt .s (cutPayload k.id r.lateness l.frozen l.off l.uncertainty r.staging.length
        (decide (r.lateness > 0)) k.jumped k.early) with step := BitVec.ofNat 32 k.step }
    | none => h
  let recs := h :: r.staging.map (fun q => { q with step := BitVec.ofNat 32 st.1, angle := BitVec.ofNat 16 st.2.1 })
  let core := if r.trunc then (x.core.bump oRecordTruncations).raise 0x0602 0x00 [f.entry, st.1] else x.core
  let y := commitS core x.buf f.entry r.lt recs
  { core := if f.cut.isSome then { y.1 with cutLast := leBytes 16 h.payload.toNat } else y.1, buf := y.2,
    cap := { x.cap with run := none } }

/-- End a run as a program error at its current word (R190, R191). -/
def programError (x : CapSide) (r : Run) : CapSide :=
  let w := (r.words.getD r.pc 0).toNat
  endRun { x with core := (x.core.bump oRecordProgErrors).raise 0x0601 0x00 [r.fir.entry, r.pc, w] } r (4 + 8)

/-- Keep a run that has taken a word, or end it at the 4,096-word limit (R190). -/
def stepRun (x : CapSide) (r : Run) : CapSide :=
  if r.count ≥ 4096 then
    let w := (r.words.getD r.pc 0).toNat
    endRun { x with core := (x.core.bump oRecordProgErrors).raise 0x0601 0x00 [r.fir.entry, r.pc, w] } r (4 + 16)
  else { x with cap := { x.cap with run := some r } }

/-- Do a word of the run in progress when it may execute and `pick` accepts it; otherwise nothing happens. -/
def onWord (x : CapSide) (pick : PWord → Bool) (act : CapSide → Run → PWord → CapSide) : CapSide :=
  match x.cap.run with
  | none => x
  | some r =>
    let w := wordAt r.words r.pc
    if pick w && r.ready? x.core.ns w then
      let r := { r with fir := r.fir.stampAt x.core.angle x.core.ns }
      act { x with cap := { x.cap with run := some r } } r w
    else x

/-- SNAP (R189): at the head it arms the banks of its mask; after any other word it is a program error. -/
def doSnap (x : CapSide) : CapSide :=
  onWord x (fun w => match w with | .snap _ => true | _ => false) (fun x r w =>
    match w, x.cap.latch with
    | .snap m, some l =>
      if r.head then
        let r' := { r with pc := r.pc + 1, count := r.count + 1, ready := r.ready + 1, snapped := true }
        stepRun { x with cap := { x.cap with latch := some { l with armed := l.armed ||| m } } } r'
      else programError x r
    | _, _ => x)

/-- The conversion that a READ at time `t` takes: one that arrives in its own cycle is not yet the latest (R200). -/
def Capture.readable (p : Capture) (ch t : Nat) : Chan :=
  let v := p.chans.getD ch Chan.none
  if v.seen && decide (v.time = t) then p.chansPrev.getD ch Chan.none else v

/-- READ (R190): copy the latest conversions of a channel range into R. -/
def doRead (x : CapSide) : CapSide :=
  onWord x (fun w => match w with | .read _ _ => true | _ => false) (fun x r w =>
    match w with
    | .read n f =>
      let rs := (List.range 96).map (fun ch =>
        if f ≤ ch ∧ ch < f + n then x.cap.readable ch x.core.ns else x.cap.r.getD ch Chan.none)
      stepRun { x with cap := { x.cap with r := rs } } (r.next (r.pc + 1) n)
    | _ => x)

/-- DELTA (R190): D[i] = S[i] − Bs[i], then Bs[i] = S[i]. -/
def doDelta (x : CapSide) : CapSide :=
  onWord x (fun w => match w with | .delta _ _ _ => true | _ => false) (fun x r w =>
    match w with
    | .delta s n f =>
      let inR (i : Nat) : Bool := decide (f ≤ i) && decide (i < f + n)
      let b := x.cap.base.getD s []
      let d := (List.range 576).map (fun i =>
        if inR i then x.cap.snap.getD i 0 - b.getD i 0 else x.cap.delta.getD i 0)
      let b' := (List.range 576).map (fun i => if inR i then x.cap.snap.getD i 0 else b.getD i 0)
      let dr := (List.range 576).map (fun i =>
        if inR i then (x.cap.resets.getD i 0).testBit s else x.cap.deltaReset.getD i false)
      let rs := (List.range 576).map (fun i =>
        let m := x.cap.resets.getD i 0
        if inR i && m.testBit s then m - 2 ^ s else m)
      stepRun { x with cap := { x.cap with delta := d, base := x.cap.base.set s b', deltaReset := dr, resets := rs } }
        (r.next (r.pc + 1) ((n + 3) / 4))
    | _ => x)

/-- Relations of Table 6.4 on counters. -/
def relNat (rel a b : Nat) : Bool :=
  match rel with
  | 0 => decide (a < b) | 1 => decide (a ≤ b) | 2 => decide (a > b) | 3 => decide (a ≥ b) | 4 => a == b | 5 => a != b
  | _ => false

/-- Relations of Table 6.4 on sensor values; false for a NaN. -/
def relF32 (rel : Nat) (a b : FVal) : Bool :=
  match a, b with
  | .nan, _ => false
  | _, .nan => false
  | _, _ =>
    match rel with
    | 0 => flt a b | 1 => fle a b | 2 => flt b a | 3 => fle b a
    | 4 => fle a b && fle b a | 5 => !(fle a b && fle b a) | _ => false

/-- CMP (R190): set F from the comparison; with ALARM and F, emit an alarm record (R195). -/
def doCmp (x : CapSide) : CapSide :=
  onWord x (fun w => match w with | .cmp .. => true | _ => false) (fun x r w =>
    match w with
    | .cmp al code rel thr kind idx =>
      let t := x.core.num (oCountThreshold + thr)
      let ch := x.cap.r.getD idx Chan.none
      let v := if kind = 0 then (x.cap.snap.getD idx 0).toNat else if kind = 1 then (x.cap.delta.getD idx 0).toNat else ch.value % 2 ^ 32
      let f := if kind = 2 then ch.seen && ch.valid && relF32 rel (f32Val ch.value) (f32Val (t % 2 ^ 32)) else relNat rel v t
      let x := if f && al then raiseAlarm x r.at? 0x00 idx v code 0 thr rel r.fir.entry else x
      stepRun x { (r.next (r.pc + 1) 1) with flag := f, alarm := r.alarm || (f && al) }
    | _ => x)

/-- BR (R190). -/
def doBr (x : CapSide) : CapSide :=
  onWord x (fun w => match w with | .br _ _ => true | _ => false) (fun x r w =>
    match w with
    | .br c t => stepRun x (r.next (if c = 0 ∨ (c = 1 ∧ r.flag) ∨ (c = 2 ∧ ¬ r.flag) then t else r.pc + 1) 1)
    | _ => x)

/-- EMIT (R191): append records to the staging area of 255; beyond it TRUNC is set. -/
def doEmit (x : CapSide) : CapSide :=
  onWord x (fun w => match w with | .emit .. => true | _ => false) (fun x r w =>
    match w with
    | .emit k n f =>
      let recs := emitRecords x r k n f
      let room := 255 - r.staging.length
      stepRun x { (r.next (r.pc + 1) (emitCount n)) with
        staging := r.staging ++ recs.take room, trunc := r.trunc || decide (recs.length > room) }
    | _ => x)

/-- HALT (R191): commit the sample and end. -/
def doHalt (x : CapSide) : CapSide :=
  onWord x (fun w => w == .halt) (fun x r _ => endRun x r 0)

/-- A word that is a program error ends the run (R190); an uncorrectable word also counts (R259). -/
def doBadWord (x : CapSide) (uncorrectable : Bool) : CapSide :=
  onWord x (fun w => w == .bad || uncorrectable) (fun x r _ =>
    let c := if uncorrectable then (x.core.bump oPowerEccUncorrected).raise 0x0906 0x00 [0, r.pc] else x.core
    programError { x with core := c } r)

/-- End of the latch wait (R189): late banks latch from the counters, and the run resumes. -/
def endLatchWait (x : CapSide) : CapSide :=
  match x.cap.run, x.cap.latch with
  | some r, some l =>
    let w := x.core.num oCountLatchWait
    if r.snapped && !r.waited && decide (x.core.ns ≥ r.lt + w) then
      let late := (List.range 16).filter (fun b => l.waits b)
      let y := late.foldl (fun (x : CapSide) b =>
        match x.cap.latch with
        | some l => let x := latchBank x l b w
                    { x with core := x.core.raise 0x0607 0x00 [b, r.fir.entry] }
        | none => x) x
      let latch := y.cap.latch.map (fun l => if late.isEmpty then l else { l with uncertainty := w })
      { y with cap := { y.cap with latch := latch, run := some { r with waited := true, ready := Nat.max r.ready (r.lt + w) } } }
    else x
  | _, _ => x

/-- Latch of one armed bank at L_T (R189). -/
def doBankLatch (x : CapSide) (b cycle : Nat) (parity : Option Nat) : CapSide :=
  let x := match parity with
    | some i => if decide (i < 576) && counterBank x.core i == b then parityError x i else x
    | none => x
  match x.cap.latch with
  | some l => if l.waits b && decide (x.core.ns ≥ l.lt) then latchBank x l b cycle else x
  | none => x

/-- One domain cycle of an event bus whose synchronised time is `t` (R176, R189): a bank armed for a latch time at or before `t`
latches first. -/
def busCycle (x : CapSide) (bus : Nat) (bits : U128) (t : Nat) (parity : Option Nat) : CapSide :=
  let d := bankDomain x.core bus
  if bus ≥ 16 ∨ x.cap.cgNote.testBit d ∨ x.cap.gated.testBit d then x
  else
    let x := match x.cap.latch with
      | some l => if l.waits bus && decide (t ≥ l.lt) then latchFree x l bus else x
      | none => x
    let x := match parity with
      | some i => if decide (i < 576) && counterBank x.core i == bus then parityError x i else x
      | none => x
    aoAlarms (countBus x bus bits) bus bits t

/-- End of a frequency-monitor window (R185): `cycles` of its domain. -/
def fmonWindow (x : CapSide) (f cycles : Nat) (stretch : Bool) : CapSide :=
  let win := x.core.num oSenseFmonWindow
  let last := x.cap.fmonAt.getD f 0
  if f ≥ 8 ∨ x.core.ns < last + win ∨ win = 0 then x
  else
    let s := stretch || x.cap.stretched.contains f
    let x := keepConversion x (88 + f) (r32 (fofRat (cycles * 1000 : Nat) win)) x.core.ns true s
    { x with cap := { x.cap with fmonAt := x.cap.fmonAt.set f x.core.ns, stretched := x.cap.stretched.filter (· != f) } }

/-- End of a stretch interval of monitor `f`, of `len` ns (R185). -/
def stretchEnd (x : CapSide) (f len : Nat) : CapSide :=
  if f ≥ 8 then x
  else { x with core := (x.core.count (oSenseStretchNs + f + 1) len).bump (oSenseStretchCount + f + 1),
                cap := { x.cap with stretched := f :: x.cap.stretched.filter (· != f) } }

/-- Emit the pending gaps of a class when space has returned (R192, R195). -/
def emitPending (x : CapSide) (cls : RClass) : CapSide :=
  let full : Bool := match cls with
    | .s => decide (x.buf.s.length ≥ Nat.min (x.core.num oRecordSpillLevel) (shareS x.core x.buf))
    | .a => decide (x.buf.a.length ≥ 256)
    | _ => false
  let toRing := x.buf.linkRing cls || full
  if !toRing || decide (x.buf.ring.length + 2 ≤ ringCap x.core x.buf) then
    let y := flushGaps x.core x.buf cls toRing
    { x with core := y.1, buf := if cls = .s then { y.2 with lossEpisode := false } else y.2 }
  else x

/-- A class C slot frees: the oldest waiting class C record is placed (R535). -/
def placeWaitingC (x : CapSide) : CapSide :=
  match x.buf.waitC with
  | h :: rest =>
    if !x.buf.linkRing .c && decide (x.buf.c.length < 256) then
      { x with buf := { x.buf with waitC := rest, c := x.buf.c ++ [h] } }
    else match ringPut x.core { x.buf with waitC := rest } [h] with
      | some y => { x with core := y.1, buf := y.2 }
      | none => x
  | [] => x

end Sys2Proof.Machine
end

