-- ==== Sys2Proof/Machine/HaloGroup.lean ====
section
/-! DEFINITION. Halo in a group (spec/04): PTP (R140, R141), Drizzle exchanges and member servos (R133–R138), the reference, 1PPS and time of day (R125, R128, R530, R531), outputs and triggers (R150–R152). -/
namespace Sys2Proof.Machine

/-- Output pins of the model: 0 1PPS, 1 10 MHz, 10–13 trigger outputs, 20 `ALERT_N`, 21 `THERM_TRIP_N` as asserted. -/
def pinPps : Nat := 0
def pinTen : Nat := 1
def pinTrig (i : Nat) : Nat := 10 + i

/-! ### Time/sync records and steps -/

/-- The group emits a time/sync record (Table 4.5). -/
def Group.emitTimeRec (g : Group) (payload : Nat) : Group :=
  g.emit (mkRecord g.core g.core.ns 0x40 .c (ownSrc 0x70 0) payload)

/-- A quality change is recorded (subtype 0x03) when the byte differs from `old`. -/
def Group.qualityChange (g : Group) (old : Byte) : Group :=
  if g.quality = old then g else g.emitTimeRec (timePayload 0 0 0 false old.toNat g.quality.toNat 0x03)

/-- A member lane of the tray, changed. -/
def Group.onLane (g : Group) (n : Nat) (f : FabLane → FabLane) : Group := { g with lanes := modAt g.lanes n f }

/-- A member servo, changed. -/
def Group.onMember (g : Group) (n : Nat) (f : MemberServo → MemberServo) : Group := { g with halo := { g.halo with members := modAt g.halo.members n f } }

/-- A member servo before its first exchange. -/
def MemberServo.fresh : MemberServo :=
  { mode := .unlocked, adj := 0, integ := 0, bad := 0, valid := 0, theta := 0, delay := 0, missed := 0, episode := false, quality := 0xEF,
    bound := 0, oldQuality := 0xEF, t1 := none }

/-- Command a step to a lane: the next step id, 1 to 255 (Table 10.4). -/
def Group.laneStep (g : Group) (n : Nat) (s : Int) : Group :=
  g.onLane n (fun l => let id := l.stepId % 255 + 1; { l with stepId := id, step := some (s, id) })

/-- A step of Halo's own time has been taken: every locked Drizzle member is commanded the same step (R134), and the group records it. -/
def Group.stepped (g : Group) (s : Int) : Group :=
  let g := (List.range g.halo.members.length).foldl (fun g n =>
    if (g.halo.members.getD n MemberServo.fresh).mode = .locked then g.laneStep n s else g) g
  g.emitTimeRec (timePayload (wrapInt 64 s) 0 0 false 0 g.quality.toNat 0x02)

/-- Step Halo's own clock outside the servo (R125, R530). -/
def Group.stepOwn (g : Group) (s : Int) : Group :=
  if s = 0 then g
  else
    let g := { g with core := (g.core.stepClock false g.core.noSrc g.core.up s).bump oTimeSteps }
    g.stepped s

/-- An accepted exchange with the group's own phase source. -/
def Group.ownExchange (g : Group) (src : Nat) (theta delay : Int) : Group :=
  let old := g.quality
  let r := g.core.ownExchange g.core.up src theta delay
  let g := { g with core := r.1 }
  let g := match r.2 with | some s => g.stepped s | none => g
  g.qualityChange old

/-! ### PTP (R140, R141) -/

/-- Timestamp calibration objects of a PTP port: TX, and RX 0x100 above (Table 4.11); management ports are 24 and 25. -/
def Core.ptpCal (c : Core) (port : Nat) : Nat :=
  if port ≥ 24 then 0x0B064000 + (port - 24) * 0x200 else 0x0B060000 + (c.skyMap port).first * 0x200

/-- Port data of a PTP port that has exchanged nothing. -/
def PtpPort.fresh (port : Nat) : PtpPort :=
  { port := port, sync := none, meanDelay := 0, lastSync := none, req := none, resp := none, clockClass := 248, accuracy := 0, byte := 0xEF,
    seq := 0, heard := none, lastDue := 0, lastAnn := 0 }

/-- PTP data of a port. -/
def Group.ptpPort (g : Group) (p : Nat) : PtpPort := (g.halo.ptp.find? (fun x => x.port == p)).getD (PtpPort.fresh p)

/-- Replace the PTP data of a port. -/
def Group.setPtp (g : Group) (x : PtpPort) : Group :=
  let l := g.halo.ptp
  let l := if l.any (fun y => y.port == x.port) then modWhere (fun y => y.port == x.port) (fun _ => x) l else l ++ [x]
  { g with halo := { g.halo with ptp := l } }

/-- The port Halo follows as a slave (Table 4.4), and the source code of TIME_LOCKED; none where the phase source is no PTP port. -/
def Group.slavePort (g : Group) : Option Nat :=
  match g.core.num oTimePhaseSrc with
  | 0 => g.core.parentPort g.core.time.useP1
  | 1 => some 24
  | 2 => some 25
  | 3 => (g.core.portsOf 4).head?
  | _ => none

/-- State code a source's report stands for (R130, R141): a source outside the tree that reports no byte counts as 0. -/
def srcStateOf (clockClass quality : Nat) : Nat :=
  match clockClass with
  | 13 => 1
  | 248 => 7
  | 7 => if 2 ≤ quality / 32 ∧ quality / 32 ≤ 5 then quality / 32 else 2
  | 52 => if 2 ≤ quality / 32 ∧ quality / 32 ≤ 5 then quality / 32 else 2
  | _ => 0

/-- What a port's last announce says of the source becomes Halo's (R130): state and bound. -/
def Group.follow (g : Group) (p : Nat) : Group :=
  let x := g.ptpPort p
  let b := if g.core.num oTimePhaseSrc = 0 then (if x.byte % 16 = 15 then Nat.max x.accuracy (4 ^ 15) else 4 ^ (x.byte % 16)) else x.accuracy
  { g with core := { g.core with time := { g.core.time with srcState := srcStateOf x.clockClass x.byte, bParent := b } } }

/-- A complete Sync at a slave port: θ is the local time of its arrival less the master's and the path delay. A Sync on P0 while P1 is
in use brings the phase source back to P0. -/
def Group.syncDone (g : Group) (p t1 t2 : Nat) : Group :=
  let x := g.ptpPort p
  let back := g.core.num oTimePhaseSrc == 0 && g.core.time.useP1 && g.core.parentPort false == some p
  let g := if back then ({ g with core := ({ g.core with time := { g.core.time with useP1 := false } }).raise 0x0406 0x70 [0] } : Group).follow p else g
  let g := g.setPtp { x with sync := none, lastSync := some (t1, t2), heard := some g.core.up }
  if g.slavePort = some p then
    g.ownExchange (g.core.num oTimePhaseSrc) ((t2 : Int) - t1 - x.meanDelay) x.meanDelay
  else g

/-- A PTP message arrives on a port (R140). Event messages are stamped now, corrected for the receive path. -/
def Group.ptp (g : Group) (p : Nat) (m : PtpMsg) : Group :=
  let x := g.ptpPort p
  let rx := (correctStamp g.core (g.core.ptpCal p + 0x100) g.core.ns).toNat
  let tx := (correctStamp g.core (g.core.ptpCal p) g.core.ns).toNat
  match m with
  | .sync _ (some t1) => g.syncDone p t1 rx
  | .sync seq none => g.setPtp { x with sync := some (seq, rx) }
  | .followUp seq t1 =>
    match x.sync with
    | some (s, t2) => if s = seq then g.syncDone p t1 t2 else g
    | none => g
  | .pdelayReq seq => { g with core := g.core.send (.ptp p 3 [seq, rx, tx]) }
  | .pdelayResp seq t2 =>
    match x.req with
    | some (s, _) => if s = seq then g.setPtp { x with resp := some (t2, rx) } else g
    | none => g
  | .pdelayRespFollowUp seq t3 =>
    match x.req, x.resp with
    | some (s, t1), some (t2, t4) =>
      if s = seq then g.setPtp { x with meanDelay := (((t4 : Int) - t1) - ((t3 : Int) - t2)).fdiv 2, req := none, resp := none } else g
    | _, _ => g
  | .delayReq seq => { g with core := g.core.send (.ptp p 9 [seq, rx]) }
  | .delayResp seq t4 =>
    match x.req, x.lastSync with
    | some (s, t3), some (t1, t2) =>
      if s = seq then g.setPtp { x with meanDelay := (((t2 : Int) - t1) + ((t4 : Int) - t3)).fdiv 2, req := none } else g
    | _, _ => g
  | .announce cc acc q =>
    let g := g.setPtp { x with clockClass := cc, accuracy := acc, byte := q }
    if g.slavePort = some p then (g.follow p).qualityChange g.quality else g

/-- clockClass of the group (R141). -/
def Group.clockClass (g : Group) : Nat :=
  match g.quality.toNat / 32 with
  | 0 => 6 | 1 => 13 | 7 => 248 | _ => if g.core.heldDay g.core.up then 52 else 7

/-- logSyncInterval in ns: 2^TIME.PTP_LOG_SYNC seconds. -/
def Core.syncNs (c : Core) : Nat :=
  let l := signedOf 32 (c.num oTimePtpLogSync)
  1000000000 / 2 ^ (-l).toNat

/-- Whether a port sends Sync and Announce (Table 4.4): member and Vantage ports in Up, and the management ports. -/
def Group.isMaster (g : Group) (p : Nat) : Bool :=
  p == 24 || p == 25 || (g.portUp p && decide ((g.core.skyMap p).lanes ≠ 0) && ((g.core.skyMap p).role == 2 || (g.core.skyMap p).role == 4))

/-- The sync and announce intervals of a port (Table 4.4): Sync, Follow_Up and Announce on a master port; a delay request on the slave port, and on the
passive parent port, whose path delay is measured too. -/
def Group.ptpDue (g : Group) (p : Nat) : Group :=
  let x := g.ptpPort p
  if g.core.up < x.lastDue + g.core.syncNs then g
  else
    let tx := (correctStamp g.core (g.core.ptpCal p) g.core.ns).toNat
    let seq := (x.seq + 1) % 65536
    let parent := (g.core.parentPort false == some p || g.core.parentPort true == some p) && g.portUp p
    if g.slavePort = some p ∨ parent then
      ({ g with core := g.core.send (.ptp p (if p ≥ 24 then 1 else 2) [seq, tx]) }).setPtp { x with seq := seq, req := some (seq, tx), resp := none, lastDue := g.core.up }
    else if g.isMaster p then
      let c := (g.core.send (.ptp p 0 [seq])).send (.ptp p 8 [seq, tx])
      let ann := decide (g.core.up ≥ x.lastAnn + 1000000000)
      let c := if ann then c.send (.ptp p 11 [g.clockClass, g.core.uNow false g.core.noSrc g.core.up, g.quality.toNat]) else c
      ({ g with core := c }).setPtp { x with seq := seq, lastDue := g.core.up, lastAnn := if ann then g.core.up else x.lastAnn }
    else g

/-! ### Loss and return of sources (Table 4.2, R128, R530, R531) -/

/-- Interval between exchanges with the phase source: a second from a 1PPS edge to the next, else the sync interval. -/
def Core.srcNs (c : Core) : Nat := if c.num oTimePhaseSrc = 4 then 1000000000 else c.syncNs

/-- P1 when it is valid (Table 4.2): in Up, heard within 3 sync intervals, announced by a source that is not unlocked. -/
def Group.validP1 (g : Group) : Option Nat :=
  match g.core.parentPort true with
  | some p =>
    let x := g.ptpPort p
    let heard := match x.heard with | some t => decide (g.core.up < t + 3 * g.core.syncNs) | none => false
    if g.portUp p && heard && x.clockClass != 248 then some p else none
  | none => none

/-- Three sync intervals without the phase source: P1 takes over when it is valid, otherwise holdover. -/
def Group.phaseLoss (g : Group) : Group :=
  if g.core.noSrc ∨ g.core.up < g.core.time.lastSync + 3 * g.core.srcNs then g
  else
    let t := g.core.time
    let p1 := if t.mode = .locked ∧ g.core.num oTimePhaseSrc = 0 ∧ !t.useP1 then g.validP1 else none
    match p1 with
    | some p => ({ g with core := ({ g.core with time := { t with useP1 := true, lastSync := g.core.up } }).raise 0x0406 0x70 [1] } : Group).follow p
    | none =>
      let old := g.quality
      ({ g with core := g.core.sourceLoss false g.core.up }).qualityChange old

/-- The rack reference is lost: the oscillator moves to holdover (Table 4.2). -/
def Group.refLoss (g : Group) : Group :=
  if !g.core.time.refPresent then g
  else
    let old := g.quality
    let noSrc := g.core.noSrc
    let c : Core := { g.core with time := { g.core.time with refPresent := false } }
    let c := if c.time.mode = .locked then
        { (c.enterHoldover false noSrc c.up 1) with time := { (c.enterHoldover false noSrc c.up 1).time with bEntry := if noSrc then 0 else g.core.bound false noSrc c.up } }
      else c
    ({ g with core := c }).qualityChange old

/-- The rack reference returns. With TIME.FREQ_SRC 1 Halo keeps its holdover oscillator (R154). -/
def Group.refBack (g : Group) : Group :=
  if g.core.time.refPresent ∨ g.core.num oTimeFreqSrc ≠ 0 then g
  else
    let old := g.quality
    let noSrc := g.core.noSrc
    let c : Core := { g.core with time := { g.core.time with refPresent := true } }
    let c := if c.time.mode = .holdover ∧ !c.time.forced ∧ (noSrc ∨ !c.time.sourceLost) then
        c.exitHoldover false noSrc c.up (c.num oTimePhaseSrc) c.time.theta false
      else c
    ({ g with core := c }).qualityChange old

/-- TIME.FORCE_STATE at a group (R531). -/
def Group.force (g : Group) (n : Nat) : Group :=
  let old := g.quality
  let noSrc := g.core.noSrc
  let c := if n = 1 then g.core.enterHoldover false noSrc g.core.up 2
    else
      let c : Core := { g.core with time := { g.core.time with forced := false, sourceLost := false } }
      if !noSrc then { c with time := { c.time with mode := .acquiring, holdSince := none } }
      else
        let c := if c.time.mode = .holdover then c.exitHoldover false true c.up 0 0 false else c
        if c.time.refPresent then c else c.enterHoldover false true c.up 1
  ({ g with core := c }).qualityChange old

/-- Holdover has lasted 24 h: u is 15 (R130). -/
def Group.holdoverLimit (g : Group) : Group :=
  if g.core.heldDay g.core.up ∧ !g.core.time.dayNoted then
    let old := qualityByte (g.core.qState false g.core.noSrc) (steppedAtTime g.core.time g.core.ns) (uClass (g.core.bound false g.core.noSrc g.core.up))
    ({ g with core := { g.core with time := { g.core.time with dayNoted := true } } }).qualityChange old
  else g

/-! ### 1PPS and time of day (R125, R530) -/

/-- A value committed to TIME.TOD_SET: at a root without a phase source it takes effect at once, else at the next 1PPS edge. -/
def Group.todSet (g : Group) (v : Nat) : Group :=
  if g.core.noSrc then g.stepOwn ((v : Int) - g.core.ns)
  else { g with core := { g.core with time := { g.core.time with tod := some (v, g.core.up) } } }

/-- A rising edge of the 1PPS input at a root with phase source 4. The pending time of day becomes Halo time; otherwise the edge is an
exchange with the whole second nearest it. -/
def Group.ppsIn (g : Group) : Group :=
  if g.core.num oTimePhaseSrc ≠ 4 ∨ !g.core.isRoot then g
  else
    let at_ := correctStamp g.core 0x0B065000 g.core.ns
    let off := (g.core.effective 0x0B065080)
    let b := 20 + (ftoInt (-(2 ^ 31)) (2 ^ 31) (f32Val (ofLe off))).natAbs
    let c : Core := { g.core with time := { g.core.time with srcState := 0, bParent := b } }
    let g := { g with core := c }
    match c.time.tod with
    | some (v, _) =>
      let g := { g with core := { c with time := { c.time with tod := none } } }
      let g := g.stepOwn ((v : Int) - at_)
      g.ownExchange 4 0 0
    | none =>
      let s := (at_ + 500000000).fdiv 1000000000 * 1000000000
      g.ownExchange 4 (at_ - s) 0

/-- No 1PPS edge within 2 s of the commit instant (R125): the value takes effect, in state 1. -/
def Group.todTimeout (g : Group) : Group :=
  match g.core.time.tod with
  | some (v, t) =>
    if g.core.up ≥ t + 2000000000 then
      let old := g.quality
      let g := { g with core := { g.core with time := { g.core.time with tod := none } } }
      let g := g.stepOwn ((v : Int) - g.core.ns)
      let c : Core := { g.core with time := { g.core.time with srcState := 1 } }
      let c := if c.time.mode = .locked then c else c.lockOrHold c.up 4 0
      ({ g with core := c }).qualityChange old
    else g
  | none => g

/-! ### Drizzle exchanges (R136–R138) -/

/-- The quality byte and bound a member is to report (R130, R138): its lane adds 4 ns and its offset. -/
def Group.memberQuality (g : Group) (m : MemberServo) : Byte × Nat :=
  let st := g.core.qState false g.core.noSrc
  let b := g.core.bound false g.core.noSrc g.core.up + 4 + m.theta.natAbs
  let u := if g.core.uNow false g.core.noSrc g.core.up = 15 then 15 else uClass b
  match m.mode with
  | .locked => (qualityByte st (steppedAtTime g.core.time g.core.ns) u, b)
  | .holdover => (qualityByte 6 false u, b)
  | _ => (0xEF, b)

/-- The lane of a port has a SERVO item to send with a member's rate, byte and bound. -/
def Group.memberReport (g : Group) (n : Nat) : Group :=
  let m := g.halo.members.getD n MemberServo.fresh
  let q := g.memberQuality m
  (g.onMember n (fun m => { m with quality := q.1, bound := q.2 })).onLane n (fun l => { l with servo := true })

/-- A member's exchange is missed; three in a row lose the member's source (R128). -/
def Group.memberMissed (g : Group) (n : Nat) : Group :=
  g.onMember n (fun m =>
    let k := m.missed + 1
    { m with missed := k, mode := if k ≥ 3 ∧ m.mode = TimeMode.locked then .holdover else m.mode, valid := if m.mode = .unlocked then 0 else m.valid })

/-- TIME.SYNC_INTERVAL has passed: a TIME_REQ goes out on lane `n` (R136). An exchange still open, or none for want of the lane, counts as missed. -/
def Group.timeReq (g : Group) (n : Nat) : Group :=
  match g.lanes[n]? with
  | none => g
  | some l =>
    if g.core.up < l.reqAt + 1000 * g.core.num oTimeSyncInterval then g
    else if l.lane.phy.state ≠ .up then (g.memberMissed n).onLane n (fun l => { l with reqAt := g.core.up })
    else
      let g := if l.waiting then g.memberMissed n else g
      let id := (l.exch + 1) % 2 ^ 24
      g.onLane n (fun l => { l with exch := id, waiting := true, reqAt := g.core.up, lane := { l.lane with tx := { l.lane.tx with req := some id } } })

/-- The member's acquire branch (R133): a step is commanded once, the rate learned is kept. -/
def Group.memberAcquire (g : Group) (n : Nat) (theta : Int) : Group :=
  let g := match acquireStep g.core.servo theta with
    | some s => (g.laneStep n s).onMember n (fun m => { m with theta := 0 })
    | none => g
  g.onMember n (fun m => { m with integ := m.adj, bad := 0, mode := .locked, valid := 0 })

/-- The member's locked branch. -/
def Group.memberServo (g : Group) (n : Nat) (theta : Int) : Group :=
  g.onMember n (fun m => let r := servoUpdate g.core.servo m.integ theta; { m with integ := r.1, adj := r.2, bad := 0, mode := .locked })

/-- An accepted exchange with a member (R133, Table 4.2). -/
def Group.memberExchange (g : Group) (n : Nat) (theta delay : Int) : Group :=
  let g := (g.onMember n (fun m => { m with theta := theta, delay := delay, missed := 0, episode := false })).onCore (fun c => c.usePair oTimeStepThreshold oTimeRelockThreshold)
  let m := g.halo.members.getD n MemberServo.fresh
  let far := decide (theta.natAbs > g.core.servo.relockThr)
  let g := match m.mode with
    | .unlocked => if m.valid + 1 ≥ 3 then g.memberAcquire n theta else g.onMember n (fun m => { m with valid := m.valid + 1 })
    | .acquiring => g.memberAcquire n theta
    | .holdover => if far then g.memberAcquire n theta else g.memberServo n theta
    | .locked =>
      if far then g.onMember n (fun m => { m with bad := m.bad + 1, mode := if m.bad + 1 ≥ 3 then .acquiring else .locked })
      else g.memberServo n theta
  g.memberReport n

/-- A TIME_RSP item on lane `n` (R136, R137): `t2` corrected, `d` = t3 − t2, the exchange id and the step id applied. -/
def Group.timeRsp (g : Group) (n t2 d id stepId : Nat) : Group :=
  match g.lanes[n]? with
  | none => g
  | some l =>
    let g := g.onLane n (fun l => match l.step with
      | some (_, k) => if k = stepId then { l with step := none } else l
      | none => l)
    if !l.waiting ∨ id ≠ l.exch then g
    else
      let m := g.halo.members.getD n MemberServo.fresh
      let g := g.onLane n (fun l => { l with waiting := false })
      match m.t1 with
      | none => g
      | some t1 =>
        let t4 := correctStamp g.core (0x0B040100 + n * 0x200) g.core.ns
        let x := exchangeOf t1 t2 (t2 + d) t4
        if x.2 < 0 ∨ x.2 > 100 then
          let c := if m.episode then g.core else g.core.raise 0x0407 0x70 [n, wrapInt 64 x.2]
          ({ g with core := c }).onMember n (fun m =>
            let k := m.missed + 1
            { m with missed := k, episode := true, mode := if k ≥ 3 ∧ m.mode = TimeMode.locked then .holdover else m.mode, valid := 0 })
        else g.memberExchange n x.1 x.2

/-! ### Outputs and triggers (R150–R152) -/

/-- Whether the outputs run: every state but 7. -/
def Group.outputsRun (g : Group) : Bool := g.core.qState false g.core.noSrc != 7

/-- Halo time has reached a whole second (R150). -/
def Group.ppsOut (g : Group) : Group :=
  let s := g.core.ns / 1000000000
  if s ≤ g.halo.ppsSecond ∨ !g.outputsRun then g
  else
    let g := { g with halo := { g.halo with ppsSecond := s } }
    let g := if g.core.flag oVantagePpsOutEn then
        { g with halo := { g.halo with pps := true, ppsFall := some (s * 1000000000 + g.core.num oVantagePpsOutWidth) }, core := g.core.send (.pin pinPps true) }
      else g
    if g.core.flag oVantageTenmhzOutEn then { g with core := g.core.send (.pin pinTen true) } else g

/-- VANTAGE.PPS_OUT_WIDTH after a whole second the 1PPS output falls. -/
def Group.ppsFallDue (g : Group) : Group :=
  match g.halo.ppsFall with
  | some t => if t ≤ g.core.ns then { g with halo := { g.halo with pps := false, ppsFall := none }, core := g.core.send (.pin pinPps false) } else g
  | none => g

/-- In state 7 both outputs are held low (R150). -/
def Group.holdLow (g : Group) : Group :=
  if g.outputsRun ∨ !g.halo.pps then g
  else { g with halo := { g.halo with pps := false, ppsFall := none }, core := (g.core.send (.pin pinPps false)).send (.pin pinTen false) }

/-- A trigger descriptor (Table 4.7). -/
structure TrigDesc where
  width : Nat
  start : Nat
  angle : Nat
  period : Nat
  count : Nat
  low : Bool
  mode : Nat
deriving DecidableEq, Repr

/-- Fields of the 32 bytes; `start` is the first firing's total ns in mode 1, the first step in mode 2. -/
def trigDesc (b : Bytes) : TrigDesc :=
  let mode := leAt b 0 1
  { width := leAt b 28 4, start := if mode = 2 then leAt b 16 8 else ofTime80 (leAt b 16 10), angle := leAt b 12 4, period := leAt b 4 8,
    count := leAt b 2 2, low := (leAt b 1 1).testBit 0, mode := mode }

/-- Status of a descriptor (R151). -/
def checkTrig (b : Bytes) : Nat :=
  let d := trigDesc b
  if b.length ≠ 32 then eRange
  else if leAt b 26 2 ≠ 0 ∨ leAt b 1 1 / 2 ≠ 0 ∨ (d.mode = 2 ∧ leAt b 24 2 ≠ 0) then eReserved
  else if d.mode > 2 then eRange
  else if d.mode = 0 then stOk
  else if d.width < 10 ∨ d.width > 1000000000 then eRange
  else if d.mode = 1 ∧ d.period ≠ 0 ∧ d.period ≤ d.width + 10 then eRange
  else stOk

/-- Descriptor of trigger `i`. -/
def Core.trig (c : Core) (i : Nat) : TrigDesc := trigDesc (c.get (oVantageTrigDesc + i + 1))

/-- First firing a descriptor has from now on, as a time (mode 1) or a step (mode 2); none where its one firing time has passed. Firing times that lie
before the commit are not reached (R152). -/
def Group.trigFirst (g : Group) (d : TrigDesc) : Option Nat :=
  if d.mode = 2 then
    let a := g.core.angle
    some (Nat.max d.start (if a.isLocked && decide (fireTime a.tm a.lq d.angle < g.core.ns) then a.step + 1 else 0))
  else if g.core.ns ≤ d.start then some d.start
  else if d.period = 0 then none
  else some (d.start + roundUp (g.core.ns - d.start) d.period)

/-- A descriptor takes effect at its commit: the output goes to its inactive level. -/
def Group.trigStart (g : Group) (i : Nat) : Group :=
  let d := g.core.trig i
  let first := g.trigFirst d
  { g with halo := { g.halo with trig := g.halo.trig.set i { level := d.low, pulseEnd := none, fired := 0, next := first.getD 0, done := first.isNone } } }

/-- A trigger fires at time `t` (R152): pulse, record of subtype 0x04, next firing or the end. -/
def Group.trigFire (g : Group) (i t sched : Nat) (late : Bool) : Group :=
  match g.halo.trig[i]? with
  | none => g
  | some x =>
    let d := g.core.trig i
    let c := match x.pulseEnd with
      | some _ => (g.core.send (.pin (pinTrig i) d.low)).send (.pin (pinTrig i) (!d.low))
      | none => g.core.send (.pin (pinTrig i) (!d.low))
    let c := c.bump (oVantageTrigFired + i + 1)
    let c := if late then (c.bump (oVantageTrigLate + i + 1)).raise 0x0408 (0xD8 + i) [i, x.fired, sched] else c
    let n := x.fired + 1
    let ended := decide (d.period = 0) || (decide (d.count ≠ 0) && decide (n ≥ d.count))
    let c := if ended then (c.raise 0x0409 (0xD8 + i) [i]).put (oVantageTrigDesc + i + 1) (overlay (c.get (oVantageTrigDesc + i + 1)) 0 [0]) else c
    let y := { x with level := !d.low, pulseEnd := some (t + d.width), fired := n, next := x.next + d.period, done := ended }
    let g := { g with core := c, halo := { g.halo with trig := g.halo.trig.set i y } }
    let num := x.fired % 2 ^ 32
    let r := mkRecord g.core t 0x40 .c (ownSrc (0xD8 + i) 0)
      (timePayload sched (num / 65536) (num % 65536) late i g.quality.toNat 0x04)
    let e := g.emitAt t g.core.angle.step 0 r
    e.1.vantageCopy e.2

/-- A mode 1 trigger whose firing time has been reached; late when a step of Halo jumped over it. -/
def Group.trigDue (g : Group) (i : Nat) : Group :=
  match g.halo.trig[i]? with
  | none => g
  | some x =>
    if (g.core.trig i).mode = 1 ∧ !x.done ∧ x.next ≤ g.core.ns then
      let late := match g.core.time.steppedAt with | some s => decide (s > x.next) | none => false
      g.trigFire i (if late then g.core.ns else x.next) x.next late
    else g

/-- Whether a mode 2 trigger selects a step. -/
def TrigDesc.selects (d : TrigDesc) (step : Nat) : Bool :=
  decide (step ≥ d.start) && (if d.period = 0 then step == d.start else (step - d.start) % d.period == 0)

/-- A mode 2 trigger's angle in a selected step of the group's Meridian. -/
def Group.trigAngle (g : Group) (i : Nat) : Group :=
  match g.halo.trig[i]? with
  | none => g
  | some x =>
    let d := g.core.trig i
    let a := g.core.angle
    let t := fireTime a.tm a.lq d.angle
    if d.mode = 2 ∧ !x.done ∧ a.isLocked ∧ d.selects a.step ∧ x.next ≤ a.step ∧ t ≤ g.core.ns then
      let late := match g.core.time.steppedAt with | some s => decide (s > t) | none => false
      let g := { g with halo := { g.halo with trig := g.halo.trig.set i { x with next := a.step } } }
      g.trigFire i (if late then g.core.ns else t) t late
    else g

/-- A group marker at `t` comes before a mode 2 firing of the step that ends: the firing is skipped, counted late (R152). -/
def Group.trigSkips (g : Group) (t : Nat) : Group :=
  (List.range 4).foldl (fun g i =>
    match g.halo.trig[i]? with
    | none => g
    | some x =>
      let d := g.core.trig i
      let a := g.core.angle
      let f := fireTime a.tm a.lq d.angle
      if d.mode = 2 ∧ !x.done ∧ a.isLocked ∧ d.selects a.step ∧ x.next ≤ a.step ∧ t ≤ f then
        { g with core := (g.core.bump (oVantageTrigLate + i + 1)).raise 0x0408 (0xD8 + i) [i, x.fired, f],
                 halo := { g.halo with trig := g.halo.trig.set i { x with next := a.step + 1 } } }
      else g) g

/-- A pulse's width has passed: the output returns to its inactive level (R151). -/
def Group.trigEnd (g : Group) (i : Nat) : Group :=
  match g.halo.trig[i]? with
  | some x =>
    match x.pulseEnd with
    | some t => if t ≤ g.core.ns then
        { g with halo := { g.halo with trig := g.halo.trig.set i { x with level := !x.level, pulseEnd := none } }, core := g.core.send (.pin (pinTrig i) (!x.level)) }
      else g
    | none => g
  | none => g

end Sys2Proof.Machine
end

