-- ==== Sys2Proof/Machine/FabOps.lean ====
section
/-! DEFINITION. Shared operations of a Fabato: its own records and alarms (R318, Table 15.4), members and their roster state (R446–R450), unit histories and permanent candidates (R398, R399, R493–R496). -/
namespace Sys2Proof.Machine

/-! ### The parts -/

def Fabato.core (f : Fabato) : Core := f.g.core
def Fabato.onG (f : Fabato) (h : Group → Group) : Fabato := { f with g := h f.g }
def Fabato.onCore (f : Fabato) (h : Core → Core) : Fabato := { f with g := { f.g with core := h f.g.core } }
def Fabato.raise (f : Fabato) (code sub : Nat) (payload : List Nat) : Fabato := f.onCore (fun c => c.raise code sub payload)
/-- Powered time and unit time of the Fabato. -/
def Fabato.up (f : Fabato) : Nat := f.g.core.up
def Fabato.ns (f : Fabato) : Nat := f.g.core.ns

/-- Sixteen bits of a handle as bytes 14–15: sub-unit and index of R537's one field. -/
def handleSrc (h : Nat) : U16 := BitVec.ofNat 16 h

/-! ### The group's own records -/

/-- Store a record in the record and bulk store (Table 11.6). -/
def Group.keep (g : Group) (e : ExtRecord) : Group := { g with jet := { g.jet with store := g.jet.store ++ [e] } }

/-- Send one numbered record of the group's own: it is stored, offered to Vantage, and queued toward the parent when `up`. -/
def Fabato.sendOwn (f : Fabato) (up : Bool) (e : ExtRecord) : Fabato :=
  f.onG (fun g =>
    let g := (g.keep e).vantageCopy e
    if up then g.enqueue g.core.path 31 e else g)

/-- Emit a chain of the group's own records, one class, CONT on all but the last (R270, R318). -/
def Fabato.emitChain (f : Fabato) (up : Bool) (t step epoch : Nat) : List Record → Fabato
  | [] => f
  | r :: rest =>
    let n := f.g.number (f.g.own t step epoch { r with cont := !rest.isEmpty })
    ({ f with g := n.2 }.sendOwn up n.1).emitChain up t step epoch rest

/-- A record of the group at time `t`, step, angle field and source bytes as given. -/
def ownRecord (type : Nat) (cls : RClass) (flags t step angle : Nat) (src : U16) (payload : Nat) : Record :=
  { type := BitVec.ofNat 8 type, flags := BitVec.ofNat 5 flags, cont := false, cls := cls, seq := 0, tns := BitVec.ofNat 32 t,
    step := BitVec.ofNat 32 step, angle := BitVec.ofNat 16 angle, src := src, payload := BitVec.ofNat 128 payload }

/-- Payload of Table 15.4. -/
def alarmWord (member value code source arg kinds number : Nat) : Nat :=
  member % 2 ^ 32 * 2 ^ 96 + value % 2 ^ 32 * 2 ^ 64 + code % 256 * 2 ^ 56 + source % 256 * 2 ^ 48 + arg % 256 * 2 ^ 40
    + kinds % 256 * 2 ^ 32 + number % 2 ^ 32

/-- Sub-unit of a group's class A alarm by its source field. -/
def alarmSub (source : Nat) : Nat :=
  match source with
  | 0x05 => 0x75 | 0x07 => 0x75 | 0x06 => 0x75 | 0x08 => 0x73 | 0x09 => 0x74 | 0x0D => 0x71 | 0x0E => 0x73 | _ => 0x77

/-- Send the parent a class A alarm of Table 15.4. -/
def Fabato.alarm (f : Fabato) (member value code source arg kinds number : Nat) : Fabato :=
  let r := mkRecord f.core f.ns 0x10 .a (ownSrc (alarmSub source) 0) (alarmWord member value code source arg kinds number)
  f.emitChain true f.ns f.core.angle.step 0 [r]

/-- The same for codes 0x30–0x37, numbered by the group's alarm number. -/
def Fabato.numbered (f : Fabato) (member value code source : Nat) : Fabato :=
  { f with fen := { f.fen with alarmNum := (f.fen.alarmNum + 1) % 2 ^ 32 } }.alarm member value code source 0 0 f.fen.alarmNum

/-! ### Members -/

/-- Level of the group: 1 tray, 2 rack, 3 row (R26). -/
def Core.level (c : Core) : Nat := c.kind

/-- Whether a member's link is in Up: its lane at a tray, its Sky port above. -/
def Fabato.memberUp (f : Fabato) (i : Nat) : Bool :=
  if f.core.kind = 1 then
    match f.g.laneMap[i]? with
    | some n => match f.g.lanes[n]? with
      | some l => l.lane.phy.state == .up
      | none => false
    | none => false
  else match f.core.memberPort i with
    | some p => f.g.portUp p
    | none => false

/-- Roster entry of member `i`: a stranger found at the index before the identity planned there. -/
def Fabato.entryOf (f : Fabato) (i : Nat) : Option RosterEntry :=
  match f.hor.roster.find? (fun e => e.member == some i && e.state == 4) with
  | some e => some e
  | none => f.hor.roster.find? (fun e => e.member == some i && e.state != 5 && e.state != 6)

/-- State of member `i` (Table 17.5); planned or absent without an identity reads its entry, an index without one 0. -/
def Fabato.memberState (f : Fabato) (i : Nat) : Nat := ((f.entryOf i).map (fun e => e.state)).getD 0

/-- Whether the plan names member `i`. -/
def Core.isPlanned (c : Core) (i : Nat) : Bool := leAt (c.usedBytes (oHorizonPlanMember + i + 1)) 0 1 % 2 == 1

/-- Whether a member's records are steered as a quarantined or probation member's: Unplanned, Probation, fenced (R413), or a child
whose alarm 0x32 stands (R447). -/
def Fabato.excluded (f : Fabato) (i : Nat) : Bool :=
  f.memberState i == 4 || f.memberState i == 2 || f.fen.fenced.testBit i || f.hor.invalid.contains i

/-- Members in probation or quarantined as unplanned, as a mask (R348). -/
def Fabato.shut (f : Fabato) : Nat := ofBits ((List.range 128).filter (fun i => f.excluded i))

/-- Members whose link is up, as a mask (R353). -/
def Fabato.upMembers (f : Fabato) : Nat := ofBits ((List.range 128).filter (fun i => f.memberUp i))

/-- Replace a roster entry. -/
def HorizonPart.set (h : HorizonPart) (e : RosterEntry) : HorizonPart := { h with roster := modWhere (fun x => x.idx == e.idx) (fun _ => e) h.roster }

/-- A member's Drift streams and risk, and its Anvil estimates, start again (R387, R389). -/
def AnalyticsPart.resetMember (a : AnalyticsPart) (i : Nat) : AnalyticsPart :=
  { a with sets := a.sets.map (fun s => { s with streams := s.streams.filter (fun x => x.member != i) }), dv := a.dv.set i (0, 0),
           shat := a.shat.filter (fun x => x.2.1 != i), ra := a.ra.set i 0 }

/-- A member's open vectors are discarded, uncounted (Table 14.16). -/
def AnalyticsPart.dropVectors (a : AnalyticsPart) (i : Nat) : AnalyticsPart :=
  { a with feats := a.feats.map (fun c => { c with keys := c.keys.map (fun k => { k with vecs := k.vecs.filter (fun v => v.member != i) }) }) }

/-- Seconds of Halo time, low 32 bits. -/
def Fabato.secs (f : Fabato) : Nat := f.ns / 1000000000 % 2 ^ 32

/-- A roster entry enters probation, or Present at once where HORIZON.PROBATION_STEPS is 0 (R450). -/
def Fabato.startProbation (f : Fabato) (e : RosterEntry) : Fabato :=
  let n := f.core.num oHorizonProbationSteps
  let st := if n = 0 then 1 else 2
  let e := { e with state := st, left := n, counting := false, endNow := false, since := f.up, changed := f.secs }
  let f := { f with hor := f.hor.set e }
  match e.member with
  | some i => { f with an := (f.an.resetMember i).dropVectors i }
  | none => f

/-- Present count: Present or Probation (R447). -/
def Fabato.present (f : Fabato) : Nat :=
  (f.hor.roster.filter (fun e => (e.state == 1 || e.state == 2) && e.member.isSome)).length

/-- Quorum of the plan header. -/
def Core.quorum (c : Core) : Nat := leAt (c.usedBytes oHorizonPlanHeader) 1 1

/-- HORIZON.VALID is worked out again (R447). -/
def Fabato.checkQuorum (f : Fabato) : Fabato :=
  let p := f.present
  let q := f.core.quorum
  let ok := decide (p ≥ q)
  if ok = f.hor.valid then f
  else
    let f := { f with hor := { f.hor with valid := ok } }
    if ok then (f.raise 0x1607 0x71 [p, q]).numbered f.core.path (q % 256 * 65536 + p % 65536) 0x33 0x0D
    else (f.raise 0x1606 0x71 [p, q]).numbered f.core.path (q % 256 * 65536 + p % 65536) 0x32 0x0D

/-! ### Unit histories (R493–R496) -/

/-- History slot of a Cell, an LPDDR device, the Loft pair, a Drizzle lane, a Sky lane. -/
def slotCell (i : Nat) : Nat := i
def slotLpddr (d : Nat) : Nat := 52 + d
def slotPair : Nat := 76
def slotDz (n : Nat) : Nat := 77 + n
def slotSky (n : Nat) : Nat := 213 + n

/-- An entry of Table 20.2 with its check, complete. -/
def almanacEntry (payload : Bytes) (time index flags sub code cycles hours : Nat) : Bytes :=
  let b := leBytes 4 hours ++ leBytes 4 cycles ++ leBytes 2 code ++ leBytes 1 sub ++ leBytes 1 flags ++ leBytes 4 index
    ++ leBytes 10 (time80 time) ++ slice payload 0 30
  b ++ leBytes 4 (crc32c b) ++ zeros 3 ++ [0xA5]

/-- Payload of an event as bytes: each number of its row as a little-endian u64, in order (the model's own packing, a log entry). -/
def eventBytes (p : List Nat) : Bytes := p.flatMap (leBytes 8)

/-- Append an entry to a slot's ring (R494). -/
def History.push (h : History) (e : Bytes) (now : Nat) : History :=
  { h with ring := (h.ring.filter (fun x => x.1 != h.head)) ++ [(h.head, e)], head := (h.head + 1) % 127,
           wrapped := h.wrapped || h.head == 126, changed := now }

/-- An empty slot. -/
def History.start (slot kind identity : Nat) : History :=
  { slot := slot, kind := kind, identity := identity, corrected := 0, uncorrectable := 0, gaps := 0, changed := 0, head := 0,
    permanent := false, wrapped := false, ring := [] }

/-- A slot in use. -/
def AlmanacPart.history (a : AlmanacPart) (slot : Nat) : Option History := a.histories.find? (fun h => h.slot == slot)

/-- Put a slot. -/
def AlmanacPart.setHistory (a : AlmanacPart) (h : History) : AlmanacPart :=
  { a with histories := (a.histories.filter (fun x => x.slot != h.slot)) ++ [h] }

/-- Corrected-class entries within FT.CORRECTED_WINDOW, in operating hours (R399, R494). -/
def Fabato.recent (f : Fabato) (h : History) : Nat :=
  (h.ring.filter (fun x => leAt x.2 8 2 == 1 && decide (f.alm.hours - leAt x.2 0 4 ≤ 10 * f.core.num oFtCorrectedWindow))).length

/-- Whether a slot's unit is a permanent candidate (R399). -/
def Fabato.permanent (f : Fabato) (slot : Nat) : Bool := ((f.alm.history slot).map (fun h => h.permanent)).getD false

/-- One entry of a history slot: code and the causing event. -/
def Fabato.historyEntry (f : Fabato) (code sub event : Nat) (payload : List Nat) : Bytes :=
  almanacEntry (slice (eventBytes payload) 0 28 ++ leBytes 2 event) f.ns 0 (if f.g.quality.toNat % 16 = 15 then 4 else 0) sub code f.alm.cycles f.alm.hours

/-- Charge a unit with an error (R398, R399): its history, and PERMANENT_CANDIDATE when it becomes one. True when it just became one.
`cause` of the event and of SPARE.CANDIDATES: 1 the corrected limit, 2 an uncorrectable error. -/
def Fabato.charge (f : Fabato) (slot kind identity sub : Nat) (hard : Bool) (event : Nat) (payload : List Nat) : Fabato × Bool :=
  let h := (f.alm.history slot).getD (History.start slot kind identity)
  let h := h.push (f.historyEntry (if hard then 2 else 1) sub event payload) f.ns
  let h := if hard then { h with uncorrectable := h.uncorrectable + 1 } else { h with corrected := h.corrected + 1 }
  let f1 := { f with alm := f.alm.setHistory h }
  let limit := decide (f1.recent h ≥ f.core.num oFtCorrectedLimit)
  if h.permanent || !(hard || limit) then (f1, false)
  else
    let cause := if hard then 2 else 1
    let h := { (h.push (f.historyEntry 3 sub 0x1403 [sub, cause]) f.ns) with permanent := true }
    let f2 : Fabato := { f1 with alm := f1.alm.setHistory h,
                                 cel := { f1.cel with cands := (f1.cel.cands ++ [(sub, cause, time80 f.ns)]).drop (f1.cel.cands.length + 1 - 64) } }
    (f2.raise 0x1403 sub [sub, cause], true)

/-- The slot of a die: its own, the lowest free one, or the one of the oldest die the roster no longer needs (R495). -/
def Fabato.dieSlot (f : Fabato) (uid : Nat) : Option Nat :=
  match f.alm.histories.find? (fun h => h.kind == 6 && h.identity == uid) with
  | some h => some h.slot
  | none =>
    match (List.range 267).find? (fun i => (f.alm.history (245 + i)).isNone) with
    | some i => some (245 + i)
    | none =>
      let gone (h : History) : Bool :=
        h.kind == 6 && (match f.hor.roster.find? (fun e => e.uid == h.identity) with
          | some e => e.state == 4 || e.state == 5 || e.state == 6
          | none => true)
      ((f.alm.histories.filter gone).foldl (fun (b : Option History) h =>
        match b with
        | none => some h
        | some x => if h.changed < x.changed then some h else some x) none).map (fun h => h.slot)

/-- Charge a member die (R398); an error without a slot counts in ALMANAC.HISTORY_REFUSED. -/
def Fabato.chargeDie (f : Fabato) (i : Nat) (hard : Bool) (event : Nat) (payload : List Nat) : Fabato :=
  let uid := ((f.entryOf i).map (fun e => e.uid)).getD 0
  match f.dieSlot uid with
  | none => f.onCore (fun c => c.bump oAlmanacHistoryRefused)
  | some s =>
    let f := match f.alm.history s with
      | some h => if h.identity = uid then f else { f with alm := f.alm.setHistory (History.start s 6 uid) }
      | none => f
    (f.charge s 6 uid i hard event payload).1

/-- History of a member die. -/
def Fabato.dieHistory (f : Fabato) (i : Nat) : Option History :=
  match (f.entryOf i).map (fun e => e.uid) with
  | some uid => f.alm.histories.find? (fun h => h.kind == 6 && h.identity == uid)
  | none => none

/-- A history gap: one entry in every slot in use (R435, R496). -/
def Fabato.historyGap (f : Fabato) (start stop : Nat) : Fabato :=
  let p := zeros 10 ++ leBytes 10 (time80 stop) ++ leBytes 10 (time80 start)
  let e := almanacEntry p f.ns 0 0 0x72 0x1706 f.alm.cycles f.alm.hours
  { f with alm := { f.alm with histories := f.alm.histories.map (fun h => { (h.push e f.ns) with gaps := h.gaps + 1 }) } }

end Sys2Proof.Machine
end

