-- ==== Sys2Proof/Machine/Cadence.lean ====
section
/-! DEFINITION. Checkpoint cadence (R468–R471). -/
namespace Sys2Proof.Machine

/-! ### Definitions of communication groups (Table 17.6) -/

def commId (b : Bytes) : Nat := leAt b 20 4
def commTenant (b : Bytes) : Nat := leAt b 16 4
def commCount (b : Bytes) : Nat := leAt b 14 2
def commKind (b : Bytes) : Nat := leAt b 13 1
def commSegment (b : Bytes) : Nat := leAt b 12 1
def commFrom (b : Bytes) : Nat := leAt b 24 8
/-- Member paths of a definition, in routing order. -/
def commMembers (b : Bytes) : List Nat := (List.range (commCount b)).map (fun i => leAt b (32 + 4 * i) 4)

/-- A job's members: the paths of its tenant's definitions in this group's subtree (R468). -/
def Fabato.jobMembers (f : Fabato) (tenant : Nat) : List Nat :=
  (f.hor.comm.filter (fun d => commTenant d == tenant)).flatMap (fun d => (commMembers d).filter (inSubtree f.core.path))

/-! ### Jobs (Tables 18.9, 18.10) -/

/-- Fields of CADENCE.JOB element `i` + 1: tenant, cost in ms, risk trigger, mode. -/
def Core.jobEntry (c : Core) (i : Nat) : Nat × Nat × Nat × Nat :=
  let b := c.elem oCadenceJob (i + 1)
  (leAt b 28 4, leAt b 24 4, leAt b 20 4, leAt b 0 1)

/-- A time as seconds in binary64. -/
def secsOf (ns : Nat) : FVal := r64 (.fin ns 1000000000)

/-- ln 2 in binary64. -/
def ln2F64 : FVal := f64Val 0x3FE62E42FEFA39EF

/-- decay (R469). -/
def Job.decay (j : Job) (c : Core) (t : Nat) : Job :=
  let hl := fofInt (c.num oCadenceHalfLife)
  let d := fexp2 (r64 (fdiv (r64 (fsub (secsOf j.t) (secsOf t))) hl))
  let e := r64 (fadd (r64 (fmul (f64Val j.e) d)) (r64 (fmul (r64 (fdiv hl ln2F64)) (r64 (fsub (fofInt 1) d)))))
  { j with e := toF64 e, n := toF64 (fmul (f64Val j.n) d), t := t }

/-- M = e / n. -/
def Job.mtbi (j : Job) : FVal := r64 (fdiv (f64Val j.e) (f64Val j.n))

/-- tau, and whether it was clamped. -/
def Job.tau (j : Job) (c : Core) : FVal × Bool :=
  let cost := r64 (.fin (c.jobEntry j.idx).2.1 1000)
  let raw := r64 (fsub (fsqrt fmt64 (r64 (fmul (r64 (fmul (fofInt 2) cost)) j.mtbi))) cost)
  let hi := fofInt (c.used oCadenceMaxInterval)
  let lo := fofInt (c.used oCadenceMinInterval)
  let v := fmax lo (fmin hi raw)
  (v, v != raw)

/-- The interval published (R469): ns and steps. -/
def Job.publish (j : Job) (c : Core) : Job :=
  let r := j.tau c
  let l := c.angle.lq / 65536
  let ns := ftoInt 0 (2 ^ 64 - 1) (fmul r.1 (fofInt 1000000000))
  let steps := if !c.angle.isLocked || l == 0 then 0
    else Nat.max 1 (ftoInt 0 (2 ^ 32 - 1) (fdiv (fmul r.1 (fofInt 1000000000)) (fofInt l))).toNat
  { j with interval := ns.toNat, steps := steps, clamped := r.2 }

/-- A job as registered at unit time now. -/
def Fabato.newJob (f : Fabato) (i tenant : Nat) : Job :=
  ({ idx := i, tenant := tenant, n := toF64 (fofInt 1), e := toF64 (fofInt (f.core.num oCadencePriorMtbi)), t := f.ns, interval := 0, steps := 0,
     risk := 0, ckpt := 0, count := 0, armed := true, clamped := false, lastInt := none, lastReq := none } : Job).publish f.core

/-- Replace a job. -/
def CastPart.setJob (c : CastPart) (j : Job) : CastPart := { c with jobs := modWhere (fun x => x.idx == j.idx) (fun _ => j) c.jobs }

/-- A value of CADENCE.JOB has taken effect: the job is registered, changed or gone. -/
def Fabato.jobWritten (f : Fabato) (i : Nat) : Fabato :=
  let f := f.onCore (fun c => c.usePair oCadenceMinInterval oCadenceMaxInterval)
  let e := f.core.jobEntry i
  let rest := f.cast.jobs.filter (fun j => j.idx != i)
  if e.2.2.2 = 0 ∨ e.1 = 0 then { f with cast := { f.cast with jobs := rest } }
  else match f.cast.jobs.find? (fun j => j.idx == i && j.tenant == e.1) with
    | some j => { f with cast := f.cast.setJob (j.publish f.core) }
    | none => { f with cast := { f.cast with jobs := rest ++ [f.newJob i e.1] } }

/-! ### Requests (R471) -/

/-- Put a request in CADENCE.REQUEST; a full list drops its oldest entry that is not kind 2. -/
def Fabato.cadPush (f : Fabato) (r : CadReq) : Fabato :=
  let l := f.cast.reqs
  if l.length < 64 then { f with cast := { f.cast with reqs := l ++ [r] } }
  else match l.find? (fun x => x.kind != 2) with
    | some x => ({ f with cast := { f.cast with reqs := (l.filter (fun y => y != x)) ++ [r] } } : Fabato).onCore (fun c => c.bump oCadenceReqDrops)
    | none => f.onCore (fun c => c.bump oCadenceReqDrops)

/-- A new request of kind 1 or 3 with the group's next request number. -/
def Fabato.cadRequest (f : Fabato) (tenant kind : Nat) : Fabato :=
  let f' : Fabato := { f with cast := { f.cast with reqNum := (f.cast.reqNum + 1) % 2 ^ 32 } }
  f'.cadPush { num := f.cast.reqNum, tenant := tenant, member := 0xFFFFFFFF, step := f.core.angle.step, kind := kind }

/-- The interval is recomputed; a change above 1 % raises CADENCE_CHANGED and asks for a kind 3 entry. -/
def Fabato.cadUpdate (f : Fabato) (j : Job) : Fabato :=
  let f := f.onCore (fun c => c.usePair oCadenceMinInterval oCadenceMaxInterval)
  let n := (j.decay f.core f.ns).publish f.core
  let f := { f with cast := f.cast.setJob n }
  if (Nat.max n.steps j.steps - Nat.min n.steps j.steps) * 100 > j.steps then
    (f.raise 0x1801 0x73 [n.tenant, j.steps, n.steps]).cadRequest n.tenant 3
  else f

/-- CADENCE.UPDATE elapses: every job. -/
def Fabato.cadTick (f : Fabato) : Fabato := f.cast.jobs.foldl (fun f j => f.cadUpdate j) f

/-- An interruption of a job (R468), cause 1 a fence decision, 2 the runtime. -/
def Fabato.cadInterrupt (f : Fabato) (j : Job) (cause : Nat) : Fabato :=
  let close := match j.lastInt with
    | some t => decide (f.ns - t ≤ f.core.num oCadenceCoalesce * 1000000000)
    | none => false
  if close then f
  else
    let d := j.decay f.core f.ns
    let n := { d with n := toF64 (fadd (f64Val d.n) (fofInt 1)), count := (j.count + 1) % 2 ^ 64, lastInt := some f.ns }
    let f := ({ f with cast := f.cast.setJob n } : Fabato).raise 0x1803 0x73 [j.tenant, cause, toF64 n.mtbi]
    f.cadUpdate n

/-- A write of a tenant to CADENCE.INTERRUPT: E_RANGE where the tenant has no job here. -/
def Fabato.cadWrite (f : Fabato) (tenant : Nat) : Fabato × Nat :=
  match f.cast.jobs.filter (fun j => j.tenant == tenant) with
  | [] => (f, eRange)
  | js => (js.foldl (fun f j => f.cadInterrupt j 2) f, stOk)

/-- A fence decision for a path has reached this group: every job whose members hold the path (R468). -/
def Fabato.cadFence (f : Fabato) (path : Nat) : Fabato :=
  (f.cast.jobs.filter (fun j => (f.jobMembers j.tenant).contains path)).foldl (fun f j => f.cadInterrupt j 1) f

/-- A completed checkpoint is reported (R471): tenant and step. -/
def Fabato.cadDone (f : Fabato) (tenant step : Nat) : Fabato × Nat :=
  if f.cast.jobs.any (fun j => j.tenant == tenant) then
    ({ f with cast := { f.cast with jobs := modWhere (fun j => j.tenant == tenant) (fun j => { j with ckpt := step }) f.cast.jobs } }, stOk)
  else (f, eRange)

/-- A request is acknowledged (R471): kind 2 stays until its result is written. -/
def Fabato.cadAck (f : Fabato) (num : Nat) : Fabato × Nat :=
  if f.cast.reqs.any (fun r => r.num == num && r.kind != 2) then
    ({ f with cast := { f.cast with reqs := f.cast.reqs.filter (fun r => !(r.num == num && r.kind != 2)) } }, stOk)
  else (f, eRange)

/-- Job risk of every job in modes 2 and 3 after a change of health (R470). -/
def Fabato.cadRisk (f : Fabato) : Fabato :=
  f.cast.jobs.foldl (fun f j =>
    let e := f.core.jobEntry j.idx
    if e.2.2.2 ≠ 2 ∧ e.2.2.2 ≠ 3 then f
    else
      let ms := ((f.jobMembers j.tenant).filterMap (memberOf f.core.path)).eraseDups
      let lo := ms.foldl (fun (b : FVal) i => fmin b (f32Val (f.fen.health.getD i 0x3F800000))) (fofInt 1)
      let risk := r32 (fsub (fofInt 1) lo)
      let trig := f32Val e.2.2.1
      let j := { j with risk := toF32 risk }
      if j.armed && fle trig risk && !(fle trig (f32Val ((f.cast.jobs.find? (fun x => x.idx == j.idx)).map (fun x => x.risk) |>.getD 0))) then
        let num := f.cast.reqNum
        let f := ({ f with cast := f.cast.setJob { j with armed := false, lastReq := some f.ns } } : Fabato).cadRequest j.tenant 1
        (f.raise 0x1802 0x73 [j.tenant, j.risk, num]).alarm f.core.path j.risk 0x34 0x0E 0 0 num
      else
        let held := match j.lastReq with
          | some t => decide (f.ns - t < f.core.num oCadenceRiskHoldoff * 1000000000)
          | none => false
        let low := flt risk (fsub trig (f32Val (f.core.num oCadenceRiskHyst)))
        { f with cast := f.cast.setJob { j with armed := j.armed || (low && !held) } }) f

/-- CADENCE.STATE of a job (Table 18.10). -/
def Job.bytes (j : Job) : Bytes :=
  leBytes 4 ((if j.clamped then 1 else 0) + (if j.steps = 0 then 2 else 0) + (if j.armed then 4 else 0)) ++ leBytes 4 j.tenant
    ++ leBytes 8 j.count ++ leBytes 8 j.ckpt ++ leBytes 4 j.risk ++ leBytes 4 j.steps ++ leBytes 8 j.interval ++ leBytes 8 j.e ++ leBytes 8 j.n
    ++ leBytes 8 (toF64 j.mtbi)

/-- CADENCE.REQUEST entry (Table 18.11). -/
def CadReq.bytes (r : CadReq) : Bytes :=
  leBytes 12 r.kind ++ leBytes 8 r.step ++ leBytes 4 r.member ++ leBytes 4 r.tenant ++ leBytes 4 r.num

end Sys2Proof.Machine
end

