-- ==== Sys2Proof/Machine/Fence.lean ====
section
/-! DEFINITION. The fencing manager (R404–R417): health, digest votes, known-answer tests, the token budget, suspicion, decisions, the lockstep pair. -/
namespace Sys2Proof.Machine

/-! ### Risks and health (R388–R391, R404) -/

def f64One : FVal := fofInt 1

/-- exp2 of a difference of unit times over a half-life in seconds, in binary64. -/
def decayOf (from_ now half : Nat) : FVal := fexp2 (r64 (fdiv (fofInt ((from_ : Int) - now)) (fofInt (half * 1000000000 : Nat))))

/-- r_D of member `m` now (R390). -/
def Fabato.rD (f : Fabato) (m : Nat) : FVal :=
  let x := f.an.dv.getD m (0, 0)
  fmin f64One (r64 (fmul (f64Val x.1) (decayOf x.2 f.ns (f.core.num oDriftHalfLife))))

/-- r_V of member `m` now (R404). -/
def Fabato.rV (f : Fabato) (m : Nat) : FVal :=
  let x := f.fen.rv.getD m { value := 0, at_ := 0, majority := false }
  r64 (fmul (f64Val x.value) (decayOf x.at_ f.ns (f.core.num oFenceVoteHalfLife)))

/-- r_H of member `m` (R404). -/
def Fabato.rH (f : Fabato) (m : Nat) : FVal :=
  match f.dieHistory m with
  | none => fofInt 0
  | some h => if h.permanent then f64One else fmin f64One (r64 (fmul (r64 (.fin 1 5)) (fofInt (f.recent h))))

/-- r_A of member `m`. -/
def Fabato.rA (f : Fabato) (m : Nat) : FVal := f64Val (f.an.ra.getD m 0)

/-- r_V and r_H count at a tray only (R413). -/
def Fabato.risks (f : Fabato) (m : Nat) : FVal × FVal × FVal × FVal :=
  (f.rA m, f.rD m, if f.core.kind = 1 then f.rV m else fofInt 0, if f.core.kind = 1 then f.rH m else fofInt 0)

/-- h of R391, f32 bits. -/
def Fabato.healthOf (f : Fabato) (m : Nat) : Nat :=
  let r := f.risks m
  let c (x : FVal) := r64 (fsub f64One x)
  toF32 (r64 (fmul (r64 (fmul (r64 (fmul (c r.1) (c r.2.1))) (c r.2.2.1))) (c r.2.2.2)))

/-- The kinds firing for member `m`: bit 0 Anvil, 1 Drift, 2 vote, 3 history (R405). -/
def Fabato.kinds (f : Fabato) (m : Nat) : Nat :=
  let th := f32Val (f.core.num oFenceKindThreshold)
  let r := f.risks m
  let b (x : FVal) (n : Nat) := if fle th x then n else 0
  b r.1 1 + b r.2.1 2 + b r.2.2.1 4 + b r.2.2.2 8

/-! ### The bucket (R414) -/

/-- Whether this group holds a bucket: a tray, a rack, or a root. -/
def Core.hasBucket (c : Core) : Bool := c.kind == 1 || c.kind == 2 || c.isRoot

/-- Level field of an alarm 0x55 and of the suspicion events: 0 tray, 1 rack, 2 row. -/
def Core.fenceLevel (c : Core) : Nat := c.kind - 1

/-- Bucket capacity in 2⁻³² token. -/
def Core.bucketCap (c : Core) : Nat := c.num oFenceBudget * 2 ^ 32

/-- refill (R414). -/
def Bucket.refill (b : Bucket) (c : Core) : Bucket :=
  let add := (c.ns - b.t) * c.bucketCap / (c.num oFencePeriod * 1000000000)
  { b with tokens := Nat.min c.bucketCap (b.tokens + add), t := c.ns }

/-- One token back, up to the capacity (R414). -/
def Fabato.refund (f : Fabato) : Fabato :=
  let b := f.fen.bucket
  { f with fen := { f.fen with bucket := { b with tokens := Nat.max b.tokens (Nat.min f.core.bucketCap (b.tokens + 2 ^ 32)) } } }

/-- K_f (R411). -/
def Core.fenceKey (c : Core) : Bytes := hmac c.keys.tree (lmn 70)

/-- First 16 bytes of the fence MAC of a record under a path. -/
def Core.fenceMac (c : Core) (r : Record) (path : Nat) : Nat := ofLe ((hmac c.fenceKey (recordBytes r ++ leBytes 4 path)).take 16)

/-- Send a fence exchange to member group `i` (R412). -/
def Fabato.exchangeTo (f : Fabato) (i : Nat) (payload : Nat) : Fabato :=
  match f.core.memberPort i with
  | none => f
  | some p =>
    let r : Record := { mkRecord f.core f.ns 0x70 .c (ownSrc 0x75 0) payload with cont := true }
    let a := f.g.number (f.g.own f.ns f.core.angle.step 0 r)
    let m := mkRecord f.core f.ns 0x70 .c (ownSrc 0x75 0) (f.core.fenceMac a.1.base f.core.path)
    let b := a.2.number (a.2.own f.ns f.core.angle.step 0 m)
    { f with g := (b.2.enqueue f.core.path p a.1).enqueue f.core.path p b.1 }

/-- Send a fence exchange down toward a path in the subtree. -/
def Fabato.exchangeDown (f : Fabato) (path payload : Nat) : Fabato :=
  match memberOf f.core.path path with
  | some i => if inSubtree f.core.path path && f.core.kind ≥ 2 then f.exchangeTo i payload else f
  | none => f

/-- A suspicion notice to every member group (R415). -/
def Fabato.noticeAll (f : Fabato) (payload : Nat) : Fabato :=
  if f.core.kind ≥ 2 then ((List.range 16).filter (fun i => (f.core.memberPort i).isSome)).foldl (fun f i => f.exchangeTo i payload) f else f

/-- Payload of a suspicion alarm or notice. -/
def Fabato.suspicionWord (f : Fabato) (v : Nat) : Nat := alarmWord f.core.path v 0x55 0x05 f.core.fenceLevel 0 f.fen.alarmNum

/-- enter_suspicion (R415). -/
def Fabato.enterSuspicion (f : Fabato) : Fabato :=
  let w := f.suspicionWord 1
  let f := ({ f with fen := { f.fen with suspicion := 1 } } : Fabato).raise 0x140C 0x75 [f.core.fenceLevel, 1]
  (f.alarm f.core.path 1 0x55 0x05 f.core.fenceLevel 0 f.fen.alarmNum).noticeAll w

/-- An Operator writes 0 to FENCE.SUSPICION (R415). -/
def Fabato.clearSuspicion (f : Fabato) : Fabato :=
  if f.fen.suspicion ≠ 1 then f
  else
    let f := ({ f with fen := { f.fen with suspicion := 0, bucket := { f.fen.bucket with runs := [] } } } : Fabato).raise 0x140C 0x75 [f.core.fenceLevel, 0]
    (f.alarm f.core.path 0 0x55 0x05 f.core.fenceLevel 0 f.fen.alarmNum).noticeAll (f.suspicionWord 0)

/-- 72 h in ns. -/
def fence72h : Nat := 72 * hourNs

/-- take and record_exhaustion (R414): whether a token was given. -/
def Fabato.takeToken (f : Fabato) : Fabato × Bool :=
  let b := f.fen.bucket.refill f.core
  if b.tokens < 2 ^ 32 then ({ f with fen := { f.fen with bucket := b } }, false)
  else
    let b := { b with tokens := b.tokens - 2 ^ 32 }
    if b.tokens ≥ 2 ^ 32 then ({ f with fen := { f.fen with bucket := b } }, true)
    else
      let runs := (b.runs.filter (fun t => decide (t + fence72h > f.ns))) ++ [f.ns]
      let f := ({ f with fen := { f.fen with bucket := { b with runs := runs } } } : Fabato).raise 0x140B 0x75 [f.core.fenceLevel, runs.length]
      (if runs.length ≥ 3 then f.enterSuspicion else f, true)

/-! ### Decisions (R411, R413) -/

/-- Path of member `m`. -/
def Fabato.memberPathOf (f : Fabato) (m : Nat) : Nat := memberPath f.core.path m

/-- The lockstep pair signs a decision: its two records, FENCE.DECISIONS, the fenced bit (R411). -/
def Fabato.fence (f : Fabato) (m basis kinds : Nat) : Fabato :=
  let path := f.memberPathOf m
  let h := f.healthOf m
  let num := f.fen.decNum
  let r : Record := { mkRecord f.core f.ns 0x10 .a (ownSrc 0x75 0) (alarmWord path h 0x50 0x05 basis kinds num) with cont := true }
  let a := f.g.number (f.g.own f.ns f.core.angle.step 0 r)
  let s := mkRecord f.core f.ns 0x10 .a (ownSrc 0x75 0) (f.core.fenceMac a.1.base f.core.path)
  let b := a.2.number (a.2.own f.ns f.core.angle.step 0 s)
  let f := (({ f with g := b.2 } : Fabato).sendOwn true a.1).sendOwn true b.1
  let d := f.fen.decisions ++ [recordBytes a.1.base ++ recordBytes b.1.base]
  let f := { f with fen := { f.fen with decNum := (num + 1) % 2 ^ 32, decisions := d.drop (d.length - 255), fenced := f.fen.fenced ||| 2 ^ m } }
  (f.raise 0x1409 0x75 [path, basis, h]).cadFence path

/-- FENCE_HELD. -/
def Fabato.held (f : Fabato) (m kinds : Nat) : Fabato :=
  (f.onCore (fun c => c.bump oFenceHeld)).raise 0x140A 0x75 [f.memberPathOf m, f.healthOf m, kinds]

/-- The end of evaluate, once the token answer is known (R414). -/
def Fabato.conclude (f : Fabato) (m kinds : Nat) (minority grant : Bool) : Fabato :=
  if grant then f.fence m 1 kinds
  else if minority then (f.onCore (fun c => c.bump oFenceNoToken)).fence m 2 kinds
  else if popCount 4 kinds ≥ 2 then (f.onCore (fun c => c.bump oFenceNoToken)).fence m 3 kinds
  else f.held m kinds

/-- Automatic fencing is on (R410). -/
def Fabato.auto (f : Fabato) : Bool := f.core.flag oFenceAuto && !f.fen.failed && f.fen.halted.isNone

/-- evaluate(m, now) (R414), at a tray. -/
def Fabato.evaluate (f : Fabato) (m : Nat) : Fabato :=
  let st := f.memberState m
  if f.core.kind ≠ 1 ∨ f.fen.fenced.testBit m ∨ st = 2 ∨ st = 3 ∨ st = 4 ∨ !f.auto ∨ f.fen.reqs.any (fun r => r.member == m) then f
  else if fle (f32Val (f.core.num oFenceThreshold)) (f32Val (f.healthOf m)) then f
  else
    let minority := f.rV m == f64One && (f.fen.rv.getD m { value := 0, at_ := 0, majority := false }).majority
    let kinds := f.kinds m
    if f.fen.suspicion ≠ 0 ∧ !minority then f.held m kinds
    else if f.fen.suspicion = 1 then f.conclude m kinds minority false
    else
      let t := f.takeToken
      if !t.2 then t.1.conclude m kinds minority false
      else if f.core.isRoot then t.1.conclude m kinds minority true
      else
        let num := t.1.fen.reqNum
        let req : TokenReq := { num := num, path := f.memberPathOf m, member := m, kinds := kinds, minority := minority, at_ := f.up }
        let f := { t.1 with fen := { t.1.fen with reqNum := (num + 1) % 2 ^ 32, reqs := t.1.fen.reqs ++ [req] } }
        f.alarm req.path num 0x51 0x05 0 kinds num

/-- Recompute h of member `m` and act on it (R405, R413). -/
def Fabato.recompute (f : Fabato) (m : Nat) : Fabato :=
  let h := f.healthOf m
  let low := !fle (f32Val (f.core.num oFenceThreshold)) (f32Val h)
  let f := ({ f with fen := { f.fen with health := f.fen.health.set m h } } : Fabato).cadRisk
  if f.core.kind = 1 then f.evaluate m
  else if low && !f.fen.unwell.testBit m then
    ({ f with fen := { f.fen with unwell := f.fen.unwell ||| 2 ^ m } } : Fabato).alarm (f.memberPathOf m) 0 0x57 0x05 0 (f.kinds m) 0
  else if !low && f.fen.unwell.testBit m then { f with fen := { f.fen with unwell := f.fen.unwell ^^^ 2 ^ m } }
  else f

/-- FENCE.EVAL_INTERVAL elapses: every member, in index order (R405, Table 15.6). -/
def Fabato.evalTick (f : Fabato) : Fabato :=
  ((List.range 128).filter (fun i => (f.entryOf i).isSome)).foldl (fun f i => f.recompute i) f

/-! ### Token requests and answers (R414) -/

/-- Answer a request downward with code 0x52. -/
def Fabato.answerToken (f : Fabato) (path num arg : Nat) : Fabato := f.exchangeDown path (alarmWord path num 0x52 0x05 arg 0 num)

/-- A token request reaches this group from below: the group, and whether the request goes on upward. -/
def Fabato.tokenRequest (f : Fabato) (path num : Nat) : Fabato × Bool :=
  if f.core.kind < 2 then (f, true)
  else if !f.core.hasBucket then (f, true)
  else if f.fen.suspicion ≠ 0 then (f.answerToken path num 2, false)
  else
    let t := f.takeToken
    if !t.2 then (t.1.answerToken path num 1, false)
    else if f.core.isRoot then (t.1.answerToken path num 0, false)
    else
      let req : TokenReq := { num := num, path := path, member := 255, kinds := 0, minority := false, at_ := f.up }
      ({ t.1 with fen := { t.1.fen with reqs := t.1.fen.reqs ++ [req] } }, true)

/-- A token answer has reached the level that asked. A tray concludes; a level between refunds on a denial and passes it on. -/
def Fabato.tokenAnswer (f : Fabato) (payload : Nat) : Fabato :=
  let path := bitsOf payload 127 96
  let num := bitsOf payload 95 64
  let arg := bitsOf payload 47 40
  match f.fen.reqs.find? (fun r => r.path == path && r.num == num) with
  | none => if f.core.kind ≥ 2 then f.exchangeDown path payload else f
  | some r =>
    let f := { f with fen := { f.fen with reqs := f.fen.reqs.filter (fun x => x != r) } }
    let f := if arg = 0 then f else f.refund
    if f.core.kind = 1 then f.conclude r.member r.kinds r.minority (arg = 0) else f.exchangeDown path payload

/-- FENCE.GRANT_TIMEOUT: requests of a tray without an answer count as denied (R414). -/
def Fabato.grantTimeout (f : Fabato) : Fabato :=
  if f.core.kind ≠ 1 then f
  else (f.fen.reqs.filter (fun r => decide (f.up ≥ r.at_ + 1000 * f.core.num oFenceGrantTimeout))).foldl (fun f r =>
    (({ f with fen := { f.fen with reqs := f.fen.reqs.filter (fun x => x != r) } } : Fabato).refund).conclude r.member r.kinds r.minority false) f

/-! ### Known-answer tests (R408, R417) -/

/-- A known-answer test of a die is requested: alarm 0x56, FENCE.KAT_REQUEST, and CADENCE.REQUEST kind 2 for each job it serves. -/
def Fabato.katRequest (f : Fabato) (m id step : Nat) : Fabato :=
  let num := f.fen.katNum
  let path := f.memberPathOf m
  let k : Kat := { num := num, path := path, step := step, digest := id, at_ := f.up, result := none, timedOut := false }
  let open_ := f.fen.kats.filter (fun x => x.result.isNone)
  let kats := if open_.length ≥ 32 then f.fen.kats.filter (fun x => some x != open_.head?) else f.fen.kats
  let f := { f with fen := { f.fen with katNum := (num + 1) % 2 ^ 32, kats := kats ++ [k] } }
  let f := f.alarm path 0 0x56 0x07 0 0 num
  (f.cast.jobs.filter (fun j => (f.jobMembers j.tenant).contains path)).foldl (fun f j =>
    f.cadPush { num := num, tenant := j.tenant, member := path, step := f.core.angle.step, kind := 2 }) f

/-- r_V of member `m` is set (R404), and h recomputed. -/
def Fabato.setRv (f : Fabato) (m : Nat) (v : FVal) (majority : Bool) : Fabato :=
  ({ f with fen := { f.fen with rv := f.fen.rv.set m { value := toF64 v, at_ := f.ns, majority := majority } } } : Fabato).recompute m

/-- A known-answer result is written (R408, R417). -/
def Fabato.katResult (f : Fabato) (v : Nat) (pass : Bool) : Fabato × Nat :=
  let num := v / 2 ^ 32
  let path := v % 2 ^ 32
  match f.fen.kats.find? (fun k => k.num == num && k.path == path && k.result.isNone) with
  | none => (f, eRange)
  | some k =>
    let kats := modWhere (fun x => x == k) (fun x => { x with result := some pass }) f.fen.kats
    let f := { f with fen := { f.fen with kats := kats }, cast := { f.cast with reqs := f.cast.reqs.filter (fun r => !(r.kind == 2 && r.num == num && r.member == path)) } }
    let m := (memberOf f.core.path path).getD 255
    let f := if pass then f.setRv m (fofInt 0) false
      else (f.chargeDie m true 0x1408 [path, num]).setRv m f64One false
    let same := f.fen.kats.filter (fun x => x.digest == k.digest && x.step == k.step)
    let f := if pass && same.length ≥ 2 && same.all (fun x => x.result == some true) then
        f.raise 0x1407 0x75 (k.digest :: same.map (fun x => x.path)) else f
    -- results are kept only while another die of the same vote is open
    let kats := f.fen.kats.filter (fun x => x.result.isNone || f.fen.kats.any (fun y => y.digest == x.digest && y.step == x.step && y.result.isNone))
    ({ f with fen := { f.fen with kats := kats } }, stOk)

/-- FENCE.KAT_TIMEOUT (R408). -/
def Fabato.katTimeout (f : Fabato) : Fabato :=
  (f.fen.kats.filter (fun k => k.result.isNone && !k.timedOut && decide (f.up ≥ k.at_ + 1000000000 * f.core.num oFenceKatTimeout))).foldl (fun f k =>
    ({ f with fen := { f.fen with kats := modWhere (fun x => x == k) (fun x => { x with timedOut := true }) f.fen.kats } } : Fabato).raise 0x1408 0x75 [k.path, k.num]) f

/-! ### Votes (R238, R239, R406–R409) -/

/-- The enabled vote entry of a digest id: replicas expected, timeout in µs, SHARD_ALIGNED (Table 15.3). -/
def Core.voteEntry (c : Core) (id : Nat) : Option (Nat × Nat × Bool) :=
  ((List.range 64).find? (fun i =>
    let b := c.elem oFenceVote (i + 1)
    leAt b 0 1 % 2 == 1 && bitsOf (leAt b 0 16) 41 32 == id)).map (fun i =>
      let n := leAt (c.elem oFenceVote (i + 1)) 0 16
      (bitsOf n 63 48, bitsOf n 127 96, n.testBit 1))

/-- A pair as its two records state it (Table 8.5). -/
def digestPair (path : Nat) (first second : Record) : DigestPair × Nat :=
  let p := first.payload.toNat
  let q := second.payload.toNat
  ({ path := path, a := p % 2 ^ 64, b := p / 2 ^ 64, sampled := bitsOf q 127 96, lines := bitsOf q 95 64, mask := bitsOf q 47 40,
     count := bitsOf q 39 32, shift := bitsOf q 31 24, status := bitsOf q 4 0 }, bitsOf q 63 48)

/-- Digest id of a pair: the index of an Ovtan's record, [7:0] of a group's (R537). -/
def digestId (e : ExtRecord) : Nat := if pathLevel e.path.toNat = 0 then e.base.src.toNat % 1024 else e.base.src.toNat % 256

/-- An entry before its first pair. -/
def DigestEntry.fresh (replica : Nat) : DigestEntry :=
  { replica := replica, a := 0, b := 0, sampled := 0, lines := 0, mask := 0, count := 0, shift := 0, status := 0, conflict := false, config := false,
    duplicates := 0, kept := [] }

/-- R238: combine a pair. The entry, and what it raises: 1 config mismatch, 2 shard conflict. -/
def DigestEntry.combine (e : DigestEntry) (r : DigestPair) : DigestEntry × Nat :=
  let first := e.count = 0
  if !first && (r.count != e.count || r.shift != e.shift || r.lines != e.lines) then ({ e with config := true }, 1)
  else
    let e := if first then { e with count := r.count, shift := r.shift, lines := r.lines } else e
    if e.kept.contains r then ({ e with duplicates := e.duplicates + 1 }, 0)
    else if e.mask &&& r.mask ≠ 0 then ({ e with conflict := true }, 2)
    else
      ({ e with kept := if e.kept.length < 8 then e.kept ++ [r] else e.kept, a := (e.a + r.a) % 2 ^ 64, b := (e.b + r.b) % 2 ^ 64,
                sampled := (e.sampled + r.sampled) % 2 ^ 64, mask := e.mask ||| r.mask, status := e.status ||| r.status }, 0)

/-- Whether an entry is complete. -/
def DigestEntry.complete (e : DigestEntry) : Bool := e.count != 0 && e.mask == 2 ^ e.count - 1

/-- A valid replica digest (R239): complete, without ABORT, CONFLICT or CONFIG. -/
def DigestEntry.valid (e : DigestEntry) : Bool := e.complete && !e.conflict && !e.config && !(e.status.testBit 1 || e.status.testBit 3 || e.status.testBit 4)

/-- The pair a group sends up for an entry (R239). -/
def DigestEntry.records (e : DigestEntry) (k : VoteKey) : List Record :=
  let st := e.status ||| (if e.conflict then 8 else 0) ||| (if e.config then 16 else 0)
  let q := e.sampled % 2 ^ 32 * 2 ^ 96 + e.lines * 2 ^ 64 + e.replica * 2 ^ 48 + e.mask * 2 ^ 40 + e.count * 2 ^ 32 + e.shift * 2 ^ 24 + st
  let src := ownSrc 0x75 k.id
  [ownRecord 0x30 .s 0 k.time k.step k.angle src (e.a + e.b * 2 ^ 64), ownRecord 0x30 .s 0 k.time k.step k.angle src q]

/-- Members named on one side (R407): those whose single-shard pair differs from the shard's majority, else all that contributed. -/
def namedIn (aligned : Bool) (valid : List DigestEntry) (e : DigestEntry) : List Nat :=
  let single (p : DigestPair) : Bool := popCount 8 p.mask == 1
  let bad := if !aligned then [] else e.kept.filter (fun p =>
    single p &&
      (let peers := valid.flatMap (fun x => x.kept.filter (fun q => q.mask == p.mask))
       let same (q : DigestPair) := (peers.filter (fun x => x.a == q.a && x.b == q.b)).length
       match peers.find? (fun q => decide (2 * same q > peers.length)) with
       | some q => q.a != p.a || q.b != p.b
       | none => false))
  if bad.isEmpty then (e.kept.map (fun p => p.path)).eraseDups else (bad.map (fun p => p.path)).eraseDups

/-- A vote names the member of a path, kind 1 a majority vote, 2 a two-replica vote: alarm 0x53, and the verdict applied or sent down (R409). -/
def Fabato.verdict (f : Fabato) (path id step arg : Nat) : Fabato :=
  let num := f.fen.verdNum
  let f := { f with fen := { f.fen with verdNum := (num + 1) % 2 ^ 32 } }
  let f := f.alarm path id 0x53 0x07 arg 0 num
  if f.core.kind = 1 then
    match memberOf f.core.path path with
    | some m =>
      let f := if arg = 2 then f.katRequest m id step else f
      f.setRv m (if arg = 1 then f64One else .fin 1 2) (arg = 1)
    | none => f
  else f.exchangeDown path (alarmWord path id 0x53 0x07 arg 0 num)

/-- A verdict taken above has reached the die's tray (R409). -/
def Fabato.verdictHere (f : Fabato) (payload : Nat) : Fabato :=
  let path := bitsOf payload 127 96
  let arg := bitsOf payload 47 40
  if f.core.kind ≠ 1 then f.exchangeDown path payload
  else match memberOf f.core.path path with
    | some m =>
      let f := if arg = 2 then f.katRequest m (bitsOf payload 73 64) f.core.angle.step else f
      f.setRv m (if arg = 1 then f64One else .fin 1 2) (arg = 1)
    | none => f

/-- A key closes (R406–R408): the vote of a voting group, and the incomplete entries, or every one without a vote entry, to the parent. -/
def Fabato.voteClose (f : Fabato) (k : VoteKey) : Fabato :=
  let f := { f with fen := { f.fen with votes := f.fen.votes.filter (fun x => !(x.id == k.id && x.step == k.step)) } }
  let up (f : Fabato) (es : List DigestEntry) := es.foldl (fun (f : Fabato) e => f.emitChain true k.time k.step 0 (e.records k)) f
  match f.core.voteEntry k.id with
  | none => up f k.entries
  | some (_, _, aligned) =>
    let f := f.onCore (fun c => c.bump oFenceVotes)
    let f := up f (k.entries.filter (fun e => !e.complete))
    let valid := k.entries.filter (fun e => e.valid)
    let n := valid.length
    let same (e : DigestEntry) := (valid.filter (fun x => x.a == e.a && x.b == e.b)).length
    if n ≤ 1 then f.raise 0x1406 0x75 [k.id, k.step, n]
    else if n = 2 then
      if valid.any (fun e => same e == 2) then f
      else (valid.flatMap (namedIn aligned valid)).eraseDups.foldl (fun f p => f.verdict p k.id k.step 2) f
    else match valid.find? (fun e => decide (2 * same e > n)) with
      | none => f.raise 0x1405 0x75 [k.id, k.step, n]
      | some w =>
        ((valid.filter (fun e => e.a != w.a || e.b != w.b)).flatMap (namedIn aligned valid)).eraseDups.foldl (fun f p => f.verdict p k.id k.step 1) f

/-- A digest pair has been ingested from a direct member (R238, R406). -/
def Fabato.digest (f : Fabato) (m : Nat) (first second : ExtRecord) : Fabato :=
  if f.excluded m then f
  else
    let id := digestId first
    let step := first.step.toNat
    let d := digestPair first.path.toNat first.base second.base
    let k : VoteKey := (f.fen.votes.find? (fun x => x.id == id && x.step == step)).getD
      { id := id, step := step, at_ := f.up, angle := first.base.angle.toNat, time := first.time.toNat, entries := [] }
    let e := (k.entries.find? (fun x => x.replica == d.2)).getD (DigestEntry.fresh d.2)
    let r := e.combine d.1
    let f := match r.2 with
      | 1 => f.raise 0x0806 0x75 [id, step, d.2, first.path.toNat]
      | 2 => f.raise 0x0807 0x75 [id, step, d.2, d.1.mask]
      | _ => f
    let k : VoteKey := { k with entries := k.entries.filter (fun (x : DigestEntry) => x.replica != d.2) ++ [r.1] }
    let f := { f with fen := { f.fen with votes := f.fen.votes.filter (fun (x : VoteKey) => !(x.id == id && x.step == step)) ++ [k] } }
    match f.core.voteEntry id with
    | some (n, _, _) => if (k.entries.filter (fun (x : DigestEntry) => x.complete)).length ≥ n then f.voteClose k else f
    | none => f

/-- Timeout of a key in ns. -/
def Core.voteTimeout (c : Core) (id : Nat) : Nat :=
  1000 * (match c.voteEntry id with
    | some (_, t, _) => t
    | none => c.num oFenceVoteTimeoutDefault)

/-- Keys whose timeout has passed close (R406). -/
def Fabato.voteTimeouts (f : Fabato) : Fabato :=
  (f.fen.votes.filter (fun k => decide (f.up ≥ k.at_ + f.core.voteTimeout k.id))).foldl (fun f k => f.voteClose k) f

/-! ### Exchanges received (R412) -/

/-- A suspicion notice (R415). -/
def Fabato.suspicionNotice (f : Fabato) (payload : Nat) : Fabato :=
  let v := if bitsOf payload 95 64 = 1 then 2 else 0
  let f := { f with fen := { f.fen with suspicion := v } }
  (f.raise 0x140C 0x75 [bitsOf payload 47 40, v]).noticeAll payload

/-- A fence exchange has arrived from a sending group: its MAC is checked, then it acts or goes on. -/
def Fabato.exchange (f : Fabato) (sender : Nat) (first second : Record) : Fabato :=
  let p := first.payload.toNat
  let code := bitsOf p 63 56
  if f.core.fenceMac first sender ≠ second.payload.toNat then
    (f.onCore (fun c => c.bump oFenceExchangeFails)).raise 0x140E 0x75 [sender, code]
  else match code with
    | 0x52 => f.tokenAnswer p
    | 0x53 => f.verdictHere p
    | 0x55 => f.suspicionNotice p
    | _ => f

/-! ### Operator commands and the lockstep pair -/

/-- FENCE.RELEASE: the member returns to probation (R413). -/
def Fabato.release (f : Fabato) (m : Nat) : Fabato × Nat :=
  if m ≥ 128 ∨ !f.fen.fenced.testBit m then (f, eRange)
  else
    let f := { f with fen := { f.fen with fenced := f.fen.fenced ^^^ 2 ^ m } }
    match f.entryOf m with
    | some e => if e.state = 1 ∨ e.state = 2 then ((f.startProbation e).checkQuorum, stOk) else (f, stOk)
    | none => (f, stOk)

/-- FENCE.FORCE: basis 4, no token. -/
def Fabato.forceFence (f : Fabato) (m : Nat) : Fabato × Nat :=
  if (f.entryOf m).isNone ∨ f.fen.fenced.testBit m then (f, eRange) else (f.fence m 4 (f.kinds m), stOk)

/-- Divergences of the pair within FT.CORRECTED_WINDOW, in operating hours. -/
def Fabato.divergedNow (f : Fabato) : List Nat := f.fen.diverged.filter (fun h => decide (f.alm.hours - h ≤ 10 * f.core.num oFtCorrectedWindow))

/-- The lockstep pair diverges (R410). -/
def Fabato.lockstepDiverge (f : Fabato) : Fabato :=
  if f.fen.failed ∨ f.fen.halted.isSome then f
  else
    let again := !f.divergedNow.isEmpty
    let runs := f.divergedNow ++ [f.alm.hours]
    let f := f.fen.reqs.foldl (fun f _ => f.refund) f
    let f := { f with fen := { f.fen with diverged := runs, halted := some f.up, reqs := [], failed := again } }
    let f := (f.onCore (fun c => c.bump oFenceLockstepErrors)).raise 0x140D 0x40 [runs.length]
    (f.charge slotPair 3 0 0x40 again 0x140D [runs.length]).1

/-- The pair has restarted from its durable state and sends alarm 0x58. -/
def Fabato.lockstepRestart (f : Fabato) : Fabato :=
  if f.fen.halted.isNone then f
  else ({ f with fen := { f.fen with halted := none } } : Fabato).alarm (withSub f.core.path 0x40) 0 0x58 0x05 0 0 0

/-- A member die's class A alarm with source 3 (Table 6.10) charges it, at most once per FENCE.H_COALESCE (R398). -/
def Fabato.dieAlarm (f : Fabato) (m code : Nat) : Fabato :=
  let last := f.fen.coalesce.getD m 0
  if last ≠ 0 ∧ f.ns < last + 1000000000 * f.core.num oFenceHCoalesce then f
  else
    let f := { f with fen := { f.fen with coalesce := f.fen.coalesce.set m f.ns } }
    (f.chargeDie m false code [f.memberPathOf m]).recompute m

end Sys2Proof.Machine
end

