-- ==== Sys2Proof/Machine/Place.lean ====
section
/-! DEFINITION. Where the contexts of a group are placed (R298): Cells, quadrants, and the member masks of contexts (R348). -/
namespace Sys2Proof.Machine

/-! ### Handles -/

def hReduce (n : Nat) : Nat := 0x1000 + n
def hFeat (n : Nat) : Nat := 0x2000 + n
def hDrift (d : Nat) : Nat := 0x3000 + d
def hModel (m : Nat) : Nat := 0x4000 + m

/-- Handle of part `k` of a model's gang, as a place names it. -/
def hGang (m k : Nat) : Nat := hModel m + 65536 * k

/-- Whether a handle is a model's, and which. -/
def modelOf (h : Nat) : Option Nat := if h % 65536 / 4096 = 4 ∧ h % 4096 < 64 then some (h % 4096) else none

/-- The quadrant an owning chapter names for a context, where it names one (R345, R365). -/
def quadOf (h : Nat) : Option Nat := if h / 4096 = 1 ∨ h / 4096 = 2 then some (h % 4) else none

/-! ### Cells -/

/-- A Cell as shipped. -/
def Cell.start (role : CellRole) : Cell :=
  { role := role, busy := 0, load := 0, lastWork := 0, warmSince := 0, dueSince := none, lastTest := 0, result := (0, 0), inject := none }

def Fabato.cell (f : Fabato) (i : Nat) : Cell := f.cel.cells.getD i (Cell.start .failed)
def Fabato.onCell (f : Fabato) (i : Nat) (h : Cell → Cell) : Fabato := { f with cel := { f.cel with cells := modAt f.cel.cells i h } }

/-- Cells of a quadrant, or of the chip (Table 11.2). -/
def quadCells (q : Option Nat) : List Nat :=
  match q with
  | some q => (List.range 13).map (fun i => 13 * q + i)
  | none => List.range 52

/-- Contexts a Cell serves now (CELL.CONTEXTS). -/
def Fabato.contextsOn (f : Fabato) (i : Nat) : Nat := (f.cel.places.filter (fun p => p.cell == some i)).length

/-- The Cell with the fewest contexts of a list, the lowest index on a tie. -/
def Fabato.fewest (f : Fabato) (l : List Nat) : Option Nat :=
  l.foldl (fun (b : Option Nat) i =>
    match b with
    | none => some i
    | some j => if f.contextsOn i < f.contextsOn j then some i else some j) none

/-- The Cell a new context goes to (R298): an active Cell with room, one that is power-gated only when no other has room. -/
def Fabato.pickCell (f : Fabato) (q : Option Nat) (ok : Nat → Bool) : Option Nat :=
  let l := (quadCells q).filter (fun i => (f.cell i).role == .active && decide (f.contextsOn i < 256) && ok i)
  let gated (i : Nat) : Bool := f.cel.blockState.getD i 0 == 2
  match f.fewest (l.filter (fun i => !gated i)) with
  | some i => some i
  | none => f.fewest (l.filter gated)

/-- Place of a handle. -/
def CellPart.place (c : CellPart) (h : Nat) : Option Place := c.places.find? (fun p => p.handle == h)

/-- Replace a place. -/
def CellPart.setPlace (c : CellPart) (p : Place) : CellPart := { c with places := modWhere (fun x => x.handle == p.handle) (fun _ => p) c.places }

/-- The Cell that serves a handle now. -/
def Fabato.served (f : Fabato) (h : Nat) : Option Nat := (f.cel.place h).bind (fun p => p.cell)

/-- A new context is placed on a Cell; with no room anywhere it is suspended. -/
def Fabato.placeOn (f : Fabato) (h : Nat) (c : Option Nat) : Fabato :=
  if (f.cel.place h).isSome then f
  else
    let p : Place := { handle := h, home := c.getD 255, cell := c, mode := if c.isSome then 0 else 3, seq := 0, moving := none }
    { f with cel := { f.cel with places := f.cel.places ++ [p] } }

/-- A new context in use. -/
def Fabato.placeNew (f : Fabato) (h : Nat) : Fabato := f.placeOn h (f.pickCell (quadOf h) (fun _ => true))

/-- A context no longer in use. -/
def Fabato.unplace (f : Fabato) (h : Nat) : Fabato := { f with cel := { f.cel with places := f.cel.places.filter (fun p => p.handle != h) } }

/-- Whether a context is being filled, tested, folded, hosted or moved, so that its results carry DELAYED (R357). -/
def Fabato.moved (f : Fabato) (h : Nat) : Bool :=
  match f.cel.place h with
  | none => false
  | some p => p.mode != 0 || p.moving.isSome || (match p.cell with
    | some c => (f.cell c).role != .active && (f.cell c).role != .warm
    | none => true)

/-! ### Descriptors as numbers -/

/-- A blob value as a number, to take Table fields from. -/
def Core.word (c : Core) (o : Nat) : Nat := ofLe (c.get o)

/-- Member mask of a context object (R348): a copy of ANGLE.GROUP_REF until it is written. -/
def Fabato.maskOf (f : Fabato) (o : Nat) : Nat := if f.an.masks.contains o then f.core.num o else f.an.planMask

/-- Whether member `i` is in a mask object. -/
def Fabato.inMask (f : Fabato) (o i : Nat) : Bool := (f.maskOf o).testBit i

/-! ### Values in a sample chain (Tables 6.8, 6.9) -/

/-- Counter `i` of a sample chain. -/
def counterIn (recs : List ExtRecord) (i : Nat) : Option Nat :=
  recs.findSome? (fun e =>
    let r := e.base
    let k := r.src.toNat % 1024
    if r.type != 0x02 then none
    else if k = i then some (r.payload.toNat % 2 ^ 64)
    else if k + 1 = i ∧ !r.flags.toNat.testBit 0 then some (r.payload.toNat / 2 ^ 64)
    else none)

/-- Channel `i` of a sample chain: the f32 of its slot. -/
def sensorIn (recs : List ExtRecord) (i : Nat) : Option Nat :=
  recs.findSome? (fun e =>
    let p := e.base.payload.toNat
    let hi := p / 2 ^ 64
    if e.base.type != 0x03 then none
    else if bitsOf p 15 8 = i then some (bitsOf p 63 32)
    else if hi ≠ 0 ∧ bitsOf hi 15 8 = i then some (bitsOf hi 63 32)
    else none)

end Sys2Proof.Machine
end

