-- ==== Sys2Proof/Machine/Anvil.lean ====
section
/-! DEFINITION. Feature contexts (R365–R370), Drift (R384–R387, R390), model images, versions and scoring (R371–R383, R388, R389). -/
namespace Sys2Proof.Machine

/-! ### Objects of one context, model or set -/

def oFeat (n e : Nat) : Nat := 0x12010000 + n * 256 + e
def oModel (m e : Nat) : Nat := 0x12030000 + m * 256 + e
def oSet (d e : Nat) : Nat := 0x13010000 + d * 256 + e

/-! ### Feature descriptors and slots (Tables 14.1, 14.2) -/

/-- Fields of a feature context descriptor. -/
structure FeatDesc where
  model : Nat
  set : Nat
  hold : Nat
  slot : Nat
  count : Nat
  entry : Nat
  mode : Nat
deriving DecidableEq, Repr

def featDesc (b : Bytes) : FeatDesc :=
  { model := leAt b 30 2, set := leAt b 28 2, hold := leAt b 24 4, slot := leAt b 20 4, count := leAt b 18 2, entry := leAt b 17 1, mode := leAt b 16 1 }

/-- Fields of a feature slot. -/
structure FeatSlot where
  const : Nat
  missing : Nat
  ctx : Nat
  operand : Nat
  feature : Nat
  index : Nat
  nanMissing : Bool
  op : Nat
  kind : Nat
deriving DecidableEq, Repr

def featSlot (b : Bytes) : FeatSlot :=
  let n := leAt b 0 16
  { const := bitsOf n 127 96, missing := bitsOf n 95 64, ctx := bitsOf n 63 48, operand := bitsOf n 47 39, feature := bitsOf n 38 33,
    index := bitsOf n 32 21, nanMissing := n.testBit 16, op := bitsOf n 15 12, kind := bitsOf n 11 8 }

/-- The 16-byte slots of ANVIL.FEAT element 0x03, the first `n` of them. -/
def slotsOf (b : Bytes) (n : Nat) : List Bytes := (List.range n).map (fun i => slice b (16 * i) 16)

/-- Checks of a descriptor beyond its type (Table 14.1): reserved bits, then ranges for a mode that is on. -/
def checkFeatDesc (b : Bytes) : Nat :=
  let d := featDesc b
  if leAt b 0 16 ≠ 0 then eReserved
  else if d.mode > 2 then eRange
  else if d.mode = 0 then stOk
  else if d.count < 1 ∨ d.count > 512 ∨ d.hold < 10 ∨ d.hold > 1000000 ∨ (d.mode = 2 ∧ d.slot < 10000) then eRange
  else stOk

/-- Checks of one slot (Tables 14.2, 14.3). -/
def checkFeatSlot (b : Bytes) : Nat :=
  let n := leAt b 0 16
  let s := featSlot b
  let idx := match s.kind with | 0 => 575 | 1 => 95 | 2 => 63 | 3 => 31 | _ => 4095
  let top := match s.kind with | 2 => 5 | 3 => 5 | 4 => 3 | _ => 63
  if bitsOf n 20 17 ≠ 0 ∨ bitsOf n 7 0 ≠ 0 then eReserved
  else if s.kind > 5 ∨ s.op > 5 ∨ s.feature > top ∨ s.index > idx then eRange
  else stOk

/-- The agreement rule of the declared pair (R366). -/
def featAgree (desc slots : Bytes) : Bool :=
  let d := featDesc desc
  d.mode == 0 || (slots.length == (d.count + 7) / 8 * 128 &&
    (List.range d.count).all (fun i =>
      let s := featSlot (slice slots (16 * i) 16)
      (s.op != 3 && s.op != 4) || decide (s.operand < i)))

/-! ### Slot values (R367, R368) -/

/-- Nearest f32 of a value. -/
def f32Of (x : FVal) : Nat := toF32 x

/-- The op of Table 14.3 on f32 bits; a zero result has the sign IEEE 754 gives it (DEDUCED, a log entry). -/
def slotOp (op x c b : Nat) : Nat :=
  let nan := nan32
  let v (y : FVal) := if y == .nan then nan else f32Of y
  let signed (n s : Nat) : Nat := if n % 2 ^ 31 = 0 then s / 2 ^ 31 % 2 * 2 ^ 31 else n
  match op with
  | 1 => signed (v (fmul (f32Val x) (f32Val c))) (x + c / 2 ^ 31 * 2 ^ 31)
  | 2 =>
    if fisNan fmt32 x then x
    else if x % 2 ^ 31 = 0 then 0xFF800000
    else if x ≥ 2 ^ 31 then nan
    else if x = 0x7F800000 then x
    else if x < 2 ^ 23 then 0xC2FE0000
    else f32Of (.fin (((x / 2 ^ 23 : Nat) : Int) * 8 - 127 * 8 + (x % 2 ^ 23 / 2 ^ 20 : Nat)) 8)
  | 3 => if x = 2 ^ 31 ∧ b = 0 then x else v (fsub (f32Val x) (f32Val b))
  | 4 => signed (v (fdivIeee x b)) (x + b / 2 ^ 31 * 2 ^ 31)
  | 5 => if fisNan fmt32 x ∨ fisNan fmt32 c then 0 else if f32Val x == f32Val c || (fle (f32Val x) (f32Val c) && fle (f32Val c) (f32Val x)) then 0x3F800000 else 0
  | _ => x
where
  /-- Quotient of two f32, the sign of a zero divisor kept. -/
  fdivIeee (x b : Nat) : FVal :=
    if b % 2 ^ 31 = 0 ∧ x % 2 ^ 31 ≠ 0 ∧ !fisNan fmt32 x then .inf ((x / 2 ^ 31 + b / 2 ^ 31) % 2 == 1)
    else fdiv (f32Val x) (f32Val b)

/-- Value of a kind 4 slot from a sample header payload (Table 6.7), none for a member that is a group. -/
def headerField (level feature p : Nat) : Option Nat :=
  if level ≠ 1 then none
  else
    let n := match feature with
      | 0 => bitsOf p 63 32
      | 1 => bitsOf p 79 64
      | 2 => popCount 16 (bitsOf p 111 96)
      | _ => popCount 16 (bitsOf p 95 80)
    some (f32Of (fofInt n))

/-- Statistic of a stream (Table 14.2), f64 value; none while n is 0. -/
def Stream.stat (s : Stream) (feature : Nat) : Option FVal :=
  if s.n = 0 then none
  else some (match feature with
    | 0 => f64Val s.m
    | 1 => fsqrt fmt64 (f64Val s.v)
    | 2 => f64Val s.sp
    | 3 => f64Val s.sn
    | 4 => r64 (fsub (f64Val s.mt) (f64Val s.mm))
    | _ => f64Val s.q)

/-- Source value of a slot other than kind 3, f32 bits; none when absent. `late` when the peers no longer count. -/
def sourceOf (level : Nat) (s : FeatSlot) (member : Nat) (at_ hold : Nat) (recs : List ExtRecord) (peers : List FPeer) : Option Nat :=
  match s.kind with
  | 0 => (counterIn recs s.index).map (fun n => f32Of (fofInt n))
  | 1 => sensorIn recs s.index
  | 2 => (peers.find? (fun p => p.red == s.ctx - 0x1000 && p.member == member && p.value == s.index && decide (at_ ≤ p.at_ + 1000 * hold))).map
      (fun p => p.feats.getD s.feature nan32)
  | 4 => match recs with
    | h :: _ => headerField level s.feature h.base.payload.toNat
    | [] => none
  | _ => some s.const

/-! ### Drift (R384–R387) -/

/-- Descriptor of a stream (Table 14.14). -/
structure StreamDesc where
  a : Nat
  b : Nat
  c : Nat
  d : Nat
  e : Nat
  weight : Nat
  warmup : Nat
  slot : Nat
  test : Nat
deriving DecidableEq, Repr

def streamDesc (x : Bytes) : StreamDesc :=
  { a := leAt x 28 4, b := leAt x 24 4, c := leAt x 20 4, d := leAt x 16 4, e := leAt x 12 4, weight := leAt x 8 4, warmup := leAt x 6 2,
    slot := bitsOf (leAt x 0 8) 47 39, test := bitsOf (leAt x 0 8) 38 36 }

/-- Range checks of a stream descriptor. -/
def checkStream (x : Bytes) : Nat :=
  let d := streamDesc x
  let fin (b : Nat) : Bool := b / 2 ^ 23 % 256 != 255
  let pos (b : Nat) : Bool := fin b && flt (fofInt 0) (f32Val b)
  let unit (b : Nat) : Bool := pos b && fle (f32Val b) (fofInt 1)
  if bitsOf (leAt x 0 8) 35 0 ≠ 0 then eReserved
  else if d.test > 4 then eRange
  else if d.test = 0 then stOk
  else if !(fin d.a && fin d.b && fin d.c && fin d.d && fin d.e && fin d.weight) || !(fle (fofInt 0) (f32Val d.weight) && fle (f32Val d.weight) (fofInt 1))
      || decide (d.warmup < 2) then eRange
  else
    let zero (b : Nat) : Bool := b % 2 ^ 31 == 0
    let ok := match d.test with
      | 1 => unit d.a && zero d.c && zero d.d && zero d.e
      | 2 => zero d.c && pos d.e
      | 3 => (d.c == 0x3F800000 || d.c == 0xBF800000) && zero d.d && zero d.e
      | _ => pos d.a && flt (f32Val d.a) (fofInt 1) && pos d.b && zero d.c && zero d.d && zero d.e
    if ok then stOk else eRange

/-- A stream's start state. -/
def Stream.start (desc member : Nat) : Stream :=
  { desc := desc, member := member, n := 0, armed := true, m := 0, v := 0, sp := 0, sn := 0, mean := 0, mt := 0, mm := 0, q := 0, missed := false }

/-- One update of a stream with value `x` (R385): the stream and its alarms, code and statistic. -/
def Stream.update (s : Stream) (d : StreamDesc) (x : FVal) : Stream × List (Nat × FVal) :=
  let a := f32Val d.a
  let b := f32Val d.b
  let enc (y : FVal) : Nat := toF64 y
  let add (x y : FVal) := r64 (fadd x y)
  let sub (x y : FVal) := r64 (fsub x y)
  let mul (x y : FVal) := r64 (fmul x y)
  let div (x y : FVal) := r64 (fdiv x y)
  let one := fofInt 1
  let warm (n : Nat) : Bool := decide (n ≥ d.warmup)
  match d.test with
  | 1 =>
    if s.n = 0 then ({ s with m := enc x, n := 1 }, [])
    else
      let m := f64Val s.m
      let v := f64Val s.v
      let dd := sub x m
      let sd := fsqrt fmt64 v
      let lim := mul b sd
      let fire := warm s.n && s.armed && flt lim (fabs dd)
      let armed := if fire then false else if fle (fabs dd) lim then true else s.armed
      let m' := add m (mul a dd)
      let v' := mul (sub one a) (add v (mul (mul a dd) dd))
      ({ s with m := enc m', v := enc v', armed := armed, n := s.n + 1 }, if fire then [(0x40, div (fabs dd) sd)] else [])
  | 2 =>
    let z := div (sub x (f32Val d.d)) (f32Val d.e)
    let sp := fmax (fofInt 0) (sub (add (f64Val s.sp) z) a)
    let sn := fmax (fofInt 0) (sub (sub (f64Val s.sn) z) a)
    let n := s.n + 1
    let up := warm n && flt b sp
    let dn := warm n && flt b sn
    ({ s with sp := if up then 0 else enc sp, sn := if dn then 0 else enc sn, n := n },
     (if up then [(0x41, sp)] else []) ++ (if dn then [(0x42, sn)] else []))
  | 3 =>
    let y := mul (f32Val d.c) x
    let n := s.n + 1
    let mean := add (f64Val s.mean) (div (sub y (f64Val s.mean)) (fofInt n))
    let mt := add (f64Val s.mt) (sub (sub y mean) a)
    let mm := fmin (f64Val s.mm) mt
    let g := sub mt mm
    if warm n && flt b g then ({ s with n := 0, mean := 0, mt := 0, mm := 0 }, [(0x43, g)])
    else ({ s with n := n, mean := enc mean, mt := enc mt, mm := enc mm }, [])
  | 4 =>
    if s.n = 0 then ({ s with q := enc x, n := 1 }, [])
    else
      let q := f64Val s.q
      let q' := if flt q x then add q (mul b a) else if flt x q then sub q (mul b (sub one a)) else q
      ({ s with q := enc q', n := s.n + 1 }, [])
  | _ => (s, [])

/-- A set of the group. -/
def AnalyticsPart.driftSet (a : AnalyticsPart) (d : Nat) : DriftSet := (a.sets.find? (fun s => s.idx == d)).getD { idx := d, streams := [] }

/-- Put a set. -/
def AnalyticsPart.setDrift (a : AnalyticsPart) (s : DriftSet) : AnalyticsPart := { a with sets := a.sets.filter (fun x => x.idx != s.idx) ++ [s] }

/-- Stream of descriptor `j` and member `m`. -/
def DriftSet.stream (s : DriftSet) (j m : Nat) : Stream := (s.streams.find? (fun x => x.desc == j && x.member == m)).getD (Stream.start j m)

/-- Put a stream. -/
def DriftSet.put (s : DriftSet) (x : Stream) : DriftSet := { s with streams := s.streams.filter (fun y => !(y.desc == x.desc && y.member == x.member)) ++ [x] }

/-- A Drift alarm of weight `w` moves the member's risk (R390). -/
def Fabato.driftRisk (f : Fabato) (m w : Nat) : Fabato :=
  let x := f.an.dv.getD m (0, 0)
  let v := r64 (fadd (r64 (fmul (f64Val x.1) (decayOf x.2 f.ns (f.core.num oDriftHalfLife)))) (f32Val w))
  { f with an := { f.an with dv := f.an.dv.set m (toF64 v, f.ns) } }

/-- A Drift alarm (R386): its record, event, count and the member's risk. -/
def Fabato.driftAlarm (f : Fabato) (d : Nat) (v : QVec) (s : Stream) (desc : StreamDesc) (code : Nat) (stat : FVal) : Fabato :=
  let stream := 128 * s.desc + v.member
  let p := v.path * 2 ^ 96 + toF32 stat * 2 ^ 64 + code * 2 ^ 56 + 4 * 2 ^ 48 + stream * 2 ^ 32 + hDrift d * 65536 + desc.slot
  let r := ownRecord 0x10 .a (if s.missed then 1 else 0) f.ns v.step v.angle (handleSrc (hDrift d)) p
  let f := (f.emitChain true f.ns v.step 0 [r]).onCore (fun c => c.bump (oSet d 2))
  ((f.raise 0x1206 0x74 [hDrift d, stream, code]).driftRisk v.member desc.weight).recompute v.member

/-- Whether a set is shed: no Cell serves it (Table 16.4). -/
def Fabato.shedding (f : Fabato) (h : Nat) : Bool := (f.served h).isNone

/-- A released vector updates its member's streams of set `d`, in descriptor order (R385). -/
def Fabato.driftUpdate (f : Fabato) (d : Nat) (v : QVec) : Fabato :=
  let b := f.core.get (oSet d 1)
  (List.range (b.length / 32)).foldl (fun (f : Fabato) j =>
    let desc := streamDesc (slice b (32 * j) 32)
    if desc.test = 0 then f
    else
      let set := f.an.driftSet d
      let s := set.stream j v.member
      if f.shedding (hDrift d) then { f with an := f.an.setDrift (set.put { s with missed := true }) }
      else
        let skip := decide (desc.slot ≥ v.values.length) || v.values.getD desc.slot 0 / 2 ^ 23 % 256 == 255
        if skip then f.onCore (fun c => c.bump oDriftSkipped)
        else
          let r := s.update desc (f32Val (v.values.getD desc.slot 0))
          let f := { f with an := f.an.setDrift (set.put r.1) }.onCore (fun c => c.bump (oSet d 3))
          r.2.foldl (fun f x => f.driftAlarm d v s desc x.1 x.2) f) f

/-- DRIFT.RESET of a member (R387): its streams, its Drift risk, and ŝ with them (R389). -/
def Fabato.driftReset (f : Fabato) (m : Nat) : Fabato × Nat :=
  if m ≥ 128 then (f, eRange) else (({ f with an := f.an.resetMember m } : Fabato).recompute m, stOk)

/-- A commit of a set's descriptors: the streams whose descriptor changed start again. -/
def Fabato.driftCommit (f : Fabato) (d : Nat) : Fabato :=
  let new := f.core.get (oSet d 1)
  let set := f.an.driftSet d
  let old := set.desc
  let same (j : Nat) : Bool := slice old (32 * j) 32 == slice new (32 * j) 32 && decide (32 * j < new.length)
  let f := { f with an := f.an.setDrift { set with streams := set.streams.filter (fun s => same s.desc), desc := new } }
  if new.isEmpty then f.unplace (hDrift d) else f.placeNew (hDrift d)

/-! ### Model images (R373–R376) -/

/-- Header of an image (Table 14.7). -/
structure ModelHdr where
  version : Nat
  nodes : Nat
  trees : Nat
  features : Nat
  outputs : Nat
  link : Nat
  gang : Nat
  base : Nat
deriving DecidableEq, Repr

def modelHdr (b : Bytes) : ModelHdr :=
  { version := leAt b 60 4, nodes := leAt b 56 4, trees := leAt b 54 2, features := leAt b 52 2, outputs := leAt b 51 1, link := leAt b 50 1,
    gang := leAt b 49 1, base := leAt b 44 4 }

def imgRoot (b : Bytes) (t : Nat) : Nat := leAt b (64 + 4 * t) 4
def imgNode (b : Bytes) (h : ModelHdr) (i : Nat) : Nat := leAt b (64 + 4 * h.trees + 8 * i) 8
def imgKnot (b : Bytes) (h : ModelHdr) (k : Nat) : Nat × Nat :=
  let o := 64 + 4 * h.trees + 8 * h.nodes + 8 * k
  (leAt b o 4, leAt b (o + 4) 4)

def nodeLeaf (n : Nat) : Bool := n.testBit 63
def nodeFeature (n : Nat) : Nat := bitsOf n 62 54
def nodeRight (n : Nat) : Nat := bitsOf n 53 39
def leafOutput (n : Nat) : Nat := bitsOf n 38 32

/-- Finite f32 bits. -/
def finite32 (b : Nat) : Bool := b / 2 ^ 23 % 256 != 255

/-- First node after tree `t`. -/
def treeEnd (b : Bytes) (h : ModelHdr) (t : Nat) : Nat := if t + 1 < h.trees then imgRoot b (t + 1) else h.nodes

/-- Depths of the nodes from index `i` back to `start`, folded from the tree's end: `rest` holds the depths of the nodes after. -/
def depths (b : Bytes) (h : ModelHdr) (start : Nat) : Nat → List Nat → List Nat
  | 0, rest => rest
  | k + 1, rest =>
    let n := imgNode b h (start + k)
    let d := if nodeLeaf n then 0 else 1 + Nat.max (rest.getD 0 0) (rest.getD (nodeRight n - 1) 0)
    depths b h start k (d :: rest)

/-- Whether a tree's nodes form a tree: every child inside, every node but the root the child of exactly one. -/
def treeShape (b : Bytes) (h : ModelHdr) (lo hi : Nat) : Bool :=
  let ns := (List.range (hi - lo)).map (fun i => (lo + i, imgNode b h (lo + i)))
  let kids := ns.flatMap (fun x => if nodeLeaf x.2 then [] else [x.1 + 1, x.1 + nodeRight x.2])
  kids.all (fun k => decide (lo < k) && decide (k < hi)) && ((List.range (hi - lo)).all (fun i => i == 0 || kids.count (lo + i) == 1))

/-- Trees of contiguous ranges filled in order (R376): start tree, trees and nodes of each; none beyond `g` ranges. -/
def splitTrees (b : Bytes) (h : ModelHdr) : List (Nat × Nat × Nat) :=
  (List.range h.trees).foldl (fun (l : List (Nat × Nat × Nat)) t =>
    let n := treeEnd b h t - imgRoot b t
    match l.getLast? with
    | some (s, k, m) => if k + 1 > 2048 ∨ m + n > 32768 then l ++ [(t, 1, n)] else l.dropLast ++ [(s, k + 1, m + n)]
    | none => [(t, 1, n)]) []

/-- Nodes and trees of range `k` of an image, zero where it has none. -/
def partSize (img : Option Bytes) (k : Nat) : Nat × Nat :=
  match img with
  | none => (0, 0)
  | some b => match (splitTrees b (modelHdr b))[k]? with
    | some (_, t, n) => (n, t)
    | none => (0, 0)

/-- A model slot. -/
def Fabato.model (f : Fabato) (m : Nat) : Model := f.an.models.getD m
  { idx := m, staging := [], shadow := none, active := none, reserve := [], switch := none, force := none, queue := [], held := [], episode := false,
    fault := 0, scored := 0, unscored := 0, ppm := 1000000 }

def Fabato.onModel (f : Fabato) (m : Nat) (h : Model → Model) : Fabato := { f with an := { f.an with models := modAt f.an.models m h } }

/-- Cells of a model's gang, lead first. -/
def Fabato.gang (f : Fabato) (m : Nat) : List Nat :=
  (List.range 8).filterMap (fun k => (f.cel.place (hGang m k)).map (fun p => p.cell.getD p.home))

/-- Nodes and trees of a Cell's node store that models other than `m` hold or reserve (R376). -/
def Fabato.storeUsed (f : Fabato) (m cell : Nat) : Nat × Nat :=
  (f.an.models.filter (fun x => x.idx != m)).foldl (fun (s : Nat × Nat) x =>
    (List.range 8).foldl (fun (s : Nat × Nat) k =>
      let a := if (f.gang x.idx)[k]? = some cell then partSize x.active k else (0, 0)
      let r := if x.reserve[k]? = some cell then partSize x.shadow k else (0, 0)
      (s.1 + Nat.max a.1 r.1, s.2 + Nat.max a.2 r.2)) s) (0, 0)

/-- Whether a Cell has room for a range of a model (R376): the active image's own range there stays until the reload. -/
def Fabato.roomFor (f : Fabato) (m cell nodes trees : Nat) : Bool :=
  let u := f.storeUsed m cell
  decide (u.1 + nodes ≤ 32768) && decide (u.2 + trees ≤ 2048)

/-- Cells for the ranges of an image: the gang's own Cell for a range where it has room, else one chosen by R298. -/
def Fabato.reserveCells (f : Fabato) (m : Nat) (ranges : List (Nat × Nat × Nat)) : Option (List Nat) :=
  let gang := f.gang m
  (ranges.zipIdx.foldl (fun (acc : Option (List Nat)) r =>
    match acc with
    | none => none
    | some l =>
      let ok (c : Nat) : Bool := f.roomFor m c r.1.2.2 r.1.2.1 && !l.contains c
      let keep := match gang[r.2]? with
        | some c => if ok c then some c else none
        | none => none
      match keep with
      | some c => some (l ++ [c])
      | none => (f.pickCell none ok).map (fun c => l ++ [c])) (some []))

/-- Install checks of Table 14.8 but the first and the ninth; 0 when all pass. -/
def imageFault (b : Bytes) : Nat :=
  let h := modelHdr b
  let size := 64 + 4 * h.trees + 8 * h.nodes + (if h.link = 4 then 520 else 0)
  if h.version = 0 ∨ h.nodes < 1 ∨ h.nodes > 262144 ∨ h.trees < 1 ∨ h.trees > 16384 ∨ h.features < 1 ∨ h.features > 512 ∨ h.outputs < 1
      ∨ h.outputs > 128 ∨ h.link > 4 ∨ h.gang < 1 ∨ h.gang > 8 ∨ !finite32 h.base ∨ b.length ≠ size then 2
  else
    let nodes := (List.range h.nodes).map (fun i => imgNode b h i)
    let trees := (List.range h.trees).map (fun t => (imgRoot b t, treeEnd b h t))
    if leAt b 48 1 ≠ 0 ∨ leAt b 0 44 ≠ 0 ∨ nodes.any (fun n =>
        if nodeLeaf n then bitsOf n 62 39 != 0 || decide (leafOutput n ≥ h.outputs) || !finite32 (n % 2 ^ 32) else bitsOf n 38 32 != 0) then 3
    else if imgRoot b 0 ≠ 0 ∨ trees.any (fun t => decide (t.1 ≥ t.2) || decide (t.2 > h.nodes) || !treeShape b h t.1 t.2) then 4
    else if trees.any (fun t => decide ((depths b h t.1 (t.2 - t.1) []).getD 0 0 > 32)) then 5
    else if nodes.any (fun n => !nodeLeaf n && (decide (n % 2 ^ 32 < 0x007FFFFF) || decide (n % 2 ^ 32 > 0xFF800001))) then 6
    else if nodes.any (fun n => !nodeLeaf n && decide (nodeFeature n ≥ h.features)) then 7
    else if (splitTrees b h).length > h.gang ∨ (splitTrees b h).any (fun r => decide (r.2.1 > 2048) || decide (r.2.2 > 32768)) then 8
    else if h.link = 4 ∧ ((List.range 65).any (fun k => !finite32 (imgKnot b h k).1 || !finite32 (imgKnot b h k).2)
        || (List.range 64).any (fun k => !flt (f32Val (imgKnot b h k).1) (f32Val (imgKnot b h (k + 1)).1))) then 10
    else 0

/-! ### Versions (R377, R378) -/

/-- A chunk of ANVIL.MODEL element 0x01. -/
def Fabato.modelLoad (f : Fabato) (m : Nat) (v : Bytes) : Fabato × Nat :=
  if (f.model m).switch.isSome then (f, eBusy)
  else if v.length < 4 ∨ leAt v 0 4 + (v.length - 4) > 2163272 then (f, eRange)
  else (f.onModel m (fun x => { x with staging := overlay x.staging (leAt v 0 4) (v.drop 4) }), stOk)

/-- Control 1 (R375, R377). -/
def Fabato.modelInstall (f : Fabato) (m : Nat) : Fabato :=
  let b := (f.model m).staging
  let h := modelHdr b
  let fail (code : Nat) : Fabato := (f.onModel m (fun x => { x with staging := [], fault := code })).raise 0x1202 0x73 [hModel m, code]
  if sha256 b ≠ f.core.get (oModel m 2) then fail 1
  else
    let e := imageFault b
    let cells := f.reserveCells m (splitTrees b h)
    if e ≠ 0 ∧ e ≠ 10 then fail e
    else match cells with
      | none => fail 9
      | some l =>
        if e = 10 then fail 10
        else (f.onModel m (fun x => { x with staging := [], shadow := some b, reserve := l, fault := 0 })).raise 0x1201 0x73 [hModel m, h.version, l.length]

/-- Control 2. -/
def Fabato.modelDiscard (f : Fabato) (m : Nat) : Fabato × Nat :=
  if (f.model m).switch.isSome then (f, eBusy) else (f.onModel m (fun x => { x with shadow := none, reserve := [] }), stOk)

/-- Parts of a model's gang leave their Cells. -/
def Fabato.dropGang (f : Fabato) (m : Nat) : Fabato := (List.range 8).foldl (fun f k => f.unplace (hGang m k)) f

/-- Control 3: the slot holds nothing. -/
def Fabato.modelUnload (f : Fabato) (m : Nat) : Fabato × Nat :=
  if (f.model m).switch.isSome then (f, eBusy)
  else ((f.onModel m (fun x => { x with staging := [], shadow := none, active := none, reserve := [], force := none, queue := [], held := [] })).dropGang m, stOk)

/-- Version of an image slot, 0 for none. -/
def versionOf (img : Option Bytes) : Nat := match img with | some b => (modelHdr b).version | none => 0

/-- Whether a staged activate value is admitted (R377). -/
def Fabato.activateOk (f : Fabato) (m v : Nat) : Bool :=
  let x := f.model m
  v == 0 || v == versionOf x.active || v == versionOf x.shadow

/-- A committed activation takes effect: by step `s`, or by time now (R378). -/
def Fabato.modelSwitch (f : Fabato) (m v : Nat) (step : Option Nat) : Fabato :=
  let x := f.model m
  if v = versionOf x.active then f
  else if v ≠ 0 ∧ v ≠ versionOf x.shadow then f.raise 0x1204 0x73 [hModel m, v]
  else
    let by_ := step.isSome
    let t := step.getD f.ns
    let cells := if v = 0 then f.gang m else x.reserve
    f.onModel m (fun x => { x with switch := some (by_, t, v, cells) })

/-- Whether a vector's key lies before a switch's target. -/
def QVec.before (v : QVec) (s : Bool × Nat) : Bool := if s.1 then decide (v.step < s.2) else decide (v.time < s.2)

/-- The switch is complete: images swap, the gang moves to the reserved Cells, held vectors proceed. -/
def Fabato.modelSwitched (f : Fabato) (m : Nat) : Fabato :=
  let x := f.model m
  match x.switch with
  | none => f
  | some (by_, t, v, _) =>
    let old := versionOf x.active
    if v ≠ 0 ∧ v ≠ versionOf x.shadow then
      (f.onModel m (fun x => { x with switch := none, queue := x.queue ++ x.held, held := [] })).raise 0x1204 0x73 [hModel m, v]
    else
      let prior := f.gang m
      let new := if v = 0 then none else x.shadow
      let shadow := if x.active.isSome then x.active else if v = 0 then x.shadow else none
      let reserve := if x.active.isSome then prior else if v = 0 then x.reserve else []
      let f := f.dropGang m
      let f := if v = 0 then f else x.reserve.zipIdx.foldl (fun (f : Fabato) c => f.placeOn (hGang m c.2) (some c.1)) f
      let f := f.onModel m (fun x => { x with active := new, shadow := shadow, reserve := reserve, switch := none, force := some (by_, t),
                                              queue := if v = 0 then [] else x.held, held := [] })
      f.raise 0x1203 0x73 [hModel m, old, v, t]

/-- A gang Cell has reloaded its node store (R378): possible once the vectors of earlier keys are scored. -/
def Fabato.reloadDone (f : Fabato) (m cell : Nat) : Fabato :=
  let x := f.model m
  match x.switch with
  | none => f
  | some (by_, t, v, cells) =>
    if !x.queue.isEmpty then f
    else
      let rest := cells.filter (fun c => c != cell)
      let f := f.onModel m (fun x => { x with switch := some (by_, t, v, rest) })
      if rest.isEmpty then f.modelSwitched m else f

/-! ### Scoring (R379–R383, R389) -/

/-- The u32 key of an f32 (R371). -/
def anvilKey (x : Nat) : Nat := if x / 2 ^ 31 % 2 = 1 then 2 ^ 32 - 1 - x % 2 ^ 32 else x % 2 ^ 32 + 2 ^ 31

/-- Walk from node `i` (R379): the leaf word and the internal nodes visited. `fuel` bounds the depth, which install holds to 32. -/
def walkFrom (b : Bytes) (h : ModelHdr) (vals : List Nat) : Nat → Nat → Nat → Nat × Nat
  | 0, i, k => (imgNode b h i, k)
  | fuel + 1, i, k =>
    let n := imgNode b h i
    if nodeLeaf n then (n, k)
    else if anvilKey (vals.getD (nodeFeature n) 0) < n % 2 ^ 32 then walkFrom b h vals fuel (i + 1) (k + 1)
    else walkFrom b h vals fuel (i + nodeRight n) (k + 1)

/-- Accumulators of the outputs after the trees of one range, and the node steps. -/
def walkRange (b : Bytes) (h : ModelHdr) (vals : List Nat) (r : Nat × Nat × Nat) (acc : List Acc) : List Acc × Nat :=
  (List.range r.2.1).foldl (fun (s : List Acc × Nat) t =>
    let w := walkFrom b h vals 33 (imgRoot b (r.1 + t)) 0
    (modAt s.1 (leafOutput w.1) (fun a => a.add (Acc.single 0 (f32Val (w.1 % 2 ^ 32)))), s.2 + Nat.max 1 w.2)) (acc, 0)

/-- Correctly rounded knots' interpolation of link 4. -/
def linkTable (b : Bytes) (h : ModelHdr) (m : FVal) : Nat :=
  let x (k : Nat) := f32Val (imgKnot b h k).1
  let y (k : Nat) := f32Val (imgKnot b h k).2
  if fle m (x 0) then (imgKnot b h 0).2
  else if fle (x 64) m then (imgKnot b h 64).2
  else
    let k := ((List.range 64).find? (fun k => fle (x k) m && flt m (x (k + 1)))).getD 0
    toF32 (r64 (fadd (y k) (r64 (fdiv (r64 (fmul (r64 (fsub m (x k))) (r64 (fsub (y (k + 1)) (y k))))) (r64 (fsub (x (k + 1)) (x k)))))))

/-- Scores of margins under a link (Table 14.10), f32 bits. -/
def linkScores (b : Bytes) (h : ModelHdr) (ms : List FVal) : List Nat :=
  let one := fofInt 1
  match h.link with
  | 1 => ms.map (fun m => toF32 (r64 (fdiv one (r64 (fadd one (fexp (fneg m)))))))
  | 2 =>
    let top := ms.foldl fmax (ms.headD (fofInt 0))
    let es := ms.map (fun m => fexp (r64 (fsub m top)))
    let s := r64 (es.foldl fadd (fofInt 0))
    es.map (fun e => toF32 (r64 (fdiv e s)))
  | 3 => ms.map (fun m => toF32 (fexp m))
  | 4 => ms.map (fun m => linkTable b h m)
  | _ => ms.map toF32

/-- The scores of one vector, and the node steps of each range. -/
def scoreVector (b : Bytes) (vals : List Nat) : List Nat × List Nat :=
  let h := modelHdr b
  let acc0 := List.replicate h.outputs (Acc.zero 0)
  let w := (splitTrees b h).foldl (fun (s : List Acc × List Nat) r =>
    let x := walkRange b h vals r s.1
    (x.1, s.2 ++ [x.2])) (acc0, [])
  let ms := w.1.map (fun a => r64 ((a.add (Acc.single 0 (f32Val h.base))).value))
  (linkScores b h ms, w.2)

/-- A vector leaves unscored (R383). -/
def Fabato.unscore (f : Fabato) (m reason : Nat) : Fabato :=
  let o := oModel m 0x0A
  let f := f.onCore (fun c =>
    let b := c.get o
    c.put o (overlay b (8 * (reason - 1)) (leBytes 8 (leAt b (8 * (reason - 1)) 8 + 1))))
  let f := if (f.model m).episode then f else f.raise 0x1205 0x73 [hModel m, reason]
  { f with cel := { f.cel with satSeen := f.cel.satSeen ||| 4 } }.onModel m (fun x => { x with episode := true, unscored := x.unscored + 1 })

/-- Weight, shift, output and forward bit of ANVIL.MODEL element 0x08. -/
def Core.modelHealth (c : Core) (m : Nat) : Nat × Nat × Nat × Bool :=
  let b := c.get (oModel m 8)
  (leAt b 12 4, leAt b 8 4, leAt b 7 1, (leAt b 0 1).testBit 0)

/-- ŝ of a model and member. -/
def AnalyticsPart.shatOf (a : AnalyticsPart) (j m : Nat) : Nat := ((a.shat.find? (fun x => x.1 == j && x.2.1 == m)).map (fun x => x.2.2)).getD 0

/-- A score moves ŝ and r_A of its member (R389). -/
def Fabato.scoreRisk (f : Fabato) (j m : Nat) (scores : List Nat) : Fabato :=
  let h := f.core.modelHealth j
  if !flt (fofInt 0) (f32Val h.1) then f
  else
    let s := scores.getD h.2.2.1 nan32
    let a := f.an
    let a := if fisNan fmt32 s then a
      else
        let old := f64Val (a.shatOf j m)
        let d := r64 (fsub (f32Val s) old)
        let p := pow2 (-(h.2.1 : Int))
        let new := toF64 (r64 (fadd old (r64 (fmul d (.fin p.1 p.2)))))
        { a with shat := a.shat.filter (fun x => !(x.1 == j && x.2.1 == m)) ++ [(j, m, new)] }
    let risk := (List.range 64).foldl (fun (r : FVal) k =>
      let w := f32Val (f.core.modelHealth k).1
      if flt (fofInt 0) w then fmax r (fmax (fofInt 0) (r64 (fmul w (f64Val (a.shatOf k m))))) else r) (fofInt 0)
    ({ f with an := { a with ra := a.ra.set m (toF64 (fmin f64One risk)) } } : Fabato).recompute m

/-- Payload of a score record (Table 14.12). -/
def scorePayload (scores : List Nat) (i wait : Nat) : Nat :=
  let one (k : Nat) : Nat := match scores[k]? with
    | some s => s * 2 ^ 32 + wait * 65536 + k * 256
    | none => 0
  one i + one (i + 1) * 2 ^ 64

/-- The scores of a vector leave as a group sample (R381). -/
def Fabato.sendScores (f : Fabato) (m : Nat) (v : QVec) (version entry : Nat) (scores : List Nat) (degraded : Bool) : Fabato :=
  let o := scores.length
  let wait := Nat.min 65535 ((f.ns - v.at_) / 1000)
  let late := (List.range 8).any (fun k => f.moved (hGang m k))
  let st := (if v.partial_ then 1 else 0) + (if late then 2 else 0) + (if degraded then 4 else 0)
  let p := (o + 1) / 2 * 2 ^ 112 + v.path * 2 ^ 80 + version * 2 ^ 48 + Nat.min 255 v.nans * 2 ^ 40 + Nat.min 255 v.subst * 2 ^ 32 + entry * 2 ^ 24
    + o * 65536 + st
  let src := handleSrc (hModel m)
  let recs := ownRecord 0x01 .s 0 f.ns v.step v.angle src p ::
    (List.range ((o + 1) / 2)).map (fun i => ownRecord 0x03 .s 0 f.ns v.step v.angle src (scorePayload scores (2 * i) wait))
  f.emitChain (f.core.modelHealth m).2.2.2 f.ns v.step 0 recs

/-- A gang Cell's node steps. -/
def Fabato.nodeSteps (f : Fabato) (m : Nat) (steps : List Nat) : Fabato :=
  ((f.gang m).zip steps).foldl (fun (f : Fabato) x => f.onCore (fun c => c.count (oAnvilNodeSteps + x.1 + 1) x.2)) f

/-- One vector at the start of its walk: scored, or dropped for its age or its version (R379, R381, R383). -/
def Fabato.walkVector (f : Fabato) (m : Nat) (v : QVec) (degraded : Bool) : Fabato :=
  let x := f.model m
  match x.active with
  | none => f
  | some b =>
    if f.ns > v.at_ + 1000 * f.core.num oAnvilScoreMaxAge then f.unscore m 1
    else
      let h := modelHdr b
      let r := scoreVector b v.values
      let f := (f.nodeSteps m r.2).sendScores m v h.version v.key.2 r.1 degraded
      let f := (f.onCore (fun c => c.bump (oModel m 0x0B))).onModel m (fun x => { x with scored := x.scored + 1, episode := false })
      f.scoreRisk m v.member r.1

/-- Whether a part of a model's gang is hosted: its scores carry DEGRADED (Table 14.11). -/
def Fabato.hosted (f : Fabato) (m : Nat) : Bool := (List.range 8).any (fun k => (f.cel.place (hGang m k)).any (fun p => p.mode == 2))

/-- A gang takes up to 64 queued vectors, in release order (R382). -/
def Fabato.anvilWalk (f : Fabato) (m : Nat) : Fabato :=
  let x := f.model m
  if x.active.isNone ∨ (List.range 8).any (fun k => (f.cel.place (hGang m k)).isSome && (f.served (hGang m k)).isNone) then f
  else
    let now := x.queue.take 64
    let f := f.onModel m (fun x => { x with queue := x.queue.drop 64 })
    now.foldl (fun f v => f.walkVector m v (f.hosted m)) f

/-- A released vector goes to the score queue of its model (R370, R378, R383). -/
def Fabato.queueVector (f : Fabato) (m : Nat) (v : QVec) : Fabato :=
  let x := f.model m
  let shed := (List.range 8).any (fun k => (f.cel.place (hGang m k)).isSome && (f.cel.place (hGang m k)).any (fun p => p.mode == 3))
  let full : Bool := decide (x.queue.length + x.held.length ≥ f.core.num oAnvilQueueLimit)
  if shed then f.unscore m 4
  else match x.switch with
    | some (b, t, _, _) =>
      if full then f.unscore m 3
      else if v.before (b, t) then
        if x.active.isNone then f else f.onModel m (fun x => { x with queue := x.queue ++ [v] })
      else f.onModel m (fun x => { x with held := x.held ++ [v] })
    | none =>
      if x.active.isNone then f
      else if x.force.any (fun s => v.before s) then f.unscore m 2
      else if full then f.unscore m 3
      else f.onModel m (fun x => { x with queue := x.queue ++ [v] })

/-! ### Feature contexts (R366–R370) -/

/-- A feature context's open keys. -/
def AnalyticsPart.feat (a : AnalyticsPart) (n : Nat) : FeatCtx := (a.feats.find? (fun c => c.idx == n)).getD { idx := n, keys := [] }

/-- Put a feature context. -/
def AnalyticsPart.setFeat (a : AnalyticsPart) (c : FeatCtx) : AnalyticsPart := { a with feats := a.feats.filter (fun x => x.idx != c.idx) ++ [c] }

def FeatCtx.setKey (c : FeatCtx) (k : FKey) : FeatCtx := { c with keys := modWhere (fun x => x.key == k.key) (fun _ => k) c.keys }

/-- Whether key `a` comes before key `b`. -/
def keyLt (a b : Nat × Nat) : Bool := decide (a.1 < b.1) || (a.1 == b.1 && decide (a.2 < b.2))

/-- Final values of a vector's slots (R367, R368) with the set's streams before the update: values, substitutions, slots whose source came as a NaN. -/
def slotValues (slots : List Bytes) (src : List (Option Nat)) (stat : Nat → Nat → Option FVal) : List Nat × Nat × List Nat :=
  slots.zipIdx.foldl (fun (a : List Nat × Nat × List Nat) s =>
    let d := featSlot s.1
    let x := if d.kind = 3 then (stat d.index d.feature).map toF32 else (src.getD s.2 none)
    let nan := match x with | some v => fisNan fmt32 v | none => false
    let x := if nan && d.nanMissing then none else x
    let v := x.getD d.missing
    let y := slotOp d.op v d.const (a.1.getD d.operand nan32)
    (a.1 ++ [y], if x.isNone then a.2.1 + 1 else a.2.1, if nan then a.2.2 ++ [s.2] else a.2.2)) ([], 0, [])

/-- One more NaN arrival of each slot listed (ANVIL.FEAT element 0x04, saturating). -/
def nanBump (b : Bytes) (l : List Nat) : Bytes :=
  l.foldl (fun b i => overlay b (4 * i) (leBytes 4 (Nat.min (2 ^ 32 - 1) (leAt b (4 * i) 4 + 1)))) b

/-- Release one completed vector (R370). -/
def Fabato.releaseVector (f : Fabato) (n : Nat) (k : FKey) (v : FVec) : Fabato :=
  match v.sample, v.done with
  | some (hd :: _), some (part, src) =>
    let d := featDesc k.desc
    let set := d.set - 0x3000
    let streams := f.an.driftSet set
    let stat (j feature : Nat) : Option FVal := if d.set = 0xFFFF then none else (streams.stream j v.member).stat feature
    let r := slotValues k.slots src stat
    let q : QVec := { member := v.member, path := hd.path.toNat, key := k.key, values := r.1, partial_ := part, subst := r.2.1, nans := r.2.2.length,
                      time := hd.time.toNat, step := hd.step.toNat, angle := hd.base.angle.toNat, at_ := f.ns }
    let f := f.onCore (fun c =>
      let c := c.bump (oFeat n 5)
      let c := if part then c.bump (oFeat n 6) else c
      if r.2.2.isEmpty then c else c.put (oFeat n 4) (nanBump (c.get (oFeat n 4)) r.2.2))
    let f := match modelOf d.model with
      | some m => f.queueVector m q
      | none => f
    if d.set = 0xFFFF then f else f.driftUpdate set q
  | _, _ => f

/-- Release every completed vector that no earlier open vector of its member holds back, in ascending key order; `fuel` bounds them. -/
def Fabato.releaseReady : Nat → Fabato → Nat → Fabato
  | 0, f, _ => f
  | fuel + 1, f, n =>
    let c := f.an.feat n
    let all := c.keys.flatMap (fun k => k.vecs.map (fun v => (k, v)))
    let ready := all.filter (fun x => x.2.done.isSome && !x.2.out &&
      !all.any (fun y => y.2.member == x.2.member && keyLt y.1.key x.1.key && y.2.done.isNone))
    let best := ready.foldl (fun (b : Option (FKey × FVec)) x =>
      match b with
      | none => some x
      | some y => if keyLt x.1.key y.1.key || (x.1.key == y.1.key && decide (x.2.member < y.2.member)) then some x else some y) none
    match best with
    | none => f
    | some (k, v) =>
      let k' : FKey := { k with vecs := modWhere (fun (x : FVec) => x.member == v.member) (fun x => { x with out := true }) k.vecs }
      let f := { f with an := f.an.setFeat (c.setKey k') }
      Fabato.releaseReady fuel (f.releaseVector n k v) n

/-- Sources of a vector that completes now. -/
def FKey.sources (k : FKey) (level : Nat) (v : FVec) : List (Option Nat) :=
  let d := featDesc k.desc
  k.slots.map (fun s =>
    let x := featSlot s
    if x.kind = 3 then none else sourceOf level x v.member v.at_ d.hold (v.sample.getD []) k.peers)

/-- Reductions that a key's kind 2 slots name. -/
def FKey.needs (k : FKey) : List Nat := (k.slots.filterMap (fun s =>
  let x := featSlot s
  if x.kind = 2 then some (x.ctx - 0x1000) else none)).eraseDups

/-- Complete the vectors of a key for which `test` holds, PARTIAL or whole. -/
def FKey.complete (k : FKey) (level : Nat) (part : Bool) (test : FVec → Bool) : FKey :=
  { k with vecs := modWhere (fun (v : FVec) => v.sample.isSome && v.done.isNone && test v) (fun v => { v with done := some (part, k.sources level v) }) k.vecs }

/-- Vectors of a key whose sources have all arrived complete whole. -/
def FKey.settle (k : FKey) (level : Nat) : FKey := if k.needs.all (fun r => k.closed.contains r) then k.complete level false (fun _ => true) else k

/-- Release bound of one context. -/
def FeatCtx.fuel (c : FeatCtx) : Nat := (c.keys.map (fun k => k.vecs.length)).sum + 1

/-- Put a context back and release what is ready. -/
def Fabato.afterFeat (f : Fabato) (c : FeatCtx) : Fabato := Fabato.releaseReady c.fuel { f with an := f.an.setFeat c } c.idx

/-- The key of a feature context, opened when it is new: at the limit the oldest key completes with PARTIAL and leaves. -/
def Fabato.openKey (f : Fabato) (n : Nat) (key : Nat × Nat) : Fabato :=
  let f := f.onCore (fun c => c.usePair (oFeat n 1) (oFeat n 3))
  let c := f.an.feat n
  if c.keys.any (fun k => k.key == key) then f
  else
    let f := match c.keys with
      | k :: _ =>
        if c.keys.length ≥ f.core.num oAnvilFeatOpenLimit then f.afterFeat (c.setKey (k.complete f.core.level true (fun _ => true))) else f
      | [] => f
    let c := f.an.feat n
    let keys := if c.keys.length ≥ f.core.num oAnvilFeatOpenLimit then c.keys.drop 1 else c.keys
    let d := f.core.usedBytes (oFeat n 1)
    let k : FKey := { key := key, desc := d, slots := slotsOf (f.core.usedBytes (oFeat n 3)) (featDesc d).count, closed := [], peers := [], vecs := [] }
    { f with an := f.an.setFeat { c with keys := keys ++ [k] } }

/-- Key of a sample under a feature context (R366, R351); none where it does not match. -/
def featKey (d : FeatDesc) (step time entry : Nat) : Option (Nat × Nat) :=
  if d.mode = 1 then (if d.entry = 0 ∨ d.entry = entry then some (step, entry) else none)
  else if d.mode = 2 ∧ d.slot ≠ 0 then some (time / d.slot, 0)
  else none

/-- A member's sample reaches feature context `n` (R366, R369). -/
def Fabato.featSample (f : Fabato) (n member : Nat) (recs : List ExtRecord) : Fabato :=
  match recs with
  | [] => f
  | hd :: _ =>
    let d := featDesc (f.core.usedBytes (oFeat n 1))
    if hd.base.type ≠ 0x01 ∨ !f.inMask (oFeat n 2) member then f
    else match featKey d hd.step.toNat hd.time.toNat (bitsOf hd.base.payload.toNat 31 24) with
      | none => f
      | some key =>
        let f := f.openKey n key
        let c := f.an.feat n
        match c.keys.find? (fun k => k.key == key) with
        | none => f
        | some k =>
          if k.vecs.any (fun v => v.member == member) then f
          else
            let v : FVec := { member := member, sample := some recs, at_ := f.ns, done := none, out := false }
            f.afterFeat (c.setKey ({ k with vecs := k.vecs ++ [v] }.settle f.core.level))

/-- A gap record for a member and key forms no vector (R369). -/
def Fabato.featGap (f : Fabato) (n member step entry : Nat) : Fabato :=
  let d := featDesc (f.core.usedBytes (oFeat n 1))
  if d.mode = 1 ∧ (d.entry = 0 ∨ d.entry = entry) ∧ f.inMask (oFeat n 2) member ∧ step ≥ 0 then f.onCore (fun c => c.bump (oFeat n 7)) else f

/-- A reduction has closed a key: the features it formed reach its target, and the contexts that name it know the key closed (R369). -/
def Fabato.featClosed (f : Fabato) (red mode entry : Nat) (key : Nat × Nat) (target : Nat) (feats : List (Nat × List (List Nat))) : Fabato :=
  (List.range 256).foldl (fun (f : Fabato) n =>
    let d := featDesc (f.core.usedBytes (oFeat n 1))
    if d.mode ≠ mode ∨ d.mode = 0 ∨ (d.mode = 1 ∧ d.entry ≠ entry) then f
    else
      let named := (slotsOf (f.core.usedBytes (oFeat n 3)) d.count).any (fun s => (featSlot s).kind == 2 && (featSlot s).ctx == hReduce red)
      let mine := target == hFeat n
      if !named && !mine then f
      else
        let f := f.openKey n key
        let c := f.an.feat n
        match c.keys.find? (fun k => k.key == key) with
        | none => f
        | some k =>
          let peers := if mine then feats.flatMap (fun m => m.2.zipIdx.map (fun v => ({ red := red, member := m.1, value := v.2, feats := v.1, at_ := f.ns } : FPeer))) else []
          f.afterFeat (c.setKey ({ k with closed := if k.closed.contains red then k.closed else k.closed ++ [red], peers := k.peers ++ peers }.settle f.core.level))) f

/-- Hold runs out for the vectors whose sample arrived that long ago (R369). -/
def Fabato.featHold (f : Fabato) : Fabato :=
  f.an.feats.foldl (fun (f : Fabato) c0 =>
    let c := f.an.feat c0.idx
    f.afterFeat { c with keys := c.keys.map (fun k => k.complete f.core.level true (fun v => decide (f.ns ≥ v.at_ + 1000 * (featDesc k.desc).hold))) }) f

/-- A rewind of the group Meridian: open keys at or above the step complete with PARTIAL (Table 14.16). -/
def Fabato.featRewind (f : Fabato) (step : Nat) : Fabato :=
  f.an.feats.foldl (fun (f : Fabato) c0 =>
    let c := f.an.feat c0.idx
    f.afterFeat { c with keys := c.keys.map (fun k => if (featDesc k.desc).mode = 1 ∧ k.key.1 ≥ step then k.complete f.core.level true (fun _ => true) else k) }) f

/-- A commit of a feature context's descriptor. -/
def Fabato.featCommit (f : Fabato) (n : Nat) : Fabato :=
  if (featDesc (f.core.usedBytes (oFeat n 1))).mode = 0 then f.unplace (hFeat n) else f.placeNew (hFeat n)

/-! ### Objects -/

/-- ANVIL.MODEL info: active and shadow versions, trees and nodes of the active image, gang Cells, 0xFF past them. -/
def Fabato.modelInfo (f : Fabato) (m : Nat) : Bytes :=
  let x := f.model m
  let h := match x.active with | some b => modelHdr b | none => modelHdr []
  let g := f.gang m
  leBytes 4 (versionOf x.active) ++ leBytes 4 (versionOf x.shadow) ++ leBytes 4 h.trees ++ leBytes 4 h.nodes
    ++ (List.range 8).flatMap (fun k => leBytes 1 (g.getD k 255)) ++ zeros 8

/-- ANVIL.MODEL state. -/
def Model.state (x : Model) : Nat :=
  (if x.staging.isEmpty then 0 else 1) + (if x.shadow.isSome then 2 else 0) + (if x.active.isSome then 4 else 0) + (if x.switch.isSome then 8 else 0)

end Sys2Proof.Machine
end

