-- ==== Sys2Proof/Machine/Reduce.lean ====
section
/-! DEFINITION. Reduction contexts (R345–R364): descriptors, contributions, epochs, results, corrections, peer features. -/
namespace Sys2Proof.Machine

/-- Object of element `e` of reduction context `n` (Table 13.9). -/
def oRed (n e : Nat) : Nat := 0x11100000 + n * 256 + e

/-! ### Descriptors (Table 13.2, R347) -/

/-- Fields of a reduction descriptor. -/
structure RedDesc where
  quantiles : List Nat
  slot : Nat
  timeout : Nat
  wait : Nat
  late : Nat
  target : Nat
  child : Nat
  ops : Nat
  quorum : Nat
  unit : Int
  out : Nat
  count : Nat
  entry : Nat
  mode : Nat
deriving DecidableEq, Repr

def redDesc (b : Bytes) : RedDesc :=
  { quantiles := [leAt b 48 4, leAt b 52 4, leAt b 56 4, leAt b 60 4], slot := leAt b 44 4, timeout := leAt b 40 4, wait := leAt b 36 4,
    late := leAt b 32 4, target := leAt b 30 2, child := leAt b 28 2, ops := leAt b 26 2, quorum := leAt b 25 1, unit := signedOf 8 (leAt b 24 1),
    out := leAt b 23 1, count := leAt b 22 1, entry := leAt b 21 1, mode := leAt b 20 1 }

/-- Checks of a descriptor (R346). -/
def checkRedDesc (b : Bytes) : Nat :=
  let d := redDesc b
  if leAt b 0 20 ≠ 0 ∨ (d.ops / 512 ≠ 0) then eReserved
  else if d.mode = 0 then stOk
  else if d.mode > 2 ∨ (d.mode = 2 ∧ d.slot < 10000) ∨ d.timeout < 10 ∨ d.timeout > 1000000 ∨ d.wait > 1000000 ∨ d.late > 600000
      ∨ d.quorum < 1 ∨ d.quorum > 128 ∨ d.count < 1 ∨ d.count > 64 ∨ (d.ops.testBit 4 ∧ d.count > 16)
      ∨ !([0x04, 0x07, 0x09, 0x0C, 0x0D].contains d.out) ∨ (d.ops.testBit 6 ∧ !(d.ops.testBit 0 && d.ops.testBit 1))
      ∨ (d.ops.testBit 7 ∧ d.mode ≠ 1) then eRange
  else stOk

/-- Fields of a value descriptor: format, record type, index. -/
def valueDesc (n : Nat) : Nat × Nat × Nat := (bitsOf n 31 24, bitsOf n 23 16, bitsOf n 10 0)

/-- Value descriptors of a blob. -/
def valueDescs (b : Bytes) : List (Nat × Nat × Nat) := (List.range (b.length / 4)).map (fun i => valueDesc (leAt b (4 * i) 4))

/-- Checks of ANVIL-style value descriptors (R347). -/
def checkValues (b : Bytes) : Nat :=
  if b.length % 4 ≠ 0 ∨ b.length > 256 then eRange
  else
    let l := (List.range (b.length / 4)).map (fun i => leAt b (4 * i) 4)
    if l.any (fun n => bitsOf n 15 11 != 0) then eReserved
    else if l.any (fun n =>
        let v := valueDesc n
        decide (v.1 < 3) || decide (v.1 > 14) || (v.2.1 != 2 && v.2.1 != 3) || (v.2.1 == 3 && v.1 != 0x0C)
          || (if v.2.1 = 3 then decide (v.2.2 > 95) else decide (v.2.2 > (if v.1 = 5 then 574 else 575)))) then eRange
    else stOk

/-- The agreement rule of the pair: the value descriptors count V. -/
def redAgree (desc values : Bytes) : Bool := (redDesc desc).mode == 0 || (redDesc desc).count * 4 == values.length

/-! ### Contributions (R349) -/

/-- A contribution to a reduction context. -/
structure Contrib where
  member : Nat
  /-- 0 a sample, 1 a partial, 2 a gap -/
  kind : Nat
  key : Nat × Nat
  leaves : Nat
  /-- correction index of a partial -/
  corr : Nat
  overflow : Bool
  delayed : Bool
  step : Nat
  angle : Nat
  values : List VAcc
  /-- x of each value: type code and encoding -/
  xs : List (Nat × Option Nat)
  /-- operations and sum kinds of a partial; none where its chain has no such layout -/
  shape : Option (Nat × List Nat)
deriving DecidableEq, Repr

/-- Encoding of a value in a sample chain (R347, R349). -/
def valueIn (recs : List ExtRecord) (v : Nat × Nat × Nat) : Option Nat :=
  if v.2.1 = 3 then sensorIn recs v.2.2
  else if v.1 = 5 then
    match counterIn recs v.2.2, counterIn recs (v.2.2 + 1) with
    | some lo, some hi => some (lo + hi * 2 ^ 64)
    | _, _ => none
  else (counterIn recs v.2.2).map (fun n => n % 2 ^ fmtBits v.1)

/-- Key of a step, time and entry under a descriptor (R351). -/
def redKey (d : RedDesc) (step time entry : Nat) : Option (Nat × Nat) :=
  if d.mode = 1 then (if d.entry = 0 ∨ d.entry = entry then some (step, entry) else none)
  else if d.mode = 2 ∧ d.slot ≠ 0 then some (time / d.slot, 0)
  else none

/-- Epoch id of a key (R351). -/
def epochId (mode : Nat) (key : Nat × Nat) : Nat := if mode = 1 then key.1 % 2 ^ 24 * 256 + key.2 % 256 else key.1 % 2 ^ 32

/-- A member's sample as a contribution. -/
def sampleContrib (d : RedDesc) (vals : List (Nat × Nat × Nat)) (member : Nat) (recs : List ExtRecord) : Option Contrib :=
  match recs with
  | [] => none
  | h :: rest =>
    if h.base.type ≠ 0x01 then none
    else (redKey d h.step.toNat h.time.toNat (bitsOf h.base.payload.toNat 31 24)).map (fun key =>
      let bs := vals.map (fun v => (v.1, valueIn rest v))
      { member := member, kind := 0, key := key, leaves := 1, corr := 0, overflow := false, delayed := false, step := h.step.toNat,
        angle := h.base.angle.toNat, values := bs.map (fun b => VAcc.single b.1 d.unit b.2), xs := bs, shape := none })

/-- Layouts a chain may have that hold every image a parent selects, fewest images first (R355, R356, DEDUCED). -/
def layouts (need : Nat) : List Nat := sortBy ((List.range 32).filter (fun o => o &&& need == need)) (fun a b => decide (popCount 5 a < popCount 5 b) || (popCount 5 a == popCount 5 b && decide (a ≤ b)))

/-- Values and shape of a partial's chain after its header. -/
def parsePartial (d : RedDesc) (count : Nat) (recs : List ExtRecord) : Option (List VAcc × (Nat × List Nat)) :=
  if count ≠ d.count ∨ recs.isEmpty then none
  else
    let l := (recs.drop 1).map (fun e => (e.base.payload.toNat, e.base.flags.toNat.testBit 0))
    (layouts (d.ops % 32)).findSome? (fun o => (readImages o count 0 l).map (fun vs => (vs, (o, if o.testBit 0 then vs.map (fun v => v.sum.kind) else []))))

/-- A child's partial as a contribution (R356); `now` is this group's time. -/
def partialContrib (d : RedDesc) (now member : Nat) (recs : List ExtRecord) : Option Contrib :=
  match recs with
  | [] => none
  | h :: rest =>
    let p := h.base.payload.toNat
    let entry := bitsOf p 31 24
    let key := if d.mode = 2 then some (extendNs h.epoch.toNat (now / d.slot), 0)
      else if d.entry = 0 ∨ d.entry = entry then some (h.step.toNat, entry) else none
    key.map (fun key =>
      let leaves := bitsOf p 111 80
      let r := parsePartial d (bitsOf p 47 40) rest
      let vs := match r with | some x => x.1 | none => []
      { member := member, kind := 1, key := key, leaves := leaves, corr := bitsOf p 63 48, overflow := p.testBit 3, delayed := p.testBit 4,
        step := h.step.toNat, angle := h.base.angle.toNat, values := vs,
        xs := vs.map (fun v => (0x0D, if leaves = 0 then none else some (toF64 (fdiv v.sum.finite (fofInt leaves))))), shape := r.map (fun x => x.2) })

/-! ### Features (R360–R362) -/

/-- Value of an encoded x. -/
def xVal (x : Nat × Option Nat) : FVal := match x.2 with | some b => fmtVal x.1 b | none => .nan

/-- z-score of x (R361): `n` finite contributions. -/
def zScore (v : VAcc) (n : Int) (x : FVal) : Nat :=
  let bad (a : Acc) : Bool := a.pinf != 0 || a.ninf != 0 || a.nan != 0
  match x with
  | .fin _ _ =>
    if bad v.sum || bad v.sq || decide (n < 2) then nan32
    else
      let s1 := v.sum.finite
      let mean := r64 (fdiv s1 (fofInt n))
      let var := r64 (fdiv (fsub (fmul (fofInt n) v.sq.finite) (fmul s1 s1)) (fofInt (n * n)))
      let sd := fsqrt fmt64 var
      if fisZero sd then 0 else toF32 (r64 (fdiv (r64 (fsub (r64 x) mean)) sd))
  | _ => nan32

/-- Lag of a member for a step: ns and angle form (R173). -/
def Group.lagOf (g : Group) (step member : Nat) : Option (Int × Int) :=
  (g.win.past.find? (fun x => x.1 == step && x.2.1 == member)).map (fun x => x.2.2)

/-- The six features of one member and value (Table 13.6): `all` holds every included member's x of the value. -/
def peerFeatures (ops : Nat) (v : VAcc) (finite : Int) (lag : Option (Int × Int)) (all : List (Nat × (Nat × Option Nat))) (m : Nat) (x : Nat × Option Nat) : List Nat :=
  let good := all.filter (fun y => xVal y.2 != .nan)
  let val := xVal x
  let key (y : Nat × Option Nat) : Int := fmtKey y.1 (y.2.getD 0)
  let rank : Option Nat := if val = .nan then none
    else some ((good.filter (fun y => decide (key y.2 < key x) || (key y.2 == key x && decide (y.1 < m)))).length)
  let num (n : Nat) : Nat := toF32 (fofInt n)
  [if val = .nan then nan32 else toF32 val,
   if !ops.testBit 5 then nan32 else match rank with | some r => num r | none => nan32,
   if !ops.testBit 5 then nan32 else match rank with
     | some r => if good.length = 1 then 0 else toF32 (fofRat r (good.length - 1))
     | none => nan32,
   if ops.testBit 6 then zScore v finite val else nan32,
   if !ops.testBit 7 then nan32 else match lag with | some l => toF32 (fofRat l.2 (2 ^ 32)) | none => nan32,
   if !ops.testBit 7 then nan32 else match lag with | some l => toF32 (fofInt l.1) | none => nan32]

/-- Features of an epoch's included members (R360). -/
def epochFeatures (g : Group) (e : REpoch) : List (Nat × List (List Nat)) :=
  let d := redDesc e.desc
  if d.ops / 32 % 8 = 0 then []
  else e.inputs.map (fun i =>
    (i.1, i.2.zipIdx.map (fun x =>
      let v := e.acc.getD x.2 (VAcc.zero x.1.1)
      let fin : Int := (e.leaves : Int) - v.sum.pinf - v.sum.ninf - v.sum.nan
      let all := e.inputs.map (fun j => (j.1, j.2.getD x.2 (0x0D, none)))
      peerFeatures d.ops v fin (g.lagOf e.key.1 i.1) all i.1 x.1)))

/-! ### Epochs (R350–R359) -/

/-- Epochs of a context. -/
def AnalyticsPart.red (a : AnalyticsPart) (n : Nat) : RCtx :=
  (a.reds.find? (fun c => c.idx == n)).getD { idx := n, opens := [], closed := [], forgotten := [], rewound := [] }

/-- Put a context. -/
def AnalyticsPart.setRed (a : AnalyticsPart) (c : RCtx) : AnalyticsPart := { a with reds := a.reds.filter (fun x => x.idx != c.idx) ++ [c] }

def Fabato.onRed (f : Fabato) (n : Nat) (h : RCtx → RCtx) : Fabato := { f with an := f.an.setRed (h (f.an.red n)) }

/-- Replace an epoch. -/
def putEpoch (e : REpoch) (l : List REpoch) : List REpoch := modWhere (fun x => x.key == e.key) (fun _ => e) l

/-- Value indices whose accumulators overflow under the operations (R340). -/
def overflowing (ops : Nat) (vs : List VAcc) : List Nat :=
  (vs.zipIdx.filter (fun v => (ops.testBit 0 && v.1.sum.overflows) || (ops.testBit 1 && v.1.sq.overflows))).map (fun v => v.2)

/-- Status bits of an epoch that its contributions set. -/
def REpoch.bits (e : REpoch) : Nat := (if e.overflow then 8 else 0) + (if e.delayed then 16 else 0) + (if e.rewound then 32 else 0) + (if e.config then 64 else 0)

/-- Emit a result or correction (R354, R355, R358). -/
def Fabato.emitResult (f : Fabato) (n : Nat) (e : REpoch) (status corr : Nat) (vals : List VAcc) (ovf : List Nat) : Fabato :=
  let d := redDesc e.desc
  let missing := e.expected &&& (2 ^ 128 - 1 - e.included)
  let body := (missing, false) :: (vals.zipIdx.flatMap (fun v => valueImages (d.ops % 32) v.2 v.1))
  let p := Nat.min body.length 65535 * 2 ^ 112 + e.leaves % 2 ^ 32 * 2 ^ 80 + popCount 128 e.included * 2 ^ 72 + popCount 128 e.expected * 2 ^ 64
    + corr % 65536 * 2 ^ 48 + d.count * 2 ^ 40 + popCount 128 e.lost * 2 ^ 32 + e.key.2 % 256 * 2 ^ 24 + d.mode * 65536 + status
  let id := epochId d.mode e.key
  let step := if d.mode = 1 then e.key.1 else e.step
  let src := handleSrc (hReduce n)
  let recs := ownRecord 0x01 .s 0 f.ns step e.angle src p :: body.map (fun b => ownRecord 0x02 .s (if b.2 then 1 else 0) f.ns step e.angle src b.1)
  let f := f.onCore (fun c => ((c.put (oRed n 5) (leBytes 16 p ++ leBytes 4 id)).bump (oRed n (if corr = 0 then 6 else 7))))
  let f := if status.testBit 3 then (f.onCore (fun c => c.bump oReduceOverflows)).raise 0x1105 0x72 (hReduce n :: id :: ovf) else f
  f.emitChain (d.ops.testBit 8) f.ns step id recs

/-- Forget a closed key (Table 13.3). -/
def RCtx.forget (c : RCtx) (key : Nat × Nat) : RCtx :=
  { c with closed := c.closed.filter (fun e => e.key != key), forgotten := c.forgotten.filter (fun k => k.1 != key) ++ [(key, false)] }

/-- Keep a closed epoch, and forget the oldest beyond REDUCE.KEY_KEEP; as many forgotten keys are remembered. -/
def RCtx.keepClosed (c : RCtx) (keep : Nat) (e : REpoch) : RCtx :=
  let c := { c with closed := c.closed ++ [e] }
  let c := match c.closed with
    | x :: _ => if c.closed.length > keep then c.forget x.key else c
    | [] => c
  { c with forgotten := c.forgotten.drop (c.forgotten.length - keep) }

/-- close(e, flags) (R353). A rewound epoch is forgotten at once. -/
def Fabato.closeEpoch (f : Fabato) (n : Nat) (e : REpoch) (flags : Nat) (rewind : Bool) : Fabato :=
  let d := redDesc e.desc
  let short := decide (popCount 128 e.included < d.quorum)
  let ovf := overflowing d.ops e.acc
  let e := { e with overflow := e.overflow || !ovf.isEmpty, delayed := e.delayed || f.moved (hReduce n) }
  let status := flags ||| e.bits ||| (if short then 1 else 0)
  let f := f.emitResult n e status 0 e.acc ovf
  let id := epochId d.mode e.key
  let f := if short then (f.onCore (fun c => c.bump oReduceShortCloses)).raise 0x1101 0x72 [hReduce n, id, popCount 128 e.included] else f
  let e := { e with closedAt := some f.ns, status := status }
  let f := f.onRed n (fun c =>
    let c := { c with opens := c.opens.filter (fun x => x.key != e.key) }
    if rewind then { c with rewound := if c.rewound.contains e.key then c.rewound else c.rewound ++ [e.key] } else c.keepClosed (f.core.num oReduceKeyKeep) e)
  f.featClosed n d.mode d.entry e.key d.target (if short then [] else epochFeatures f.g e)

/-- check_close (R353). -/
def Fabato.checkClose (f : Fabato) (n : Nat) (e : REpoch) : Fabato :=
  let d := redDesc e.desc
  let waiting := e.expected &&& f.upMembers &&& (2 ^ 128 - 1 - (e.included ||| e.lost))
  if waiting = 0 then f.closeEpoch n e 0 false
  else if e.quorumAt.any (fun q => decide (f.ns ≥ q + 1000 * d.wait)) then f.closeEpoch n e 0 false
  else if f.ns ≥ e.opened + 1000 * d.timeout then f.closeEpoch n e 2 false
  else f

/-- Fold a contribution's values into an epoch (R353). -/
def REpoch.add (e : REpoch) (c : Contrib) : REpoch :=
  let vals := valueDescs e.values
  { e with
    acc := (e.acc.zip (c.values.zip vals)).map (fun x => x.1.add x.2.2.1 x.2.1), included := e.included ||| 2 ^ c.member,
    leaves := e.leaves + c.leaves, overflow := e.overflow || c.overflow, delayed := e.delayed || c.delayed,
    inputs := e.inputs.filter (fun i => i.1 != c.member) ++ [(c.member, c.xs)] }

/-- Fold a child's correction: its images, and the leaf count raised to the child's revised one (R359). -/
def REpoch.addCorrection (e : REpoch) (c : Contrib) : REpoch :=
  let old := ((e.kids.find? (fun k => k.1 == c.member)).map (fun k => k.2.2)).getD 0
  let e' := { e.add { c with leaves := 0 } with inputs := e.inputs }
  { e' with leaves := e.leaves + (c.leaves - old), kids := modWhere (fun k => k.1 == c.member) (fun k => (k.1, c.corr, c.leaves)) e.kids }

/-- A contribution comes too late for its key. -/
def Fabato.tooLate (f : Fabato) (n : Nat) (d : RedDesc) (c : Contrib) : Fabato :=
  let f := f.onCore (fun k => k.bump oReduceTooLate)
  let x := f.an.red n
  if x.forgotten.any (fun k => k.1 == c.key && k.2) then f
  else (f.onRed n (fun x => { x with forgotten := modWhere (fun k => k.1 == c.key) (fun k => (k.1, true)) x.forgotten })).raise 0x1104 0x72
    [hReduce n, epochId d.mode c.key, c.member]

/-- Whether a partial agrees with the first one an epoch took (R356). -/
def REpoch.shapeOk (e : REpoch) (c : Contrib) : Bool :=
  c.kind != 1 || (match c.shape, e.shape with
    | some _, none => true
    | some a, some b => a == b
    | none, _ => false)

/-- A mismatched partial is discarded. -/
def Fabato.partialConfig (f : Fabato) (n id child : Nat) : Fabato := f.raise 0x1106 0x72 [hReduce n, id, child]

/-- A contribution to an open epoch. -/
def Fabato.foldOpen (f : Fabato) (n : Nat) (e : REpoch) (c : Contrib) : Fabato :=
  let id := epochId (redDesc e.desc).mode e.key
  let dup (f : Fabato) : Fabato := f.onCore (fun k => k.bump oReduceDuplicates)
  let finish (f : Fabato) (e : REpoch) : Fabato :=
    let d := redDesc e.desc
    let e := if e.quorumAt.isNone && decide (popCount 128 e.included ≥ d.quorum) then { e with quorumAt := some f.ns } else e
    (f.onRed n (fun x => { x with opens := putEpoch e x.opens })).checkClose n e
  if c.kind = 1 ∧ c.corr ≠ 0 then
    match e.kids.find? (fun k => k.1 == c.member) with
    | none => f.tooLate n (redDesc e.desc) c
    | some k => if c.corr ≤ k.2.1 then dup f else finish f (e.addCorrection c)
  else if (e.included ||| e.lost ||| e.bad).testBit c.member then dup f
  else if c.kind = 2 then finish f { e with lost := e.lost ||| 2 ^ c.member }
  else if !e.shapeOk c then finish (f.partialConfig n id c.member) { e with bad := e.bad ||| 2 ^ c.member, config := true }
  else
    let e := e.add c
    let e := if c.kind = 1 then
        let kinds := match c.shape with | some s => s.2 | none => []
        { e with shape := c.shape, kids := e.kids ++ [(c.member, 0, c.leaves)],
                 acc := if e.shape.isNone then (e.acc.zipIdx.map (fun a => match kinds[a.2]? with
                   | some k => { a.1 with sum := { a.1.sum with kind := k } }
                   | none => a.1)) else e.acc }
      else e
    finish f e

/-- A contribution to a closed, kept key: a correction (R358, R359). -/
def Fabato.foldLate (f : Fabato) (n : Nat) (e : REpoch) (c : Contrib) : Fabato :=
  let d := redDesc e.desc
  let dup (f : Fabato) : Fabato := f.onCore (fun k => k.bump oReduceDuplicates)
  let correct (f : Fabato) (e : REpoch) : Fabato :=
    let ovf := overflowing d.ops e.acc
    let e := { e with corr := e.corr + 1 }
    let keep := e.status &&& (0xFF - 8 - 1)
    let bits := (if c.overflow || !ovf.isEmpty then 8 else 0) ||| (if c.delayed then 16 else 0) ||| (if popCount 128 e.included < d.quorum then 1 else 0)
    let e := { e with status := keep ||| bits }
    let f := (f.onRed n (fun x => { x with closed := putEpoch e x.closed })).emitResult n e e.status e.corr c.values ovf
    f.raise 0x1103 0x72 [hReduce n, epochId d.mode e.key, e.corr, c.member]
  if c.kind = 2 then f
  else if c.kind = 1 ∧ c.corr ≠ 0 then
    match e.kids.find? (fun k => k.1 == c.member) with
    | none => f.tooLate n d c
    | some k => if c.corr ≤ k.2.1 then dup f else correct f (e.addCorrection c)
  else if (e.included ||| e.bad).testBit c.member then dup f
  else if !e.shapeOk c then f.partialConfig n (epochId d.mode e.key) c.member
  else
    let e := { e.add c with lost := e.lost &&& (2 ^ 128 - 1 - 2 ^ c.member) }
    let e := if c.kind = 1 then { e with shape := c.shape, kids := e.kids ++ [(c.member, 0, c.leaves)] } else e
    correct (f.onCore (fun k => k.bump oReduceLate)) e

/-- Open an epoch (R352): at REDUCE.OPEN_LIMIT the oldest closes FORCED first. -/
def Fabato.openEpoch (f : Fabato) (n : Nat) (c : Contrib) : Fabato × REpoch :=
  let f := match (f.an.red n).opens with
    | old :: _ =>
      if (f.an.red n).opens.length ≥ f.core.num oReduceOpenLimit then
        (f.raise 0x1102 0x72 [hReduce n, epochId (redDesc old.desc).mode old.key]).closeEpoch n old 4 false
      else f
    | [] => f
  let b := f.core.usedBytes (oRed n 1)
  let vb := f.core.usedBytes (oRed n 3)
  let x := f.an.red n
  let e : REpoch := { key := c.key, desc := b, values := vb, expected := f.maskOf (oRed n 2) &&& (2 ^ 128 - 1 - f.shut), opened := f.ns, quorumAt := none, included := 0, lost := 0,
                      leaves := 0, acc := (valueDescs vb).map (fun v => VAcc.zero v.1), inputs := [], bad := 0, shape := none, kids := [], step := c.step, angle := c.angle,
                      overflow := false, delayed := false, rewound := x.rewound.contains c.key, config := false, closedAt := none, status := 0, corr := 0 }
  (f.onRed n (fun x => { x with opens := x.opens ++ [e], rewound := x.rewound.filter (fun k => k != c.key) }), e)

/-- A contribution reaches context `n` (R348, R352). -/
def Fabato.contribute (f : Fabato) (n : Nat) (d : RedDesc) (c : Contrib) : Fabato :=
  if !f.inMask (oRed n 2) c.member then f
  else
    let x := f.an.red n
    match x.opens.find? (fun e => e.key == c.key) with
    | some e => f.foldOpen n e c
    | none =>
      match x.closed.find? (fun e => e.key == c.key) with
      | some e => f.foldLate n e c
      | none =>
        if x.forgotten.any (fun k => k.1 == c.key) ∨ (c.kind = 1 ∧ c.corr ≠ 0) then f.tooLate n d c
        else
          let o := f.openEpoch n c
          o.1.foldOpen n o.2 c

/-- A chain from member `m` reaches reduction context `n`: a sample, or a partial of the context's child. -/
def Fabato.redChain (f : Fabato) (n m : Nat) (recs : List ExtRecord) : Fabato :=
  let f := f.onCore (fun c => c.usePair (oRed n 1) (oRed n 3))
  let d := redDesc (f.core.usedBytes (oRed n 1))
  match recs with
  | [] => f
  | h :: _ =>
    if d.mode = 0 then f
    else if d.child = 0xFFFF then
      match sampleContrib d (valueDescs (f.core.usedBytes (oRed n 3))) m recs with
      | some c => f.contribute n d c
      | none => f
    else if h.base.type ≠ 0x01 ∨ h.base.src.toNat ≠ d.child then f
    else if bitsOf h.base.payload.toNat 23 16 ≠ d.mode then
      (if f.inMask (oRed n 2) m then f.partialConfig n h.epoch.toNat m else f)
    else match partialContrib d f.ns m recs with
      | some c => f.contribute n d c
      | none => f

/-- A class S gap record of span 1 from or for member `m` (R349). -/
def Fabato.redGap (f : Fabato) (n m : Nat) (e : ExtRecord) (step entry : Nat) : Fabato :=
  let f := f.onCore (fun c => c.usePair (oRed n 1) (oRed n 3))
  let d := redDesc (f.core.usedBytes (oRed n 1))
  if d.mode ≠ 1 ∨ !(d.entry = 0 ∨ d.entry = entry) then f
  else f.contribute n d { member := m, kind := 2, key := (step, entry), leaves := 0, corr := 0, overflow := false, delayed := false, step := step,
                          angle := e.base.angle.toNat, values := [], xs := [], shape := none }

/-- A timer tick or a member link change: check_close of every open epoch (Table 13.3). -/
def Fabato.redCheck (f : Fabato) : Fabato :=
  f.an.reds.foldl (fun f c => c.opens.foldl (fun f e => f.checkClose c.idx e) f) f

/-- The open epochs whose timeout, or whose quorum wait, has passed close (R353). -/
def Fabato.redExpire (f : Fabato) (quorum : Bool) : Fabato :=
  f.an.reds.foldl (fun f c => (c.opens.filter (fun e =>
    let d := redDesc e.desc
    if quorum then e.quorumAt.any (fun q => decide (f.ns ≥ q + 1000 * d.wait)) else decide (f.ns ≥ e.opened + 1000 * d.timeout))).foldl (fun f e => f.checkClose c.idx e) f) f

/-- Late windows that have ended (R352). -/
def Fabato.redForget (f : Fabato) : Fabato :=
  { f with an := { f.an with reds := f.an.reds.map (fun c =>
      (c.closed.filter (fun e => e.closedAt.any (fun t => decide (f.ns ≥ t + 1000000 * (redDesc e.desc).late)))).foldl (fun c e => c.forget e.key) c) } }

/-- A group Meridian rewind to `step` (Table 13.3): key mode 1 only. -/
def Fabato.redRewind (f : Fabato) (step : Nat) : Fabato :=
  let hit (e : REpoch) : Bool := (redDesc e.desc).mode == 1 && decide (e.key.1 ≥ step)
  let f := f.an.reds.foldl (fun f c => (c.opens.filter hit).foldl (fun f e => f.closeEpoch c.idx { e with rewound := true } 4 true) f) f
  { f with an := { f.an with reds := f.an.reds.map (fun c =>
      let gone := (c.closed.filter hit).map (fun e => e.key)
      let old := if (redDesc (f.core.usedBytes (oRed c.idx 1))).mode = 1 then (c.forgotten.filter (fun k => decide (k.1.1 ≥ step))).map (fun k => k.1) else []
      { c with closed := c.closed.filter (fun e => !hit e), forgotten := c.forgotten.filter (fun k => !old.contains k.1),
               rewound := c.rewound ++ (gone ++ old).filter (fun k => !c.rewound.contains k) }) } }

/-- A commit of a context's descriptor. -/
def Fabato.redCommit (f : Fabato) (n : Nat) : Fabato :=
  if (redDesc (f.core.usedBytes (oRed n 1))).mode = 0 then f.unplace (hReduce n) else f.placeNew (hReduce n)

/-- REDUCE.CTX state: open epochs and the Cell that serves the context. -/
def Fabato.redState (f : Fabato) (n : Nat) : Nat := Nat.min 255 (f.an.red n).opens.length + (f.served (hReduce n)).getD 255 * 256

/-- A context that is filled, tested or folded while epochs are open marks them DELAYED (R357). -/
def Fabato.redDelay (f : Fabato) (h : Nat) : Fabato :=
  if h / 4096 = 1 then f.onRed (h % 4096) (fun c => { c with opens := c.opens.map (fun e => { e with delayed := true }) }) else f

end Sys2Proof.Machine
end

