-- ==== Sys2Proof/Machine/Cells.lean ====
section
/-! DEFINITION. Cells at work and out of it: work units and their checks (R298, R394–R402), in-field tests (R403), roles, fills and placement (R420–R424), lanes and memory devices (R425, R426), capacity, saturation and self-managed power (R306–R311, R418, R419). -/
namespace Sys2Proof.Machine

/-! ### Capacity and health (R309, R418, R419) -/

def Fabato.roleCount (f : Fabato) (r : CellRole) : Nat := (f.cel.cells.filter (fun c => c.role == r)).length

/-- CELL.ACTIVE: Cells active or warm (R299). -/
def Fabato.cellActive (f : Fabato) : Nat := f.roleCount .active + f.roleCount .warm

/-- CELL.CAPACITY (Tables 11.10, 11.11). -/
def Fabato.capacity (f : Fabato) : Bytes :=
  let n := f.cellActive
  leBytes 1 (52 - f.roleCount .failed) ++ leBytes 1 n ++ leBytes 1 f.cel.fillQueue.length ++ leBytes 1 (f.roleCount .spare) ++ zeros 4
    ++ leBytes 4 (8 * n) ++ leBytes 4 (4096 * n) ++ leBytes 8 (1600000000 * n) ++ leBytes 8 (25600000000 * n)

/-- Failed Cells that no spare covers. -/
def Fabato.cellsBeyond (f : Fabato) : Nat := 48 - (f.cellActive + f.roleCount .filling + f.roleCount .testing)

/-- Width a Sky port lost by degrading. -/
def Fabato.skyLost (f : Fabato) : Nat :=
  ((List.range 24).map (fun p =>
    let m := f.core.skyMap p
    let s := f.g.port p
    if m.lanes > 0 ∧ s.state == .up then m.lanes - s.lanes else 0)).sum

/-- Logical ports served by a spare Drizzle lane. -/
def Fabato.dzInUse (f : Fabato) : Nat := (f.g.laneMap.filter (fun n => n % 17 == 16)).length

/-- Drizzle lanes out of service that no spare stands in for. -/
def Fabato.dzBeyond (f : Fabato) : Nat :=
  ((List.range 136).filter (fun n => n % 17 != 16 && f.cel.dzOut.getD n false && f.g.laneMap.contains n)).length

/-- Spare Drizzle lanes ready for use. -/
def Fabato.dzFree (f : Fabato) : List Nat :=
  (List.range 8).filter (fun g => !f.cel.dzOut.getD (17 * g + 16) false && !f.g.laneMap.contains (17 * g + 16))

/-- Whether a context is shed: hosted or suspended (R422). -/
def Place.shed (p : Place) : Bool := p.mode == 2 || p.mode == 3

/-- SPARE.HEALTH of a group (R419). -/
def Fabato.spareHealth (f : Fabato) : Nat :=
  if f.cellActive < f.core.num oSpareMinCells ∨ f.fen.failed then 3
  else if f.cellActive < 48 ∨ f.cel.places.any (fun p => p.shed) ∨ f.skyLost > 0 ∨ f.cel.lpddrTwo then 2
  else if f.roleCount .failed > 0 ∨ f.dzInUse > 0 ∨ f.cel.lpddr.1 ≠ 0xFF then 1
  else 0

/-- An inventory entry (Table 16.1). -/
def inventory (kind total free used beyond : Nat) : Bytes := leBytes 1 kind ++ leBytes 3 beyond ++ leBytes 4 used ++ leBytes 4 free ++ leBytes 4 total

/-- SPARE.INVENTORY of a group: kinds 3 to 7; `mram` is the entry of kind 7. -/
def Fabato.spareInventory (f : Fabato) (mram : Bytes) : List Bytes :=
  [inventory 3 4 (f.roleCount .spare) (f.roleCount .failed - f.cellsBeyond) f.cellsBeyond,
   inventory 4 8 f.dzFree.length f.dzInUse f.dzBeyond,
   inventory 5 0 0 0 f.skyLost,
   inventory 6 1 (if f.cel.lpddr.1 = 0xFF then 1 else 0) (if f.cel.lpddr.1 = 0xFF then 0 else 1) (if f.cel.lpddrTwo then 1 else 0),
   mram]

/-- Changes of the active count and of SPARE.HEALTH are reported (R309, R419). -/
def Fabato.reportHealth (f : Fabato) : Fabato :=
  let a := f.cellActive
  let old := f.cel.activeLast
  let f := if a = old then f
    else (({ f with cel := { f.cel with activeLast := a } } : Fabato).raise (if a < old then 0x0B01 else 0x0B02) 0xFF [old, a]).numbered f.core.path (old * 256 + a) 0x30 0x0B
  let h := f.spareHealth
  let was := f.cel.healthLast
  if h = was then f else ({ f with cel := { f.cel with healthLast := h } } : Fabato).numbered f.core.path (was * 256 + h) 0x31 0x0C

/-! ### Self-managed blocks (R306, Table 11.8) -/

/-- Work arrives at block `e` (element number less 1): an idle block starts its wake. -/
def Fabato.touch (f : Fabato) (e : Nat) : Fabato :=
  { f with cel := { f.cel with blockAt := f.cel.blockAt.set e f.up, blockState := modAt f.cel.blockState e (fun s => if s = 0 then 0 else 3) } }

/-- A wake completes. -/
def Fabato.wakeDone (f : Fabato) (e : Nat) : Fabato :=
  { f with cel := { f.cel with blockAt := f.cel.blockAt.set e f.up, blockState := modAt f.cel.blockState e (fun s => if s = 3 then 0 else s) } }

/-- Whether a Cell shadows a unit. -/
def Fabato.shadowing (f : Fabato) (i : Nat) : Bool := f.cel.units.any (fun u => match u.shadow with | some (.running s) => s == i | _ => false)

/-- The idle state block `e` may enter now, none while it must stay as it is. -/
def Fabato.blockIdle (f : Fabato) (e : Nat) : Option Nat :=
  let since := f.cel.blockAt.getD e 0
  let idle (n : Nat) : Bool := decide (f.up ≥ since + n)
  let slotOn (core : Nat) : Bool := f.loft.any (fun s => s.core == some core && s.state == 3)
  if (f.core.num (oPowerHoldAwake + e + 1)) ≠ 0 then none
  else if e < 52 then
    let work := f.cel.units.any (fun u => u.cell == e) || f.shadowing e
    if f.contextsOn e = 0 ∧ !work ∧ idle 10000000 then some 2 else if !work && idle 2000 then some 1 else none
  else if e < 54 then none
  else if e < 68 then
    let core := e - 52
    if core ≥ 6 ∧ !slotOn core ∧ idle 10000000 then some 2
    else if core < 6 ∨ !slotOn core ∨ f.loft.any (fun s => s.core == some core && (s.paused || s.sleep.isSome)) then some 1 else none
  else if e < 76 then
    let g := e - 68
    let dz := f.core.kind == 1 && (List.range 17).any (fun i => (f.g.lanes[17 * g + i]?).any (fun l => l.lane.phy.state == .up))
    let sky := (List.range 24).any (fun p => let m := f.core.skyMap p; decide (m.lanes > 0) && m.first / 4 == g && f.g.portUp p)
    if dz || sky then none else some 2
  else if e < 84 then (if idle 1000000 then some 2 else none)
  else if e < 90 then (if idle 1000000 then some 4 else none)
  else if e < 98 then
    let g := e - 90
    if (List.range 17).all (fun i => match f.g.lanes[17 * g + i]? with | some l => l.lane.phy.state == .disabled | none => true) then some 2 else none
  else if e < 100 then
    let g := e - 98
    if (List.range 24).any (fun p => let m := f.core.skyMap p; decide (m.lanes > 0) && (m.first / 16 == g || (m.first + m.lanes - 1) / 16 == g)) then none else some 2
  else none

/-- A block's idle time has passed. -/
def Fabato.blockGate (f : Fabato) (e : Nat) : Fabato :=
  match f.blockIdle e with
  | some s => { f with cel := { f.cel with blockState := modAt f.cel.blockState e (fun old => if old = 3 then 3 else Nat.max old s) } }
  | none => f

/-! ### Placement of a failed Cell's contexts (R420–R424) -/

/-- Rank of a handle in the order of R422. -/
def handleRank (h : Nat) : Nat :=
  match h % 65536 / 4096 with
  | 1 => 0 | 4 => 1 | 2 => 2 | 3 => 3 | _ => 4

/-- Order of R422, ascending handles within a kind. -/
def handleLe (a b : Nat) : Bool := decide (handleRank a < handleRank b) || (handleRank a == handleRank b && decide (a ≤ b))

/-- The active Cell of least CELL.LOAD among those that pass a test. -/
def Fabato.leastLoad (f : Fabato) (ok : Nat → Bool) : Option Nat :=
  ((List.range 52).filter (fun i => (f.cell i).role == .active && ok i)).foldl (fun (b : Option Nat) i =>
    match b with
    | none => some i
    | some j => if (f.cell i).load < (f.cell j).load then some i else some j) none

/-- A place is updated by its handle. -/
def Fabato.onPlace (f : Fabato) (h : Nat) (g : Place → Place) : Fabato :=
  { f with cel := { f.cel with places := modWhere (fun p => p.handle == h) g f.cel.places } }

/-- Whether a chain of member `m` would form a vector of feature context `n` (R366, R369). -/
def Fabato.formsVector (f : Fabato) (n m : Nat) (recs : List ExtRecord) : Bool :=
  match recs with
  | [] => false
  | h :: _ => h.base.type == 0x01 && f.inMask (oFeat n 2) m
      && (featKey (featDesc (f.core.usedBytes (oFeat n 1))) h.step.toNat h.time.toNat (bitsOf h.base.payload.toNat 31 24)).isSome

/-- Inputs that wait for a feature context form no vector once it is suspended: each vector counts in SPARE.SHED_INPUTS (Table 16.4). -/
def Fabato.shedInputs (f : Fabato) (h : Nat) : Fabato :=
  let hit (x : Nat × WorkItem) : Bool := x.1 == h && (match x.2 with | .chain m recs => f.formsVector (h % 4096) m recs | .vector _ => false)
  ({ f with cel := { f.cel with inputs := f.cel.inputs.filter (fun x => x.1 != h) } } : Fabato).onCore (fun c => c.count oSpareShedInputs (f.cel.inputs.filter hit).length)

/-- A context is hosted or suspended (R422). -/
def Fabato.shedContext (f : Fabato) (h : Nat) (host : Option Nat) : Fabato :=
  let f := if handleRank h = 2 ∧ host.isNone then f.shedInputs h else f
  (f.onPlace h (fun p => { p with cell := host, mode := if host.isSome then 2 else 3 })).raise 0x0D03 0xFF [h % 65536, if host.isSome then 0 else 1]

/-- A Cell that may host: active, least loaded, below SPARE.HOST_LOAD. -/
def Fabato.hostCell (f : Fabato) : Option Nat :=
  match f.leastLoad (fun _ => true) with
  | some i => if (f.cell i).load < f.core.num oSpareHostLoad then some i else none
  | none => none

/-- Placement of a context whose readout has ended (Table 16.4). -/
def Fabato.placeFailed (f : Fabato) (h : Nat) : Fabato :=
  match handleRank h with
  | 0 =>
    match f.leastLoad (fun _ => true) with
    | some i => f.onPlace h (fun p => { p with cell := some i, mode := 1 })
    | none => f.onPlace h (fun p => { p with cell := none, mode := 3 })
  | 1 => f.shedContext h f.hostCell
  | 2 =>
    let d := featDesc (f.core.usedBytes (oFeat (h % 4096) 1))
    let m := (modelOf d.model).bind (fun m => f.served (hModel m))
    let s := if d.set = 0xFFFF then none else f.served d.set
    f.shedContext h (match m with | some c => some c | none => s)
  | _ => f.shedContext h f.hostCell

/-- Context rebuilt from its configuration (R423). -/
def Fabato.rebuild (f : Fabato) (h : Nat) : Fabato :=
  let n := h % 4096
  let f := match handleRank h with
    | 0 => (f.an.red n).opens.foldl (fun (f : Fabato) (e : REpoch) =>
        f.closeEpoch n { e with included := 0, lost := 0, leaves := 0, acc := (valueDescs e.values).map (fun (v : Nat × Nat × Nat) => VAcc.zero v.1), inputs := [], bad := 0,
                                shape := none, kids := [], overflow := false, delayed := true } 4 false) f
    | 1 => f
    | 2 =>
      let c := f.an.feat n
      let lost := (c.keys.map (fun (k : FKey) => (k.vecs.filter (fun (v : FVec) => !v.out)).length)).sum
      ({ f with an := f.an.setFeat { c with keys := [] } }).onCore (fun c => c.count (oFeat n 7) lost)
    | _ => { f with an := f.an.setDrift { idx := n, streams := [] } }
  f.raise 0x0D04 0xFF [h % 65536]

/-- Abandon the shadow of every unit that a spare runs (R416). -/
def Fabato.dropShadow (f : Fabato) (spare : Nat) : Fabato :=
  let hit (u : WorkUnit) : Bool := match u.shadow with | some (.running s) => s == spare | _ => false
  let n := (f.cel.units.filter hit).length
  ({ f with cel := { f.cel with units := modWhere hit (fun u => { u with shadow := none }) f.cel.units } } : Fabato).onCore (fun c => c.count oFtShadowSkipped n)

/-- Spares free for a fill, a test move or a readmission count. -/
def Fabato.freeSpares (f : Fabato) : List Nat :=
  (List.range 52).filter (fun i => (f.cell i).role == .spare && !f.cel.test.any (fun t => t.cell == i))

/-- The spare a fill of Cell `c` takes: of its own quadrant, else the lowest. -/
def Fabato.spareFor (f : Fabato) (c : Nat) : Option Nat :=
  match f.freeSpares.find? (fun i => i / 13 == c / 13) with
  | some i => some i
  | none => f.freeSpares.head?

/-- Contexts whose home is Cell `c`, in ascending handle order. -/
def Fabato.homed (f : Fabato) (c : Nat) : List Nat := sortBy ((f.cel.places.filter (fun p => p.home == c)).map (fun p => p.handle)) (fun a b => decide (a ≤ b))

/-- The fill in progress has moved its last context (Table 16.3); a test's move starts its test. -/
def Fabato.fillDone (f : Fabato) : Fabato :=
  match f.cel.fill with
  | none => f
  | some x =>
    if !x.todo.isEmpty then f
    else
      let f := ({ f with cel := { f.cel with fill := none } } : Fabato).onCell x.target (fun c => { c with role := .active })
      match f.cel.test with
      | some t =>
        if t.cell = x.source then { f with cel := { f.cel with test := some { t with startAt := f.up } } }
        else ({ f with cel := { f.cel with fillQueue := f.cel.fillQueue.filter (fun q => q.1 != x.source) } } : Fabato).raise 0x0D02 x.target [x.target, x.moved, (f.up - x.startAt) / 1000]
      | none => ({ f with cel := { f.cel with fillQueue := f.cel.fillQueue.filter (fun q => q.1 != x.source) } } : Fabato).raise 0x0D02 x.target [x.target, x.moved, (f.up - x.startAt) / 1000]

/-- Start a fill of Cell `c` onto a spare. -/
def Fabato.startFill (f : Fabato) (c spare : Nat) : Fabato :=
  let f := (f.dropShadow spare).onCell spare (fun x => { x with role := .filling })
  let f := { f with cel := { f.cel with fill := some { source := c, target := spare, todo := f.homed c, moved := 0, startAt := f.up } } }
  f.fillDone

/-- The head of the fill queue starts its fill when it can: one fill at a time, its contexts read out, a spare free. -/
def Fabato.tryFill (f : Fabato) : Fabato :=
  match f.cel.fill, f.cel.fillQueue with
  | none, (c, _) :: _ =>
    if f.cel.places.any (fun p => p.home == c && p.mode == 4) then f
    else match f.spareFor c with
      | some s => (f.raise 0x0D01 s [c, s]).startFill c s
      | none => f
  | _, _ => f

/-- Contexts waiting for room are re-placed on active and warm Cells below SPARE.HOST_LOAD (R424): those of the queue head. -/
def Fabato.replace (f : Fabato) : Fabato :=
  match f.cel.fillQueue with
  | [] => f
  | (c, _) :: _ =>
    let f := (sortBy (f.homed c) handleLe).foldl (fun (f : Fabato) h =>
      let ok (i : Nat) : Bool := decide ((f.cell i).load < f.core.num oSpareHostLoad) && decide (f.contextsOn i < 256)
      let l := (quadCells (quadOf (h % 65536))).filter (fun i => ((f.cell i).role == .active || (f.cell i).role == .warm) && ok i)
      match f.fewest l with
      | some i => (f.onPlace h (fun p => { p with cell := some i, home := i, mode := 0 })).redDelay h
      | none => f) f
    if (f.homed c).isEmpty then { f with cel := { f.cel with fillQueue := f.cel.fillQueue.drop 1 } } else f

/-- A Cell fails (Table 16.3, R422): its contexts and those it hosts stop and are read out, and it joins the fill queue. -/
def Fabato.failCell (f : Fabato) (i : Nat) : Fabato :=
  let role := (f.cell i).role
  if role == .failed then f
  else
    let f := (f.dropShadow i).onCell i (fun c => { c with role := .failed, inject := none })
    match role with
    | .active | .warm =>
      let on := (f.cel.places.filter (fun p => p.cell == some i)).map (fun p => p.handle)
      let f := on.foldl (fun (f : Fabato) h => (f.onPlace h (fun p => { p with cell := none, mode := 4, moving := none })).redDelay h) f
      { f with cel := { f.cel with fillQueue := f.cel.fillQueue ++ [(i, f.up)] } }.tryFill
    | .filling =>
      match f.cel.fill with
      | some x =>
        if x.target ≠ i then f
        else
          let back := (f.cel.places.filter (fun p => p.home == i)).map (fun p => p.handle)
          let f := back.foldl (fun (f : Fabato) h => (f.onPlace h (fun p => { p with cell := none, home := x.source, mode := 3 })).redDelay h) f
          let rest := f.cel.fillQueue.filter (fun q => q.1 != x.source)
          let at_ := ((f.cel.fillQueue.find? (fun q => q.1 == x.source)).map (fun q => q.2)).getD f.up
          -- a test's move that loses its spare leaves the source as it was
          if f.cel.test.any (fun t => t.cell == x.source) then
            (back.foldl (fun (f : Fabato) h => f.onPlace h (fun p => { p with cell := some x.source, mode := 0 }))
              ({ f with cel := { f.cel with fill := none, test := none } } : Fabato)).onCell x.source (fun c => { c with role := .active })
          else { f with cel := { f.cel with fill := none, fillQueue := (x.source, at_) :: rest } }.tryFill
      | none => f
    | .testing =>
      -- its contexts are on the spare: only the failure charges it (R416)
      match f.cel.test with
      | some t =>
        if t.cell ≠ i then f
        else
          let f := { f with cel := { f.cel with test := none } }
          if f.cel.fill.any (fun x => x.source == i) then
            -- the move goes on as the fill of a failed Cell
            let on := (f.cel.places.filter (fun p => p.cell == some i)).map (fun p => p.handle)
            let f := on.foldl (fun (f : Fabato) h => (f.onPlace h (fun p => { p with cell := none, mode := 4 })).redDelay h) f
            { f with cel := { f.cel with fillQueue := (i, f.up) :: f.cel.fillQueue } }
          else f
      | none => f
    | _ => f

/-- Charge a Cell (R398, R399): a permanent candidate fails, and a warm Cell fails on any error. -/
def Fabato.chargeCell (f : Fabato) (i : Nat) (hard : Bool) (event : Nat) (payload : List Nat) : Fabato :=
  let warm := (f.cell i).role == .warm
  let r := f.charge (slotCell i) 1 i i hard event payload
  let extra := match r.1.alm.history (slotCell i) with
    | some h => decide (r.1.recent h ≥ r.1.core.num oFtCorrectedLimit)
    | none => false
  if hard || extra || warm then r.1.failCell i else r.1

/-- Charge an LPDDR device: the first permanent candidate is staged for map-out, a second stays in use (R425). -/
def Fabato.chargeLpddr (f : Fabato) (d : Nat) (hard : Bool) (event : Nat) (payload : List Nat) : Fabato :=
  let r := f.charge (slotLpddr d) 2 d (0x80 + d) hard event payload
  if !r.2 then r.1
  else if r.1.cel.lpddr = (0xFF, 0xFF) then
    ({ r.1 with cel := { r.1.cel with lpddr := (0xFF, d) } } : Fabato).raise 0x0D06 (0x80 + d) [d]
  else { r.1 with cel := { r.1.cel with lpddrTwo := true } }

/-- One check of Table 15.1 detected something. -/
def Fabato.countCheck (f : Fabato) (k : Nat) : Fabato := f.onCore (fun c => c.bump (oFtCheckCounts + k + 1))

/-! ### Work units (R298, R395, R396, R400–R402) -/

/-- Whether a context is chosen for shadowing at a unit sequence (R400). -/
def Fabato.shadowed (f : Fabato) (h seq : Nat) : Bool :=
  let rate := f.core.num oFtShadowRate
  rate != 0 && (mix64 (BitVec.ofNat 64 (h % 65536 * 2 ^ 32 + seq))).toNat % rate == 0

/-- Idle spares, which may shadow. -/
def Fabato.idleSpare (f : Fabato) : Option Nat := f.freeSpares.find? (fun i => !f.shadowing i)

/-- Give idle spares to the units that wait for one, oldest first. -/
def Fabato.assignSpares (f : Fabato) : Fabato :=
  f.cel.units.foldl (fun (f : Fabato) u =>
    match u.shadow, f.idleSpare with
    | some (.waiting _), some s =>
      ({ f with cel := { f.cel with units := modWhere (fun x => x.handle == u.handle && x.seq == u.seq) (fun x => { x with shadow := some (.running s) }) f.cel.units } } : Fabato).onCore
        (fun c => c.bump oFtShadowed)
    | _, _ => f) f

/-- Inputs waiting for a handle: records ingest steered to it, or a model's queued vectors. -/
def Fabato.waitingInputs (f : Fabato) (h : Nat) : List WorkItem :=
  match modelOf h with
  | some m => if h / 65536 = 0 then (f.model m).queue.map (fun v => .vector v) else []
  | none => (f.cel.inputs.filter (fun x => x.1 == h)).map (fun x => x.2)

/-- Take up to `n` inputs of a handle. -/
def Fabato.takeInputs (f : Fabato) (h n : Nat) : Fabato × List WorkItem :=
  let l := (f.waitingInputs h).take n
  match modelOf h with
  | some m => (f.onModel m (fun x => { x with queue := x.queue.drop l.length }), l)
  | none =>
    let r := f.cel.inputs.foldl (fun (s : List (Nat × WorkItem) × Nat) x => if x.1 = h ∧ s.2 > 0 then (s.1, s.2 - 1) else (s.1 ++ [x], s.2)) ([], l.length)
    ({ f with cel := { f.cel with inputs := r.1 } }, l)

/-- The quadrant dispatcher issues the next work unit to a Cell (R298): contexts round robin, folded reductions first. -/
def Fabato.dispatch (f : Fabato) (cell : Nat) : Fabato :=
  let here := sortBy (f.cel.places.filter (fun p => p.cell == some cell)) (fun a b => decide (a.handle ≤ b.handle))
  let ready := here.filter (fun p => !(f.waitingInputs p.handle).isEmpty && !f.cel.units.any (fun u => u.handle == p.handle))
  let last := f.cel.turn.getD cell 0
  let pick (l : List Place) : Option Place := match l.find? (fun p => decide (p.handle > last)) with | some p => some p | none => l.head?
  match pick (ready.filter (fun p => p.mode == 1)) <|> pick ready with
  | none => f
  | some p =>
    let t := f.takeInputs p.handle 64
    let sh := f.shadowed p.handle p.seq
    let u : WorkUnit := { handle := p.handle, seq := p.seq, cell := cell, items := t.2, rerun := false, shadow := if sh then some (.waiting f.up) else none }
    let f := (t.1.onPlace p.handle (fun x => { x with seq := (x.seq + 1) % 2 ^ 32 })).touch cell
    { f with cel := { f.cel with turn := f.cel.turn.set cell p.handle, units := f.cel.units ++ [u] } }.assignSpares

/-- The effect of one item of a context. -/
def Fabato.applyItem (f : Fabato) (h : Nat) : WorkItem → Fabato
  | .vector v =>
    match modelOf h with
    | some m => f.walkVector m v (f.hosted m)
    | none => f
  | .chain m recs =>
    match h / 4096 with
    | 1 => f.redChain (h % 4096) m recs
    | 2 => f.featSample (h % 4096) m recs
    | _ => f

/-- The oldest waiting contribution of reduction context `n` folds in, where a Cell serves the context and no work unit of it is in progress. -/
def Fabato.contribution (f : Fabato) (n : Nat) : Fabato :=
  let h := hReduce n
  if (f.served h).isNone ∨ f.cel.units.any (fun u => u.handle == h) then f
  else
    let r := f.takeInputs h 1
    r.2.foldl (fun f i => f.applyItem h i) r.1

/-- A unit's outputs are released. -/
def Fabato.releaseUnit (f : Fabato) (u : WorkUnit) : Fabato :=
  let f := { f with cel := { f.cel with units := f.cel.units.filter (fun x => !(x.handle == u.handle && x.seq == u.seq)) } }
  (u.items.foldl (fun f i => f.applyItem u.handle i) f).assignSpares

/-- An injected error of check `k` waits on the Cell. -/
def Fabato.injected (f : Fabato) (cell k : Nat) : Bool := (f.cell cell).inject == some k

/-- Alarm 0x54 of a Cell. -/
def Fabato.cellAlarm (f : Fabato) (cell seq : Nat) : Fabato := f.alarm (withSub f.core.path cell) seq 0x54 0x06 0 0 0

/-- A work unit ends after `busy` ns with the outcome of its checks: 0 pass, 1 residue, 2 path parity, 3 an ECC word corrected a second
time, 4 a 2-bit ECC error (R394–R396). -/
def Fabato.unitDone (f : Fabato) (h outcome busy : Nat) : Fabato :=
  match f.cel.units.find? (fun u => u.handle == h) with
  | none => f
  | some u =>
    let c := u.cell
    let f := (f.onCell c (fun x => { x with busy := x.busy + busy, lastWork := f.up })).touch c
    let inj := (f.cell c).inject
    let outcome := if outcome ≠ 0 then outcome else match inj with
      | some 0 => 1
      | some 2 => 2
      | some 1 => 5
      | _ => 0
    let f := if inj = some 0 ∨ inj = some 1 ∨ inj = some 2 then f.onCell c (fun x => { x with inject := none }) else f
    let finish (f : Fabato) : Fabato := match u.shadow with
      | none => f.releaseUnit u
      | some _ => f
    let check := if outcome = 1 then 0 else if outcome = 2 then 2 else 1
    match outcome with
    | 0 => finish (if u.rerun then f.chargeCell c false 0x1401 [c, 0, h % 65536] else f)
    | 3 => finish ((f.countCheck 1).chargeCell c false 0x1401 [c, 1, h % 65536])
    | 5 => finish (f.countCheck 1)
    | _ =>
      let f := (f.countCheck check).raise 0x1401 c [c, check, h % 65536]
      if outcome ≠ 4 ∧ !u.rerun then
        { f with cel := { f.cel with units := modWhere (fun x => x.handle == h && x.seq == u.seq) (fun x => { x with rerun := true }) f.cel.units } }
      else
        let f := f.chargeCell c true 0x1401 [c, check, h % 65536]
        -- the unit runs on the Cell that R402 names
        let next := (f.leastLoad (fun i => i / 13 != c / 13)).getD c
        { f with cel := { f.cel with units := modWhere (fun x => x.handle == h && x.seq == u.seq) (fun x => { x with cell := next, rerun := false }) f.cel.units } }

/-- The outputs of an unresolved unit are gap records of reason 0x03 (R402). -/
def Fabato.unresolved (f : Fabato) (u : WorkUnit) : Fabato :=
  let f := { f with cel := { f.cel with units := f.cel.units.filter (fun x => !(x.handle == u.handle && x.seq == u.seq)) } }
  let gap := f.g.bareGap f.core.path .s 0 1 0x03
  let n := f.g.number { gap with base := { gap.base with src := handleSrc u.handle } }
  let f := ({ f with g := n.2 }.sendOwn false n.1).onCore (fun c => c.bump oFtUnresolved)
  ((f.raise 0x1402 0xFF [u.handle % 65536, u.seq]).cellAlarm u.cell u.seq).assignSpares

/-- Both executions of a shadowed unit have ended (R401, R402): digests of primary, shadow and third execution, and of the pair that runs
once more when all three differ; `devices` are the LPDDR devices that served the inputs. -/
def Fabato.shadowReady (f : Fabato) (h primary shadow third again againShadow : Nat) (devices : List Nat) : Fabato :=
  match f.cel.units.find? (fun u => u.handle == h) with
  | none => f
  | some u =>
    match u.shadow with
    | some (.running s) =>
      let inj := f.injected u.cell 7
      let f := if inj then f.onCell u.cell (fun x => { x with inject := none }) else f
      let primary := if inj then shadow + 1 else primary
      if primary = shadow then f.releaseUnit u
      else
        let f := ((f.onCore (fun c => c.bump oFtMismatches)).countCheck 7).raise 0x1401 u.cell [u.cell, 7, h % 65536]
        if third = primary then ((f.chargeCell s false 0x1401 [s, 7, h % 65536]).cellAlarm s u.seq).releaseUnit u
        else if third = shadow then ((f.chargeCell u.cell false 0x1401 [u.cell, 7, h % 65536]).cellAlarm u.cell u.seq).releaseUnit u
        else
          let f := devices.foldl (fun (f : Fabato) d => f.chargeLpddr d false 0x1401 [u.cell, 7, h % 65536]) f
          if again = againShadow then f.releaseUnit u else f.unresolved u
    | _ => f

/-- Units that have waited 10 µs for an idle spare run unshadowed (R400). -/
def Fabato.shadowTimeout (f : Fabato) : Fabato :=
  let hit (u : WorkUnit) : Bool := match u.shadow with | some (.waiting t) => decide (f.up ≥ t + 10000) | _ => false
  let n := (f.cel.units.filter hit).length
  ({ f with cel := { f.cel with units := modWhere hit (fun u => { u with shadow := none }) f.cel.units } } : Fabato).onCore (fun c => c.count oFtShadowSkipped n)

/-! ### In-field test (R403) -/

/-- Put the contexts of Cell `i` aside for the save path. -/
def Fabato.saveContexts (f : Fabato) (i : Nat) : Fabato × List Nat :=
  let on := (f.cel.places.filter (fun p => p.cell == some i)).map (fun p => p.handle)
  (on.foldl (fun (f : Fabato) h => (f.onPlace h (fun p => { p with cell := none, moving := some (i, f.up) })).redDelay h) f, on)

/-- Saved contexts are restored to Cell `i`. -/
def Fabato.restoreContexts (f : Fabato) (i : Nat) (l : List Nat) : Fabato :=
  l.foldl (fun f h => f.onPlace h (fun p => { p with cell := some i, moving := none })) f

/-- Start the test of a due Cell by the first path that applies; `expired` when FT.MAX_DEFER has run out. -/
def Fabato.beginTest (f : Fabato) (i : Nat) (expired : Bool) : Fabato :=
  let t (path start : Nat) (saved : List Nat) : CellTest := { cell := i, path := path, readmit := false, startAt := start, saved := saved }
  if (f.cell i).role == .spare ∨ f.contextsOn i = 0 then
    { f.dropShadow i with cel := { (f.dropShadow i).cel with test := some (t 0 f.up []) } }
  else match f.freeSpares.head? with
    | some s =>
      let f := ({ f with cel := { f.cel with test := some (t 1 f.up []) } } : Fabato).onCell i (fun c => { c with role := .testing })
      f.startFill i s
    | none =>
      if expired then
        let r := f.saveContexts i
        { r.1 with cel := { r.1.cel with test := some (t 2 f.up r.2) } }
      else if f.cel.test.isSome then f
      else ({ f with cel := { f.cel with test := some (t 3 f.up []) } } : Fabato).onCore (fun c => c.bump oFtDeferred)

/-- Whether a due time has come. -/
def Cell.due (c : Cell) (up : Nat) : Bool := c.dueSince.any (fun t => decide (t ≤ up)) && (c.role == .active || c.role == .warm || c.role == .spare)

/-- The test scheduler (R403): readmissions first, then due Cells in the order they became due; nothing starts while a fill runs. -/
def Fabato.schedule (f : Fabato) : Fabato :=
  if f.cel.fill.isSome ∨ f.cel.test.any (fun t => t.path != 3) then f
  else match f.cel.readmit with
    | i :: rest =>
      let t : CellTest := { cell := i, path := 0, readmit := true, startAt := f.up, saved := [] }
      { f with cel := { f.cel with readmit := rest, test := some t } }
    | [] =>
      let due := ((List.range 52).filter (fun i => (f.cell i).due f.up)).map (fun i => ((f.cell i).dueSince.getD 0, i))
      match due.foldl (fun (b : Option (Nat × Nat)) x => match b with
          | none => some x
          | some y => if x.1 < y.1 then some x else some y) none with
      | none => f
      | some (_, i) =>
        if f.cel.test.any (fun t => t.cell == i) then (if f.freeSpares.isEmpty then f else ({ f with cel := { f.cel with test := none } } : Fabato).beginTest i false)
        else if f.cel.test.isSome then f
        else f.beginTest i false

/-- FT.INTERVAL passes for the Cells not yet due. -/
def Fabato.testDue (f : Fabato) : Fabato :=
  let hit (c : Cell) : Bool := c.dueSince.isNone && decide (f.up ≥ c.lastTest + hourNs * f.core.num oFtInterval)
  ({ f with cel := { f.cel with cells := modWhere hit (fun c => { c with dueSince := some f.up }) f.cel.cells } } : Fabato).schedule

/-- FT.RUN: a Cell becomes due now. -/
def Fabato.testRun (f : Fabato) (i : Nat) : Fabato × Nat :=
  if i ≥ 52 then (f, eRange)
  else ((f.onCell i (fun c => { c with dueSince := some (match c.dueSince with | some t => Nat.min t f.up | none => f.up) })).schedule, stOk)

/-- FT.MAX_DEFER runs out for the deferred Cell: the save path. -/
def Fabato.deferExpire (f : Fabato) : Fabato :=
  match f.cel.test with
  | some t =>
    let since := (f.cell t.cell).dueSince.getD f.up
    if t.path = 3 ∧ f.cel.fill.isNone ∧ f.up ≥ since + 1000000000 * f.core.num oFtMaxDefer then
      ({ f with cel := { f.cel with test := none } } : Fabato).beginTest t.cell true
    else f
  | none => f

/-- A test ends: 0 pass, 1 fail, 2 stopped. The in-field test takes 40 ms. -/
def Fabato.testDone (f : Fabato) (result : Nat) : Fabato :=
  match f.cel.test with
  | none => f
  | some t =>
    if t.readmit ∨ t.path = 3 ∨ f.cel.fill.any (fun x => x.source == t.cell) ∨ (result ≠ 2 ∧ f.up < t.startAt + 40000000) then f
    else
      let f := ({ f with cel := { f.cel with test := none } } : Fabato).onCell t.cell (fun c =>
        { c with lastTest := if result = 2 then c.lastTest else f.up, result := (time80 f.ns, result),
                 dueSince := if result = 2 then some (f.up + hourNs) else none })
      let f := f.raise 0x1404 t.cell [t.cell, t.path, result]
      let f := if t.path = 2 ∧ result ≠ 1 then f.restoreContexts t.cell t.saved else f
      let f :=
        if result ≠ 1 then
          if t.path = 1 then (if result = 0 then f.onCell t.cell (fun c => { c with role := .spare }) else f.onCell t.cell (fun c => { c with role := .spare })) else f
        else if t.path = 2 then
          let f := t.saved.foldl (fun (f : Fabato) h => f.onPlace h (fun p => { p with cell := some t.cell, moving := none })) f
          f.chargeCell t.cell true 0x1404 [t.cell, t.path, result]
        else f.chargeCell t.cell true 0x1404 [t.cell, t.path, result]
      f.tryFill.assignSpares.schedule

/-- SPARE.CELL_READMIT (R420). -/
def Fabato.readmit (f : Fabato) (i : Nat) : Fabato × Nat :=
  if i ≥ 52 ∨ (f.cell i).role != .failed then (f, eRange)
  else ({ f with cel := { f.cel with readmit := if f.cel.readmit.contains i then f.cel.readmit else f.cel.readmit ++ [i] } }.schedule, stOk)

/-- A readmission test ends. -/
def Fabato.readmitDone (f : Fabato) (pass : Bool) : Fabato :=
  match f.cel.test with
  | none => f
  | some t =>
    if !t.readmit then f
    else
      let f := { f with cel := { f.cel with test := none } }
      if !pass then (f.charge (slotCell t.cell) 1 t.cell t.cell true 0x0D07 [t.cell, 5]).1.schedule
      else
        let spare : Bool := !f.cel.fillQueue.isEmpty || decide (f.roleCount .spare < 4)
        let f := f.onCell t.cell (fun c => { c with role := if spare then .spare else .warm, warmSince := f.up })
        (f.raise 0x0D07 t.cell [t.cell, if spare then 1 else 3]).tryFill.assignSpares.schedule

/-- SPARE.WARM_HOLD passes without an error. -/
def Fabato.warmExpire (f : Fabato) : Fabato :=
  let hit (c : Cell) : Bool := c.role == .warm && decide (f.up ≥ c.warmSince + hourNs * f.core.num oSpareWarmHold)
  if f.cel.cells.any hit then ({ f with cel := { f.cel with cells := modWhere hit (fun c => { c with role := .active }) f.cel.cells } } : Fabato).replace else f

/-- FT.INJECT (Table 15.8): one error of a check on a Cell. -/
def Fabato.inject (f : Fabato) (v : Nat) : Fabato × Nat :=
  if v % 256 ≥ 52 ∨ v / 256 ≥ 8 then (f, eRange) else (f.onCell (v % 256) (fun c => { c with inject := some (v / 256) }), stOk)

/-- The next context of a failed Cell has been read out, or could not be read (R422, R423). -/
def Fabato.readoutDone (f : Fabato) (cell : Nat) (readable : Bool) : Fabato :=
  match sortBy ((f.homed cell).filter (fun h => (f.cel.place h).any (fun p => p.mode == 4))) handleLe with
  | [] => f
  | h :: _ =>
    let f := if readable then f else f.rebuild h
    (f.placeFailed h).tryFill.schedule

/-- The next context of the fill in progress has moved (R421). -/
def Fabato.moveDone (f : Fabato) : Fabato :=
  match f.cel.fill with
  | none => f
  | some x =>
    match x.todo with
    | [] => f
    | h :: rest =>
      let f := (f.onPlace h (fun p => { p with cell := some x.target, home := x.target, mode := 0 })).redDelay h
      let f := { f with cel := { f.cel with fill := some { x with todo := rest, moved := x.moved + 1 } } }
      if rest.isEmpty then f.fillDone.tryFill.assignSpares.schedule else f

/-- SPARE.REPLACE_WAIT passes for the queue head with no spare free. -/
def Fabato.replaceExpire (f : Fabato) : Fabato :=
  match f.cel.fillQueue with
  | (_, t) :: _ =>
    if f.cel.fill.isNone ∧ f.freeSpares.isEmpty ∧ f.up ≥ t + 1000000 * f.core.num oSpareReplaceWait then f.replace.tryFill else f
  | [] => f

/-- A context has been deleted or a Cell has become active: what did not fit is tried again (R424). -/
def Fabato.retryPlaces (f old : Fabato) : Fabato :=
  if f.cel.places.length < old.cel.places.length ∨ f.cellActive > old.cellActive then f.replaceExpire else f

/-! ### Lanes (R425, R426) -/

/-- Charge a Drizzle lane; a permanent candidate is mapped out, and the event names the spare to re-cable to. -/
def Fabato.chargeDz (f : Fabato) (n : Nat) (hard : Bool) (event : Nat) (payload : List Nat) : Fabato :=
  let r := f.charge (slotDz n) 4 n (if n % 17 = 16 then 0xA0 + n / 17 else 0xFF) hard event payload
  if !r.2 ∨ r.1.cel.dzOut.getD n false then r.1
  else
    let f := r.1
    let spare := match f.dzFree.find? (fun g => g == n / 17) with
      | some g => 17 * g + 16
      | none => (f.dzFree.head?).elim 0xFF (fun g => 17 * g + 16)
    let f := { f with cel := { f.cel with dzOut := f.cel.dzOut.set n true } }
    let f := f.onG (fun g => g.onLane n (fun l => { l with lane := { l.lane with phy := { l.lane.phy with state := .disabled, since := f.up } } }))
    f.raise 0x0D05 (if n % 17 = 16 then 0xA0 + n / 17 else 0xFF) [n, 0, spare]

/-- Charge a Sky lane. -/
def Fabato.chargeSky (f : Fabato) (n : Nat) (hard : Bool) (event : Nat) (payload : List Nat) : Fabato :=
  let r := f.charge (slotSky n) 5 n (0xB0 + n) hard event payload
  if !r.2 ∨ r.1.cel.skyOut.testBit n then r.1
  else ({ r.1 with cel := { r.1.cel with skyOut := r.1.cel.skyOut ||| 2 ^ n } } : Fabato).raise 0x0D05 (0xB0 + n) [n, 1, 0xFF]

/-- SPARE.LANE_RESTORE: the lane returns to service and its history is cleared. -/
def Fabato.laneRestore (f : Fabato) (v : Nat) : Fabato × Nat :=
  let n := v % 256
  let sky := v.testBit 8
  if v / 512 ≠ 0 ∨ (sky ∧ n ≥ 32) ∨ (!sky ∧ (n ≥ 136 ∨ f.core.kind ≠ 1)) then (f, eRange)
  else
    let slot := if sky then slotSky n else slotDz n
    let f := { f with alm := { f.alm with histories := f.alm.histories.filter (fun h => h.slot != slot) } }
    if sky then ({ f with cel := { f.cel with skyOut := if f.cel.skyOut.testBit n then f.cel.skyOut ^^^ 2 ^ n else f.cel.skyOut } }, stOk)
    else
      let was := f.cel.dzOut.getD n false
      let f := { f with cel := { f.cel with dzOut := f.cel.dzOut.set n false } }
      (f.onG (fun g => g.onLane n (fun l => if was ∧ l.lane.phy.state == .disabled then { l with lane := { l.lane with phy := { l.lane.phy with state := .train, since := f.up } } } else l)), stOk)

/-! ### Saturation (R311) -/

/-- Whether each row of Table 11.13 holds at the end of a window of `w` ns. -/
def Fabato.satRows (f : Fabato) (w : Nat) : Nat :=
  let bit (b : Bool) (i : Nat) := if b then 2 ^ i else 0
  let port : Bool := f.cel.portBusy.any (fun b => decide (b * 100 ≥ 98 * w))
  bit (f.cel.ingestBusy.any (fun b => decide (b * 100 ≥ 98 * w))) 0 + bit (f.cel.satSeen.testBit 1) 1 + bit (f.cel.satSeen.testBit 2) 2 + bit (f.cel.satSeen.testBit 3) 3
    + bit port 4 + bit (f.cel.satSeen.testBit 5) 5 + bit (f.cellActive < 48) 6

/-- A CELL.SAT_WINDOW ends (R311, R383): flags, counts, events, loads and scored fractions. -/
def Fabato.satEnd (f : Fabato) : Fabato :=
  let w := f.up - f.cel.satStart
  if f.up < f.cel.satStart + 1000 * f.core.num oCellSatWindow then f
  else
    let now := f.satRows w
    let was := f.cel.satFlags
    let start := f.cel.satStart
    let f := (List.range 7).foldl (fun (f : Fabato) b =>
      let n := f.cel.satHeld.getD b 0
      if now.testBit b then
        let f := f.onCore (fun c => c.bump (oCellSatEvents + b + 1))
        let f := if was.testBit b then f else f.raise 0x0B03 0xFF [b, start]
        { f with cel := { f.cel with satHeld := f.cel.satHeld.set b (n + 1) } }
      else if was.testBit b then ({ f with cel := { f.cel with satHeld := f.cel.satHeld.set b 0 } } : Fabato).raise 0x0B04 0xFF [b, n]
      else f) f
    let ppm (b : Nat) : Nat := Nat.min 1000000 (b * 1000000 / w)
    let cel := { f.cel with
      satFlags := now, satSeen := 0, satStart := f.up, ingestLoad := f.cel.ingestBusy.map ppm, ingestBusy := f.cel.ingestBusy.map (fun _ => 0),
      portBusy := f.cel.portBusy.map (fun _ => 0), cells := f.cel.cells.map (fun c => { c with load := ppm c.busy, busy := 0 }) }
    { f with cel := cel, an := { f.an with models := f.an.models.map (fun m =>
        { m with scored := 0, unscored := 0, ppm := if m.scored + m.unscored = 0 then m.ppm else m.scored * 1000000 / (m.scored + m.unscored) }) } }

end Sys2Proof.Machine
end

