-- ==== Sys2Proof/Machine/Horizon.lean ====
section
/-! DEFINITION. Horizon (R437–R453, R524): the plan, hellos, the roster, quorum, probation, communication groups. -/
namespace Sys2Proof.Machine

/-! ### The plan (Tables 17.1, 17.2) -/

structure PlanHeader where
  partnerUid : Nat
  partnerPath : Nat
  parentPath : Nat
  ownPath : Nat
  feed : Nat
  phase : Nat
  quorum : Nat
  acceptUnfused : Bool
  forceCofed : Bool
  root : Bool
deriving DecidableEq, Repr

def planHeader (b : Bytes) : PlanHeader :=
  let fl := leAt b 0 1
  { partnerUid := leAt b 48 16, partnerPath := leAt b 44 4, parentPath := leAt b 40 4, ownPath := leAt b 36 4, feed := leAt b 32 4, phase := leAt b 2 1,
    quorum := leAt b 1 1, acceptUnfused := fl.testBit 2, forceCofed := fl.testBit 1, root := fl.testBit 0 }

structure PlanMember where
  uid : Nat
  feed : Nat
  partner : Nat
  index : Nat
  ref : Bool
  forced : Bool
  planned : Bool
deriving DecidableEq, Repr

def planMember (b : Bytes) : PlanMember :=
  let fl := leAt b 0 1
  { uid := leAt b 16 16, feed := leAt b 12 4, partner := leAt b 11 1, index := leAt b 10 1, ref := fl.testBit 3, forced := fl.testBit 2, planned := fl.testBit 0 }

/-- Plan header and member entry `i` in force. -/
def Core.plan (c : Core) : PlanHeader := planHeader (c.usedBytes oHorizonPlanHeader)
def Core.planAt (c : Core) (i : Nat) : PlanMember := planMember (c.usedBytes (oHorizonPlanMember + i + 1))

/-- The agreement rule of the plan pair (R440) over a view of values, at a group of a level. -/
def planAgree (level : Nat) (view : Nat → Bytes) : Bool :=
  let h := planHeader (view oHorizonPlanHeader)
  let ms := ((List.range 128).map (fun i => (i, planMember (view (oHorizonPlanMember + i + 1))))).filter (fun m => m.2.planned)
  let uids := (ms.map (fun m => m.2.uid)).filter (fun u => u != 0)
  decide (h.quorum ≤ ms.length) && (h.root == (h.parentPath == 0xFFFFFFFF)) && uids.eraseDups.length == uids.length
    && ms.all (fun m => decide (m.2.index < memberLimit level) && (m.2.partner == 0xFF || ms.any (fun x => x.1 == m.2.partner && x.2.partner == m.1 && x.2.forced == m.2.forced)))

/-- Checks of a header beyond its row (R439, R440). -/
def checkHeader (level : Nat) (b : Bytes) : Nat :=
  let h := planHeader b
  if leAt b 3 25 ≠ 0 ∨ leAt b 0 1 / 8 ≠ 0 then eReserved
  else if pathLevel h.ownPath ≠ level ∨ pathSub h.ownPath ≠ 0xFF ∨ h.quorum < 1 ∨ h.quorum > 128 ∨ h.feed = 0 ∨ h.phase > 4 ∨ (!h.root ∧ h.phase ≠ 0) then eRange
  else stOk

/-- Checks of a member entry. -/
def checkPlanMember (b : Bytes) : Nat :=
  if leAt b 1 9 ≠ 0 ∨ leAt b 0 1 / 16 ≠ 0 ∨ (leAt b 0 1).testBit 1 then eReserved else stOk

/-! ### Roster entries (R448, R449) -/

/-- The group's own entry is 0xFFFF; a child's lowest free one, or the one a retirement frees. -/
def Fabato.freeEntry (f : Fabato) : Option Nat :=
  let used (i : Nat) : Bool := f.hor.roster.any (fun e => e.idx == i)
  let n := f.hor.roster.length
  match (List.range (Nat.min (n + 1) 65535)).find? (fun i => !used i) with
  | some i => some i
  | none =>
    let may (e : RosterEntry) : Bool := e.state == 6 || e.state == 5 || (e.state == 4 && !(match e.member with | some m => f.memberUp m | none => false))
    ((f.hor.roster.filter may).foldl (fun (b : Option RosterEntry) e => match b with
      | none => some e
      | some x => if e.changed < x.changed then some e else some x) none).map (fun e => e.idx)

/-- A new entry of an identity, state not yet set; none with HORIZON.REFUSED counted and ROSTER_FULL raised. -/
def Fabato.newEntry (f : Fabato) (uid : Nat) : Fabato × Option RosterEntry :=
  match f.freeEntry with
  | none =>
    let f := f.onCore (fun c => c.bump oHorizonRefused)
    (if f.hor.full then f else ({ f with hor := { f.hor with full := true } } : Fabato).raise 0x1608 0x71 [uid], none)
  | some i =>
    let e : RosterEntry := { idx := i, uid := uid, path := 0xFFFFFFFF, changed := f.secs, left := 0, member := none, port := 0xFF, causes := 0, state := 0,
                             counting := false, endNow := false, since := f.up, downAt := none }
    let roster := sortBy (e :: f.hor.roster.filter (fun x => x.idx != i)) (fun a b => decide (a.idx ≤ b.idx))
    ({ f with hor := { f.hor with roster := roster, full := false } }, some e)

/-- Put an entry whose state changes now. -/
def Fabato.setEntry (f : Fabato) (e : RosterEntry) (state : Nat) : Fabato := { f with hor := f.hor.set { e with state := state, changed := f.secs } }

/-- The entry of the identity planned at index `i`, found or not yet found. -/
def Fabato.plannedEntry (f : Fabato) (i : Nat) : Option RosterEntry := f.hor.roster.find? (fun e => e.member == some i && (e.state == 0 || e.state == 1 || e.state == 2 || e.state == 3))

/-- Entries of planned indices that have none yet, in index order. -/
def Fabato.seedPlan (f : Fabato) : Fabato :=
  (List.range 128).foldl (fun (f : Fabato) i =>
    if !(f.core.planAt i).planned ∨ (f.plannedEntry i).isSome then f
    else
      let uid := (f.core.planAt i).uid
      match f.hor.roster.find? (fun e => e.uid == uid && uid != 0) with
      | some e => if e.state = 6 then f.setEntry { e with member := some i, path := f.memberPathOf i, causes := 0, downAt := none } 0 else f
      | none =>
        let r := f.newEntry uid
        match r.2 with
        | some e => r.1.setEntry { e with member := some i, path := r.1.memberPathOf i } 0
        | none => r.1) f

/-! ### Hellos (R442–R445) -/

/-- What a hello announces: physical port (Drizzle lane or Sky port), identity, unfused, and whether its kind and path fit. -/
structure Found where
  port : Nat
  index : Option Nat
  uid : Nat
  unfused : Bool
  fits : Bool
deriving DecidableEq, Repr

/-- Rows of Table 17.3. -/
inductive HelloVerdict where
  | excess
  | matched (i : Nat)
  | misplaced (i planned : Nat)
  | unplanned (i cause : Nat)
deriving DecidableEq, Repr

/-- Index that the plan gives an identity. -/
def Core.plannedIndex (c : Core) (uid : Nat) : Option Nat :=
  if uid = 0 then none else (List.range 128).find? (fun i => (c.planAt i).planned && (c.planAt i).uid == uid)

/-- Classify a hello (Table 17.3). -/
def Fabato.classify (f : Fabato) (h : Found) : HelloVerdict :=
  match h.index with
  | none => .excess
  | some i =>
    let p := f.core.planAt i
    if i ≥ memberLimit f.core.kind then .excess
    else if !h.fits then .unplanned i 64
    else if h.uid ≠ 0 ∧ f.hor.roster.any (fun e => e.uid == h.uid && (e.state == 1 || e.state == 2) && e.member.isSome && e.member != some i && e.downAt.isNone && e.port != h.port) then .unplanned i 2
    else if h.unfused ∧ !(f.core.plan.acceptUnfused && p.uid == 0 && p.planned) then .unplanned i 4
    else if !p.planned then .unplanned i 8
    else if p.uid = 0 ∨ p.uid = h.uid then .matched i
    else match f.core.plannedIndex h.uid with
      | some j => .misplaced i j
      | none => .unplanned i 16

/-- Whether index `j`'s own lane or port is in Up with its planned identity. -/
def Fabato.holdsOwn (f : Fabato) (j : Nat) : Bool :=
  f.memberUp j && (f.hor.roster.any (fun e => e.member == some j && (e.state == 1 || e.state == 2) && e.uid == (f.core.planAt j).uid))

/-- Point logical port or member index `j` at a physical port, the other index taking the port left (R443, R444). -/
def Fabato.rebindPort (f : Fabato) (j port : Nat) (other : Option Nat) : Fabato :=
  if f.core.kind = 1 then
    let old := f.g.laneMap.getD j 0
    let m := f.g.laneMap.set j port
    let m := match other with
      | some i => m.set i old
      | none => m
    f.onG (fun g => { g with laneMap := m })
  else
    let put (c : Core) (p i : Nat) : Core := c.put (oLinkSkyPortMap + p + 1) (overlay (c.get (oLinkSkyPortMap + p + 1)) 3 (leBytes 1 i))
    let old := f.core.memberPort j
    f.onCore (fun c =>
      let c := put c port j
      match old, other with
      | some q, some i => if q = port then c else put c q i
      | _, _ => c)

/-- Admit a matched identity at index `i` (Table 17.5). -/
def Fabato.admitAt (f : Fabato) (h : Found) (i causes : Nat) : Fabato :=
  let planned := f.plannedEntry i
  let mine := f.hor.roster.find? (fun e => e.uid == h.uid && (h.uid != 0 || e.member == some i) && e.state != 4)
  let was := match mine, planned with
    | some e, _ => if e.state = 5 ∨ e.state = 6 then (planned.map (fun p => p.state)).getD 0 else e.state
    | none, some p => p.state
    | none, none => 0
  -- an identity that takes an entry planned for any identity, or its own
  let r : Fabato × Option RosterEntry := match mine with
    | some e => (f, some e)
    | none => match planned with
      | some p => if p.uid = 0 ∨ p.uid = h.uid then (f, some { p with uid := h.uid }) else f.newEntry h.uid
      | none => f.newEntry h.uid
  match r.2 with
  | none => r.1
  | some e =>
    let f := r.1
    -- a stranger or another identity leaves the index
    let f := { f with hor := { f.hor with roster := modWhere (fun x => x.member == some i && x.idx != e.idx) (fun x => { x with member := none, state := if x.state = 4 then 4 else 6, changed := f.secs }) f.hor.roster } }
    let changed := e.member != some i
    let e := { e with member := some i, path := f.memberPathOf i, port := h.port, causes := causes, downAt := none }
    let f := { f with hor := f.hor.set e }
    let f := if changed then { f with an := f.an.resetMember i } else f
    let f := match was with
      | 3 => f.startProbation e
      | 2 => { f with hor := f.hor.set { e with state := 2 } }
      | 1 => { f with hor := f.hor.set { e with state := 1 } }
      | _ => f.setEntry e 1
    f.checkQuorum

/-- An identity found where no plan admits it is quarantined (R445). -/
def Fabato.quarantine (f : Fabato) (h : Found) (i causes : Nat) : Fabato :=
  let mine := f.hor.roster.find? (fun e => e.uid == h.uid && h.uid != 0 && (e.state == 4 || e.state == 5 || e.state == 6))
  let known := f.hor.roster.find? (fun e => e.state == 4 && e.port == h.port && e.uid == h.uid)
  let r : Fabato × Option RosterEntry := match known, mine with
    | some e, _ => (f, some e)
    | none, some e => (f, some e)
    | none, none => f.newEntry h.uid
  match r.2 with
  | none => r.1
  | some e =>
    let fresh := !(e.state == 4 && e.member == some i && e.causes == causes)
    let e := { e with member := some i, path := r.1.memberPathOf i, port := h.port, causes := causes, downAt := none }
    let f := r.1.setEntry e 4
    if fresh then f.raise 0x1601 0x71 [h.port, h.uid, causes] else f

/-- An identity that no index can take (R28). -/
def Fabato.excess (f : Fabato) (h : Found) : Fabato :=
  let r : Fabato × Option RosterEntry := match f.hor.roster.find? (fun e => e.uid == h.uid && h.uid != 0 && (e.state == 5 || e.state == 6 || e.state == 4)) with
    | some e => (f, some e)
    | none => f.newEntry h.uid
  match r.2 with
  | none => r.1
  | some e => if e.state = 5 then r.1 else r.1.setEntry { e with member := none, path := 0xFFFFFFFF, port := h.port, causes := 1 } 5

/-- The pair is recorded when two indices hold each other's planned identities (R444). -/
def Fabato.recordSwap (f : Fabato) (i j portI portJ : Nat) : Fabato :=
  let lo := Nat.min i j
  let hi := Nat.max i j
  if f.hor.swaps.contains (lo, hi) then f
  else ({ f with hor := { f.hor with swaps := (f.hor.swaps ++ [(lo, hi)]).drop (f.hor.swaps.length + 1 - 64), roster := modWhere (fun e => e.member == some i || e.member == some j) (fun e => { e with causes := e.causes ||| 128 }) f.hor.roster } } : Fabato).raise 0x1604 0x71 [i, j, portI, portJ]

/-- A misplaced identity found at index `i` and planned at `j`. -/
def Fabato.misplaced (f : Fabato) (h : Found) (i j : Nat) : Fabato :=
  -- the identity planned at i is already known as misplaced at j's port
  let twin := f.hor.roster.find? (fun e => e.uid == (f.core.planAt i).uid && e.uid != 0 && e.causes.testBit 5 && (e.member == some j || e.member == some i) && e.port != h.port)
  let follow : Bool := f.core.num oHorizonSwapPolicy == 1 && !f.holdsOwn j
  let f := if follow then (f.rebindPort j h.port (some i)).admitAt h j 32 else f.quarantine h i 32
  match twin with
  | some t => f.recordSwap i j h.port t.port
  | none => f.raise 0x1605 0x71 [h.port, j]

/-- A hello is classified and acted on (R442). The second identity of a followed swap matches where it was rebound to. -/
def Fabato.horizonHello (f : Fabato) (h : Found) : Fabato :=
  match f.classify h with
  | .excess => f.excess h
  | .unplanned i c => f.quarantine h i c
  | .misplaced i j => f.misplaced h i j
  | .matched i =>
    let f := f.admitAt h i (match f.hor.roster.find? (fun e => e.uid == h.uid && h.uid != 0) with | some e => e.causes &&& 160 | none => 0)
    -- the other identity of a swap was followed from the port that index i was first at
    match f.hor.roster.find? (fun e => e.causes.testBit 5 && !e.causes.testBit 7 && (e.state == 1 || e.state == 2) && e.member != some i &&
        (if f.core.kind = 1 then e.port == 17 * (i / 16) + i % 16 && h.port == (match e.member with | some j => 17 * (j / 16) + j % 16 | none => 0xFFFF) else false)) with
    | some t => f.recordSwap (t.member.getD 0) i t.port h.port
    | none => f

/-- Index of a Drizzle lane of a tray, a re-patched spare lane taken under R443. -/
def Fabato.laneIndex (f : Fabato) (n uid : Nat) : Fabato × Option Nat :=
  match f.g.laneMap.findIdx? (fun m => m == n) with
  | some p => (f, some p)
  | none =>
    match f.core.plannedIndex uid with
    | none => (f, none)
    | some p =>
      let own := f.g.laneMap.getD p 0
      let down : Bool := match f.g.lanes[own]? with
        | some l => l.lane.phy.state != .up && (match l.lane.phy.downAt with | some t => decide (f.up ≥ t + 1000000 * f.core.num oHorizonAbsentAfter) | none => decide (f.up ≥ f.hor.startAt + 1000000 * f.core.num oHorizonAbsentAfter))
        | none => false
      if n % 17 = 16 ∧ (f.cel.dzOut.getD own false = true ∨ down = true) then (f.rebindPort p n none, some p) else (f, none)

/-! ### Absence, quorum, probation (R446, R447, R450) -/

/-- MEMBER_ABSENT of an entry. -/
def Fabato.makeAbsent (f : Fabato) (e : RosterEntry) : Fabato :=
  let i := e.member.getD 0xFF
  ((f.setEntry e 3).raise 0x1602 0x71 [i, (f.core.planAt i).uid]).checkQuorum

/-- HORIZON.DISCOVERY_WAIT passes. -/
def Fabato.discoveryExpire (f : Fabato) : Fabato :=
  if f.up < f.hor.startAt + 1000000 * f.core.num oHorizonDiscoveryWait then f
  else (f.hor.roster.filter (fun e => e.state == 0 && e.member.isSome)).foldl (fun f e => f.makeAbsent e) f

/-- HORIZON.ABSENT_AFTER passes for the members whose link is that long out of Up. -/
def Fabato.absentExpire (f : Fabato) : Fabato :=
  (f.hor.roster.filter (fun e => e.downAt.any (fun t => decide (f.up ≥ t + 1000000 * f.core.num oHorizonAbsentAfter)))).foldl (fun (f : Fabato) e =>
    if e.state = 1 ∨ e.state = 2 then f.makeAbsent e
    else if e.state = 4 ∧ e.member.isSome then { f with hor := f.hor.set { e with member := none } }
    else f) f

/-- Links that left or entered Up since the last command: the roster's view of them; an epoch's check runs (Table 13.3). -/
def Fabato.linkScan (f : Fabato) : Fabato :=
  let now := f.upMembers
  if now = f.hor.upLast then f
  else
    let upd (e : RosterEntry) : RosterEntry := match e.member with
      | none => e
      | some i => if now.testBit i then { e with downAt := none } else if e.downAt.isNone then { e with downAt := some f.up } else e
    ({ f with hor := { f.hor with upLast := now, roster := f.hor.roster.map upd } } : Fabato).redCheck

/-- Probation ends: the member becomes Present. -/
def Fabato.endProbation (f : Fabato) (e : RosterEntry) : Fabato :=
  (f.setEntry { e with left := 0, endNow := false } 1).raise 0x1603 0x71 [e.member.getD 0xFF, e.idx]

/-- A group marker counts each member in probation (R450, step 3 of R163). -/
def Fabato.probationMarker (f : Fabato) : Fabato :=
  (f.hor.roster.filter (fun e => e.state == 2)).foldl (fun (f : Fabato) e =>
    if e.endNow then f.endProbation e
    else if !e.counting then { f with hor := f.hor.set { e with counting := true } }
    else if e.left ≤ 1 then f.endProbation e
    else { f with hor := f.hor.set { e with left := e.left - 1 } }) f

/-- HORIZON.END_PROBATION. -/
def Fabato.endProbationWrite (f : Fabato) (i : Nat) : Fabato × Nat :=
  match f.entryOf i with
  | some e => if e.state = 2 then ({ f with hor := f.hor.set { e with endNow := true } }, stOk) else (f, eRange)
  | none => (f, eRange)

/-- With Meridian off, HORIZON.PROBATION_TIME after admission ends probation. -/
def Fabato.probationTime (f : Fabato) : Fabato :=
  if f.core.num oAngleLockMode ≠ 0 then f
  else (f.hor.roster.filter (fun e => e.state == 2 && decide (f.up ≥ e.since + 1000000000 * f.core.num oHorizonProbationTime))).foldl (fun f e => f.endProbation e) f

/-- HORIZON.ADOPT (R449, R524). -/
def Fabato.adopt (f : Fabato) (i : Nat) : Fabato × Nat :=
  match f.entryOf i with
  | none => (f, eRange)
  | some e =>
    if e.state ≠ 4 ∨ i ≥ memberLimit f.core.kind then (f, eRange)
    else
      let o := oHorizonPlanMember + i + 1
      let b := f.core.get o
      let b := overlay (overlay (slice b 0 32) 16 (leBytes 16 e.uid)) 0 (leBytes 1 (leAt b 0 1 ||| 1))
      let f := f.onCore (fun c => c.put o (overlay b 10 (leBytes 1 i)))
      let f := { f with hor := { f.hor with roster := modWhere (fun x => x.member == some i && x.idx != e.idx && x.state != 4) (fun x => { x with state := 6, member := none, changed := f.secs }) f.hor.roster } }
      let f := { f with an := f.an.resetMember i, fen := { f.fen with fenced := if f.fen.fenced.testBit i then f.fen.fenced ^^^ 2 ^ i else f.fen.fenced, rv := f.fen.rv.set i { value := 0, at_ := f.ns, majority := false } } }
      ((f.startProbation { e with causes := 0 }).checkQuorum, stOk)

/-- Plan commit (R441): every present identity is compared again; masks, group reference, feed and phase source follow. -/
def Fabato.planCommit (f : Fabato) : Fabato :=
  let ref := ofBits ((List.range 128).filter (fun i => (f.core.planAt i).planned && (f.core.planAt i).ref))
  let h := f.core.plan
  let f := f.onCore (fun c =>
    let c := (c.putNum oAngleGroupRef ref).putNum oSundogFeed h.feed
    let c : Core := { c with path := h.ownPath }
    if h.root then { c with waitX := storeInsert c.waitX oTimePhaseSrc [BitVec.ofNat 8 h.phase] } else c)
  let f := { f with an := { f.an with planMask := ref }, hor := { f.hor with startAt := f.up } }
  let f := f.hor.roster.foldl (fun (f : Fabato) e0 =>
    match f.hor.roster.find? (fun e => e.idx == e0.idx) with
    | none => f
    | some e =>
      match e.member with
      | none => f
      | some i =>
        let p := f.core.planAt i
        let fit := p.planned && (p.uid == 0 || p.uid == e.uid)
        let e := { e with path := f.memberPathOf i }
        if e.state = 1 ∨ e.state = 2 then
          if fit then { f with hor := f.hor.set e }
          else (f.setEntry { e with causes := if p.planned then 16 else 8 } 4).raise 0x1601 0x71 [e.port, e.uid, if p.planned then 16 else 8]
        else if e.state = 4 then
          if fit ∧ e.causes &&& 70 = 0 then
            let f := { f with hor := { f.hor with roster := modWhere (fun x => x.member == some i && x.idx != e.idx && x.state != 4) (fun x => { x with state := 6, member := none, changed := f.secs }) f.hor.roster } }
            f.startProbation { e with causes := 0 }
          else f
        else if (e.state = 0 ∨ e.state = 3) ∧ !(fit && (p.uid == e.uid || e.uid == 0 || p.uid == 0)) then f.setEntry { e with member := none } 6
        else f) f
  f.seedPlan.checkQuorum

/-- Restart of the group (Table 17.5): Present becomes Planned, a probation starts over. -/
def Fabato.horizonRestart (f : Fabato) : Fabato :=
  let n := f.core.num oHorizonProbationSteps
  let upd (e : RosterEntry) : RosterEntry :=
    { e with downAt := none, since := f.up, counting := false, endNow := false, state := if e.state = 1 then 0 else e.state, left := if e.state = 2 then n else e.left }
  ({ f with hor := { f.hor with roster := f.hor.roster.map upd, startAt := f.up, valid := false, upLast := 0, invalid := [], full := false, swaps := [] } } : Fabato).seedPlan

/-- The child group `i` has sent alarm 0x32 or 0x33 (R447). -/
def HorizonPart.childQuorum (h : HorizonPart) (i : Nat) (lost : Bool) : HorizonPart :=
  { h with invalid := if lost then (if h.invalid.contains i then h.invalid else h.invalid ++ [i]) else h.invalid.filter (fun x => x != i) }

/-! ### Communication groups (R451, R452) -/

/-- Identity of a definition: id, segment, valid-from step. -/
def commKey (b : Bytes) : Nat × Nat × Nat := (commId b, commSegment b, commFrom b)

/-- Checks of a definition (Table 17.6). -/
def checkComm (b : Bytes) : Nat :=
  let n := commCount b
  let k := commKind b
  let len := roundUp (32 + 4 * n + (if k = 1 then 2 * n else 0)) 8
  if leAt b 0 12 ≠ 0 then eReserved
  else if commId b = 0 ∨ k > 3 ∨ n > (if k = 1 then 672 else 1008) ∨ b.length ≠ len then eRange
  else stOk

/-- Bytes of definitions held. -/
def HorizonPart.commBytes (h : HorizonPart) : Nat := (h.comm.map (fun b => b.length)).sum

/-- A definition takes effect at an element: one of the same identity is replaced. -/
def HorizonPart.setComm (h : HorizonPart) (element : Nat) (b : Bytes) : HorizonPart :=
  match h.comm.findIdx? (fun x => commKey x == commKey b) with
  | some i => { h with comm := h.comm.set i b }
  | none => if element ≥ 1 ∧ element ≤ h.comm.length then { h with comm := h.comm.set (element - 1) b } else { h with comm := h.comm ++ [b] }

/-- State of a member path in a capture. -/
def Fabato.captureState (f : Fabato) (path : Nat) : Nat :=
  if !inSubtree f.core.path path then 5
  else match memberOf f.core.path path with
    | none => 5
    | some i =>
      if f.fen.fenced.testBit i then 3
      else match f.memberState i with
        | 1 => 0 | 2 => 1 | 4 => 4 | _ => 2

/-- Nibbles packed low first. -/
def packNibbles : List Nat → Bytes
  | [] => []
  | [a] => [BitVec.ofNat 8 (a % 16)]
  | a :: b :: rest => BitVec.ofNat 8 (a % 16 + b % 16 * 16) :: packNibbles rest

/-- Capture every communication group at a checkpoint cut (R452). -/
def Fabato.captureComm (f : Fabato) (cut step : Nat) : Fabato :=
  let groups := (f.hor.comm.map (fun b => (commId b, commSegment b))).eraseDups
  let caps := groups.filterMap (fun k =>
    (f.hor.comm.filter (fun b => (commId b, commSegment b) == k && decide (commFrom b ≤ step))).foldl (fun (x : Option Bytes) b =>
      match x with
      | none => some b
      | some y => if commFrom y < commFrom b then some b else some y) none)
  let new := caps.map (fun b =>
    (cut, zeros 7 ++ leBytes 1 (commSegment b) ++ leBytes 8 (commFrom b) ++ leBytes 4 (commId b) ++ leBytes 8 step ++ leBytes 4 cut
      ++ packNibbles ((commMembers b).map f.captureState)))
  let all := f.hor.captures ++ new
  let cuts := (all.map (fun x => x.1)).eraseDups
  let keep := cuts.drop (cuts.length - f.core.num oHorizonCaptureKeep)
  let kept := all.filter (fun x => keep.contains x.1)
  let newest := (kept.map (fun x => leAt x.2 20 8)).foldl Nat.max 0
  let used (b : Bytes) : Bool := kept.any (fun x => (leAt x.2 16 4, leAt x.2 7 1, leAt x.2 8 8) == commKey b)
  let best (b : Bytes) : Bool := !f.hor.comm.any (fun y => (commId y, commSegment y) == (commId b, commSegment b) && decide (commFrom y ≤ newest) && decide (commFrom b < commFrom y))
  let comm := f.hor.comm.filter (fun b => used b || decide (commFrom b > newest) || best b)
  ({ f with hor := { f.hor with captures := kept.drop (kept.length - 255), comm := comm } } : Fabato).raise 0x1609 0x71 [cut, step, new.length]

/-- Bytes of a roster entry (Table 17.4); the group's own at 0xFFFF. -/
def RosterEntry.bytes (e : RosterEntry) : Bytes :=
  leBytes 1 e.state ++ zeros 1 ++ leBytes 1 e.causes ++ zeros 1 ++ leBytes 1 e.port ++ leBytes 1 (e.member.getD 0xFF) ++ leBytes 2 e.left ++ leBytes 4 e.changed
    ++ leBytes 4 e.path ++ leBytes 16 e.uid

end Sys2Proof.Machine
end

