-- ==== Sys2Proof/Machine/Sundog.lean ====
section
/-! DEFINITION. Sundog (R427–R436, R526–R528): the durable set, its journal and mirror, pairing, snapshots, refill, takeover. -/
namespace Sys2Proof.Machine

/-! ### The durable set (Table 16.6), by item number: the item's kind times 2³², plus its place -/

/-- Configuration that a restart keeps: a RW value of class B, S or X. -/
def isDurable (kind o : Nat) : Bool :=
  match findRow kind o with
  | some r => r.access == .rw && (r.apply == .boundary || r.apply == .staged || r.apply == .restart)
  | none => (objectRows kind o).any (fun r => r.access == .rw && (r.apply == .boundary || r.apply == .staged || r.apply == .restart))

def durItem (kind place : Nat) (v : Bytes) : Nat × Bytes := (kind * 2 ^ 32 + place, v)

/-- Entry port with a code of `Port.code`. -/
def portOfCode (n : Nat) : Port :=
  match n / 256 with
  | 0 => .mgmt n
  | 1 => .sky (n % 256)
  | 2 => .drizzle (n % 256)
  | 3 => .mailbox
  | _ => .loft (n % 256)

def Lock.bytes (l : Lock) : Bytes :=
  leBytes 2 l.port.code ++ leBytes 1 l.role.rank ++ leBytes 4 l.fails ++ leBytes 4 l.k ++ leBytes 9 (match l.until? with | some t => t + 2 ^ 64 | none => 0)

def lockOfBytes (b : Bytes) : Lock :=
  { port := portOfCode (leAt b 0 2), role := Role.ofCode (leAt b 2 1), fails := leAt b 3 4, k := leAt b 7 4,
    until? := if leAt b 19 1 = 0 then none else some (leAt b 11 8) }

def rosterOfBytes (i : Nat) (b : Bytes) : RosterEntry :=
  { idx := i, uid := leAt b 16 16, path := leAt b 12 4, changed := leAt b 8 4, left := leAt b 6 2, member := if leAt b 5 1 = 0xFF then none else some (leAt b 5 1),
    port := leAt b 4 1, causes := leAt b 2 1, state := leAt b 0 1, counting := false, endNow := false, since := 0, downAt := none }

/-- Fencing state (R410). -/
def FencePart.durable (f : FencePart) : List (Nat × Bytes) :=
  [durItem 4 0 (leBytes 16 f.bucket.tokens ++ leBytes 16 f.bucket.t ++ leBytes 16 f.fenced ++ leBytes 1 f.suspicion ++ leBytes 4 f.decNum ++ leBytes 4 f.reqNum
      ++ leBytes 4 f.verdNum ++ leBytes 4 f.alarmNum ++ leBytes 4 f.katNum ++ f.bucket.runs.flatMap (leBytes 16))]
    ++ (List.range f.decisions.length).map (fun i => durItem 4 (256 + i) (f.decisions.getD i []))
    ++ ((List.range 128).filter (fun i => (f.rv.getD i { value := 0, at_ := 0, majority := false }).value != 0)).map (fun i =>
        let r := f.rv.getD i { value := 0, at_ := 0, majority := false }
        durItem 4 (65536 + i) (leBytes 8 r.value ++ leBytes 16 r.at_ ++ leBytes 1 (if r.majority then 1 else 0)))

/-- A fencing item is loaded. -/
def FencePart.loadItem (f : FencePart) (place : Nat) (v : Bytes) : FencePart :=
  if place = 0 then
    { f with bucket := { tokens := leAt v 0 16, t := leAt v 16 16, runs := (List.range ((v.length - 69) / 16)).map (fun i => leAt v (69 + 16 * i) 16) },
             fenced := leAt v 32 16, suspicion := leAt v 48 1, decNum := leAt v 49 4, reqNum := leAt v 53 4, verdNum := leAt v 57 4, alarmNum := leAt v 61 4, katNum := leAt v 65 4 }
  else if place < 65536 then
    let i := place - 256
    { f with decisions := if i < f.decisions.length then f.decisions.set i v else f.decisions ++ [v] }
  else { f with rv := f.rv.set (place - 65536) { value := leAt v 0 8, at_ := leAt v 8 16, majority := leAt v 24 1 == 1 } }

def History.bytes (h : History) : Bytes :=
  leBytes 1 h.kind ++ leBytes 16 h.identity ++ leBytes 8 h.corrected ++ leBytes 8 h.uncorrectable ++ leBytes 8 h.gaps ++ leBytes 16 h.changed ++ leBytes 1 h.head
    ++ leBytes 1 ((if h.permanent then 1 else 0) + (if h.wrapped then 2 else 0)) ++ h.ring.flatMap (fun x => leBytes 1 x.1 ++ slice x.2 0 64)

def historyOfBytes (slot : Nat) (b : Bytes) : History :=
  { slot := slot, kind := leAt b 0 1, identity := leAt b 1 16, corrected := leAt b 17 8, uncorrectable := leAt b 25 8, gaps := leAt b 33 8, changed := leAt b 41 16,
    head := leAt b 57 1, permanent := (leAt b 58 1).testBit 0, wrapped := (leAt b 58 1).testBit 1,
    ring := (List.range ((b.length - 59) / 65)).map (fun i => (leAt b (59 + 65 * i) 1, slice b (60 + 65 * i) 64)) }

/-- An optional number in 17 bytes. -/
def optBytes (x : Option Nat) : Bytes := leBytes 17 (match x with | some t => t + 2 ^ 128 | none => 0)
def optAt (b : Bytes) (i : Nat) : Option Nat := if leAt b (i + 16) 1 = 0 then none else some (leAt b i 16)

/-- Cadence estimates of a job. -/
def Job.durable (j : Job) : Bytes :=
  leBytes 4 j.tenant ++ leBytes 8 j.n ++ leBytes 8 j.e ++ leBytes 16 j.t ++ leBytes 8 j.interval ++ leBytes 4 j.steps ++ leBytes 4 j.risk ++ leBytes 8 j.ckpt ++ leBytes 8 j.count
    ++ leBytes 1 ((if j.armed then 1 else 0) + (if j.clamped then 2 else 0)) ++ optBytes j.lastInt ++ optBytes j.lastReq

def jobOfBytes (i : Nat) (b : Bytes) : Job :=
  { idx := i, tenant := leAt b 0 4, n := leAt b 4 8, e := leAt b 12 8, t := leAt b 20 16, interval := leAt b 36 8, steps := leAt b 44 4, risk := leAt b 48 4,
    ckpt := leAt b 52 8, count := leAt b 60 8, armed := (leAt b 68 1).testBit 0, clamped := (leAt b 68 1).testBit 1, lastInt := optAt b 69, lastReq := optAt b 86 }

/-- The MRAM part of the durable set. -/
def Fabato.durableMram (f : Fabato) : Store :=
  let c := f.core
  (c.store.filter (fun x => isDurable c.kind x.1)).map (fun x => durItem 0 x.1 x.2)
    ++ c.waitX.map (fun x => durItem 1 x.1 x.2)
    ++ ((List.range 4).filter (fun i => c.keys.roles.getD i [] != zeros 32)).map (fun i => durItem 2 i (c.keys.roles.getD i []))
    ++ (if c.keys.tree = zeros 32 then [] else [durItem 2 4 c.keys.tree])
    ++ c.keys.tenants.map (fun t => durItem 2 (256 + t.1) (leBytes 4 t.2.1 ++ t.2.2))
    ++ (List.range c.locks.length).map (fun i => durItem 2 (4096 + i) ((c.locks.map Lock.bytes).getD i []))
    ++ f.hor.roster.map (fun e => durItem 3 e.idx e.bytes)
    ++ f.fen.durable
    ++ f.alm.histories.map (fun h => durItem 5 h.slot h.bytes)
    ++ f.cast.jobs.map (fun j => durItem 6 j.idx j.durable)
    ++ [durItem 7 0 (f.g.jet.seq.flatMap (fun s => leBytes 2 s.toNat))]
    ++ (List.range f.hor.comm.length).map (fun i => durItem 8 i (f.hor.comm.getD i []))

/-- Bulk images in slot order: active and shadow images, then Loft images. -/
def Fabato.bulkImages (f : Fabato) : Store :=
  f.an.models.flatMap (fun m => (match m.active with | some b => [durItem 9 (2 * m.idx) b] | none => []) ++ (match m.shadow with | some b => [durItem 9 (2 * m.idx + 1) b] | none => []))
    ++ ((List.range f.loft.length).filterMap (fun i => match f.loft[i]? with
        | some s => if s.image.isEmpty then none else some (durItem 9 (65536 + i) s.image)
        | none => none))

/-- The images that fit in 512 MiB, and the first that does not. -/
def fitBulk : List (Nat × Bytes) → Nat → Store × Option (Nat × Bytes)
  | [], _ => ([], none)
  | x :: rest, room => if x.2.length ≤ room then
      let r := fitBulk rest (room - x.2.length)
      (x :: r.1, r.2)
    else
      let r := fitBulk rest room
      (r.1, some x)

/-- Bytes of a set. -/
def setBytes (s : Store) : Nat := (s.map (fun x => x.2.length)).sum

/-- The whole durable set, items rising. -/
def Fabato.durable (f : Fabato) : Store := sortBy (f.durableMram ++ (fitBulk f.bulkImages 536870912).1) (fun a b => decide (a.1 ≤ b.1))

/-- Whether a write of `n` more bytes still fits in the 16 MiB of the MRAM part (R427). -/
def Fabato.durableRoom (f : Fabato) (n : Nat) : Bool := decide (setBytes f.durableMram + n ≤ 16777216)

/-- One item is loaded; none: it has gone. -/
def Fabato.loadItem (f : Fabato) (key : Nat) (v : Option Bytes) : Fabato :=
  let place := key % 2 ^ 32
  let b := v.getD []
  match key / 2 ^ 32 with
  | 0 => f.onCore (fun c => { c with store := match v with | some b => storeInsert c.store place b | none => storeErase c.store place })
  | 1 => f.onCore (fun c => { c with waitX := match v with | some b => storeInsert c.waitX place b | none => storeErase c.waitX place })
  | 2 =>
    if place < 4 then f.onCore (fun c => { c with keys := { c.keys with roles := c.keys.roles.set place (slice b 0 32) } })
    else if place = 4 then f.onCore (fun c => { c with keys := { c.keys with tree := slice b 0 32 } })
    else if place < 4096 then f.onCore (fun c => { c with keys := { c.keys with tenants := (c.keys.tenants.filter (fun t => t.1 != place - 256)) ++ (match v with
        | some b => [(place - 256, leAt b 0 4, slice b 4 32)]
        | none => []) } })
    else match v with
      | some b => f.onCore (fun c => { c with locks := (c.locks.filter (fun l => !(l.port == (lockOfBytes b).port && l.role == (lockOfBytes b).role))) ++ [lockOfBytes b] })
      | none => f
  | 3 =>
    let rest := f.hor.roster.filter (fun e => e.idx != place)
    { f with hor := { f.hor with roster := sortBy (match v with | some b => rosterOfBytes place b :: rest | none => rest) (fun x y => decide (x.idx ≤ y.idx)) } }
  | 4 => match v with
    | some b => { f with fen := f.fen.loadItem place b }
    | none => f
  | 5 => match v with
    | some b => { f with alm := f.alm.setHistory (historyOfBytes place b) }
    | none => { f with alm := { f.alm with histories := f.alm.histories.filter (fun h => h.slot != place) } }
  | 6 =>
    let rest := f.cast.jobs.filter (fun j => j.idx != place)
    { f with cast := { f.cast with jobs := match v with | some b => rest ++ [jobOfBytes place b] | none => rest } }
  | 7 => { f with g := { f.g with jet := { f.g.jet with seq := (List.range 4).map (fun i => BitVec.ofNat 16 (leAt b (2 * i) 2)) } } }
  | 8 =>
    { f with hor := { f.hor with comm := match v with
        | some b => if place < f.hor.comm.length then f.hor.comm.set place b else f.hor.comm ++ [b]
        | none => f.hor.comm.eraseIdx place } }
  | 9 =>
    if place < 65536 then { f with an := { f.an with models := modAt f.an.models (place / 2) (fun m => if place % 2 = 0 then { m with active := v } else { m with shadow := v }) } }
    else { f with loft := modAt f.loft (place - 65536) (fun s => { s with image := b, state := if v.isSome && s.state == 0 then 1 else s.state }) }
  | _ => f

/-! ### Images (the model's own form, log entry 9): each item as its number, its length and its bytes -/

def storeImage (s : Store) : Bytes := s.flatMap (fun x => leBytes 8 x.1 ++ leBytes 8 x.2.length ++ x.2)

def parseImage : Nat → Bytes → Store
  | 0, _ => []
  | n + 1, b =>
    if b.length < 16 then []
    else
      let len := leAt b 8 8
      if b.length < 16 + len then []
      else (leAt b 0 8, slice b 16 len) :: parseImage n (b.drop (16 + len))

/-- The items complete in some bytes. -/
def imageItems (b : Bytes) : Store := parseImage (b.length / 16 + 1) b

/-- A journal item's bytes: the number, whether the item still is, its bytes. -/
def itemBytes (key : Nat) (v : Option Bytes) : Bytes := leBytes 8 key ++ leBytes 8 (if v.isSome then 1 else 0) ++ v.getD []
def itemKey (b : Bytes) : Nat := leAt b 0 8
def itemValue (b : Bytes) : Option Bytes := if leAt b 8 8 = 0 then none else some (b.drop 16)

/-- A mirrored set with an item changed. -/
def mirrorPut (s : Store) (b : Bytes) : Store := match itemValue b with | some v => storeInsert s (itemKey b) v | none => storeErase s (itemKey b)

/-! ### Transfers (R428, Table 16.7) -/

/-- K_m. -/
def Core.mirrorKey (c : Core) (owner epoch g : Nat) : Bytes := hmac c.keys.tree (lmn 77 ++ leBytes 4 owner ++ leBytes 4 epoch ++ leBytes 4 g)

/-- Header of a transfer, which is its associated data. -/
def transferHead (kind len count g owner off seq : Nat) : Bytes :=
  leBytes 1 kind ++ leBytes 3 len ++ leBytes 4 count ++ leBytes 4 g ++ leBytes 4 owner ++ leBytes 8 off ++ leBytes 8 seq

/-- The 96-bit nonce: g, then the count. -/
def transferNonce (g count : Nat) : Bytes := leBytes 4 g ++ leBytes 8 count

/-- Every transfer is held while the tree key is unset (Table 16.8). -/
def Fabato.sunNoKey (f : Fabato) : Fabato :=
  if f.sun.noKey then f else ({ f with sun := { f.sun with noKey := true } } : Fabato).raise 0x1708 0x72 [f.core.plan.partnerPath]

/-- Send one transfer on an output port of Jetstream (31: the parent's). -/
def Fabato.sunSend (f : Fabato) (port kind owner seq off : Nat) (plain : Bytes) : Fabato :=
  if f.core.keys.tree = zeros 32 then f.sunNoKey
  else match f.g.outPort port 1 with
    | none => f
    | some p =>
      let epoch := (f.g.port p).epoch
      let x := f.sun.gen.getD p (epoch, 0, 0)
      let x := if x.1 = epoch then x else (epoch, 0, 0)
      let g := x.2.1
      let n := x.2.2
      let head := transferHead kind plain.length n g owner off seq
      let r := gcmSeal (f.core.mirrorKey owner epoch g) (transferNonce g n) head plain
      let f := { f with sun := { f.sun with noKey := false, gen := f.sun.gen.set p (if n = 0xFFFFFFFF then (epoch, g + 1, 0) else (epoch, g, n + 1)) } }
      f.onG (fun h => h.enqueueFrame h.core.path port 0x05 .s (head ++ r.1 ++ r.2))

/-- Chunks of an image: 8,912 bytes at most. -/
def Fabato.sunChunks (f : Fabato) (port kind owner : Nat) (image : Bytes) : Fabato :=
  (List.range ((image.length + 8911) / 8912)).foldl (fun f i => f.sunSend port kind owner 0 (8912 * i) ((image.drop (8912 * i)).take 8912)) f

/-- The group's Sundog port. -/
def Fabato.sunPort (f : Fabato) : Option Nat := (f.core.portsOf 3).head?

/-- A transfer arrives in a frame of kind 0x05 on a port: the transport takes it, and the plaintext where the tag fits (R428). -/
def Fabato.sunOpen (f : Fabato) (p : Nat) (h : SkyHead) (kind : Nat) (x : Transfer) : Fabato × Option Bytes :=
  let r := f.g.skyHead p h true
  if !r.2 then ({ f with g := r.1 }, none)
  else
    let f : Fabato := { f with g := r.1.skyTaken p h.cls.code ((x.body.length + 48 + 63) / 64) }
    if f.core.keys.tree = zeros 32 then (f.sunNoKey, none)
    else
      let head := transferHead kind x.body.length x.count x.gen x.owner x.off x.seq
      match gcmOpen (f.core.mirrorKey x.owner ((f.g.port p).peerEpoch.getD 0) x.gen) (transferNonce x.gen x.count) head x.body x.tag with
      | some b => ({ f with sun := { f.sun with noKey := false } }, some b)
      | none => (f.onCore (fun c => c.bump oSundogAuthFails), none)

/-! ### The journal (R429) -/

/-- Bytes not yet acknowledged, and the age of the oldest of them. -/
def lagOf (l : List JournalItem) (now : Nat) : Nat × Nat :=
  ((l.map (fun i => i.bytes.length)).sum, match l with | i :: _ => now - i.at_ | [] => 0)

/-- Whether the journal goes to the partner as it is made. -/
def SundogPart.talks (s : SundogPart) : Bool := s.state == .paired || s.state == .serving

/-- The items of a set that another has not, or has otherwise; none where the item has gone. -/
def storeDiff (old new : Store) : List (Nat × Option Bytes) :=
  (new.filter (fun x => storeGet old x.1 != some x.2)).map (fun x => (x.1, some x.2)) ++ (old.filter (fun x => (storeGet new x.1).isNone)).map (fun x => (x.1, none))

/-- Every change to the durable set since it was last looked at becomes a journal item. -/
def Fabato.sunJournal (f : Fabato) : Fabato :=
  let now := f.durable
  let f := (storeDiff f.sun.last now).foldl (fun (f : Fabato) d =>
    let it : JournalItem := { seq := f.sun.seq + 1, bytes := itemBytes d.1 d.2, at_ := f.ns }
    let f := { f with sun := { f.sun with seq := f.sun.seq + 1, journal := f.sun.journal ++ [it] } }
    match f.sun.talks && f.g.sundogUp, f.sunPort with
    | true, some p => f.sunSend p 1 f.core.path it.seq 0 it.bytes
    | _, _ => f) f
  let extra := (fitBulk f.bulkImages 536870912).2
  let f := match extra with
    | some x => if f.sun.bulkFull then f else f.raise 0x1707 0x72 [x.1 % 2 ^ 32, x.2.length]
    | none => f
  { f with sun := { f.sun with last := now, bulkFull := extra.isSome } }

/-- Send again what the partner has not acknowledged. -/
def Fabato.sunResend (f : Fabato) (p : Nat) : Fabato := f.sun.journal.foldl (fun f i => f.sunSend p 1 f.core.path i.seq 0 i.bytes) f

/-- A journal item arrives (kind 1): the partner's is stored and acknowledged; one of this group's own path ends a refill or a hand-back. -/
def Fabato.sunItem (f : Fabato) (p : Nat) (h : SkyHead) (x : Transfer) : Fabato :=
  let r := f.sunOpen p h 1 x
  match r.2 with
  | none => r.1
  | some b =>
    let f := r.1
    if x.owner = f.core.path then
      let it : JournalItem := { seq := x.seq, bytes := b, at_ := f.ns }
      if f.sun.state = .refilling then { f with sun := { f.sun with later := f.sun.later ++ [it] } } else f.loadItem (itemKey b) (itemValue b)
    else if x.owner ≠ f.sun.path then f
    else
      let f := if x.seq ≤ f.sun.peerSeq then f else { f with sun := { f.sun with peerSeq := x.seq, mirror := mirrorPut f.sun.mirror b } }
      f.sunSend p 2 x.owner f.sun.peerSeq 0 []

/-- The parent's check of R276 starts again for every class of a path (R432, R528). -/
def Fabato.resetChecks (f : Fabato) (path : Nat) : Fabato := f.onG (fun g => { g with jet := { g.jet with checks := g.jet.checks.filter (fun c => c.path != path) } })

/-- An acknowledgement (kind 2): of the journal or of a refill from the partner, of a snapshot from the parent; from a child, that its snapshot refill is complete. -/
def Fabato.sunAck (f : Fabato) (p : Nat) (h : SkyHead) (x : Transfer) : Fabato :=
  let r := f.sunOpen p h 2 x
  match r.2 with
  | none => r.1
  | some _ =>
    let f := r.1
    match (f.core.skyMap p).role with
    | 3 => if x.owner = f.core.path then { f with sun := { f.sun with journal := f.sun.journal.filter (fun i => decide (i.seq > x.seq)) } }
      else if f.sun.state = .serving ∧ f.sun.hosting.isNone ∧ x.owner = f.sun.path then { f with sun := { f.sun with state := .paired } }
      else f
    | 2 => f.resetChecks x.owner
    | _ => if x.owner = f.core.path then { f with sun := { f.sun with lastSnap := time80 f.sun.pushTime } } else f

/-! ### Pairing (R430) -/

/-- The hello of kind 7: identity, path, feed. -/
def Fabato.sunHelloSend (f : Fabato) : Fabato :=
  match f.sunPort with
  | some p => f.sunSend p 7 f.core.path 0 0 (slice (f.core.get oIdentUid) 0 16 ++ leBytes 4 f.core.path ++ leBytes 4 (f.core.num oSundogFeed))
  | none => f

/-- Cause of a refusal: 1 identity or path, 2 parents, 3 feeds. -/
def Fabato.sunRefusal (f : Fabato) (uid path feed : Nat) : Option Nat :=
  let h := f.core.plan
  if path ≠ h.partnerPath ∨ (h.partnerUid ≠ 0 ∧ h.partnerUid ≠ uid) then some 1
  else if !h.root ∧ (memberOf h.parentPath path).isNone then some 2
  else if feed = f.core.num oSundogFeed ∧ !h.forceCofed then some 3
  else none

/-- A refill is served from the mirror (R433): its parts in their order, then refill done. -/
def Fabato.sunServe (f : Fabato) (p : Nat) : Fabato :=
  let img := storeImage f.sun.mirror
  let f := { f with sun := { f.sun with state := .serving } }
  (f.sunChunks p 3 f.sun.path img).sunSend p 4 f.sun.path f.sun.peerSeq img.length []

/-- A hello arrives (kind 7). -/
def Fabato.sunHello (f : Fabato) (p : Nat) (h : SkyHead) (x : Transfer) : Fabato :=
  let r := f.sunOpen p h 7 x
  match r.2 with
  | none => r.1
  | some b =>
    let f := r.1
    let uid := leAt b 0 16
    let path := leAt b 16 4
    let feed := leAt b 20 4
    if (f.core.skyMap p).role ≠ 3 then f
    else match f.sunRefusal uid path feed with
      | some c => ({ f with sun := { f.sun with state := if f.sun.state = .alone then .refused else f.sun.state } } : Fabato).raise 0x1701 0x72 [path, c]
      | none =>
        let fresh := f.sun.uid ≠ 0 ∧ f.sun.uid ≠ uid
        let f := { f with sun := { f.sun with path := path, uid := uid, feed := feed, coFed := feed == f.core.num oSundogFeed, lostAt := none } }
        if f.sun.empty ∧ f.sun.state = .alone then { f with sun := { f.sun with state := .refilling, refill := (1, 0, 0, 0), load := [], loaded := false, later := [], refillAt := f.ns } }
        else match f.sun.state with
          | .alone => ({ f with sun := { f.sun with state := .paired } } : Fabato).sunResend p
          | .lost => if fresh then f.sunServe p else ({ f with sun := { f.sun with state := .paired } } : Fabato).sunResend p
          | .paired => if fresh then f.sunServe p else f
          | .hosting => f.sunServe p
          | _ => f

/-! ### Refill and snapshots (R431, R433–R435, R526–R528) -/

/-- Records collected before the MRAM part was loaded go to the parent, in order for each source and class (R527). -/
def Fabato.sunStored (f : Fabato) : Fabato :=
  if f.sun.stored.isEmpty ∨ !f.sun.loaded ∨ !((f.core.portsOf 0 ++ f.core.portsOf 1).any (fun p => f.g.portUp p)) then f
  else
    let f' := f.onG (fun g => f.sun.stored.foldl (fun g e => g.enqueue e.path.toNat 31 e) g)
    { f' with sun := { f'.sun with stored := [] } }

/-- The MRAM part of the load takes effect. -/
def Fabato.sunLoadMram (f : Fabato) : Fabato :=
  if f.sun.loaded then f
  else
    let items := (imageItems f.sun.load).filter (fun x => decide (x.1 < 9 * 2 ^ 32))
    let f := items.foldl (fun f x => f.loadItem x.1 (some x.2)) f
    let f := { f with sun := { f.sun with loaded := true, refill := (2, f.sun.refill.2) } }
    (f.seedPlan.checkQuorum).sunStored

/-- The whole load takes effect. -/
def Fabato.sunLoadAll (f : Fabato) : Fabato :=
  let f := f.sunLoadMram
  ((imageItems f.sun.load).filter (fun x => decide (x.1 ≥ 9 * 2 ^ 32))).foldl (fun f x => f.loadItem x.1 (some x.2)) f

/-- A chunk joins the load. -/
def SundogPart.chunk (s : SundogPart) (off : Nat) (b : Bytes) : SundogPart :=
  { s with load := overlay s.load off b, refill := (s.refill.1, s.refill.2.1, s.refill.2.2.1 + b.length, Nat.max s.refill.2.2.2 (off + b.length)) }

/-- A refill chunk arrives (kind 3). The MRAM part has landed once a bulk image begins. -/
def Fabato.sunRefillChunk (f : Fabato) (p : Nat) (h : SkyHead) (x : Transfer) : Fabato :=
  let r := f.sunOpen p h 3 x
  match r.2 with
  | none => r.1
  | some b =>
    if r.1.sun.state ≠ .refilling ∨ x.owner ≠ r.1.core.path then r.1
    else
      let f := { r.1 with sun := r.1.sun.chunk x.off b }
      let items := imageItems f.sun.load
      if items.any (fun i => decide (i.1 ≥ 9 * 2 ^ 32)) then f.sunLoadMram else f

/-- Refill done (kind 4): the journal items that changed during it, then Paired; a hand-back is owed in rack and row mode. -/
def Fabato.sunRefillDone (f : Fabato) (p : Nat) (h : SkyHead) (x : Transfer) : Fabato :=
  let r := f.sunOpen p h 4 x
  match r.2 with
  | none => r.1
  | some _ =>
    if r.1.sun.state ≠ .refilling ∨ x.owner ≠ r.1.core.path then r.1
    else
      let f := r.1.sunLoadAll
      let f := f.sun.later.foldl (fun f i => f.loadItem (itemKey i.bytes) (itemValue i.bytes)) f
      let n := f.sun.refill.2.2.1
      let f := { f with sun := { f.sun with state := .paired, empty := false, seq := Nat.max f.sun.seq x.seq, later := [], load := [], refill := (3, f.sun.refill.2), handBack := f.core.kind != 1 } }
      let f := f.sunSend p 2 f.core.path x.seq 0 []
      f.raise 0x1704 0x72 [0, n]

/-- Seconds of the snapshot interval in force (R431). -/
def Fabato.snapInterval (f : Fabato) : Nat :=
  if (f.sun.state = .paired ∨ f.sun.state = .serving) ∧ !f.sun.coFed then f.core.used oSundogSnapshotInterval else f.core.used oSundogSnapshotIntervalCofed

/-- A snapshot of a path goes to the parent. -/
def Fabato.sunPush (f : Fabato) (path : Nat) (s : Store) : Fabato :=
  let img := storeImage s
  (f.sunChunks 31 5 path img).sunSend 31 6 path 0 img.length (leBytes 10 (time80 f.ns))

/-- The snapshot interval elapses (R431, R526); while a refill is served the snapshot waits (Table 16.9). -/
def Fabato.snapshotTimer (f : Fabato) : Fabato :=
  if f.sun.state = .serving ∨ (f.core.parentPort false).isNone ∨ f.core.keys.tree = zeros 32 then f
  else
    let f := if f.up ≥ f.sun.pushAt + secNs * f.snapInterval ∧ f.sun.state ≠ .refilling ∧ f.sun.state ≠ .snapRefill then
        let f' := { f with sun := { f.sun with pushAt := f.up, pushTime := f.ns } }
        (f'.onCore (fun c => c.usePair oSundogSnapshotInterval oSundogSnapshotIntervalCofed)).sunPush f.core.path f.durable
      else f
    match f.sun.hosting with
    | some h =>
      if f.up ≥ f.sun.hostPush + secNs * f.core.used oSundogSnapshotIntervalCofed then
        ({ f with sun := { f.sun with hostPush := f.up } } : Fabato).sunPush h f.sun.mirror
      else f
    | none => f

/-- The decision records (code 0x50) a group holds for a path from after a time, as payloads. -/
def Fabato.decisionsAfter (f : Fabato) (path t : Nat) : List Nat :=
  ((f.g.jet.store.filter (fun e => e.base.type == 0x10 && bitsOf e.base.payload.toNat 63 56 == 0x50 && e.path.toNat == path && decide (e.time.toNat > t)))).map (fun e => e.base.payload.toNat)

/-- The newest complete snapshot of a path. -/
def SundogPart.newest (s : SundogPart) (path : Nat) : Option Snapshot :=
  (s.snaps.filter (fun x => x.path == path && x.complete)).foldl (fun (b : Option Snapshot) x => match b with
    | none => some x
    | some y => if y.at_ ≤ x.at_ then some x else some y) none

/-- A parent answers a child's request with the snapshot and the decisions after it (R434); with no snapshot, done alone. -/
def Fabato.sunAnswer (f : Fabato) (p path : Nat) : Fabato :=
  match f.sun.newest path with
  | none => f.sunSend p 6 path 0 0 []
  | some s =>
    let ds := f.decisionsAfter path s.at_
    (f.sunChunks p 5 path s.image).sunSend p 6 path 0 s.image.length (leBytes 10 (time80 s.at_) ++ ds.flatMap (leBytes 16))

/-- A snapshot chunk arrives (kind 5): from a child it is kept, from the parent it is loaded. An empty chunk from a child asks for its snapshot
(the model's own request, log entry 9). -/
def Fabato.sunSnapChunk (f : Fabato) (p : Nat) (h : SkyHead) (x : Transfer) : Fabato :=
  let r := f.sunOpen p h 5 x
  match r.2 with
  | none => r.1
  | some b =>
    let f := r.1
    if (f.core.skyMap p).role = 2 then
      if b.isEmpty then f.sunAnswer p x.owner
      else
        let snaps := if x.off = 0 then f.sun.snaps.filter (fun s => !(s.path == x.owner && !s.complete)) else f.sun.snaps
        let cur := (snaps.find? (fun s => s.path == x.owner && !s.complete)).getD { path := x.owner, at_ := 0, image := [], complete := false }
        { f with sun := { f.sun with snaps := (snaps.filter (fun s => !(s.path == x.owner && !s.complete))) ++ [{ cur with image := overlay cur.image x.off b }] } }
    else if f.sun.state = .snapRefill ∧ x.owner = f.core.path then { f with sun := f.sun.chunk x.off b }
    else f

/-- A gap of the histories (R435). -/
def Fabato.sunGap (f : Fabato) (start stop : Nat) : Fabato :=
  let f := { f with sun := { f.sun with gaps := (f.sun.gaps ++ [(start, stop)]).drop (f.sun.gaps.length + 1 - 16) } }
  (f.historyGap start stop).raise 0x1706 0x72 [start, stop]

/-- A snapshot refill ends: the unit goes Alone with what it has. -/
def Fabato.sunSnapEnd (f : Fabato) (start : Nat) : Fabato :=
  let stop := f.sun.refillAt
  let f := { f with sun := { f.sun with state := .alone, empty := false, load := [], loaded := true, refill := (3, f.sun.refill.2) } }
  (f.sunGap start stop).sunStored

/-- No snapshot is to be had: defaults and the plan (R434). -/
def Fabato.sunDefaults (f : Fabato) : Fabato :=
  let f := { f with sun := { f.sun with refill := (f.sun.refill.1, 2, f.sun.refill.2.2) } }
  (f.raise 0x1705 0x72 [f.core.path]).sunSnapEnd 0

/-- Snapshot done (kind 6): stored at the parent, or applied by the replacement. -/
def Fabato.sunSnapDone (f : Fabato) (p : Nat) (h : SkyHead) (x : Transfer) : Fabato :=
  let r := f.sunOpen p h 6 x
  match r.2 with
  | none => r.1
  | some b =>
    let f := r.1
    if (f.core.skyMap p).role = 2 then
      match f.sun.snaps.find? (fun s => s.path == x.owner && !s.complete) with
      | none => f
      | some s =>
        if s.image.length ≠ x.off then f
        else
          let done : Snapshot := { s with complete := true, at_ := ofTime80 (leAt b 0 10) }
          let old := f.sun.snaps.filter (fun y => y.path == x.owner && y.complete)
          let others := f.sun.snaps.filter (fun y => y.path != x.owner)
          let f := { f with sun := { f.sun with snaps := others ++ old.drop (old.length - 1) ++ [done] } }
          f.sunSend p 2 x.owner 0 0 []
    else if f.sun.state ≠ .snapRefill ∨ x.owner ≠ f.core.path then f
    else if b.isEmpty then f.sunDefaults
    else
      let t := ofTime80 (leAt b 0 10)
      let f := f.sunLoadAll
      let f := (List.range ((b.length - 10) / 16)).foldl (fun (f : Fabato) i =>
        match memberOf f.core.path (bitsOf (leAt b (10 + 16 * i) 16) 127 96) with
        | some m => { f with fen := { f.fen with fenced := f.fen.fenced ||| 2 ^ m } }
        | none => f) f
      let f := { f with fen := { f.fen with bucket := { f.fen.bucket with tokens := 0, t := f.ns } } }
      (f.sunSend 31 2 f.core.path 0 0 []).sunSnapEnd t

/-- Ask the parent for a snapshot (R434); a root, or a group whose tree key is unset, has none to ask. -/
def Fabato.sunAsk (f : Fabato) : Fabato :=
  let f := { f with sun := { f.sun with state := .snapRefill, load := [], loaded := false, later := [], refill := (1, 1, 0, 0), refillAt := f.ns } }
  if (f.core.parentPort false).isNone then f.sunDefaults else f.sunSend 31 5 f.core.path 0 0 []

/-! ### Takeover (R432) -/

/-- P hosts the group of a path: its contexts find no Cell free for them and are shed (log entry 10). -/
def Fabato.sunHost (f : Fabato) (path : Nat) : Fabato :=
  let f := { f with sun := { f.sun with state := .hosting, hosting := some path, hostLog := [], hostPush := f.up }, g := { f.g with parent := { f.g.parent with hosting := true } } }
  if (f.core.parentPort false).isNone then f else f.sunPush path f.sun.mirror

/-- SUNDOG.TAKEOVER_HOLD passes with the Sundog link down: the partner asks for takeover, or an empty unit turns to its parent. -/
def Fabato.takeoverHold (f : Fabato) : Fabato :=
  let hold := 1000 * f.core.num oSundogTakeoverHold
  if f.sun.empty ∧ f.sun.state = .alone then (if f.up ≥ f.hor.startAt + hold ∧ !f.g.sundogUp then f.sunAsk else f)
  else match f.sun.state, f.sun.lostAt with
    | .lost, some t =>
      if f.up < t + hold ∨ f.core.kind < 2 ∨ (f.core.parentPort false).isNone ∨ !((f.core.portsOf 5).any (fun p => f.g.portUp p)) then f
      else f.onCore (fun c => c.send (.exchange c.plan.parentPath 0x80 [f.sun.path, c.path]))
    | _, _ => f

/-- The common parent decides on a request by the member at `host` for the group of `path` (R432). -/
def Fabato.takeoverRequest (f : Fabato) (path host : Nat) : Fabato :=
  let hold := 1000 * f.core.num oSundogTakeoverHold
  let out := match memberOf f.core.path path with
    | none => false
    | some i => match f.core.memberPort i with
      | none => false
      | some p => !f.g.portUp p && (match (f.g.port p).downAt with | some t => decide (f.up ≥ t + hold) | none => true)
  if out then ((f.resetChecks path).raise 0x1703 0x72 [path, host]).onCore (fun c => c.send (.exchange host 0x81 [path, 1]))
  else f.onCore (fun c => c.send (.exchange host 0x81 [path, 0]))

/-- The answer reaches P: a refusal leaves it in Partner lost. -/
def Fabato.takeoverGrant (f : Fabato) (path : Nat) (granted : Bool) : Fabato :=
  if granted ∧ f.sun.state = .lost ∧ path = f.sun.path then f.sunHost path else f

/-- SUNDOG.TAKEOVER, between roots. -/
def Fabato.takeoverWrite (f : Fabato) (path : Nat) : Fabato × Nat :=
  if f.core.plan.root ∧ f.sun.state = .lost ∧ path = f.sun.path ∧ f.core.kind ≥ 2 then ((f.raise 0x1703 0x72 [path, f.core.path]).sunHost path, stOk) else (f, eRange)

/-- A hand-back arrives (kind 8): hosting ends with a final journal item, the next sequence numbers of the path in every class. -/
def Fabato.sunHandBack (f : Fabato) (p : Nat) (h : SkyHead) (x : Transfer) : Fabato :=
  let r := f.sunOpen p h 8 x
  match r.2 with
  | none => r.1
  | some _ =>
    let f := r.1
    if f.sun.hosting ≠ some x.owner then (if f.sun.state = .serving then { f with sun := { f.sun with state := .paired } } else f)
    else
      let seqs := (storeGet f.sun.mirror (7 * 2 ^ 32)).getD (zeros 8)
      let f := f.sunSend p 1 x.owner (f.sun.peerSeq + 1) 0 (itemBytes (7 * 2 ^ 32) (some seqs))
      { f with sun := { f.sun with state := .paired, hosting := none, hostLog := [], peerSeq := f.sun.peerSeq + 1 }, g := { f.g with parent := { f.g.parent with hosting := false } } }

/-! ### What follows every command -/

/-- Whether every member that has a port has it in Up. -/
def Fabato.membersUp (f : Fabato) : Bool := (f.core.portsOf 2).all (fun p => f.g.portUp p)

/-- The Sundog link has come to Up or left it (Table 16.8). -/
def Fabato.sunLink (f : Fabato) : Fabato :=
  let up := f.g.sundogUp
  if up = f.sun.linkUp then f
  else
    let f := { f with sun := { f.sun with linkUp := up } }
    if up then f.sunHelloSend
    else
      let f := { f with sun := { f.sun with lostAt := some f.up } }
      match f.sun.state with
      | .paired => ({ f with sun := { f.sun with state := .lost } } : Fabato).raise 0x1702 0x72 [f.sun.path, (lagOf f.sun.journal f.ns).1]
      | .serving => { f with sun := { f.sun with state := if f.sun.hosting.isSome then .hosting else .lost } }
      | .refilling => f.sunAsk
      | _ => f

/-- A hand-back that is owed goes once the members' P0 ports are up. -/
def Fabato.sunOwed (f : Fabato) : Fabato :=
  match f.sun.handBack && f.g.sundogUp && f.membersUp, f.sunPort with
  | true, some p => ({ f with sun := { f.sun with handBack := false } } : Fabato).sunSend p 8 f.core.path 0 0 []
  | _, _ => f

/-- What Sundog does after every command: the link, a hand-back, stored records, the journal. -/
def Fabato.sunSettle (f : Fabato) : Fabato := (((f.sunLink).sunOwed).sunStored).sunJournal

/-- The lag of a cut is recorded at its close (R429, Table 16.9): SUNDOG.CUT_LAG. -/
def Fabato.cutLag (f : Fabato) (id : Nat) : Fabato :=
  let e (path : Nat) (l : List JournalItem) : Bytes := leBytes 4 id ++ leBytes 4 path ++ leBytes 8 (lagOf l f.ns).1 ++ leBytes 8 (lagOf l f.ns).2
  let own := e f.core.path f.sun.journal
  { f with sun := { f.sun with cutLag := match f.sun.hosting with | some h => [own, e h f.sun.hostLog] | none => [own] } }

/-- Records go to the store only, before the MRAM part is loaded (R433). -/
def SundogPart.onlyStore (s : SundogPart) : Bool := (s.state == .refilling || s.state == .snapRefill) && !s.loaded

end Sys2Proof.Machine
end

