-- ==== Sys2Proof/Machine/Cast.lean ====
section
/-! DEFINITION. Overcast at a group (R454, R456, R459–R464, R529). -/
namespace Sys2Proof.Machine

/-! ### Arming -/

/-- Members a cut is over: the indices the roster holds, none yet addressed (reason 6). -/
def Fabato.cutMembers (f : Fabato) : List (Nat × Nat × List Nat × Option Nat) :=
  ((List.range 128).filter (fun i => (f.entryOf i).isSome)).map (fun i => (f.memberPathOf i, 6, [], none))

/-- An arm reaches the group (Table 18.3): accepted, or noted as SELF_OUTSIDE where the descriptor itself is well formed. -/
def Fabato.castArm (f : Fabato) (d : Bytes) (initiator : Bool) : Fabato × Nat :=
  let r := f.core.armCut d
  let g : Fabato := f.onCore (fun _ => r.1)
  if cutFields d ≠ stOk ∨ f.cast.cuts.any (fun k => cutId k.desc == cutId d) then (g, r.2)
  else
    let k : GCut := { desc := d, self := r.2 == stOk, initiator := initiator, latched := none, members := f.cutMembers, channel := [], snaps := [] }
    ({ g with cast := { g.cast with cuts := g.cast.cuts ++ [k] } }, r.2)

/-- CUT.REQUEST (R454): the checks before the arm goes out as a fan-out write. -/
def Fabato.castRequest (f : Fabato) (d : Bytes) : Nat :=
  if cutFields d ≠ stOk then cutFields d
  else if cutInitiator d ≠ f.core.path then eRange
  else if !f.core.angle.isLocked then eCommitLate
  else match f.core.cutPredict (cutStep d) (cutAngle d) with
    | none => eCommitLate
    | some t => if t < f.ns + 1000 * f.core.num oCutCommitLead then eCommitLate else stOk

/-- Change a cut. -/
def CastPart.onCut (c : CastPart) (id : Nat) (h : GCut → GCut) : CastPart := { c with cuts := modWhere (fun k => cutId k.desc == id) h c.cuts }

/-- CUT.CANCEL at one group (R456). -/
def Fabato.castCancel (f : Fabato) (id : Nat) : Fabato × Nat :=
  match f.cast.cuts.find? (fun k => cutId k.desc == id) with
  | none => (f, eRange)
  | some k =>
    if k.latched.isSome then (f, eApply)
    else
      let f := f.onCore (fun c => { c with cuts := c.cuts.filter (fun x => x.id != id) })
      ({ f with cast := { f.cast with cuts := f.cast.cuts.filter (fun x => cutId x.desc != id) } }, stOk)

/-! ### Closing (R461, R462) -/

/-- Whether a member's part of the cut is complete: at a tray all four markers, above it the child's report. -/
def memberComplete (level : Nat) (m : Nat × Nat × List Nat × Option Nat) : Bool :=
  if level = 1 then [0, 1, 2, 3].all (fun c => m.2.2.1.contains c) else m.2.2.2.isSome

/-- Fields of a report payload: in cut, outside, channel records. -/
def reportCounts (p : Nat) : Nat × Nat × Nat := (bitsOf p 95 64, bitsOf p 63 40, bitsOf p 39 16)

/-- Outside reason of a member at the close, 0 inside (Table 18.5). -/
def closeReason (level : Nat) (m : Nat × Nat × List Nat × Option Nat) : Nat :=
  if m.2.1 ≠ 0 then m.2.1
  else if memberComplete level m then 0
  else if level = 1 then 4 else 5

/-- A CUT.OUTSIDE entry (Table 18.6). -/
def outsideEntry (path reason : Nat) (s : Option LastSample) : Bytes :=
  leBytes 1 reason ++ leBytes 1 ((s.map (fun x => x.entry)).getD 0) ++ leBytes 2 ((s.map (fun x => x.seq)).getD 0) ++ leBytes 8 ((s.map (fun x => x.step)).getD 0)
    ++ leBytes 4 path

/-- A CUT.CHANNEL entry. -/
def channelEntry (src cls first count : Nat) : Bytes := leBytes 8 (cls % 4) ++ leBytes 2 count ++ leBytes 2 first ++ leBytes 4 src

/-- A cut closes: its totals, its report upward, and at the initiator CUT.RESULT and CUT_CLOSED. -/
def Fabato.castClose (f : Fabato) (id : Nat) (timeout : Bool) : Fabato :=
  match f.cast.cuts.find? (fun k => cutId k.desc == id) with
  | none => f
  | some k =>
    let level := f.core.kind
    let outs := (k.members.map (fun m => (m, closeReason level m))).filter (fun x => x.2 != 0)
    let missing := if level = 1 then [] else k.members.filter (fun m => m.2.2.2.isNone)
    let reports := if level = 1 then [] else k.members.filterMap (fun m => m.2.2.2)
    let named := k.channel.filterMap (fun c => match c.2.2.2 with
      | some n => let cnt := (n + 65536 - c.2.2.1) % 65536; if cnt = 0 then none else some (c.1, c.2.1, c.2.2.1, cnt)
      | none => none)
    let inCut := (if k.self then 1 else 0) + (if level = 1 then (k.members.filter (fun m => closeReason level m == 0)).length else (reports.map (fun p => (reportCounts p).1)).sum)
    let outside := (if k.self then 0 else 1) + (if level = 1 then outs.length else missing.length + (reports.map (fun p => (reportCounts p).2.1)).sum)
    let chan := (named.map (fun c => c.2.2.2)).sum + (reports.map (fun p => (reportCounts p).2.2)).sum
    let part := !missing.isEmpty
    let payload := id * 2 ^ 96 + (inCut % 2 ^ 32) * 2 ^ 64 + Nat.min outside (2 ^ 24 - 1) * 2 ^ 40 + Nat.min chan (2 ^ 24 - 1) * 2 ^ 16
      + (if k.self then 0 else 2 ^ 10) + (if part then 2 ^ 9 else 0) + (if timeout then 2 ^ 8 else 0) + 3
    let entries := (outs.map (fun x => outsideEntry x.1.1 x.2 (k.snaps.find? (fun s => s.path == x.1.1)))).take 255
    let f := f.cutLag id
    let f := if outs.isEmpty then f else f.raise 0x0F04 0x73 [id, outs.length]
    let f := { f with cast := { f.cast with cuts := f.cast.cuts.filter (fun x => cutId x.desc != id), outside := entries,
                                            channel := (named.map (fun (c : Nat × Nat × Nat × Nat) => channelEntry c.1 c.2.1 c.2.2.1 c.2.2.2)).take 255 } }
    let f := f.emitChain true f.ns f.core.angle.step 0 [ownRecord 0x60 .c 0 f.ns (cutStep k.desc) (cutAngle k.desc / 65536) (ownSrc 0x73 0) payload]
    if k.initiator then
      let f := { f with cast := { f.cast with results := (f.cast.results ++ [k.desc ++ leBytes 16 payload]).drop (f.cast.results.length + 1 - f.core.num oCutKeep) } }
      f.raise 0x0F03 0x73 [id, inCut, outside, bitsOf payload 10 8]
    else f

/-- Whether nothing more is awaited of a cut: every addressed member complete or outside, and the group itself latched or outside. -/
def GCut.finished (k : GCut) (level : Nat) : Bool :=
  (k.latched.isSome || !k.self) && k.members.all (fun m => m.2.1 != 0 || memberComplete level m)

/-- Close the cut if nothing more is awaited. -/
def Fabato.castCheck (f : Fabato) (id : Nat) : Fabato :=
  match f.cast.cuts.find? (fun k => cutId k.desc == id) with
  | some k => if k.latched.isSome && k.finished f.core.kind then f.castClose id false else f
  | none => f

/-- CUT.CLOSE_TIMEOUT after the processing instant. -/
def Fabato.castTimeout (f : Fabato) : Fabato :=
  (f.cast.cuts.filter (fun k => match k.latched with
    | some t => decide (f.up ≥ t + 1000 * f.core.num oCutCloseTimeout)
    | none => false)).foldl (fun f k => f.castClose (cutId k.desc) true) f

/-- Result of the arm at a member: status of its own acceptance, or how the forwarding failed (Table 18.5). -/
def Fabato.castAnswer (f : Fabato) (id member status : Nat) : Fabato :=
  let reason := if status < 0x80 then 0 else if status = eCommitLate then 1 else if status = eBusy ∨ status = eRange then 2 else 3
  let path := f.memberPathOf member
  ({ f with cast := f.cast.onCut id (fun k => { k with members := modWhere (fun m => m.1 == path) (fun m => (m.1, reason, m.2.2)) k.members }) } : Fabato).castCheck id

/-- The arm is on its way to a member: it is no longer one that was not addressed. -/
def Fabato.castSent (f : Fabato) (id member : Nat) : Fabato :=
  let path := f.memberPathOf member
  { f with cast := f.cast.onCut id (fun k => { k with members := modWhere (fun m => m.1 == path) (fun m => (m.1, 0, m.2.2)) k.members }) }

/-! ### Latching (R459, R460) -/

/-- The group's own markers, one in each class stream (R458, R459). -/
def Fabato.castMarkers (f : Fabato) (d : Bytes) (tg : Nat) (early jumped : Bool) : Fabato :=
  let p := cutPayload (cutId d) 0 0 0 0 0 false jumped early + 1
  [RClass.a, .c, .s, .t].foldl (fun f q => f.emitChain true tg (cutStep d) 0 [ownRecord 0x60 q 0 tg (cutStep d) (cutAngle d / 65536) (ownSrc 0x73 0) p]) f

/-- The group acts on (S, A) of a cut at the Meridian's time `tg`: latch, markers, channel state, Horizon's capture of a checkpoint cut. A group
outside its own cut only starts its timeout. -/
def Fabato.castLatch (f : Fabato) (k : GCut) (tg : Nat) (early jumped : Bool) : Fabato :=
  let id := cutId k.desc
  let f := f.onCore (fun c => { c with cuts := c.cuts.filter (fun x => x.id != id) })
  let f := { f with cast := f.cast.onCut id (fun k => { k with latched := some f.up, snaps := f.cast.samples }) }
  if !k.self then f.castCheck id
  else
    let f := f.raise 0x0F02 0x73 [id, tg, (if early then 1 else 0) + (if jumped then 2 else 0)]
    let f := f.castMarkers k.desc tg early jumped
    let chan := (f.g.jet.checks.filter (fun c => inSubtree f.core.path c.path && c.path != f.core.path)).map (fun c => (c.path, c.cls.code, c.exp, (none : Option Nat)))
    let f := { f with cast := f.cast.onCut id (fun k =>
      { k with channel := k.channel ++ chan.filter (fun (c : Nat × Nat × Nat × Option Nat) => !k.channel.any (fun x => x.1 == c.1 && x.2.1 == c.2.1)) }) }
    let f := if cutKind k.desc = 2 then f.captureComm id (cutStep k.desc) else f
    f.castCheck id

/-- Cuts not yet latched, in ascending id (Table 18.7). -/
def CastPart.waiting (c : CastPart) : List GCut := sortBy (c.cuts.filter (fun k => k.latched.isNone)) (fun a b => decide (cutId a.desc ≤ cutId b.desc))

/-- Every cut whose (S, A) the Meridian has reached at `lim` latches. -/
def Fabato.castDueBy (f : Fabato) (lim : Nat) : Fabato :=
  if !f.core.angle.isLocked then f
  else f.cast.waiting.foldl (fun f k =>
    let t := fireTime f.core.angle.tm f.core.angle.lq (cutAngle k.desc)
    if cutStep k.desc = f.core.angle.step ∧ t ≤ lim then f.castLatch k t false false else f) f

/-- The same at unit time now. -/
def Fabato.castDue (f : Fabato) : Fabato := f.castDueBy f.ns

/-- A group marker to step `num` at time `t` ends or passes the step of a waiting cut (R457, R459). -/
def Fabato.castAtMarker (f : Fabato) (t num : Nat) : Fabato :=
  let old := f.core.angle.step
  let f := if t = 0 then f else f.castDueBy (t - 1)
  f.cast.waiting.foldl (fun f k =>
    let s := cutStep k.desc
    if s < old ∨ s ≥ num then f else f.castLatch k t (s == old) (s != old)) f

/-! ### Markers and samples that arrive (R459, R460, R462, R529) -/

/-- A cut marker or report arrives: source path, class, sequence, payload, from the direct member at `member`. One for a cut the group does not
keep is consumed. -/
def Fabato.castMarker (f : Fabato) (path cls seq payload member : Nat) : Fabato :=
  let id := bitsOf payload 127 96
  match f.cast.cuts.find? (fun k => cutId k.desc == id) with
  | none => f
  | some k =>
    if payload % 256 = 3 then
      let k := { k with members := modWhere (fun m => m.1 == member) (fun m => (m.1, m.2.1, m.2.2.1, some payload)) k.members }
      ({ f with cast := f.cast.onCut id (fun _ => k) } : Fabato).castCheck id
    else
      let chan := if k.channel.any (fun c => c.1 == path && c.2.1 == cls) then modWhere (fun c => c.1 == path && c.2.1 == cls && c.2.2.2.isNone) (fun c => (c.1, c.2.1, c.2.2.1, some seq)) k.channel
        else k.channel ++ [(path, cls, seq, some seq)]
      let k := { k with channel := chan, members := modWhere (fun m => m.1 == path) (fun m => (m.1, m.2.1, if m.2.2.1.contains cls then m.2.2.1 else m.2.2.1 ++ [cls], m.2.2.2)) k.members }
      ({ f with cast := f.cast.onCut id (fun _ => k) } : Fabato).castCheck id

/-- A sample header of a direct member: the last with a Locked angle status and none of TRUNC, ABORT or program error (R462). -/
def Fabato.castSample (f : Fabato) (path : Nat) (e : ExtRecord) : Fabato :=
  let p := e.base.payload.toNat
  let run := bitsOf p 7 0
  let locked := bitsOf p 15 13 == 3
  if !locked ∨ run.testBit 1 ∨ run.testBit 2 ∨ run.testBit 3 then f
  else
    let s : LastSample := { path := path, step := e.step.toNat, seq := e.base.seq.toNat, entry := bitsOf p 31 24 }
    { f with cast := { f.cast with samples := f.cast.samples.filter (fun x => x.path != path) ++ [s] } }

end Sys2Proof.Machine
end

