-- ==== Sys2Proof/Machine/Link.lean ====
section
/-! DEFINITION. Messages that leave a group: their transports (R93), the next hop (R94), link sessions (R112, R114), forwarded requests, responses and fan-outs (R95, R97, R115). -/
namespace Sys2Proof.Machine

/-! ### Transports (R93) -/

/-- A message toward a die: class C records on the lane of a logical port, CONT on all but the last. -/
def Fabato.dieMessage (f : Fabato) (i : Nat) (b : Bytes) : Fabato :=
  match f.g.laneMap[i]? with
  | none => f
  | some n =>
    let k := (b.length + 15) / 16
    (List.range k).foldl (fun (f : Fabato) j =>
      let r := mkRecord f.core f.ns 0x70 .c (ownSrc f.core.dictSub 0) (leAt b (16 * j) 16)
      f.onG (fun g => g.onLane n (fun l =>
        { l with out := l.out ++ [{ base := { r with cont := decide (j + 1 < k), seq := l.seqC }, time := g.core.ns, ord := 0 }], seqC := l.seqC + 1 }))) f

/-- Put the messages sent since the unit had sent `n` things on their transports. -/
def Fabato.placeSent (f : Fabato) (n : Nat) : Fabato :=
  (f.core.sent.drop n).foldl (fun (f : Fabato) s =>
    match s with
    | .message (.drizzle i) _ _ b => f.dieMessage i b
    | .message (.sky p) _ _ b => f.onG (fun g => g.enqueueFrame g.core.path p 0x02 .c b)
    | _ => f) f

/-- A change of the core that may send messages. -/
def Fabato.sending (f : Fabato) (h : Core → Core) : Fabato :=
  let n := f.core.sent.length
  (f.onCore h).placeSent n

/-! ### The next hop (R94) -/

/-- A neighbour a message goes to: its port, its path, whether the link is in Up, and the levels to the target (R95). -/
structure Hop where
  port : Port
  path : Nat
  up : Bool
  levels : Nat
deriving DecidableEq, Repr

/-- Level of the lowest group that holds two paths. -/
def commonLevel (a b : Nat) : Nat :=
  if pathRow a ≠ pathRow b then 4 else if pathRack a ≠ pathRack b then 3 else if pathTray a ≠ pathTray b then 2 else 1

/-- The hop to member `i`. -/
def Fabato.hopDown (f : Fabato) (i levels : Nat) : Option Hop :=
  if f.core.kind = 1 then some { port := .drizzle i, path := f.memberPathOf i, up := f.memberUp i, levels := levels }
  else (f.core.memberPort i).map (fun p => { port := .sky p, path := f.memberPathOf i, up := f.g.portUp p, levels := levels })

/-- The hop toward a target that is not the group itself, or the status that refuses it. -/
def Fabato.hopTo (f : Fabato) (target : Nat) : Except Nat Hop :=
  let own := f.core.path
  if inSubtree own target then
    match memberOf own target with
    | none => .error eAbsentMember
    | some i =>
      if (f.entryOf i).isNone ∨ f.memberState i = 3 then .error eAbsentMember
      else match f.hopDown i (f.core.kind - pathLevel target) with
        | some h => .ok h
        | none => .error eUnreachable
  else match f.g.outPort 31 2 with
    | none => .error eAbsentMember
    | some p =>
      let l := commonLevel own target
      .ok { port := .sky p, path := f.core.plan.parentPath, up := f.g.portUp p, levels := (l - f.core.kind) + (l - pathLevel target) }

/-! ### Link sessions (R112, R114) -/

/-- The link session to a neighbour under a role and tenant. -/
def ForwardPart.client (w : ForwardPart) (p : Port) (r : Role) (t : Nat) : Option LinkClient := w.clients.find? (fun c => c.port == p && c.role == r && c.tenant == t)

/-- Replace a link session. -/
def ForwardPart.setClient (w : ForwardPart) (c : LinkClient) : ForwardPart :=
  { w with clients := w.clients.filter (fun x => !(x.port == c.port && x.role == c.role && x.tenant == c.tenant)) ++ [c] }

/-- Whether handshakes to a neighbour are held off. -/
def Fabato.heldOff (f : Fabato) (p : Port) : Bool := f.fwd.holdoff.any (fun x => x.1 == p && decide (f.up < x.2))

/-- Send one request under an open link session. -/
def Fabato.linkSend (f : Fabato) (c : LinkClient) (e : Envelope) (opcode : Nat) (body : Bytes) : Fabato :=
  let seq := c.seq + 1
  let e := { e with port := c.port, version := 1, session := c.session, seq := seq, bodyLen := body.length, pathCount := e.paths.length }
  let bytes := messageBytes e opcode 0 body
  let f := { f with fwd := f.fwd.setClient { c with seq := seq, lastAt := f.up } }
  f.sending (fun k => k.send (.message c.port opcode (e.paths.headD 0) (bytes ++ (hmac c.key bytes).take 16)))

/-- Open a link session (R112): the HELLO carries LINK, the role and the tenant. -/
def Fabato.linkOpen (f : Fabato) (h : Hop) (r : Role) (tenant : Nat) : Fabato × LinkClient :=
  let d := f.core.draw 1 128
  let hello := helloBody r.rank true tenant d.1.toNat
  let c : LinkClient := { port := h.port, role := r, tenant := tenant, stage := 0, hello := hello, transcript := [], session := 0, key := [], seq := 0, openedAt := f.up, lastAt := f.up, life := 0, idle := 0, held := [] }
  let e : Envelope := { port := h.port, paths := [h.path], msgId := f.fwd.nextMsg }
  let w : ForwardPart := f.fwd.setClient c
  let f := ({ f.onCore (fun _ => d.2) with fwd := { w with nextMsg := f.fwd.nextMsg + 1 } } : Fabato).sending (fun k => k.sendOpening e 0x10 0 hello)
  (f, c)

/-- Link sessions whose idle time or lifetime has run out close (R111). -/
def Fabato.linkExpire (f : Fabato) : Fabato :=
  { f with fwd := { f.fwd with clients := f.fwd.clients.filter (fun c => c.stage != 2 || (decide (f.up < c.lastAt + c.idle * secNs) && decide (f.up < c.openedAt + c.life * secNs))) } }

/-- A request goes to a neighbour (R95, R112, R114): sent, or held while the link session opens; the status where it is refused. `e` is the envelope
it came in on, `paths` the stack it leaves with. -/
def Fabato.relay (f : Fabato) (h : Hop) (e : Envelope) (paths : List Nat) (flags opcode : Nat) (body : Bytes) (r : Role) (tenant : Nat) (fan : Option Nat) : Fabato × Option Nat :=
  if !h.up then (f, some eUnreachable)
  else if f.core.keys.tree = zeros 32 ∨ f.heldOff h.port then (f, some eRole)
  else if f.fwd.pending.length ≥ 1024 then (f, some eBusy)
  else
    let id := f.fwd.nextMsg
    let out : Envelope := { port := h.port, flags := flags, msgId := id, paths := paths, hop := e.hop - 1 }
    let w : Forwarded := { out := h.port, msgId := id, session := 0, env := e, opcode := opcode, path := paths.headD 0,
                           deadline := f.up + 1000 * f.core.num oSessionFwdTimeout * Nat.max 1 h.levels, fanout := fan }
    let f := { f with fwd := { f.fwd with pending := f.fwd.pending ++ [w], nextMsg := id + 1 } }
    let held : Envelope × Nat × Bytes × Nat × Option Nat := (out, opcode, body, paths.headD 0, fan)
    let f := f.linkExpire
    match f.fwd.client h.port r tenant with
    | some c => if c.stage = 2 then (f.linkSend c out opcode body, none) else ({ f with fwd := f.fwd.setClient { c with held := c.held ++ [held] } }, none)
    | none =>
      let o := f.linkOpen h r tenant
      ({ o.1 with fwd := o.1.fwd.setClient { o.2 with held := [held] } }, none)

/-- A request of the group's own, under its own Operator link session: nobody waits for its response. -/
def Fabato.ownWrite (f : Fabato) (target obj ty : Nat) (v : Bytes) : Fabato :=
  match f.hopTo target with
  | .error _ => f
  | .ok h =>
    let e : Envelope := { port := .mailbox, paths := [target] }
    (f.relay h e [target] 0 0x02 (writeItemBytes { obj := obj, ty := ty, value := v }) .operator 0 none).1

/-! ### Responses and fan-outs (R95, R97) -/

/-- A response reaches a Loft program (Table 11.4): the message with a MAC of the local session, and its length in a0. -/
def Fabato.loftAnswer (f : Fabato) (s : Nat) (e : Envelope) (opcode : Nat) (r : Response) (replayed : Bool) : Fabato :=
  let d := f.core.draw 8 128
  let env : Envelope := { e with version := 1, flags := if replayed then 8 else 0, bodyLen := r.body.length, pathCount := e.paths.length, hop := 15 }
  let b := messageBytes env (opcode + 0x80) r.summary r.body ++ leBytes 16 d.1.toNat
  f.onCore (fun _ => (d.2.send (.message (.loft s) (opcode + 0x80) (e.paths.headD 0) b)).send (.exchange s 0x4C4D [b.length]))

/-- Answer the sender of a request. -/
def Fabato.answerTo (f : Fabato) (e : Envelope) (opcode : Nat) (r : Response) (replayed : Bool := false) : Fabato :=
  match e.port with
  | .loft s => f.loftAnswer s e opcode r replayed
  | _ => if e.session = 0 then f else f.sending (fun c => c.respond e opcode r replayed)

/-- The counts and entries of a fan-out body. -/
def fanParts (b : Bytes) : Nat × Nat × Nat × List (Nat × Nat × Nat) :=
  (leAt b 0 4, leAt b 4 4, leAt b 8 4, (List.range (Nat.min (leAt b 12 4) 32)).map (fun i => (leAt b (16 + 8 * i) 4, leAt b (20 + 8 * i) 1, leAt b (21 + 8 * i) 1)))

/-- A fan-out with no branch outstanding is answered, and its response kept. -/
def Fabato.fanEnd (f : Fabato) (num : Nat) : Fabato :=
  match f.fwd.fans.find? (fun x => x.num == num) with
  | none => f
  | some x =>
    if x.outstanding ≠ 0 then f
    else
      let r : Response := ⟨x.summary, fanBody x.addressed x.succeeded x.failed x.entries⟩
      let f := { f with fwd := { f.fwd with fans := f.fwd.fans.filter (fun y => y.num != num) } }
      let a : Actor := { role := x.who.role, tenant := x.who.tenant, port := x.who.port, session := x.env.session }
      let f := if x.digest.isEmpty then f else f.onCore (fun c => c.keep a x.env.msgId x.digest (x.opcode + 0x80) r)
      f.answerTo x.env x.opcode r

/-- One branch of a fan-out is settled: what the member's response says, or the status of its failure. -/
def Fabato.fanBranch (f : Fabato) (num path summary : Nat) (body : Bytes) : Fabato :=
  match f.fwd.fans.find? (fun x => x.num == num) with
  | none => f
  | some x =>
    let p : Nat × Nat × Nat × List (Nat × Nat × Nat) := if body.length ≥ 16 then fanParts body else if summary < 0x80 then (1, 1, 0, []) else (1, 0, 1, [(path, 0, summary)])
    let y : Fanout := { x with addressed := x.addressed + p.1, succeeded := x.succeeded + p.2.1, failed := x.failed + p.2.2.1, summary := Nat.max x.summary summary,
                               entries := x.entries ++ p.2.2.2, outstanding := x.outstanding - 1 }
    let f := { f with fwd := { f.fwd with fans := modWhere (fun z => z.num == num) (fun _ => y) f.fwd.fans } }
    let own := (p.2.2.2.find? (fun q => q.1 == path)).map (fun q => q.2.2)
    let f := match x.cut, memberOf f.core.path path with
      | some id, some m => f.castAnswer id m (own.getD (if body.length ≥ 16 then 0 else summary))
      | _, _ => f
    f.fanEnd num

/-- A forwarded request ends with a response or a status. -/
def Fabato.forwardEnd (f : Fabato) (w : Forwarded) (r : Response) : Fabato :=
  let f := { f with fwd := { f.fwd with pending := f.fwd.pending.filter (fun x => x.msgId != w.msgId),
                                        clients := f.fwd.clients.map (fun (c : LinkClient) => { c with held := c.held.filter (fun x => x.1.msgId != w.msgId) }) } }
  match w.fanout with
  | some n => f.fanBranch n w.path r.summary r.body
  | none => f.answerTo w.env w.opcode r

/-- FORWARD_TIMEOUT (R95). -/
def Fabato.forwardExpire (f : Fabato) : Fabato :=
  (f.fwd.pending.filter (fun w => decide (f.up ≥ w.deadline))).foldl (fun f w => f.forwardEnd w (.error eTimeout)) f

/-- A link handshake fails (R114): every message held for it is answered E_ROLE, and handshakes to the neighbour are held off for 1 s. -/
def Fabato.linkFail (f : Fabato) (c : LinkClient) (path result : Nat) : Fabato :=
  let f := { f with fwd := { f.fwd with clients := f.fwd.clients.filter (fun x => !(x.port == c.port && x.role == c.role && x.tenant == c.tenant)),
                                        holdoff := f.fwd.holdoff.filter (fun (x : Port × Nat) => x.1 != c.port) ++ [(c.port, f.up + secNs)] } }
  let f := f.raise 0x0307 f.core.dictSub [path, c.role.rank, result]
  (f.fwd.pending.filter (fun (w : Forwarded) => c.held.any (fun x => x.1.msgId == w.msgId))).foldl (fun (f : Fabato) w => f.forwardEnd w (.error eRole)) f

/-- The 1 s holdoffs that have ended. -/
def Fabato.holdoffEnd (f : Fabato) : Fabato := { f with fwd := { f.fwd with holdoff := f.fwd.holdoff.filter (fun x => decide (f.up < x.2)) } }

/-- A CHALLENGE (0x90) or OPENED (0x91) of a neighbour for a link session (R105, R106, R112). -/
def Fabato.linkReply (f : Fabato) (p : Port) (path opcode : Nat) (body : Bytes) : Fabato :=
  let k := f.core.keys.tree
  if opcode = 0x90 then
    match f.fwd.clients.find? (fun c => c.port == p && c.stage == 0 && c.role.rank == leAt body 0 1) with
    | none => f
    | some c =>
      if body.length ≠ 64 ∨ leAt body 1 1 ≠ 0 then f.linkFail c path (leAt body 1 1)
      else
        let t := c.hello ++ body
        let id := leAt body 8 4
        let pr := clientProof k t ++ zeros 32
        let e : Envelope := { port := p, paths := [path], session := id, msgId := f.fwd.nextMsg, bodyLen := 64 }
        let w : ForwardPart := f.fwd.setClient { c with stage := 1, transcript := t, session := id }
        let f := { f with fwd := { w with nextMsg := f.fwd.nextMsg + 1 } }
        f.sending (fun u => u.send (.message p 0x11 path (messageBytes e 0x11 0 pr ++ zeros 16)))
  else
    match f.fwd.clients.find? (fun c => c.port == p && c.stage == 1 && (c.session == leAt body 4 4 || leAt body 1 1 != 0)) with
    | none => f
    | some c =>
      if leAt body 1 1 ≠ 0 ∨ (body.drop 16).take 32 ≠ unitProof k c.transcript then f.linkFail c path (leAt body 1 1)
      else
        let o : LinkClient := { c with stage := 2, openedAt := f.up, lastAt := f.up, life := leAt body 8 4, idle := leAt body 12 4, key := sessionKey k c.transcript, held := [] }
        c.held.foldl (fun (f : Fabato) (x : Envelope × Nat × Bytes × Nat × Option Nat) =>
          match f.fwd.client p c.role c.tenant with
          | some l => f.linkSend l x.1 x.2.1 x.2.2.1
          | none => f) ({ f with fwd := f.fwd.setClient o } : Fabato)

/-- A response under a link session of this group: it is returned by the route its request came in on (R95). -/
def Fabato.forwardResponse (f : Fabato) (e : Envelope) (opcode summary : Nat) (body : Bytes) : Fabato :=
  match f.fwd.clients.find? (fun c => c.port == e.port && c.stage == 2 && c.session == e.session) with
  | none => f.onCore (fun c => c.macFail)
  | some c =>
    if e.mac ≠ (hmac c.key (messageBytes e opcode summary body)).take 16 then f.onCore (fun c => c.macFail)
    else match f.fwd.pending.find? (fun w => w.out == e.port && w.msgId == e.msgId && w.opcode + 0x80 == opcode) with
      | none => f
      | some w => f.forwardEnd w ⟨summary, body⟩

/-! ### Fan-outs (R97) -/

/-- A branch of a fan-out that never left: listed at once. -/
def ForwardPart.fanMiss (w : ForwardPart) (num path status : Nat) : ForwardPart :=
  { w with fans := modWhere (fun z => z.num == num) (fun (z : Fanout) => { z with addressed := z.addressed + 1, failed := z.failed + 1, summary := Nat.max z.summary status, entries := z.entries ++ [(path, 0, status)] }) w.fans }

/-- A fan-out starts: the group's own result `own` counts first, then each present member gets the message (R97, R115). It is answered once no branch
is outstanding. `cut` is the id of a cut whose arm it carries. -/
def Fabato.fanStart (f : Fabato) (e : Envelope) (a : Actor) (digest : Bytes) (flags opcode : Nat) (body : Bytes) (cut : Option Nat) (own : Nat × Option (Nat × Nat)) : Fabato :=
  let num := f.fwd.nextFan
  let x : Fanout := { num := num, env := e, opcode := opcode, who := a.principal, digest := digest, addressed := 1, succeeded := if own.2.isNone then 1 else 0,
                      failed := if own.2.isNone then 0 else 1, summary := own.1,
                      entries := match own.2 with | some q => [(f.core.path, q.1, q.2)] | none => [], outstanding := 0, cut := cut }
  let f := { f with fwd := { f.fwd with fans := f.fwd.fans ++ [x], nextFan := num + 1 } }
  ((List.range 128).filter (fun i => f.memberState i == 1)).foldl (fun (f : Fabato) i =>
    let path := f.memberPathOf i
    match f.hopDown i f.core.kind with
    | none => { f with fwd := f.fwd.fanMiss num path eUnreachable }
    | some h =>
      match f.relay h e [path] flags opcode body a.role a.tenant (some num) with
      | (f, some st) => { f with fwd := f.fwd.fanMiss num path st }
      | (f, none) =>
        let f : Fabato := { f with fwd := { f.fwd with fans := modWhere (fun z => z.num == num) (fun z => { z with outstanding := z.outstanding + 1 }) f.fwd.fans } }
        match cut with
        | some id => f.castSent id i
        | none => f) f

/-- Every fan-out with no branch outstanding is answered. -/
def Fabato.fanSettle (f : Fabato) : Fabato := (f.fwd.fans.filter (fun x => x.outstanding == 0)).foldl (fun (f : Fabato) x => f.fanEnd x.num) f

end Sys2Proof.Machine
end

