-- ==== Sys2Proof/Machine/Wf.lean ====
section
/-! DEFINITION. Wait-for records and hang graphs (R465–R467). -/
namespace Sys2Proof.Machine

/-! ### Edges from the trace store -/

/-- Whether a stored record is a wait-for descriptor (R465): opcode 5, attribute [7], not a sync record. -/
def isWait (e : ExtRecord) : Bool :=
  let p := e.base.payload.toNat
  e.base.type == 0x20 && !e.base.flags.getLsbD 3 && bitsOf p 47 44 == 5 && p.testBit 39

/-- What a wait and its end have in common: member path, tap, waiting agent, wait id. -/
def waitKey (e : ExtRecord) : Nat × Nat × Nat × Nat :=
  let p := e.base.payload.toNat
  (e.path.toNat, e.base.src.toNat / 1024, bitsOf p 67 56, bitsOf p 55 48)

/-- A node: path and agent. -/
def wfNode (path agent : Nat) : Nat := path % 2 ^ 32 * 65536 + agent % 65536
def nodePath (x : Nat) : Nat := x / 65536
def nodeAgent (x : Nat) : Nat := x % 65536

/-- The edge of a begin record (Table 18.8). -/
def waitEdge (e : ExtRecord) : Nat × Nat :=
  let p := e.base.payload.toNat
  let holder := bitsOf p 127 96
  (wfNode e.path.toNat (bitsOf p 67 56), wfNode (if holder = 0xFFFFFFFF then e.path.toNat else holder) (bitsOf p 95 80))

/-- Order of edges. -/
def edgeLe (a b : Nat × Nat) : Bool := decide (a.1 < b.1) || (a.1 == b.1 && decide (a.2 ≤ b.2))

/-- Edges sorted, each once. -/
def sortEdges (l : List (Nat × Nat)) : List (Nat × Nat) := (sortBy l edgeLe).eraseDups

/-- Edges open at time `t` (R466): a begin at or before it, with no matching end between the two. -/
def openEdges (store : List ExtRecord) (t : Nat) : List (Nat × Nat) :=
  let ws := store.filter (fun e => isWait e && decide (e.time.toNat ≤ t))
  let isBegin (e : ExtRecord) : Bool := e.base.payload.toNat.testBit 38
  let live (b : ExtRecord) : Bool := !ws.any (fun e => !isBegin e && waitKey e == waitKey b && decide (e.time.toNat ≥ b.time.toNat))
  sortEdges ((ws.filter (fun e => isBegin e && live e)).map waitEdge)

/-- Whether a trace gap of reason 0x20–0x23 lies before `t`: the graph is INCOMPLETE. The record does not tell which taps CUT.WF_TAPS names at its
member, so a gap of any tap counts (log entry 11). -/
def wfIncomplete (store : List ExtRecord) (t : Nat) : Bool :=
  store.any (fun e => e.base.type == 0x50 && decide (e.time.toNat < t) &&
    (let reason := bitsOf e.base.payload.toNat 79 64; decide (0x20 ≤ reason) && decide (reason ≤ 0x23)))

/-! ### Cycles and summaries -/

/-- Whether a node lies in the group's subtree. -/
def internal (own x : Nat) : Bool := inSubtree own (nodePath x)

/-- Successors of a node, in order. -/
def wfOut (es : List (Nat × Nat)) (x : Nat) : List Nat := (es.filter (fun e => e.1 == x)).map (fun e => e.2)

/-- visit of R466 over an explicit stack: each frame is a node and the successors still to look at; black and grey nodes, cycles found. -/
def wfVisit (es : List (Nat × Nat)) : Nat → List (Nat × List Nat) → List Nat → List (List Nat) → List Nat × List (List Nat)
  | 0, _, done, cs => (done, cs)
  | _ + 1, [], done, cs => (done, cs)
  | n + 1, (u, []) :: stack, done, cs => wfVisit es n stack (u :: done) cs
  | n + 1, (u, v :: vs) :: stack, done, cs =>
    let path := ((u, vs) :: stack).map (fun f => f.1)
    if path.contains v then
      let cyc := (v :: (path.takeWhile (fun x => x != v)).reverse)
      wfVisit es n ((u, vs) :: stack) done (if cs.length < 16 then cs ++ [cyc] else cs)
    else if done.contains v then wfVisit es n ((u, vs) :: stack) done cs
    else wfVisit es n ((v, wfOut es v) :: (u, vs) :: stack) done cs

/-- The cycles among the internal nodes, at most 16. -/
def wfCycles (own : Nat) (edges : List (Nat × Nat)) : List (List Nat) :=
  let es := edges.filter (fun e => internal own e.1 && internal own e.2)
  let nodes := (sortBy (es.flatMap (fun e => [e.1, e.2])) (fun a b => decide (a ≤ b))).eraseDups
  let fuel := 2 * (es.length + nodes.length) + 2
  (nodes.foldl (fun (p : List Nat × List (List Nat)) u => if p.1.contains u then p else wfVisit es fuel [(u, wfOut es u)] p.1 p.2) ([], [])).2

/-- Nodes reached from a set through internal edges. -/
def wfReach (own : Nat) (es : List (Nat × Nat)) : Nat → List Nat → List Nat
  | 0, xs => xs
  | n + 1, xs => wfReach own es n (xs ++ ((es.filter (fun e => xs.contains e.1 && internal own e.2 && !xs.contains e.2)).map (fun e => e.2)).eraseDups)

/-- The summary of a group: an edge from each internal node to each external node it reaches. -/
def wfSummary (own : Nat) (edges : List (Nat × Nat)) : List (Nat × Nat) :=
  let ins := ((edges.flatMap (fun e => [e.1, e.2])).filter (internal own)).eraseDups
  sortEdges (ins.flatMap (fun x =>
    let rs := wfReach own edges ins.length [x]
    (edges.filter (fun e => rs.contains e.1 && !internal own e.2)).map (fun e => (x, e.2))))

/-- Header of a summary or a graph: graph id, T, edge or cycle count, flags (bit 0 INCOMPLETE, bit 1 TRUNCATED); its bits are the model's own
(log entry 11). -/
def wfHeader (id t count flags : Nat) : Bytes := leBytes 4 flags ++ leBytes 10 0 ++ leBytes 4 count ++ leBytes 10 (time80 t) ++ leBytes 4 id
def wfHeadId (b : Bytes) : Nat := leAt b 28 4
def wfHeadTime (b : Bytes) : Nat := ofTime80 (leAt b 18 10)
def wfHeadCount (b : Bytes) : Nat := leAt b 14 4
def wfHeadFlags (b : Bytes) : Nat := leAt b 0 4

/-- A node in 8 bytes, an edge in 16. -/
def nodeBytes (x : Nat) : Bytes := leBytes 2 0 ++ leBytes 2 (nodeAgent x) ++ leBytes 4 (nodePath x)
def nodeAt (b : Bytes) (i : Nat) : Nat := wfNode (leAt b (i + 4) 4) (leAt b (i + 2) 2)
def edgeBytes (e : Nat × Nat) : Bytes := nodeBytes e.2 ++ nodeBytes e.1

/-- Edges of a summary. -/
def summaryEdges (b : Bytes) : List (Nat × Nat) := (List.range (wfHeadCount b)).map (fun i => (nodeAt b (32 + 16 * i + 8), nodeAt b (32 + 16 * i)))

/-- Whether a summary's length fits its header. -/
def checkSummary (b : Bytes) : Nat := if b.length < 32 ∨ wfHeadCount b > 252 ∨ b.length ≠ 32 + 16 * wfHeadCount b then eRange else stOk

/-! ### Builds -/

/-- A build starts (R466): graph id and T. One graph of an id is built at a time. -/
def Fabato.wfBuild (f : Fabato) (graph t : Nat) : Fabato :=
  let b : WfBuild := { graph := graph, t := t, at_ := f.up, merging := f.core.kind != 1, edges := [], flags := 0, kids := [] }
  { f with cast := { f.cast with wf := f.cast.wf.filter (fun x => x.graph != graph) ++ [b] } }

/-- MARKER_OVERDUE starts one where CUT.WF_AUTO is true. -/
def Fabato.wfAuto (f : Fabato) : Fabato := if f.core.flag oCutWfAuto then f.wfBuild 0 f.ns else f

/-- A build ends with all its edges: cycles, the graph, the summary upward. -/
def Fabato.wfFinish (f : Fabato) (b : WfBuild) (edges : List (Nat × Nat)) (flags : Nat) : Fabato :=
  let own := f.core.path
  let cs := wfCycles own edges
  let sum := wfSummary own edges
  let flags := flags ||| (if sum.length > 252 then 2 else 0)
  let graph := wfHeader b.graph b.t cs.length flags ++ cs.flatMap (fun c => leBytes 8 c.length ++ c.flatMap nodeBytes)
  let f := { f with cast := { f.cast with wf := f.cast.wf.filter (fun x => x.graph != b.graph), graph := graph.take 4064 } }
  let f := cs.foldl (fun (f : Fabato) c =>
    let low := c.foldl Nat.min (c.headD 0)
    let f := f.onCore (fun k => k.bump oCutWfCycles)
    (f.raise 0x0F05 0x73 [b.graph, c.length, nodePath low]).alarm (nodePath low) c.length 0x35 0x08 0 0 b.graph) f
  let summary := wfHeader b.graph b.t (Nat.min sum.length 252) flags ++ (sum.take 252).flatMap edgeBytes
  match memberOf f.core.plan.parentPath own with
  | some i => f.ownWrite f.core.plan.parentPath (oCutWfMerge + i + 1) Ty.blob.code summary
  | none => f

/-- A tray builds from its trace store CUT.WF_HOLD after T. -/
def Fabato.wfHold (f : Fabato) : Fabato :=
  (f.cast.wf.filter (fun b => !b.merging && decide (f.ns ≥ b.t + 1000000 * f.core.num oCutWfHold))).foldl (fun (f : Fabato) b =>
    f.wfFinish b (openEdges f.fwd.trace b.t) (if wfIncomplete f.fwd.trace b.t then 1 else 0)) f

/-- A parent merges its own edges with the summaries it has. -/
def Fabato.wfMerge (f : Fabato) (b : WfBuild) : Fabato :=
  let edges := sortEdges (openEdges f.fwd.trace b.t ++ b.kids.flatMap (fun k => summaryEdges k.2))
  let flags := b.kids.foldl (fun n k => n ||| wfHeadFlags k.2) (if wfIncomplete f.fwd.trace b.t then 1 else 0)
  (f.raise 0x0F06 0x73 [b.graph, b.kids.length, flags]).wfFinish b edges flags

/-- A child's summary is written to CUT.WF_MERGE (element member index + 1); the merge runs when every present child has written. -/
def Fabato.wfChild (f : Fabato) (member : Nat) (s : Bytes) : Fabato × Nat :=
  if checkSummary s ≠ stOk then (f, checkSummary s)
  else match f.cast.wf.find? (fun b => b.graph == wfHeadId s && b.merging) with
    | none => (f, eRange)
    | some b =>
      let b := { b with kids := b.kids.filter (fun k => k.1 != member) ++ [(member, s)] }
      let f := { f with cast := { f.cast with wf := modWhere (fun x => x.graph == b.graph) (fun _ => b) f.cast.wf } }
      let awaited := (List.range 16).filter (fun i => f.memberState i == 1 || f.memberState i == 2)
      if awaited.all (fun i => b.kids.any (fun k => k.1 == i)) then (f.wfMerge b, stOk) else (f, stOk)

/-- CUT.WF_WAIT passes. -/
def Fabato.wfWait (f : Fabato) : Fabato :=
  (f.cast.wf.filter (fun b => b.merging && decide (f.up ≥ b.at_ + 1000000 * f.core.num oCutWfWait))).foldl (fun f b => f.wfMerge b) f

end Sys2Proof.Machine
end

