-- ==== Sys2Proof/Machine/Loft.lean ====
section
/-! DEFINITION. Loft's program slots and environment calls (R300–R302, Tables 11.3–11.5). What a program computes between its calls is no part of the model. -/
namespace Sys2Proof.Machine

/-- An empty slot. -/
def LoftSlot.fresh : LoftSlot :=
  { state := 0, staged := [], image := [], fault := 0, core := none, out := List.replicate 64 0, used := 0, second := 0, paused := false, sleep := none, seq := 0 }

def Fabato.slot (f : Fabato) (s : Nat) : LoftSlot := f.loft.getD s LoftSlot.fresh
def Fabato.onSlot (f : Fabato) (s : Nat) (h : LoftSlot → LoftSlot) : Fabato := { f with loft := modAt f.loft s h }

/-- Longest image, 64 MiB. -/
def loftLimit : Nat := 64 * 2 ^ 20

/-- A LOFT.SLOT_LOAD chunk: a u32 offset and up to 4,060 bytes (R301). A slot in Running is busy; a placed image takes no chunk. -/
def Fabato.loftLoad (f : Fabato) (s : Nat) (b : Bytes) : Fabato × Nat :=
  let x := f.slot s
  if x.state = 3 then (f, eBusy)
  else if s ≥ 16 ∨ b.length < 4 ∨ leAt b 0 4 + (b.length - 4) > loftLimit ∨ x.state ≥ 2 then (f, eRange)
  else (f.onSlot s (fun y => { y with state := 1, staged := overlay y.staged (leAt b 0 4) (b.drop 4) }), stOk)

/-- Whether bytes begin with the ELF64 header that R301 asks for: little-endian RISC-V, ET_EXEC or ET_DYN. -/
def elfOk (b : Bytes) : Bool :=
  decide (64 ≤ b.length) && slice b 0 4 == [0x7F, 0x45, 0x4C, 0x46] && leAt b 4 1 == 2 && leAt b 5 1 == 1 && leAt b 6 1 == 1
    && (leAt b 16 2 == 2 || leAt b 16 2 == 3) && leAt b 18 2 == 243 && leAt b 20 4 == 1 && leAt b 52 2 == 64

/-- A fault is recorded and counted. -/
def Fabato.loftCount (f : Fabato) (s code : Nat) : Fabato := (f.onSlot s (fun x => { x with fault := code })).onCore (fun c => c.bump oLoftFaults)

/-- LOFT.SLOT_CTRL 1: install. -/
def Fabato.loftInstall (f : Fabato) (s : Nat) : Fabato × Nat :=
  let x := f.slot s
  if s ≥ 16 ∨ x.state ≠ 1 then (f, eRange)
  else if sha256 x.staged = f.core.get (oLoftSlotDigest + s + 1) ∧ elfOk x.staged then
    (f.onSlot s (fun x => { x with state := 2, image := x.staged, staged := [] }), stOk)
  else ((f.loftCount s 5).onSlot s (fun x => { x with state := 0, staged := [] }), stOk)

/-- The lowest free user core. -/
def Fabato.freeCore (f : Fabato) : Option Nat := ((List.range 10).map (fun i => i + 6)).find? (fun k => !f.loft.any (fun x => x.core == some k))

/-- LOFT.SLOT_CTRL 2: start. -/
def Fabato.loftStart (f : Fabato) (s : Nat) : Fabato × Nat :=
  let x := f.slot s
  if s ≥ 16 ∨ (x.state ≠ 2 ∧ x.state ≠ 4) then (f, eRange)
  else match f.freeCore with
    | none => (f.loftCount s 6, stOk)
    | some k => ((f.onSlot s (fun x => { x with state := 3, core := some k, used := 0, second := f.up, paused := false, sleep := none })).touch (52 + k), stOk)

/-- A slot leaves its core. -/
def Fabato.loftLeave (f : Fabato) (s state : Nat) : Fabato := f.onSlot s (fun x => { x with state := state, core := none, paused := false, sleep := none })

/-- LOFT.SLOT_CTRL 3: stop. -/
def Fabato.loftStop (f : Fabato) (s : Nat) : Fabato × Nat := if s < 16 ∧ (f.slot s).state = 3 then (f.loftLeave s 4, stOk) else (f, eRange)

/-- LOFT.SLOT_CTRL 4: unload. -/
def Fabato.loftUnload (f : Fabato) (s : Nat) : Fabato × Nat :=
  let st := (f.slot s).state
  if s < 16 ∧ (st = 2 ∨ st = 4 ∨ st = 5) then (f.onSlot s (fun x => { LoftSlot.fresh with fault := x.fault, out := x.out }), stOk) else (f, eRange)

/-- LOFT.SLOT_CTRL. -/
def Fabato.loftCtrl (f : Fabato) (s n : Nat) : Fabato × Nat :=
  match n with
  | 1 => f.loftInstall s
  | 2 => f.loftStart s
  | 3 => f.loftStop s
  | 4 => f.loftUnload s
  | _ => (f, eRange)

/-- A running program faults (Table 11.5): its core halts. -/
def Fabato.loftFault (f : Fabato) (s code pc : Nat) : Fabato :=
  match (f.slot s).core with
  | some k => if (f.slot s).state = 3 then ((f.loftLeave s 5).loftCount s code).raise 0x0B05 (0x40 + k) [s, code, pc] else f
  | none => f

/-! ### Environment calls (Table 11.4) -/

/-- Whether a slot's program can make a call now. -/
def Fabato.loftRuns (f : Fabato) (s : Nat) : Bool := decide (s < 16) && (f.slot s).state == 3 && !(f.slot s).paused && (f.slot s).sleep.isNone

/-- What a call returns in a0, as the program on the slot's core sees it: the slot, the call number, the value. -/
def Fabato.loftReturn (f : Fabato) (s call a0 : Nat) : Fabato := f.onCore (fun c => c.send (.exchange s call [a0]))

/-- −1 in a0. -/
def loftMinus1 : Nat := 2 ^ 64 - 1

/-- 0x4C4F: set output. -/
def Fabato.loftOutput (f : Fabato) (s e v : Nat) : Fabato :=
  if !f.loftRuns s then f
  else if e > 63 then f.loftReturn s 0x4C4F loftMinus1
  else (f.onSlot s (fun x => { x with out := x.out.set e v })).loftReturn s 0x4C4F 0

/-- 0x4C50: sleep to a Halo time. -/
def Fabato.loftSleep (f : Fabato) (s t : Nat) : Fabato :=
  if !f.loftRuns s then f
  else if t ≤ f.ns then f.loftReturn s 0x4C50 0
  else f.onSlot s (fun x => { x with sleep := some t })

/-- The Halo time of a sleep call is reached. -/
def Fabato.loftWake (f : Fabato) (s : Nat) : Fabato :=
  match (f.slot s).sleep with
  | some t => if t ≤ f.ns then (f.onSlot s (fun x => { x with sleep := none })).loftReturn s 0x4C50 0 else f
  | none => f

/-- 0x4C51: exit. -/
def Fabato.loftExit (f : Fabato) (s status pc : Nat) : Fabato :=
  if !f.loftRuns s then f else if status = 0 then f.loftLeave s 4 else f.loftFault s 4 pc

/-- 0x4C52: read time. -/
def Fabato.loftTime (f : Fabato) (s : Nat) : Fabato := if f.loftRuns s then f.loftReturn s 0x4C52 f.ns else f

/-- A nanosecond of core time passes on every core that runs a program; a slot at its LOFT.SLOT_CPU is paused (R302). -/
def Fabato.loftTick (f : Fabato) : Fabato :=
  if f.loft.all (fun x => x.state != 3) then f
  else { f with loft := f.loft.zipIdx.map (fun (y : LoftSlot × Nat) =>
    let x := y.1
    if x.state = 3 ∧ !x.paused ∧ x.sleep.isNone then
      { x with used := x.used + 1, paused := decide (x.used + 1 ≥ 1000000 * f.core.num (oLoftSlotCpu + y.2 + 1)) }
    else x) }

/-- A new second begins for the slots whose last one has passed. -/
def Fabato.loftSecond (f : Fabato) : Fabato :=
  { f with loft := f.loft.map (fun x => if x.state = 3 ∧ f.up ≥ x.second + 1000000000 then { x with used := 0, second := x.second + 1000000000, paused := false } else x) }

/-- LOFT.CORE_STATE of a core. -/
def Fabato.coreState (f : Fabato) (k : Nat) : Nat :=
  if k < 2 then (if f.fen.failed then 4 else 0) else if k < 6 then 1 else if f.loft.any (fun x => x.core == some k) then 3 else 2

end Sys2Proof.Machine
end

