-- ==== Sys2Proof/Machine/Almanac.lean ====
section
/-! DEFINITION. Almanac, the event recorder of a Fabato (R487–R493): its log, its clear, operating hours and power cycles. -/
namespace Sys2Proof.Machine

/-- The entry that receives ALMANAC_FULL (R491). -/
def almanacLast : Nat := 376831

/-- Payload bytes of an event: ALMANAC_CLEARED's are those of Table 20.3, one byte a number; every other's its row's numbers. -/
def payloadOf (e : Event) : Bytes := if e.code = 0x1A01 then e.payload.map (BitVec.ofNat 8) else eventBytes e.payload

/-- Append one entry to the log (R487). -/
def Fabato.almanacAppend (f : Fabato) (code sub : Nat) (payload : Bytes) (rom : Bool) : Fabato :=
  let unknown := rom || f.g.quality.toNat % 16 == 15
  let flags := (if rom then 1 else 0) + (if payload.length > 30 then 2 else 0) + (if unknown then 4 else 0)
  let e := almanacEntry payload (if rom then 0 else f.ns) f.alm.log.length flags sub code f.alm.cycles f.alm.hours
  { f with alm := { f.alm with log := f.alm.log ++ [e] } }

/-- An entry takes its place, or is refused; after a brown-out nothing is written (R514). The last entry receives ALMANAC_FULL, and the parent an alarm 0x36 (R491). -/
def Fabato.almanacPut (f : Fabato) (code sub : Nat) (payload : Bytes) (rom : Bool) : Fabato :=
  if f.board.mramHeld.isSome then f
  else if f.alm.stopped ∨ f.alm.log.length > almanacLast then { f with alm := { f.alm with refused := f.alm.refused + 1 } }
  else if f.alm.log.length = almanacLast then
    let g := f.almanacAppend 0x1A02 0x74 (leBytes 8 code) false
    ({ g with alm := { g.alm with refused := g.alm.refused + 1 } } : Fabato).numbered f.core.path 0 0x36 0x09
  else f.almanacAppend code sub payload rom

/-- An event the ROM writes (R499): a local event, and an entry with the ROM flag whatever the mask. -/
def Fabato.romEntry (f : Fabato) (code sub : Nat) (payload : List Nat) : Fabato :=
  let f := (f.raise code sub payload).almanacPut code sub (eventBytes payload) true
  { f with alm := { f.alm with seen := f.core.events.length } }

/-- One local event is recorded when RECORD_MASK has its code's high byte, queued while a clear runs (R489, R492). -/
def Fabato.almanacRecord (f : Fabato) (e : Event) : Fabato :=
  if !(f.core.num oAlmanacRecordMask).testBit (e.code / 256) then f
  else if f.alm.clearing.isSome then
    if f.alm.queue.length < 256 then { f with alm := { f.alm with queue := f.alm.queue ++ [e] } }
    else { f with alm := { f.alm with dropped := f.alm.dropped + 1 } }
  else f.almanacPut e.code e.sub (payloadOf e) false

/-- The events raised and not yet looked at are recorded, in the order they were raised. -/
def Fabato.almanacTake (f : Fabato) : Fabato :=
  let f := (f.core.events.drop f.alm.seen).foldl (fun f e => f.almanacRecord e) f
  { f with alm := { f.alm with seen := f.core.events.length } }

/-- Sub-unit of an entry port (Table 2.1): a management port, the first lane of a Sky port, the spare lanes' or the ingest engine's for a Drizzle
lane, the slot's core for a program. -/
def Fabato.portSub (f : Fabato) (p : Port) : Nat :=
  match p with
  | .mgmt n => 0xD0 + n
  | .sky n => 0xB0 + (f.core.skyMap n).first
  | .drizzle n => 0x50 + n / 16
  | .mailbox => 0x09
  | .loft s => 0x40 + ((f.slot s).core.getD 0)

/-- Path of the neighbour on an entry port; the group's own for a session opened here. -/
def Fabato.portFrom (f : Fabato) (p : Port) : Nat :=
  match p with
  | .drizzle n => memberPath f.core.path n
  | .sky n =>
    let m := f.core.skyMap n
    match m.role with
    | 0 => f.core.plan.parentPath
    | 1 => f.core.plan.parentPath
    | 2 => memberPath f.core.path m.member
    | 3 => f.core.plan.partnerPath
    | _ => f.core.path
  | _ => f.core.path

/-- Payload of Table 20.3. -/
def clearedPayload (entries refused session from_ port role tenant : Nat) : Bytes :=
  zeros 8 ++ leBytes 4 tenant ++ leBytes 1 role ++ leBytes 1 port ++ leBytes 4 from_ ++ leBytes 4 session ++ leBytes 4 refused ++ leBytes 4 entries

/-- A write to ALMANAC.CLEAR (R492): the current count starts a clear; any other value is refused, and so is one while a clear runs. -/
def Fabato.almanacClear (f : Fabato) (a : Actor) (n : Nat) : Fabato × Nat :=
  if n ≠ f.alm.log.length then (f, eRange)
  else if f.alm.clearing.isSome then (f, eBusy)
  else
    let link := (f.core.sessions.find? (fun s => s.id == a.session)).map (fun s => s.link)
    let from_ := if link = some true then f.portFrom a.port else f.core.path
    let p := clearedPayload n f.alm.refused a.session from_ (f.portSub a.port) a.role.rank a.tenant
    ({ f with alm := { f.alm with clearing := some p, queue := [], dropped := 0 } }, stOk)

/-- The clear completes: ALMANAC_CLEARED is entry 0, then the queued events (R492). -/
def Fabato.almanacCleared (f : Fabato) : Fabato :=
  match f.alm.clearing with
  | none => f
  | some p =>
    let q := f.alm.queue
    let f : Fabato := { f with alm := { f.alm with log := [], refused := f.alm.dropped, clearing := none, queue := [], dropped := 0 } }
    let f := f.onCore (fun c => c.raise 0x1A01 0x74 (p.map (fun b => b.toNat)))
    let f := q.foldl (fun f e => f.almanacRecord e) (f.almanacPut 0x1A01 0x74 p false)
    { f with alm := { f.alm with seen := f.core.events.length } }

/-- 360 s of powered time have passed (R488). -/
def Fabato.hoursTick (f : Fabato) : Fabato :=
  if f.up ≥ f.alm.hoursAt + 360 * secNs then { f with alm := { f.alm with hours := f.alm.hours + 1, hoursAt := f.alm.hoursAt + 360 * secNs } } else f

/-- Header of a history slot (Table 20.4); a slot not in use reads as zeros. -/
def AlmanacPart.header (a : AlmanacPart) (s : Nat) : Bytes :=
  match a.history s with
  | none => zeros 64
  | some h =>
    leBytes 1 h.kind ++ leBytes 1 ((if h.permanent then 1 else 0) + (if h.wrapped then 2 else 0)) ++ leBytes 1 h.head ++ zeros 23
      ++ leBytes 10 (time80 h.changed) ++ leBytes 4 h.gaps ++ leBytes 4 h.uncorrectable ++ leBytes 4 h.corrected ++ leBytes 16 h.identity

/-- A ring entry of a history slot; zeros where none has been written. -/
def AlmanacPart.ringEntry (a : AlmanacPart) (s i : Nat) : Bytes :=
  match (a.history s).bind (fun h => h.ring.find? (fun x => x.1 == i)) with
  | some x => x.2
  | none => zeros 64

/-- Almanac's objects. -/
def Fabato.readAlmanac (f : Fabato) (obj : Nat) : Option Bytes :=
  let i := obj / 256 % 65536
  let e := objElem obj
  if obj = oAlmanacCount then some (leBytes 4 f.alm.log.length)
  else if obj = oAlmanacRefused then some (leBytes 8 f.alm.refused)
  else if obj = oAlmanacHours then some (leBytes 4 f.alm.hours)
  else if obj = oAlmanacPowerCycles then some (leBytes 4 f.alm.cycles)
  else if 0x1000 ≤ i ∧ i < 0x1000 + 1478 ∧ e ≠ 0 then some (f.alm.log.getD (255 * (i - 0x1000) + e - 1) (zeros 64))
  else if 0x2000 ≤ i ∧ i < 0x2000 + 512 ∧ e ≠ 0 then
    some (if e = 1 then f.alm.header (i - 0x2000) else f.alm.ringEntry (i - 0x2000) (e - 2))
  else none

end Sys2Proof.Machine
end

