-- ==== Sys2Proof/Machine/Fw.lean ====
section
/-! DEFINITION. Firmware (R497–R504): the image and its checks, flash and staging, recovery, activation. -/
namespace Sys2Proof.Machine

/-! ### The image (Table 20.6) -/

/-- Fields of an image's header. -/
structure ImageHead where
  magic : Bytes
  version : Nat
  key : Nat
  reserved : Bool
  entry : Nat
  svn : Nat
  release : Nat
  length : Nat
  build : Nat
  digest : Bytes
  r : Nat
  s : Nat
deriving DecidableEq, Repr

def imageHead (b : Bytes) : ImageHead :=
  { magic := slice b 0 6, version := leAt b 6 1, key := leAt b 7 1, reserved := leAt b 8 40 != 0 || leAt b 80 32 != 0, entry := leAt b 48 4,
    svn := leAt b 52 4, release := leAt b 56 4, length := leAt b 60 4, build := leAt b 64 16, digest := slice b 112 48,
    r := ofLe (slice b 160 48).reverse, s := ofLe (slice b 208 48).reverse }

/-- ASCII "LMNFWI". -/
def imageMagic : Bytes := [0x4C, 0x4D, 0x4E, 0x46, 0x57, 0x49]

/-- Longest image, 256 MiB. -/
def imageLimit : Nat := 268435456

/-- The body an image's header names. -/
def imageBody (b : Bytes) : Bytes := slice b 256 (imageHead b).length

/-- First failing check of Table 20.7, 0 where the image is good. -/
def flashFault (minSvn : Nat) (revoked readError : Bool) (b : Bytes) : Nat :=
  let h := imageHead b
  if readError then 1
  else if h.magic ≠ imageMagic ∨ h.version ≠ 1 ∨ h.reserved then 2
  else if h.key > 1 ∨ (h.key = 0 ∧ revoked) then 3
  else if h.length < 1 ∨ h.length > 268435200 then 4
  else if h.svn < minSvn then 5
  else if !Config.imageVerifies h.key (sha384 (slice b 0 160)) h.r h.s then 6
  else if sha384 (imageBody b) ≠ h.digest then 7
  else 0

def Fabato.imageCheck (f : Fabato) (readError : Bool) (b : Bytes) : Nat := flashFault (f.core.num oFwMinSvn) f.fw.revoked readError b

/-! ### Staging (R502) -/

/-- An FW.LOAD chunk. -/
def Fabato.fwLoad (f : Fabato) (b : Bytes) : Fabato × Nat :=
  if f.fw.stage = 4 then (f, eBusy)
  else if b.length < 4 ∨ leAt b 0 4 + (b.length - 4) > imageLimit then (f, eRange)
  else ({ f with fw := { f.fw with staging := overlay f.fw.staging (leAt b 0 4) (b.drop 4), stage := 1, fault := 0, fetching := false } }, stOk)

/-- Staging is checked: verified, or a fault. -/
def Fabato.fwVerdict (f : Fabato) (readError : Bool) : Fabato :=
  let c := f.imageCheck readError f.fw.staging
  if c = 0 then ({ f with fw := { f.fw with stage := 2, fault := 0, fetching := false } } : Fabato).raise 0x1B05 0x74 [(imageHead f.fw.staging).release]
  else { f with fw := { f.fw with stage := 3, fault := c, fetching := false } }

/-- FW.CTRL 1: check. -/
def Fabato.fwCheck (f : Fabato) : Fabato × Nat := if f.fw.stage = 4 then (f, eBusy) else (f.fwVerdict false, stOk)

/-- FW.CTRL 2: write a verified staging image to flash. -/
def Fabato.fwWrite (f : Fabato) : Fabato × Nat :=
  if f.fw.stage = 4 then (f, eBusy)
  else if f.fw.stage ≠ 2 then (f, eRange)
  else ({ f with fw := { f.fw with stage := 4 } }, stOk)

/-- FW.CTRL 3: fetch the parent's flash image. A root has no source to read from: fault 1. -/
def Fabato.fwFetch (f : Fabato) : Fabato × Nat :=
  if f.fw.stage = 4 then (f, eBusy)
  else if f.core.isRoot then ({ f with fw := { f.fw with staging := [], stage := 3, fault := 1, fetching := false } }, stOk)
  else ({ f with fw := { f.fw with staging := [], stage := 1, fault := 0, fetching := true } }, stOk)

/-- FW.CTRL 4: discard staging; not while it is being written to flash. -/
def Fabato.fwDiscard (f : Fabato) : Fabato × Nat :=
  if f.fw.stage = 4 then (f, eBusy) else ({ f with fw := { f.fw with staging := [], stage := 0, fault := 0, fetching := false } }, stOk)

/-- FW.CTRL. -/
def Fabato.fwCtrl (f : Fabato) (n : Nat) : Fabato × Nat :=
  match n with
  | 1 => f.fwCheck
  | 2 => f.fwWrite
  | 3 => f.fwFetch
  | 4 => f.fwDiscard
  | _ => (f, eRange)

/-- The fetch ends with the bytes the parent served, or a read error. -/
def Fabato.fwFetched (f : Fabato) (readError : Bool) (image : Bytes) : Fabato :=
  if f.fw.fetching then ({ f with fw := { f.fw with staging := image.take imageLimit } } : Fabato).fwVerdict readError else f

/-- The flash write ends; `back` is what the read-back gives. -/
def Fabato.fwWritten (f : Fabato) (back : Bytes) : Fabato :=
  if f.fw.stage ≠ 4 then f
  else
    let f : Fabato := { f with fw := { f.fw with flash := back } }
    if back.length ≥ 256 ∧ slice back 0 256 = slice f.fw.staging 0 256 ∧ sha384 (imageBody back) = (imageHead f.fw.staging).digest then
      ({ f with fw := { f.fw with stage := 5 } } : Fabato).raise 0x1B06 0x74 [(imageHead back).release]
    else { f with fw := { f.fw with stage := 3, fault := 7 } }

/-! ### Recovery (R500) -/

/-- Sources there are: P0, P1, and the host on each management port; none without a tree key. -/
def Fabato.recoverySources (f : Fabato) : List Nat :=
  if f.core.keys.tree = zeros 32 then []
  else
    (if (f.core.parentPort false).isSome then [0] else []) ++ (if (f.core.parentPort true).isSome then [1] else [])
      ++ (if f.core.get oFwRecoveryHost = zeros 16 then [] else [2, 3])

/-- Go to the first source after `n` done, or wait 10 s for the next round. -/
def Fabato.recoverFrom (f : Fabato) (n : Nat) : Fabato :=
  match f.recoverySources.find? (fun s => decide (s ≥ n)) with
  | some s => { f with fw := { f.fw with source := s, waiting := false, recovering := true, since := f.up } }
  | none => { f with fw := { f.fw with source := 0, waiting := true, recovering := !f.recoverySources.isEmpty, since := f.up } }

/-- A source failed with a code. -/
def Fabato.recoveryFailed (f : Fabato) (code : Nat) : Fabato := (f.romEntry 0x1B04 0x74 [f.fw.source, code]).recoverFrom (f.fw.source + 1)

/-- 5 s without an answer. -/
def Fabato.recoveryTimeout (f : Fabato) : Fabato :=
  if f.board.boot = 1 ∧ f.fw.recovering ∧ !f.fw.waiting ∧ f.up ≥ f.fw.since + 5 * secNs then f.recoveryFailed 1 else f

/-- 10 s after a round. -/
def Fabato.recoveryRound (f : Fabato) : Fabato :=
  if f.board.boot = 1 ∧ f.fw.recovering ∧ f.fw.waiting ∧ f.up ≥ f.fw.since + 10 * secNs then f.recoverFrom 0 else f

/-- The body is copied and self-test begins. -/
def Fabato.imageLoaded (f : Fabato) (image : Bytes) : Fabato :=
  { f with fw := { f.fw with running := image, flash := image, recovering := false, waiting := false, open_ := false, torn := false }, board := { f.board with boot := 2 } }

/-- The ROM has read the flash (Table 20.8). What was read is the flash's own image, unless an external programmer had it or a write broke off;
the image of a write that broke off fails (Table 21.11). -/
def Fabato.flashRead (f : Fabato) (readError : Bool) (read : Bytes) : Fabato :=
  if f.board.boot ≠ 1 ∨ f.fw.recovering then f
  else
    let image := if f.fw.open_ || f.fw.torn then read else f.fw.flash
    let c := f.imageCheck readError image
    let c := if c = 0 ∧ f.fw.torn then 7 else c
    if c = 0 then f.imageLoaded image
    else (({ f with fw := { f.fw with flash := image, torn := false, open_ := false } } : Fabato).romEntry 0x1B02 0x74 [c]).recoverFrom 0

/-- A recovery image arrives from the source being tried. -/
def Fabato.recoveryImage (f : Fabato) (source : Nat) (readError : Bool) (image : Bytes) : Fabato :=
  if f.board.boot ≠ 1 ∨ !f.fw.recovering ∨ f.fw.waiting ∨ source ≠ f.fw.source then f
  else
    let c := f.imageCheck readError image
    if c ≠ 0 then f.recoveryFailed c
    else
      let f : Fabato := { f with fw := { f.fw with recoveries := f.fw.recoveries + 1 } }
      (f.romEntry 0x1B03 0x74 [source, (imageHead image).release]).imageLoaded image

/-! ### Activation (R503) -/

/-- FW.KEY_REVOKE true revokes key 0 for good. -/
def Fabato.fwRevoke (f : Fabato) (n : Nat) : Fabato := if n = 0 then f else { f with fw := { f.fw with revoked := true } }

/-- Why an update is held: 1 the version, 2 Sundog's state. -/
def Fabato.updateHeld (f : Fabato) : Option Nat :=
  if f.fw.stage = 4 ∨ f.fw.flash.length < 256 ∨ (imageHead f.fw.flash).release ≠ f.core.num oFwActivate then some 1
  else if f.sun.state ≠ .paired then some 2
  else none

/-- FW_UPDATE_HELD: 1 version, 2 Sundog state, 3 lag. -/
def Fabato.holdUpdate (f : Fabato) (cause : Nat) : Fabato := ({ f with fw := { f.fw with activate := none } } : Fabato).raise 0x1B08 0x74 [cause]

/-! ### Objects (Table 20.12) -/

/-- FW.CHUNK n (R501). -/
def Fabato.fwChunk (f : Fabato) (n : Nat) : Bytes := ((f.fw.flash.take (256 + (imageHead f.fw.flash).length)).drop (4000 * n)).take 4000

/-- Chunks of the flash image: the header included. -/
def Fabato.fwChunks (f : Fabato) : Nat := (Nat.min f.fw.flash.length (256 + (imageHead f.fw.flash).length) + 3999) / 4000

/-- Firmware's objects. -/
def Fabato.readFw (f : Fabato) (obj : Nat) : Option Bytes :=
  let i := obj / 256 % 65536
  let e := objElem obj
  if obj = oFwRunning then some (slice f.fw.running 0 160)
  else if obj = oFwFlash then some (slice f.fw.flash 0 160)
  else if obj = oFwStageState then some (leBytes 1 f.fw.stage)
  else if obj = oFwStageFault then some (leBytes 4 f.fw.fault)
  else if obj = oFwImageHeader then some (slice f.fw.flash 0 256)
  else if obj = oFwRecoveries then some (leBytes 8 f.fw.recoveries)
  else if 0x4000 ≤ i ∧ i < 0x4000 + 264 ∧ e ≠ 0 then some (f.fwChunk (255 * (i - 0x4000) + e - 1))
  else none

end Sys2Proof.Machine
end

