-- ==== Sys2Proof/Parts/Trace.lean ====
section
/-! DEFINITION. State of the Ovtan's bus-transaction trace (spec/07): capture state, tap queues, accounting, power-domain handshakes. -/
namespace Sys2Proof.Machine

/-- Capture states of Table 7.3. -/
inductive TraceMode where
  | off | armed | capturing | done | continuous
deriving DecidableEq, Repr

/-- TRACE.STATE code of Table 7.3. -/
def TraceMode.code : TraceMode → Nat
  | .off => 0 | .armed => 1 | .capturing => 2 | .done => 3 | .continuous => 4

/-- A delivered descriptor with what its record carries (Table 7.4). -/
structure TapEntry where
  tap : Nat
  /-- the descriptor, as the payload of Table 7.4 -/
  desc : U128
  time : Nat
  step : Nat
  angle : Nat
  index : Nat
  trig : Bool
  stretch : Bool
deriving DecidableEq, Repr

/-- A pending count of R210: tap, reason, count, step of the first counted descriptor. -/
structure TapCount where
  tap : Nat
  reason : Nat
  count : Nat
  step : Nat
deriving DecidableEq, Repr

/-- A flush of R212 in progress: domain, time PD_REQ rose, descriptors counted under 0x23, withdrawn (R214). -/
structure Flush where
  domain : Nat
  since : Nat
  refused : Nat
  withdrawn : Bool
deriving DecidableEq, Repr

/-- A sleeping domain: its gate time, PD_REQ fallen (wake awaited), and whether the gate time ran before the last restart. -/
structure Gate where
  domain : Nat
  gate : Nat
  waking : Bool
  prior : Bool
deriving DecidableEq, Repr

/-- Trace and the Funnel of one Ovtan. -/
structure TracePart where
  mode : TraceMode
  /-- delivered descriptors counted toward TRACE.POST_COUNT -/
  n : Nat
  pre : List TapEntry
  /-- tap queues of R202 together, in the Funnel's order: presentation time, then tap -/
  queue : List TapEntry
  /-- descriptors presented on each tap since trace was last enabled (Table 7.6) -/
  presented : List Nat
  pend : List TapCount
  /-- filter commits that have taken effect since restart -/
  generation : Nat
  /-- trace records of each tap since its last sync record (R211) -/
  sinceSync : List Nat
  /-- taps that owe a sync record of subtype 0x05 -/
  filterSync : List Nat
  flushes : List Flush
  gates : List Gate
  /-- level of PD_REQ, bit d for domain d -/
  pdReq : Nat
  dropEpisode : Bool
  /-- powered time of the last accounting interval -/
  accountAt : Nat
  /-- end of the trace grant (R119), on the powered-time count -/
  grantEnd : Option Nat
deriving DecidableEq, Repr

end Sys2Proof.Machine
end

