-- ==== Sys2Proof/Machine/Funnel.lean ====
section
/-! DEFINITION. Taps, filters, capture states and the Funnel (spec/07, R201–R215), and the power-domain handshakes they share. -/
namespace Sys2Proof.Machine

/-- The parts of an Ovtan that trace reads and writes. -/
structure TraceSide where
  core : Core
  buf : RecBuf
  cap : Capture
  trace : TracePart
deriving DecidableEq, Repr

/-! ### Filters (Table 7.2, R205, R206) -/

/-- Fields of a trace filter (Table 7.2). -/
structure Filter where
  high : Nat
  low : Nat
  init : Nat
  mask : Nat
  taps : Nat
  ops : Nat
  latency : Nat
  action : Nat
deriving DecidableEq, Repr

/-- The filter that 32 bytes spell. -/
def filterOf (b : Bytes) : Filter :=
  let n := leAt b 0 32
  { high := bitsOf n 255 208, low := bitsOf n 207 160, init := bitsOf n 159 148, mask := bitsOf n 147 136,
    taps := bitsOf n 127 112, ops := bitsOf n 111 96, latency := bitsOf n 95 64, action := bitsOf n 1 0 }

/-- Security code of a descriptor. -/
def descSecurity (d : U128) : Nat := bitsOf d.toNat 41 40

/-- R205. -/
def Filter.matches (f : Filter) (tap : Nat) (d : U128) : Bool :=
  let n := d.toNat
  let a := bitsOf n 127 80
  f.action != 0 && f.taps.testBit tap && decide (f.low ≤ a) && decide (a ≤ f.high)
    && (bitsOf n 67 56 &&& f.mask) == (f.init &&& f.mask) && f.ops.testBit (bitsOf n 47 44)
    && decide (bitsOf n 31 0 ≥ f.latency)

/-- What R206 decides of an admitted descriptor: refused, or kept with its index and whether it triggers. -/
inductive Verdict where
  | refuse
  | keep (index : Nat) (trigger : Bool)
deriving DecidableEq, Repr

/-- R206 over the filters in index order. -/
def filterVerdict (fs : List Filter) (mode tap : Nat) (d : U128) : Verdict :=
  let hit := ((List.range fs.length).zip fs).filter (fun p => p.2.matches tap d)
  let index := ((hit.find? (fun p => p.2.action != 2)).map (·.1)).getD 0x3FF
  if hit.any (fun p => p.2.action == 2) then .refuse
  else if mode = 2 ∧ index = 0x3FF then .refuse
  else .keep index (hit.any (fun p => p.2.action == 3))

/-- TRACE.FILTER of a unit. -/
def Core.filters (c : Core) : List Filter := (List.range 32).map (fun i => filterOf (c.get (oTraceFilter + i + 1)))

/-! ### Class T records (R209, R210, R215) -/

/-- Class T records that the region holds, the pre-trigger ring's entries among them. -/
def TraceSide.used (x : TraceSide) : Nat := x.buf.t.length + x.trace.pre.length

/-- Bytes of class T records in the spill ring. -/
def RecBuf.ringT (b : RecBuf) : Nat :=
  32 * (b.ring.filter (fun e => match e with
    | .held h => h.base.cls == .t
    | .mark _ => false)).length

/-- Number a class T record and put it in the region. -/
def TraceSide.putT (x : TraceSide) (r : Record) (time : Nat) : TraceSide :=
  let n := x.buf.take1 .t
  let hs := n.2.holdAll time [{ r with seq := n.1 }]
  { x with buf := { hs.2 with t := hs.2.t ++ hs.1 } }

/-- Number a class T record and write it to the ring, when it has room. -/
def TraceSide.ringT (x : TraceSide) (r : Record) (time : Nat) : Option TraceSide :=
  let n := x.buf.take1 .t
  let hs := n.2.holdAll time [{ r with seq := n.1 }]
  (ringPut x.core hs.2 hs.1).map (fun y => { x with core := y.1, buf := y.2 })

/-- A record that the first 64 records of the quota are kept for (R210): a sync or accounting record. -/
def TraceSide.emitT (x : TraceSide) (r : Record) : TraceSide :=
  if x.buf.linkRing .t then (x.ringT r x.core.ns).getD (x.putT r x.core.ns) else x.putT r x.core.ns

/-- Sync record of a tap (Table 7.6); TRACE.STATE is that after the event. -/
def TraceSide.sync (x : TraceSide) (subtype tap : Nat) : TraceSide :=
  let p := x.trace.presented.getD tap 0 % 2 ^ 64 * 2 ^ 64 + x.trace.generation % 2 ^ 32 * 2 ^ 32 + subtype * 2 ^ 24
    + x.trace.mode.code * 65536
  let r := { mkRecord x.core x.core.ns 0x20 .t (srcOf (0x20 + tap) 0x3FE) p with flags := 8 }
  let y := x.emitT r
  { y with trace := { y.trace with sinceSync := y.trace.sinceSync.set tap 0 } }

/-- Gap record of one pending count (R210). -/
def TraceSide.account1 (x : TraceSide) (g : TapCount) : TraceSide :=
  let r := mkRecord x.core x.core.ns 0x50 .t (srcOf (0x20 + g.tap) 0) (gapPayload g.count 1 g.reason g.step 0xFF .t 0)
  x.emitT r

/-- Pending accounting of the taps that pass a test: one gap record for each nonzero count, tap by tap and reason by reason. -/
def TraceSide.account (x : TraceSide) (p : Nat → Bool) : TraceSide :=
  let due := (List.range 16).flatMap (fun t => (List.range 4).filterMap (fun r =>
    if p t then x.trace.pend.find? (fun g => g.tap == t && g.reason == 0x20 + r) else none))
  let x := { x with trace := { x.trace with pend := x.trace.pend.filter (fun g => !p g.tap) } }
  due.foldl (fun x g => x.account1 g) x

/-- Count a descriptor of a tap under a reason (R210), and in the object that keeps it (Table 7.5). -/
def TraceSide.countPending (x : TraceSide) (tap reason : Nat) : TraceSide :=
  let o := if reason = 0x21 then oTraceFiltered else oTraceDropped
  let hit (g : TapCount) : Bool := g.tap == tap && g.reason == reason
  let pend := if x.trace.pend.any hit then modWhere hit (fun g => { g with count := g.count + 1 }) x.trace.pend
    else x.trace.pend ++ [{ tap := tap, reason := reason, count := 1, step := x.core.angle.step }]
  let x := { x with core := x.core.bump (o + tap + 1), trace := { x.trace with pend := pend } }
  match x.trace.pend.find? (fun g => hit g && decide (g.count ≥ 0xFFFFFFFF)) with
  | some g => { x with trace := { x.trace with pend := x.trace.pend.filter (fun g => !hit g) } }.account1 g
  | none => x

/-- Accounting at every TRACE.ACCOUNT_INTERVAL (R210). -/
def TraceSide.accountDue (x : TraceSide) : TraceSide :=
  if x.core.up ≥ x.trace.accountAt + 1000 * x.core.num oTraceAccountInterval then
    { x with trace := { x.trace with accountAt := x.core.up } }.account (fun _ => true)
  else x

/-- A periodic sync record once a tap has emitted TRACE.SYNC_INTERVAL trace records since its last sync record (R211). -/
def TraceSide.syncDue (x : TraceSide) (tap : Nat) : TraceSide :=
  if tap < 16 ∧ x.trace.sinceSync.getD tap 0 ≥ x.core.num oTraceSyncInterval then x.sync 0x06 tap else x

/-- Trace record of a delivered descriptor (Table 7.4). -/
def TapEntry.record (e : TapEntry) : Record :=
  { type := 0x20, flags := BitVec.ofNat 5 ((if e.trig then 16 else 0) + (if e.stretch then 4 else 0)), cont := false, cls := .t,
    seq := 0, tns := BitVec.ofNat 32 e.time, step := BitVec.ofNat 32 e.step, angle := BitVec.ofNat 16 e.angle,
    src := srcOf (0x20 + e.tap) e.index, payload := e.desc }

/-- Record a descriptor, or count it under reason 0x20 (R209, R215). A tap that owes a filter sync emits it first (R206). -/
def TraceSide.record (x : TraceSide) (e : TapEntry) : TraceSide :=
  let x := if x.trace.filterSync.contains e.tap then
      { x with trace := { x.trace with filterSync := x.trace.filterSync.filter (· != e.tap) } }.sync 0x05 e.tap
    else x
  let quota := x.core.num oRecordTQuota
  let done (x : TraceSide) : TraceSide :=
    { x with core := x.core.bump (oTraceTraced + e.tap + 1),
             trace := { x.trace with sinceSync := modAt x.trace.sinceSync e.tap (· + 1), dropEpisode := false } }
  let drop (x : TraceSide) : TraceSide :=
    let x := x.countPending e.tap 0x20
    if x.trace.dropEpisode then x
    else { x with core := x.core.raise 0x0703 0x03 [e.tap, x.buf.t.length], trace := { x.trace with dropEpisode := true } }
  if quota < 128 then drop x
  else if !x.buf.linkRing .t && decide (x.used + 64 < quota) then done (x.putT e.record e.time)
  else
    let share := Nat.min (x.core.num oTraceSpillShare) (x.core.used oRecordSpillSize / 2)
    if x.buf.ringT + 32 ≤ share then
      match x.ringT e.record e.time with
      | some y => done y
      | none => drop x
    else drop x

/-! ### The Funnel (R209) -/

/-- Insert a delivered descriptor in the Funnel's order. -/
def insertEntry (e : TapEntry) : List TapEntry → List TapEntry
  | [] => [e]
  | h :: t => if e.time < h.time ∨ (e.time = h.time ∧ e.tap < h.tap) then e :: h :: t else h :: insertEntry e t

/-- Domain of a tap (R201). -/
def tapDomain (c : Core) (t : Nat) : Nat := c.num (oTraceTapDomain + t + 1)

/-- Whether a domain is flushing. -/
def TracePart.flushing (t : TracePart) (d : Nat) : Bool := t.flushes.any (fun f => f.domain == d)

/-- The entry that the Funnel takes next: of a flushing domain first, then the earliest. -/
def TraceSide.nextEntry (x : TraceSide) : Option TapEntry :=
  match x.trace.queue.find? (fun e => x.trace.flushing (tapDomain x.core e.tap)) with
  | some e => some e
  | none => x.trace.queue.head?

/-- The Funnel takes one descriptor (R209). -/
def TraceSide.take (x : TraceSide) : TraceSide :=
  match x.nextEntry with
  | none => x
  | some e => { x with trace := { x.trace with queue := x.trace.queue.erase e } }.record e

/-- The Funnel empties the queued descriptors that pass a test, in order. -/
def TraceSide.drain (x : TraceSide) (p : TapEntry → Bool) : TraceSide :=
  let es := x.trace.queue.filter p
  es.foldl (fun x e => x.record e) { x with trace := { x.trace with queue := x.trace.queue.filter (fun e => !p e) } }

/-! ### Capture states (Table 7.3) -/

/-- D of R207. -/
def preDepth (c : Core) : Nat := Nat.min (c.num oTracePreCount) ((c.num oRecordTQuota - 64) / 2)

/-- Discard the pre-trigger ring, counting its entries. -/
def TraceSide.discardRing (x : TraceSide) : TraceSide :=
  { x with core := x.core.count oTracePreDiscards x.trace.pre.length, trace := { x.trace with pre := [] } }

/-- Enter Done, or Armed with a cleared ring when TRACE.REARM is true and the count was reached. -/
def TraceSide.finish (x : TraceSide) (stopped : Bool) : TraceSide :=
  let x := x.drain (fun _ => true)
  let re := !stopped && x.core.flag oTraceRearm
  let x := { x with trace := { x.trace with mode := if re then .armed else .done, pre := [] } }.account (fun _ => true)
  { x with core := x.core.raise 0x0702 0x03 [x.trace.n, if stopped then 1 else 0] }

/-- Trigger (Table 7.3): sync 0x04, release the ring in order, raise TRACE_TRIGGERED. `src` is 0 descriptor, 1 alarm, 2 forced. -/
def TraceSide.trigger (x : TraceSide) (src tap t : Nat) : TraceSide :=
  let ring := x.trace.pre
  let x := { x with trace := { x.trace with mode := .capturing, n := 0, pre := [] } }
  let x := { x with core := x.core.raise 0x0701 0x03 [src, tap, t] }
  ring.foldl (fun x e => x.record e) (x.sync 0x04 tap)

/-- A delivered descriptor (Table 7.3). -/
def TraceSide.deliver (x : TraceSide) (e : TapEntry) : TraceSide :=
  let queue (x : TraceSide) (e : TapEntry) : TraceSide :=
    { x with trace := { x.trace with queue := insertEntry e x.trace.queue } }
  let post (x : TraceSide) : TraceSide :=
    if x.trace.n ≥ x.core.num oTracePostCount then x.finish false else x
  match x.trace.mode with
  | .armed =>
    if e.trig then
      let x := x.trigger 0 e.tap e.time
      post { x.record e with trace := { (x.record e).trace with n := 1 } }
    else
      let d := preDepth x.core
      let pre := x.trace.pre ++ [e]
      let extra := pre.length - d
      { x with core := x.core.count oTracePreDiscards extra, trace := { x.trace with pre := pre.drop extra } }
  | .capturing =>
    let x := queue x { e with trig := false }
    post { x with trace := { x.trace with n := x.trace.n + 1 } }
  | .continuous => queue x { e with trig := false }
  | _ => x

/-- Whether a descriptor of a security code is admitted (R118): TRACE_AUTH high and the grant in force. -/
def TraceSide.admits (x : TraceSide) (d : U128) (auth : Bool) : Bool :=
  descSecurity d == 0 || (auth && (match x.trace.grantEnd with
    | some e => decide (x.core.up < e)
    | none => false))

/-- Presentation of a descriptor on a tap (R202–R206, R212 step 1). -/
def TraceSide.present (x : TraceSide) (tap : Nat) (d : U128) (auth stretch : Bool) : TraceSide :=
  let live := x.core.flag oTraceEnable && x.core.num (oTraceTapMode + tap + 1) != 0
    && (x.trace.mode == .armed || x.trace.mode == .capturing || x.trace.mode == .continuous)
  if !live || decide (tap ≥ 16) then x
  else if !x.admits d auth then { x with core := x.core.bump (oTraceSecureDrops + tap + 1) }
  else
    let x := { x with trace := { x.trace with presented := modAt x.trace.presented tap (· + 1) } }
    let dom := tapDomain x.core tap
    if x.trace.flushing dom then
      let fl := modWhere (fun f => f.domain == dom) (fun f => { f with refused := f.refused + 1 }) x.trace.flushes
      { x with trace := { x.trace with flushes := fl } }.countPending tap 0x23
    else
      match filterVerdict x.core.filters (x.core.num (oTraceTapMode + tap + 1)) tap d with
      | .refuse => x.countPending tap 0x21
      | .keep index trig =>
        if (x.trace.queue.filter (fun e => e.tap == tap)).length ≥ 64 then x.countPending tap 0x22
        else
          x.deliver { tap := tap, desc := d, time := x.core.ns, step := x.core.angle.step % 2 ^ 32,
                      angle := angleAt x.core.angle x.core.ns / 65536, index := index, trig := trig, stretch := stretch }

/-- An alarm record has been emitted: it triggers an armed capture while TRACE.TRIG_ALARM is true (Table 7.3). -/
def TraceSide.afterAlarm (x : TraceSide) : TraceSide :=
  let hit := x.buf.alarmed && x.trace.mode == .armed && x.core.flag oTraceTrigAlarm
  let x := { x with buf := { x.buf with alarmed := false } }
  if hit then x.trigger 1 0 x.core.ns else x

/-- What TRACE.ENABLE or TRACE.CAPTURE_MODE does when it takes effect (Table 7.3, first and last rows). -/
def TraceSide.reconfigure (x : TraceSide) : TraceSide :=
  let on := x.core.flag oTraceEnable
  let same := on && x.trace.mode != .off && ((x.trace.mode == .continuous) == (x.core.num oTraceCaptureMode == 0))
  let off : TraceSide := if x.trace.mode == .off then x
    else
      let x := (x.drain (fun _ => true)).discardRing
      { x with trace := { x.trace with mode := .off } }.account (fun _ => true)
  if same then x
  else if !on then off
  else
    let x : TraceSide := { off with trace := { off.trace with presented := List.replicate 16 0, n := 0, pre := [] } }
    if x.core.num oTraceCaptureMode = 0 then
      (List.range 16).foldl (fun x t => x.sync 0x01 t) { x with trace := { x.trace with mode := .continuous } }
    else { x with trace := { x.trace with mode := .armed } }

/-- A filter commit has taken effect (R206, Table 7.6). -/
def TracePart.filtersChanged (t : TracePart) : TracePart :=
  { t with generation := t.generation + 1, filterSync := List.range 16 }

/-! ### Power domains (R212–R214, R253) -/

/-- Taps of a domain. -/
def domainTaps (c : Core) (d : Nat) : List Nat := (List.range 16).filter (fun t => tapDomain c t == d)

/-- A sleep/wake record's payload (Table 7.7). -/
def sleepPayload (c : Core) (time flush d subtype : Nat) : Nat :=
  time % 2 ^ 64 * 2 ^ 64 + ofBits ((List.range 16).filter (fun b => bankDomain c b == d)) * 2 ^ 48
    + ofBits (domainTaps c d) * 2 ^ 32 + Nat.min flush 65535 * 65536 + d % 256 * 256 + subtype

/-- Emit a sleep/wake record in class C; `prior` is PRIOR_COUNT. -/
def TraceSide.marker51 (x : TraceSide) (time flush d subtype : Nat) (prior : Bool) : TraceSide :=
  let r := { mkRecord x.core x.core.ns 0x51 .c (srcOf 0x0B d) (sleepPayload x.core time flush d subtype) with
             flags := if prior then 1 else 0 }
  let y := placeC x.core x.buf r
  { x with core := y.1, buf := y.2 }

/-- PD_REQ[d] rises (R212): the flush begins. -/
def TraceSide.pdRise (x : TraceSide) (d : Nat) : TraceSide :=
  if d ≥ 32 ∨ x.trace.pdReq.testBit d ∨ x.cap.gated.testBit d then x
  else { x with trace := { x.trace with pdReq := x.trace.pdReq ||| 2 ^ d,
                                        flushes := x.trace.flushes ++ [{ domain := d, since := x.core.up, refused := 0, withdrawn := false }] } }

/-- Steps 2 to 4 of R212. -/
def TraceSide.flushTaps (x : TraceSide) (d : Nat) : TraceSide :=
  let taps := domainTaps x.core d
  let x := x.drain (fun e => taps.contains e.tap)
  taps.foldl (fun x t => (x.sync 0x02 t).account (fun u => u == t)) x

/-- Banks of domain d that L_T left waiting latch before the domain's power changes (R189, Table 6.12). -/
def TraceSide.latchDue (x : TraceSide) (d : Nat) : TraceSide :=
  let y := Sys2Proof.Machine.latchDue { core := x.core, buf := x.buf, cap := x.cap } (fun b => bankDomain x.core b == d) false
  { x with core := y.core, buf := y.buf, cap := y.cap }

/-- The flush of domain d completes (R212 steps 2 to 6; R214 when withdrawn). -/
def TraceSide.pdComplete (x : TraceSide) (d : Nat) : TraceSide :=
  let x := x.latchDue d
  match x.trace.flushes.find? (fun f => f.domain == d) with
  | none => x
  | some f =>
    let t := x.core.ns
    let y := x.flushTaps d
    let rest := y.trace.flushes.filter (fun f => f.domain != d)
    if f.withdrawn then
      let y := { y.marker51 t f.refused d 0x03 false with trace := { y.trace with flushes := rest } }
      (domainTaps y.core d).foldl (fun x t => x.sync 0x03 t) y
    else
      let y := y.marker51 t f.refused d 0x01 false
      let dur := x.core.up - f.since
      let core := if dur > y.core.num oTraceFlushMax then y.core.putNum oTraceFlushMax dur else y.core
      { y with core := core.raise 0x0704 0x0B [d, t, dur], cap := { y.cap with gated := y.cap.gated ||| 2 ^ d },
               trace := { y.trace with flushes := rest, gates := y.trace.gates ++ [{ domain := d, gate := t, waking := false, prior := false }] } }

/-- PD_REQ[d] falls: after PD_ACK the wake is awaited (R213), before it the sleep is withdrawn (R214). -/
def TraceSide.pdFall (x : TraceSide) (d : Nat) (acked : Bool) : TraceSide :=
  if !x.trace.pdReq.testBit d || x.cap.gated.testBit d != acked then x
  else
    let req := x.trace.pdReq - 2 ^ d
    if acked then
      { x with trace := { x.trace with pdReq := req, gates := modWhere (fun g => g.domain == d) (fun g => { g with waking := true }) x.trace.gates } }
    else
      { x with trace := { x.trace with pdReq := req, flushes := modWhere (fun f => f.domain == d) (fun f => { f with withdrawn := true }) x.trace.flushes } }

/-- First clock edge of a waking domain (R213). -/
def TraceSide.pdWake (x : TraceSide) (d : Nat) : TraceSide :=
  match x.trace.gates.find? (fun g => g.domain == d && g.waking) with
  | none => x
  | some g =>
    let x := x.latchDue d
    let el := x.core.ns - g.gate
    let y := { x with cap := { x.cap with gated := x.cap.gated - 2 ^ d },
                      trace := { x.trace with gates := x.trace.gates.filter (fun g => g.domain != d) } }
    let y := y.marker51 el 0 d 0x02 g.prior
    let y := { y with core := y.core.raise 0x0705 0x0B [d, el] }
    (domainTaps y.core d).foldl (fun x t => x.sync 0x03 t) y

/-- A flush waits 1.5 µs for an edge of a stopped domain clock with CG_NOTE low, then completes without one (R253). -/
def TraceSide.pdEdgeTimeout (x : TraceSide) (d : Nat) : TraceSide :=
  match x.trace.flushes.find? (fun f => f.domain == d) with
  | some f =>
    if decide (x.core.up ≥ f.since + 1500) && !x.cap.cgNote.testBit d then
      { x with core := x.core.raise 0x0907 0x0B [d] }.pdComplete d
    else x
  | none => x

end Sys2Proof.Machine
end

