-- ==== Sys2Proof/Parts/Ovtan.lean ====
section
/-! DEFINITION. The Ovtan's boundary (spec/09) and the Ovtan as a whole. -/
namespace Sys2Proof.Machine

/-- Ovtan states of Table 9.5. -/
inductive BootState where
  | reset | fuseLoad | selfTest | ready
deriving DecidableEq, Repr

/-- Status word code [7:0] (Table 9.3). -/
def BootState.code : BootState → Nat
  | .reset => 0 | .fuseLoad => 1 | .selfTest => 2 | .ready => 3

/-- What self-test found and repaired (R258, Table 9.9). -/
structure BistPart where
  memoryPass : Bool
  countersPass : Bool
  repaired : Bool
  exhausted : Bool
  /-- POWER.BIST_RESULT -/
  result : Bytes
  /-- spare columns in use, and failing columns that no spare covers -/
  columns : Nat
  columnsBeyond : Nat
  /-- counters beyond the spares: they hold 0 and refuse configuration -/
  deadCounters : List Nat
  /-- macros failed beyond repair (Table 9.9) -/
  deadMacros : List Nat
deriving DecidableEq, Repr

/-- The boundary of an Ovtan (spec/09). -/
structure BndPart where
  boot : BootState
  /-- level of `AON_RST_N`, and the powered time it rose -/
  aon : Bool
  risenAt : Nat
  /-- locked fuse image, empty while none is loaded, and fuse status (Table 9.3) -/
  fuse : Bytes
  fuseStatus : Nat
  /-- image checks failed since reset rose (FUSE_ABSENT's payload) -/
  fuseFails : Nat
  restarts : Nat
  cause : Nat
  pll : Bool
  bist : BistPart
  /-- POWER.BLOCK_STATE elements 0x01–0x06 (Table 9.8) -/
  blocks : List Nat
  /-- powered time REFCLK was lost (R257) -/
  refLost : Option Nat
  /-- level of `TRACE_AUTH` as last seen (R118) -/
  auth : Bool
  /-- end of each IRQ line's pulse, on the powered-time count (R245) -/
  irq : List (Option Nat)
deriving DecidableEq, Repr

/-- One Ovtan. -/
structure Ovtan where
  core : Core
  buf : RecBuf
  cap : Capture
  trace : TracePart
  dew : List DewCh
  dma : DmaPart
  link : OvLane
  bnd : BndPart
deriving DecidableEq, Repr

end Sys2Proof.Machine
end

