-- ==== Sys2Proof/Machine/OvtanOps.lean ====
section
/-! DEFINITION. Operations of the Ovtan as a whole: the side lenses, the lane's flits out of buffer and ring (R270, R279–R281), time commands (R133, R138), cuts in the record streams (R458), and restart (R251). -/
namespace Sys2Proof.Machine

/-! ### Sides -/

/-- Act on the parts capture uses. An alarm emitted meanwhile may trigger trace (Table 7.3). -/
def Ovtan.onCap (o : Ovtan) (f : CapSide → CapSide) : Ovtan :=
  let y := f { core := o.core, buf := o.buf, cap := o.cap }
  let z := TraceSide.afterAlarm { core := y.core, buf := y.buf, cap := y.cap, trace := o.trace }
  { o with core := z.core, buf := z.buf, cap := z.cap, trace := z.trace }

/-- Act on the parts trace uses. -/
def Ovtan.onTrace (o : Ovtan) (f : TraceSide → TraceSide) : Ovtan :=
  let y := f { core := o.core, buf := o.buf, cap := o.cap, trace := o.trace }
  { o with core := y.core, buf := y.buf, cap := y.cap, trace := y.trace }

/-- Act on the parts the MEM port's users use. -/
def Ovtan.onMem (o : Ovtan) (f : MemSide → MemSide) : Ovtan :=
  let y := f { core := o.core, buf := o.buf, dew := o.dew, dma := o.dma, irq := o.bnd.irq }
  { o with core := y.core, buf := y.buf, dew := y.dew, dma := y.dma, bnd := { o.bnd with irq := y.irq } }

/-- The MEM side of an Ovtan, read only. -/
def Ovtan.memSide (o : Ovtan) : MemSide := { core := o.core, buf := o.buf, dew := o.dew, dma := o.dma, irq := o.bnd.irq }

/-- Act on the shared part. -/
def Ovtan.onCore (o : Ovtan) (f : Core → Core) : Ovtan := { o with core := f o.core }

/-- Act on the shared part and the record buffer. -/
def Ovtan.onBuf (o : Ovtan) (f : Core → RecBuf → Core × RecBuf) : Ovtan :=
  let y := f o.core o.buf
  { o with core := y.1, buf := y.2 }

/-- Act on the shared part and the lane. -/
def Ovtan.onLane (o : Ovtan) (f : Core → Lane → Core × Lane) : Ovtan :=
  let y := f o.core o.link.lane
  { o with core := y.1, link := { o.link with lane := y.2 } }

/-! ### What the lane takes out of buffer and ring (R270, R279–R281) -/

/-- What the lane's frames come from. -/
structure OvSource where
  core : Core
  buf : RecBuf
deriving DecidableEq, Repr

/-- The first chain of a list: records up to and including the first without CONT (R270). -/
def firstChain : List Held → List Held
  | [] => []
  | h :: rest => if h.base.cont then h :: firstChain rest else [h]

/-- Number class C records as they are placed (R279). -/
def numberC (b : RecBuf) : List Held → List Held × RecBuf
  | [] => ([], b)
  | h :: rest =>
    if h.base.cls == .c then
      let t := b.take1 .c
      let r := numberC t.2 rest
      ({ h with base := { h.base with seq := t.1 } } :: r.1, r.2)
    else
      let r := numberC b rest
      (h :: r.1, r.2)

/-- Take `n` entries off the ring's front. -/
def RecBuf.popRing (b : RecBuf) (n : Nat) : RecBuf :=
  { b with ring := b.ring.drop n, ringRead := b.ringRead - n, ringAcked := b.ringAcked - n, ringPos := b.ringPos + 32 * n }

/-- The records of the ring up to the next time mark. -/
def runOf : List RingEntry → List Held
  | .held h :: rest => h :: runOf rest
  | _ => []

/-- An anchor (R144): a full time record with reference `t` that covers `n` records of a class from number `first`. -/
def anchorRecord (c : Core) (t n first : Nat) (cls : RClass) : Record :=
  mkRecord c c.ns 0x40 .c (srcOf 0x0A 0) (timePayload t n first false cls.code (c.quality true false c.up).toNat 0x01)

/-- Split sequence numbers into stretches of consecutive ones of at most 65,535: first number and count of each. -/
def stretches : List U16 → List (U16 × Nat)
  | [] => []
  | s :: rest =>
    match stretches rest with
    | (f, n) :: more => if f = s + 1 ∧ n < 65535 then (s, n + 1) :: more else (s, 1) :: (f, n) :: more
    | [] => [(s, 1)]

/-- Anchors of a run whose mark holds `t` (R281): for each class present as many as its numbers take, class C last. A class C anchor's first
number is still its distance from the number after the last anchor. -/
def anchorsOf (c : Core) (t : Nat) (run : List Held) : List Record :=
  (([RClass.t, RClass.s, RClass.a]).flatMap (fun cls =>
    (stretches ((run.filter (fun h => h.base.cls == cls)).map (fun h => h.base.seq))).map (fun p => anchorRecord c t p.2 p.1.toNat cls)))
    ++ (let n := (run.filter (fun h => h.base.cls == .c)).length
        (List.range ((n + 65534) / 65535)).map (fun k => anchorRecord c t (Nat.min 65535 (n - 65535 * k)) (65535 * k % 65536) .c))

/-- Whether some record of the buffer is covered by an anchor sent and has not left. -/
def RecBuf.covering (b : RecBuf) : Bool := b.covered.any (fun n => n != 0)

/-- Open the ring's first run: take its mark off and, when a record of it would leave more than 1 s after its capture, queue its
anchors (R281). Records of the buffer that are older than the run's of their class leave first (R41). -/
def OvSource.openRun (s : OvSource) : OvSource :=
  match s.buf.ring with
  | .mark t :: rest =>
    let older := (runOf rest).any (fun h => match s.buf.held h.base.cls with
      | q :: _ => decide (q.ord < h.ord)
      | [] => false)
    if s.buf.ringRead = 0 || older || s.buf.covering then s
    else
      let run := runOf rest
      let b := { s.buf.popRing 1 with runOpen := true }
      if run.any (fun h => decide (s.core.ns - h.time > 1000000000)) then
        let a := anchorsOf s.core t run
        { s with buf := { b with anchorQ := a, anchors := b.anchors + a.length } }
      else { s with buf := b }
  | _ => s

/-- A queued anchor as it is placed: it takes the next class C number, and a class C anchor names the number after its own. -/
def OvSource.takeAnchor (s : OvSource) : Option (List Held × OvSource) :=
  match s.buf.anchorQ with
  | [] => none
  | r :: rest =>
    let t := s.buf.take1 .c
    let p := r.payload.toNat
    let first := (t.1.toNat + 1 + rest.length + bitsOf p 47 32) % 65536
    let p := if bitsOf p 17 16 = 2 then p / 2 ^ 48 * 2 ^ 48 + first * 2 ^ 32 + p % 2 ^ 32 else p
    let hs := t.2.holdAll s.core.ns [{ r with seq := t.1, payload := BitVec.ofNat 128 p }]
    some (hs.1, { s with buf := { hs.2 with anchorQ := rest, anchorWait := if rest.isEmpty then some 4096 else none } })

/-- A frame out of the ring's front: an anchor, or the next chain that has been read back, unless the run waits for its anchors. -/
def OvSource.ringFrame (s : OvSource) : Option (List Held × OvSource) :=
  let s := if s.buf.anchorQ.isEmpty then s.openRun else s
  match s.takeAnchor with
  | some r => some r
  | none =>
    if s.buf.anchorWait.isSome then none
    else
      let fr := firstChain (runOf s.buf.ring)
      let older := match fr with
        | h :: _ => (s.buf.held h.base.cls).any (fun q => decide (q.ord < h.ord))
        | [] => false
      if fr.isEmpty || older || decide (s.buf.ringRead < fr.length) then none
      else
        let b := { s.buf.popRing fr.length with replayed := s.buf.replayed + fr.length }
        let n := numberC b fr
        let e := ringEmptied (s.core.count oLinkReplayed fr.length) n.2
        some (n.1, { core := e.1, buf := e.2 })

/-- Whether a held record would leave more than 1 s after its capture (R144). -/
def OvSource.aged (s : OvSource) (h : Held) : Bool := decide (s.core.ns - h.time > 1000000000)

/-- The first record of a class in the buffer may leave before the ring's of that class (R41, R281). -/
def RecBuf.first (b : RecBuf) (cls : RClass) : Bool :=
  match b.held cls, b.ringOf cls with
  | h :: _, r :: _ => decide (h.ord < r.ord)
  | _ :: _, [] => true
  | [], _ => false

/-- Queue an anchor for the first class whose next record out of the buffer would leave more than 1 s after its capture (R144), unless an
anchor's records are still to go. -/
def OvSource.prepare (s : OvSource) : OvSource :=
  if !s.buf.anchorQ.isEmpty || s.buf.anchorWait.isSome || s.buf.covering || (s.buf.runOpen && s.buf.ringHas .c) then s
  else
    match ([RClass.a, RClass.t, RClass.s, RClass.c]).find? (fun cls =>
      s.buf.first cls && (firstChain (s.buf.held cls)).any (fun h => s.aged h)) with
    | none => s
    | some cls =>
      match s.buf.held cls with
      | [] => s
      | h :: rest =>
        let before : Nat := ((s.buf.ringOf cls).map (fun r => r.ord)).headD s.buf.ord
        let n := Nat.min 65535 ((h :: rest).takeWhile (fun q => decide (q.ord < before)
          && decide (Nat.max q.time h.time - Nat.min q.time h.time ≤ 1000000000))).length
        let r := anchorRecord s.core h.time n (if cls = .c then 0 else h.base.seq.toNat) cls
        { s with buf := { s.buf with anchorQ := [r], covered := s.buf.covered.set cls.code n } }

/-- A class's frame out of the buffer, when no older record of the class is in the ring (R281) and no anchor is awaited for it (R144). -/
def OvSource.bufFrame (s : OvSource) (cls : RClass) : Option (List Held × OvSource) :=
  if !s.buf.first cls then none
  else
    let q := s.buf.held cls
    let fr := firstChain q
    let n := s.buf.covered.getD cls.code 0
    let wait := if n = 0 then fr.any (fun h => s.aged h) else !s.buf.anchorQ.isEmpty || s.buf.anchorWait.isSome
    if fr.isEmpty || wait then none
    else
      let b := s.buf.setHeld (q.drop fr.length) cls
      let m := numberC { b with covered := b.covered.set cls.code (n - fr.length) } fr
      some (m.1, { s with buf := m.2 })

/-- The class A record that goes next, out of the buffer or the ring's front. -/
def OvSource.alarm (s : OvSource) : Option (Held × OvSource) :=
  match s.bufFrame .a with
  | some ([h], s) => some (h, s)
  | _ =>
    match s.buf.ring with
    | .held h :: _ =>
      if h.base.cls == .a then
        match s.ringFrame with
        | some ([h], s) => if h.base.cls == .a then some (h, s) else none
        | _ => none
      else none
    | _ => none

/-- Quanta of the deficit round robin by class code T, S, C: class C above S above T (R38). -/
def drrQuantum (cls : Nat) : Nat := if cls = 2 then 1040 else if cls = 1 then 520 else 260

/-- Deficit round robin over the candidate frames of classes C, S and T; `fuel` visits (R38). A frame starts only with credits for
all its records (R270). -/
def drrPick {σ : Type} (cand : Nat → Option (List Held × σ)) : Nat → LaneTx → Option (List Held × LaneTx × σ)
  | 0, _ => none
  | k + 1, t =>
    let c := t.turn
    let next := if c = 0 then 2 else c - 1
    match cand c with
    | some (fr, s) =>
      if t.avail c ≥ fr.length then
        let d := t.deficit.getD c 0
        if fr.length ≤ d then some (fr, { t with deficit := t.deficit.set c (d - fr.length) }, s)
        else
          let n := t.deficit.getD next 0
          drrPick cand k { t with turn := next, deficit := t.deficit.set next (n + drrQuantum next) }
      else drrPick cand k { t with turn := next, deficit := (t.deficit.set c 0).set next (t.deficit.getD next 0 + drrQuantum next) }
    | none => drrPick cand k { t with turn := next, deficit := (t.deficit.set c 0).set next (t.deficit.getD next 0 + drrQuantum next) }

/-- The next frame of class C, S or T: each class out of the buffer, or out of the ring when its front frame is of the class. -/
def OvSource.frame (t : LaneTx) (s : OvSource) : Option (List Held × LaneTx × OvSource) :=
  let s := s.prepare
  let ring := match s.ringFrame with
    | some (h :: r, s) => some (h.base.cls.code, h :: r, s)
    | _ => none
  drrPick (fun c =>
    match s.bufFrame (RClass.ofCode c) with
    | some x => some x
    | none => match ring with
      | some (k, fr, s) => if k = c then some (fr, s) else none
      | none => none) 8 t

/-- The Ovtan's slot source. -/
def ovSlots : SlotSource OvSource := { alarm := OvSource.alarm, frame := OvSource.frame }

/-- The anchors' flit has been acknowledged when no flit of that sequence number is left to acknowledge (R144). -/
def RecBuf.anchorAcked (b : RecBuf) (l : Lane) : RecBuf :=
  match b.anchorWait with
  | some s => if s < 4096 && !l.tx.retry.any (fun f => f.seq == s) then { b with anchorWait := none } else b
  | none => b

/-! ### Time commands at the Ovtan (R133, R138, R143) -/

/-- Emit a full time record with count 0 (R143). -/
def Ovtan.fullTime (o : Ovtan) : Ovtan :=
  let q := (o.core.quality true false o.core.up).toNat
  let o := o.onBuf (fun c b => emitTime c b (timePayload c.ns 0 0 false 0 q 0x01))
  { o with core := { o.core with time := { o.core.time with lastFull := o.core.up } } }

/-- Emit a quality-change record (subtype 0x03) when the unit's quality byte differs from `old`. -/
def Ovtan.qualityChange (o : Ovtan) (old : Byte) : Ovtan :=
  let q := o.core.quality true false o.core.up
  if q = old then o else o.onBuf (fun c b => emitTime c b (timePayload 0 0 0 false old.toNat q.toNat 0x03))

/-- A SERVO item: rate command, quality byte and bound (R133, R138). -/
def Ovtan.servo (o : Ovtan) (adj : Int) (bound : Nat) (byte : Byte) : Ovtan :=
  let old := o.core.quality true false o.core.up
  let t := o.core.time
  if t.forced then o
  else
    let t := { t with adj := adj, bound := bound, byte := byte, missed := 0, lastSync := o.core.up }
    let c := { o.core with time := t }
    if byte.toNat / 32 = 7 then
      if t.mode = .locked then
        let c := ({ c with time := { t with mode := .acquiring } }.bump oTimeLockLosses).raise 0x0403 0x0A [0, 0, 0]
        Ovtan.qualityChange { o with core := c } old
      else Ovtan.qualityChange { o with core := c } old
    else match t.mode with
      | .locked => Ovtan.qualityChange { o with core := c } old
      | .holdover => (Ovtan.qualityChange { o with core := c.exitHoldover true false o.core.up 0 0 (steppedAtTime t t.ns.toNat) } old).fullTime
      | _ => (Ovtan.qualityChange { o with core := c.enterLocked true false o.core.up 0 0 } old).fullTime

/-- A STEP item with a new step id: the step, its subtype 0x02 record, then a full time record (R271, R133, R143). -/
def Ovtan.stepItem (o : Ovtan) (step : Int) (quality : Byte) (id : Nat) : Ovtan :=
  if id = o.link.stepId ∨ id = 0 ∨ o.core.time.forced then o
  else
    let c := { o.core with time := { o.core.time with byte := quality } }
    let c := (c.stepClock true false o.core.up step).bump oTimeSteps
    let o := { o with core := c, link := { o.link with stepId := id } }
    let o := o.onBuf (fun c b => emitTime c b (timePayload (wrapInt 64 step) 0 0 false 0 quality.toNat 0x02))
    o.fullTime

/-! ### Lane -/

/-- The Ovtan's lane leaves Up with a cause (Table 10.5). -/
def Ovtan.laneDown (o : Ovtan) (cause : Nat) : Ovtan := o.onLane (fun c l => Sys2Proof.Machine.laneDown c l 0 0x08 cause)

/-- The chains of a list of records, each whole (R192). -/
def chainsOf : List Held → List (List Held)
  | [] => []
  | h :: rest =>
    if h.base.cont then
      match chainsOf rest with
      | c :: more => (h :: c) :: more
      | [] => [[h]]
    else [h] :: chainsOf rest

/-- Records of a class that stay in the buffer when LINK_SPILL is raised: those older than the ring's of the class (R41), and those an anchor sent
covers (R144). -/
def RecBuf.staying (b : RecBuf) (cls : RClass) : List Held :=
  let n := b.covered.getD cls.code 0
  let old := match (b.ringOf cls).getLast? with
    | some r => ((b.held cls).takeWhile (fun h => decide (h.ord < r.ord))).length
    | none => 0
  (b.held cls).take (Nat.max n old)

/-- Move the buffer's records to the ring in order of placement, chains whole (R280); what the ring cannot take is lost under R192 and R535. -/
def Ovtan.spillAll (o : Ovtan) : Ovtan × Nat :=
  let b := o.buf
  let all := ([RClass.c, .s, .a, .t]).flatMap (fun cls => chainsOf ((b.held cls).drop (b.staying cls).length))
  let merge := sortBy all (fun x y => decide (((x.map (fun h => h.ord)).headD 0) ≤ ((y.map (fun h => h.ord)).headD 0)))
  let o := { o with buf := { b with a := b.staying .a, c := b.staying .c, s := b.staying .s, t := b.staying .t, spilling := true } }
  merge.foldl (fun (p : Ovtan × Nat) hs =>
    match hs with
    | [] => p
    | h :: _ =>
      let share := Nat.min (p.1.core.num oTraceSpillShare) (p.1.core.used oRecordSpillSize / 2)
      let fits := h.base.cls != .t || decide (p.1.buf.ringT + 32 * hs.length ≤ share)
      match (if fits then ringPut p.1.core p.1.buf hs else none) with
      | some y => ({ p.1 with core := y.1, buf := y.2 }, p.2 + hs.length)
      | none =>
        if h.base.cls == .c then ({ p.1 with buf := { p.1.buf with waitC := p.1.buf.waitC ++ hs } }, p.2)
        else
          let entry := if h.base.type == 0x01 then bitsOf h.base.payload.toNat 31 24 else 0xFF
          (p.1.onBuf (fun c b => if h.base.cls == .s then loseSample c b hs.length h.base.step.toNat entry
            else (c, b.addGap h.base.cls 0x02 hs.length h.base.step.toNat entry 0)), p.2)) (o, 0)

/-! ### Boundary (spec/09) -/

/-- The status word (Table 9.3). -/
def BndPart.statusWord (b : BndPart) : Nat :=
  Nat.min b.restarts 65535 * 2 ^ 32 + (if b.bist.exhausted then 2 ^ 27 else 0) + (if b.bist.repaired then 2 ^ 26 else 0)
    + (if b.bist.countersPass then 2 ^ 25 else 0) + (if b.bist.memoryPass then 2 ^ 24 else 0) + b.cause % 256 * 65536
    + b.fuseStatus % 256 * 256 + b.boot.code

/-- What the fuse image becomes in the dictionary's manufacture values (Table 9.4). -/
def fuseMade (img : Bytes) : Store :=
  let cal (k : Nat) : Nat := if k < 96 then 0x0B010000 + k * 256 else 0x0B040000 + (k - 96) * 256
  [(oIdentUid, slice img 0 16), (oSessionSalt, slice img 16 16)]
    ++ (List.range 98).flatMap (fun k =>
      [(cal k + 1, slice img (80 + 8 * k) 4), (cal k + 2, slice img (84 + 8 * k) 4), (cal k + 3, slice img 64 10)])

/-- Whether a fuse image's check value is good (R249). -/
def fuseGood (img : Bytes) : Bool := img.length == 1024 && crc32 (img.take 1020) == leAt img 1020 4

/-- Meridian after a restart: Off cleared, or Free when ANGLE.LOCK_MODE's default is on (Table 5.1). -/
def AnglePart.fresh (free : Bool) : AnglePart :=
  { mode := if free then .free else .off, tm := 0, lq := 0, step := 0, seen := false, lastAt := 0, good := 0, out := 0, cand := none,
    strayed := false, early := false, slow := false, jump := false, overdue := false, fired := 0, cancelled := 0, skipped := 0,
    armed := [], timed := [] }

/-- Time after a restart: counting from 0, unlocked (R139). -/
def TimePart.fresh : TimePart :=
  { ns := 0, frac := 0, adj := 0, mode := .unlocked, srcState := 7, bParent := 0, theta := 0, delay := 0, thetas := [], valid := 0,
    bad := 0, integ := 0, missed := 0, sourceLost := false, useP1 := false, refPresent := true, forced := false, holdSince := none,
    bEntry := 0, dayNoted := false, steppedAt := none, byte := 0xEF, bound := 0, delayEpisode := false, lastSync := 0, lastFull := 0, tod := none }

/-- The record buffer after a restart. -/
def RecBuf.fresh : RecBuf :=
  { a := [], c := [], s := [], t := [], ring := [], lastMark := none, waitC := [], ringPos := 0, ringAcked := 0, ringWriting := 0,
    ringRead := 0, ringReading := 0, seq := [0, 0, 0, 0], pend := [], tokens := 64000000000, tokensAt := 0, dropEpisode := false,
    lossEpisode := false, spilling := false, replaying := false, ord := 0, covered := [0, 0, 0, 0], spillOpen := false, spilled := 0, replayed := 0, anchors := 0, runOpen := false,
    anchorQ := [], anchorWait := none, ringOff := false, failedMacros := 0, alarmed := false }

/-- The capture side after a restart; `cg` and `gated` are the power-domain logic's, which IDENT.RESTART keeps (R251). -/
def Capture.fresh (cg gated : Nat) (c : Core) : Capture :=
  { ctr := List.replicate 576 0, base := List.replicate 4 (List.replicate 576 0), resets := List.replicate 576 0,
    snap := List.replicate 576 0, delta := List.replicate 576 0, deltaReset := List.replicate 576 false,
    chans := List.replicate 96 Chan.none, chansPrev := List.replicate 96 Chan.none, r := List.replicate 96 Chan.none, tripped := [], prev := List.replicate 16 0,
    cgNote := cg, gated := gated,
    prog := standardWords (c.num oCountStdRange) (c.num oSenseStdRange) ++ List.replicate 992 0, queue := [], run := none, latch := none,
    fmonAt := List.replicate 8 0, stretched := [], repaired := [], dead := [] }

/-- Trace after a restart; `gates` and `req` are the power-domain logic's. -/
def TracePart.fresh (gates : List Gate) (flushes : List Flush) (req : Nat) : TracePart :=
  { mode := .off, n := 0, pre := [], queue := [], presented := List.replicate 16 0, pend := [], generation := 0,
    sinceSync := List.replicate 16 0, filterSync := [], flushes := flushes, gates := gates, pdReq := req, dropEpisode := false,
    accountAt := 0, grantEnd := none }

/-- Dew channels after a restart, reset under their default configuration (R221). -/
def dewFresh (c : Core) : List DewCh :=
  (List.range 8).map (fun k =>
    DewCh.reset { reg := 0, addr := 0, seq := 0, queue := [], held := [], fed := 0, feeder := none } (c.dewCfg k))

/-- Contrail and Dewpoint after a restart. -/
def DmaPart.fresh : DmaPart :=
  { ch := List.replicate 8 DmaCh.idle, tokens := 0, tokensAt := 0, last := 7, overlaps := [], mem := [], dp := none, dpLast := zeros 32 }

/-- A unit's shared part after a restart (R71, R79): dictionary defaults with the durable values `keep`, keys as kept, no sessions,
commits or kept responses. -/
def Core.restarted (c : Core) (keep : Store) (time : TimePart) (angle : AnglePart) : Core :=
  { c with store := keep, waitX := [], waitB := [], sessions := [], handshakes := [], locks := c.locks, commits := [], kept := [],
           pairGood := [], pairBad := [], time := time, angle := angle, cuts := [], cutLast := zeros 16, events := [],
           commitLost := 0 }

/-- The Ovtan's state on entering Self-test after a warm restart, or Ready's defaults after a cold one: everything but the fuse
image, the repairs and the power-domain logic is cleared (R251). Class X values that waited take effect (R72). -/
def Ovtan.clear (o : Ovtan) : Ovtan :=
  let keys : Keys := { roles := List.replicate 3 (zeros 32) ++ [slice o.bnd.fuse 32 32], tenants := [], tree := zeros 32 }
  let lost := o.core.commits.length
  let draw := o.core.draw 0 32
  let core := (draw.2).restarted o.core.waitX TimePart.fresh (AnglePart.fresh true)
  let core := { core with keys := keys, locks := [], commitLost := lost, made := fuseMade o.bnd.fuse }
  let epoch := Nat.max 1 draw.1.toNat
  let cap := { Capture.fresh o.cap.cgNote o.cap.gated core with repaired := o.cap.repaired, dead := o.cap.dead }
  let gates := o.trace.gates.map (fun g => { g with prior := true })
  { o with core := core, buf := { RecBuf.fresh with failedMacros := o.buf.failedMacros, tokensAt := 0 }, cap := cap,
           trace := TracePart.fresh gates o.trace.flushes o.trace.pdReq, dew := dewFresh core, dma := DmaPart.fresh,
           link := { lane := Lane.fresh epoch, stepId := 0, servoSeen := false, spillRaised := false } }

/-- Entry into Ready (Table 9.5, R251): time counts from 0, the lane starts training and counts as out of Up, a sleep marker for each
sleeping domain. -/
def Ovtan.enterReady (o : Ovtan) : Ovtan :=
  let hold := o.bnd.bist.deadMacros.any (fun m => m == 11 || m == 12)
  let l0 := { o.link.lane with phy := { o.link.lane.phy with downAt := some o.core.up } }
  let lane := if hold || !o.core.flag (oLinkDzEnable + 1) then l0 else l0.train o.core.up
  let o : Ovtan := { o with bnd := { o.bnd with boot := .ready }, link := { o.link with lane := lane } }
  let o := if o.core.commitLost > 0 then o.onCore (fun c => c.raise 0x0204 0x09 [c.commitLost]) else o
  o.trace.gates.foldl (fun o g => o.onTrace (fun x => x.marker51 g.gate 0 g.domain 0x01 true)) o

/-- Idle states of Table 9.8, elements 0x01–0x06. -/
def blockIdleState (e : Nat) : Nat := if e = 2 ∨ e = 4 then 2 else 1

/-- BLOCK_STATE on entering Ready: each block in its idle state until work arrives (R256, log entry 7). -/
def blocksIdle : List Nat := (List.range 6).map (fun i => blockIdleState (i + 1))

/-- Ready, with the blocks in their idle states and TIME counting from 0. -/
def Ovtan.ready (o : Ovtan) : Ovtan :=
  let o := o.enterReady
  { o with bnd := { o.bnd with blocks := blocksIdle }, core := { o.core with time := { TimePart.fresh with refPresent := o.core.time.refPresent } } }

end Sys2Proof.Machine
end

