-- ==== Sys2Proof/Machine/Board.lean ====
section
/-! DEFINITION. Reset, boot and restart of a Fabato, its board signals, sensors and memory devices (R304, R499, R503, R504, R506–R523). -/
namespace Sys2Proof.Machine

/-! ### Fresh parts -/

def FabLane.fresh (epoch : Nat) : FabLane :=
  { lane := Lane.fresh epoch, out := [], seqC := 0, step := none, stepId := 0, exch := 0, servo := false, waiting := false, reqAt := 0 }

def JPort.fresh : JPort := { subs := [], oper := Gcl.open_, pending := none, alarms := [] }

/-- Physical lane of a logical die port at restart (R426). -/
def lanesAtRestart : List Nat := (List.range 128).map (fun p => 17 * (p / 16) + p % 16)

def HaloPart.fresh : HaloPart :=
  { members := List.replicate 136 MemberServo.fresh, ptp := [], pps := false, ppsFall := none, ppsSecond := 0,
    trig := List.replicate 4 { level := false, pulseEnd := none, fired := 0, next := 0, done := false } }

def WindowPart.fresh : WindowPart :=
  { opens := [], closed := [], lags := List.replicate 128 0, spread := 0, base := 0, past := [] }

def JetPart.fresh (seq : List U16) : JetPart :=
  { engines := List.replicate 8 { last := 0, st := [] }, checks := [], anchors := [], chains := [], subs := [], ports := List.replicate 32 JPort.fresh, overflow := false,
    seq := seq, store := [], loft := [], stalled := [], merge := [], mergeLast := none, vgap := [], vEpisode := false }

def CondPart.fresh : CondPart := { ctxs := [], errs := [], exhausted := false }

def ParentPart.fresh : ParentPart := { onP1 := List.replicate 4 false, drain := List.replicate 4 false, hosting := false }

/-- The middle of a group at restart; link epochs are those given, lanes first. -/
def Group.fresh (core : Core) (seq : List U16) (epoch : Nat → Nat) : Group :=
  { core := core, halo := HaloPart.fresh, win := WindowPart.fresh, lanes := (List.range 136).map (fun n => FabLane.fresh (epoch n)), laneMap := lanesAtRestart,
    sky := (List.range 24).map (fun p => SkyPort.fresh (epoch (136 + p))), parent := ParentPart.fresh, jet := JetPart.fresh seq, cond := CondPart.fresh }

def Model.fresh (m : Nat) : Model :=
  { idx := m, staging := [], shadow := none, active := none, reserve := [], switch := none, force := none, queue := [], held := [], episode := false, fault := 0,
    scored := 0, unscored := 0, ppm := 1000000 }

def AnalyticsPart.fresh (mask : Nat) : AnalyticsPart :=
  { reds := [], masks := [], planMask := mask, feats := [], models := (List.range 64).map Model.fresh, sets := [], shat := [], ra := List.replicate 128 0,
    dv := List.replicate 128 (0, 0) }

/-- Roles at restart: CELL.SPARE_INIT's spares, and a Cell that is a permanent candidate failed (R399). -/
def cellsAtRestart (init : Nat) (bad : Nat → Bool) (up : Nat) : List Cell :=
  (List.range 52).map (fun i => { Cell.start (if bad i then .failed else if init.testBit i then .spare else .active) with lastTest := up, lastWork := up })

def CellPart.fresh (cells : List Cell) (up out : Nat) (dzOut : List Bool) (skyOut : Nat) : CellPart :=
  { cells := cells, places := [], inputs := [], units := [], turn := List.replicate 52 0, fillQueue := [], fill := none, test := none, readmit := [], cands := [],
    dzOut := dzOut, skyOut := skyOut, lpddr := (out, 0xFF), lpddrTwo := false, skyTries := List.replicate 32 0, healthLast := 0, activeLast := 48, satSeen := 0,
    satFlags := 0, satStart := up, satHeld := List.replicate 7 0, ingestBusy := List.replicate 8 0, ingestLoad := List.replicate 8 0, portBusy := List.replicate 32 0,
    blockAt := List.replicate 100 up, blockState := List.replicate 100 0 }

def FencePart.fresh : FencePart :=
  { bucket := { tokens := 0, t := 0, runs := [] }, reqs := [], suspicion := 0, decisions := [], rv := List.replicate 128 { value := 0, at_ := 0, majority := false },
    fenced := 0, health := List.replicate 128 0, kats := [], votes := [], decNum := 0, reqNum := 0, verdNum := 0, alarmNum := 0, katNum := 0, diverged := [],
    halted := none, failed := false, coalesce := List.replicate 128 0, unwell := 0 }

def SundogPart.fresh (empty : Bool) : SundogPart :=
  { state := .alone, path := 0xFFFFFFFF, uid := 0, feed := 0, coFed := false, seq := 0, journal := [], peerSeq := 0, mirror := [], gen := List.replicate 24 (0, 0, 0),
    snaps := [], refill := (0, 0, 0, 0), load := [], loaded := true, later := [], stored := [], handBack := false, hosting := none, hostLog := [], gaps := [],
    cutLag := [], lastSnap := 0, pushAt := 0, pushTime := 0, hostPush := 0, lostAt := none, noKey := false, empty := empty, refillAt := 0, linkUp := false,
    bulkFull := false, askHost := false, last := [] }

def HorizonPart.fresh : HorizonPart :=
  { roster := [], swaps := [], valid := false, startAt := 0, comm := [], captures := [], invalid := [], full := false, upLast := 0 }

def CastPart.fresh : CastPart :=
  { cuts := [], results := [], outside := [], channel := [], samples := [], wf := [], graph := [], jobs := [], reqs := [], reqNum := 0 }

def AlmanacPart.fresh : AlmanacPart :=
  { log := [], refused := 0, clearing := none, queue := [], dropped := 0, seen := 0, histories := [], sparesUsed := 0, beyond := 0, stopped := false, hours := 0,
    hoursAt := 0, cycles := 0 }

def FwPart.fresh : FwPart :=
  { flash := [], running := [], staging := [], stage := 0, fault := 0, revoked := false, fetching := false, recoveries := 0, activate := none, source := 0, waiting := false,
    recovering := false, since := 0, open_ := true, torn := false }

def BoardPart.fresh : BoardPart :=
  { boot := 0, hold := 0, por := false, straps := 0, alert := false, trip := false, clean := true, mramHeld := none, reference := false, refPll := 3,
    temps := List.replicate 16 0, convAt := none, belowAt := none, hot := List.replicate 16 false, rails := List.replicate 12 0, modules := [false, false], lpFail := [],
    margins := List.replicate 24 0, trainAt := 0, restarts := 0, cause := 0, cellPass := false, loftPass := false, bist := [], storeGib := 64 }

def ForwardPart.fresh : ForwardPart :=
  { pending := [], fans := [], clients := [], holdoff := [], nextMsg := 1, nextFan := 1, trace := [], overwritten := none, lostTrace := [], full := false,
    exporting := none }

/-- The shared part of a group as made. -/
def groupCore (kind up free : Nat) (sent : List Sent) : Core :=
  { kind := kind, path := 0xFFFFFFFF, up := up, store := [], waitX := [], waitB := [], made := [],
    keys := { roles := List.replicate 4 (zeros 32), tenants := [], tree := zeros 32 }, sessions := [], handshakes := [], locks := [],
    commits := [], kept := [], pairGood := [], pairBad := [], time := TimePart.fresh, angle := AnglePart.fresh true, cuts := [],
    cutLast := zeros 16, events := [], sent := sent, free := free, commitLost := 0 }

/-- A Fabato as made, held by `POR_N`: MRAM and flash empty. -/
def Fabato.made : Fabato :=
  { g := Group.fresh (groupCore 1 0 0 []) [0, 0, 0, 0] (fun _ => 1), an := AnalyticsPart.fresh 0, cel := CellPart.fresh (cellsAtRestart 0x0008004002001000 (fun _ => false) 0) 0 0xFF (List.replicate 136 false) 0,
    fen := FencePart.fresh, sun := SundogPart.fresh true, hor := HorizonPart.fresh, cast := CastPart.fresh, loft := List.replicate 16 LoftSlot.fresh,
    alm := AlmanacPart.fresh, fw := FwPart.fresh, board := BoardPart.fresh, fwd := ForwardPart.fresh }

/-! ### Restart -/

/-- Token budget by level: a tray, a rack, a row that is a root (FENCE.BUDGET). -/
def budgetOf (kind : Nat) (root : Bool) : Nat := if kind = 1 then 2 else if kind = 2 then 6 else if root then 24 else 0

/-- Values worked out at restart that dictionary defaults rest on. -/
def Core.remade (c : Core) : Core := { c with made := storeInsert c.made oFenceBudget (leBytes 4 (budgetOf c.kind (planHeader (c.usedBytes oHorizonPlanHeader)).root)) }

/-- The durable part of a stored configuration, with the values that waited for a restart. -/
def Core.kept2 (c : Core) : Store := c.waitX.foldl (fun s x => storeInsert s x.1 x.2) (c.store.filter (fun x => isDurable c.kind x.1))

/-- Everything a restart clears is cleared: what stays is the durable set, the partner's copy, the manufacture image, Almanac and the flash. -/
def Fabato.cleared (f : Fabato) : Fabato :=
  let c0 := f.core
  let ep (i : Nat) : Nat := Nat.max 1 (Config.freeBits 32 0 (c0.free + i)).toNat
  let c : Core := (c0.restarted c0.kept2 TimePart.fresh (AnglePart.fresh true)).remade
  let c : Core := { c with free := c0.free + 160, commitLost := c0.commits.length, path := (planHeader (c.usedBytes oHorizonPlanHeader)).ownPath }
  let bad (slot : Nat) : Bool := f.permanent slot
  let out := if f.cel.lpddr.2 ≠ 0xFF then f.cel.lpddr.2 else f.cel.lpddr.1
  let cel : CellPart := CellPart.fresh (cellsAtRestart (c.num oCellSpareInit) (fun i => bad (slotCell i)) c0.up) c0.up out
    ((List.range 136).map (fun n => bad (slotDz n))) (ofBits ((List.range 32).filter (fun n => bad (slotSky n))))
  let fen : FencePart := { FencePart.fresh with
    bucket := f.fen.bucket, suspicion := f.fen.suspicion, decisions := f.fen.decisions, rv := f.fen.rv, fenced := f.fen.fenced, decNum := f.fen.decNum,
    reqNum := f.fen.reqNum, verdNum := f.fen.verdNum, alarmNum := f.fen.alarmNum, katNum := f.fen.katNum, diverged := f.fen.diverged }
  let empty := decide (f.durableMram.length ≤ 2)
  let sun : SundogPart := { SundogPart.fresh empty with
    path := f.sun.path, uid := f.sun.uid, feed := f.sun.feed, coFed := f.sun.coFed, seq := f.sun.seq, journal := f.sun.journal, peerSeq := f.sun.peerSeq, mirror := f.sun.mirror,
    pushAt := c0.up, last := f.sun.last, loaded := !empty }
  { f with
    g := Group.fresh c f.g.jet.seq ep, an := AnalyticsPart.fresh (c.num oAngleGroupRef), cel := cel, fen := fen, sun := sun,
    hor := { f.hor with captures := [], swaps := [] }, cast := { CastPart.fresh with jobs := f.cast.jobs }, loft := List.replicate 16 LoftSlot.fresh,
    alm := { f.alm with seen := 0 },
    fw := { f.fw with staging := [], stage := 0, fault := 0, fetching := false, activate := none, recovering := false, waiting := false, torn := f.fw.torn || f.fw.stage == 4 },
    board := { f.board with temps := List.replicate 16 0, convAt := none, hot := List.replicate 16 false, belowAt := none, rails := List.replicate 12 0, refPll := 3, cellPass := false, loftPass := false,
                            bist := [] },
    fwd := { ForwardPart.fresh with nextMsg := f.fwd.nextMsg, nextFan := f.fwd.nextFan } }

/-- Drive `ALERT_N` (asserted: low). -/
def Fabato.drive (f : Fabato) (pin : Nat) (asserted : Bool) : Fabato := f.onCore (fun c => c.send (.pin pin (!asserted)))
def pinAlert : Nat := 20
def pinTrip : Nat := 21

/-- LPDDR training of a boot (R518): one device out at most. -/
def Fabato.train (f : Fabato) (failing margins : List Nat) : Fabato :=
  let failing := failing.filter (fun d => decide (d < 24))
  let f : Fabato := { f with board := { f.board with lpFail := failing, margins := margins } }
  let out := (if f.cel.lpddr.1 = 0xFF then failing else f.cel.lpddr.1 :: failing).eraseDups
  match out with
  | [] => { f with board := { f.board with hold := 0, boot := 1 } }
  | [d] =>
    let f := if failing.isEmpty then f else f.chargeLpddr d true 0x2104 [d]
    { f with cel := { f.cel with lpddr := (d, f.cel.lpddr.2) }, board := { f.board with hold := 0, boot := 1 } }
  | l =>
    (({ f with board := { f.board with hold := 3, boot := 0, alert := true, trainAt := f.up } } : Fabato).romEntry 0x2104 0xFF l).drive pinAlert true

/-- A restart that power survives: IDENT.RESTART, or a firmware activation (R488, R504). The devices train as they did before. -/
def Fabato.restart (f : Fabato) (update : Bool) : Fabato :=
  let f := (f.onCore (fun c => c.closeSessions (fun _ => true) 6)).almanacTake
  let f := f.cleared
  let f : Fabato := { f with board := { f.board with boot := 0, restarts := Nat.min 65535 (f.board.restarts + 1), cause := 1 },
                             sun := { f.sun with askHost := update && decide (f.core.kind ≥ 2) } }
  f.train f.board.lpFail f.board.margins

/-- The regions of LPDDR with a trace store that fits (R304): requested and granted GiB. -/
def Fabato.storeFit (f : Fabato) : Nat × Nat :=
  let want := f.core.num oTraceStoreSize / 2 ^ 30
  let total := if f.cel.lpddr.1 = 0xFF then 384000000000 else 368000000000
  let room := (total - 82 * 2 ^ 30) / 2 ^ 30
  (want, Nat.min want room)

/-- Contexts whose configuration stands and that no Cell holds yet are placed (R298, R433). -/
def Fabato.restorePlaces (f : Fabato) : Fabato :=
  let f := f.core.store.foldl (fun (f : Fabato) x =>
    let o := x.1
    if objArea o = objArea (oRed 0 1) ∧ o ≥ oRed 0 1 ∧ (o - oRed 0 1) % 256 = 0 ∧ (o - oRed 0 1) / 256 < 4096 then f.redCommit ((o - oRed 0 1) / 256)
    else if objArea o = objArea (oFeat 0 1) ∧ o ≥ oFeat 0 1 ∧ (o - oFeat 0 1) % 256 = 0 ∧ (o - oFeat 0 1) / 256 < 256 ∧ o = oFeat ((o - oFeat 0 1) / 256) 1 then f.featCommit ((o - oFeat 0 1) / 256)
    else if objArea o = objArea (oSet 0 1) ∧ o ≥ oSet 0 1 ∧ (o - oSet 0 1) % 256 = 0 ∧ (o - oSet 0 1) / 256 < 64 ∧ o = oSet ((o - oSet 0 1) / 256) 1 ∧ (f.cel.place (hDrift ((o - oSet 0 1) / 256))).isNone
      then f.driftCommit ((o - oSet 0 1) / 256)
    else f) f
  f.an.models.foldl (fun (f : Fabato) x =>
    match x.active with
    | some b =>
      if (f.cel.place (hGang x.idx 0)).isSome then f
      else match f.reserveCells x.idx (splitTrees b (modelHdr b)) with
        | some cells => cells.zipIdx.foldl (fun (f : Fabato) c => f.placeOn (hGang x.idx c.2) (some c.1)) f
        | none => f
    | none => f) f

/-- Ready (Table 20.8): the image starts; time counts from 0; lanes and mapped Sky ports start training; the roster and schedules start over. -/
def Fabato.enterReady (f : Fabato) : Fabato :=
  let c0 := f.core
  let ref := f.board.reference && c0.num oTimeFreqSrc == 0
  let t : TimePart := { TimePart.fresh with refPresent := ref, mode := if c0.noSrc then .locked else .unlocked, lastSync := c0.up, lastFull := c0.up }
  let f := f.onCore (fun c => { c with time := t, angle := AnglePart.fresh (c.num oAngleLockMode == 1) })
  let f := if c0.noSrc && !ref then f.onCore (fun c => c.enterHoldover false true c.up 1) else f
  let f : Fabato := { f with board := { f.board with boot := 3, belowAt := none } }
  let lane (n : Nat) (l : FabLane) : FabLane :=
    let x := l.lane.disable c0.up
    let x := { x with phy := { x.phy with downAt := some c0.up } }
    { l with lane := if f.core.kind = 1 ∧ f.core.flag (oLinkDzEnable + n + 1) ∧ !f.cel.dzOut.getD n false then x.train c0.up else x }
  let port (p : Nat) (s : SkyPort) : SkyPort :=
    let m := f.core.skyMap p
    if m.lanes = 0 then s else { s with state := .training, tryWidth := m.lanes, tryAt := c0.up, downAt := some c0.up }
  let f := f.onG (fun g => { g with lanes := g.lanes.mapIdx lane, sky := g.sky.mapIdx port })
  let f := (List.range 4).foldl (fun (f : Fabato) i => f.onG (fun g => g.trigStart i)) f
  let f := f.core.store.foldl (fun (f : Fabato) x =>
    if oJetGclAdmin < x.1 ∧ x.1 ≤ oJetGclAdmin + f.core.num oJetGclAdmin then f.onG (fun g => g.gclCommit (x.1 - oJetGclAdmin - 1) x.2) else f) f
  let f := f.onCore (fun c => c.armTimed c.ns)
  let f := f.horizonRestart
  let h := imageHead f.fw.running
  let f := f.romEntry 0x1B01 0xFF [h.release, h.build % 2 ^ 64, h.build / 2 ^ 64, f.board.cause]
  let f := if f.core.commitLost > 0 then f.onCore (fun c => c.raise 0x0204 c.dictSub [c.commitLost]) else f
  let fit := f.storeFit
  let f := if fit.1 = fit.2 then f else f.raise 0x0B06 0xFF [fit.1, fit.2]
  let f : Fabato := { f with board := { f.board with storeGib := fit.2 }, cel := { f.cel with activeLast := f.cellActive, satStart := f.up } }
  let f : Fabato := { f with cel := { f.cel with healthLast := f.spareHealth } }
  if f.sun.empty then f else f.restorePlaces

/-- Cell, Loft and mesh SRAM tests end: the failing Cells, and whether Loft's and the mesh's passed (R307, R499). -/
def Fabato.selfTested (f : Fabato) (cells : List Nat) (loft : Bool) : Fabato :=
  if f.board.boot ≠ 2 then f
  else
    let f : Fabato := { f with board := { f.board with cellPass := cells.isEmpty, loftPass := loft, bist := cells.map (BitVec.ofNat 8) } }
    f.enterReady

/-- POWER.STATUS_WORD of a group (R307). -/
def BoardPart.word (b : BoardPart) : Nat :=
  b.boot + b.cause * 2 ^ 16 + (if b.cellPass then 2 ^ 24 else 0) + (if b.loftPass then 2 ^ 25 else 0) + b.restarts * 2 ^ 32

/-! ### `POR_N`, straps, brown-out (R508, R509, R514) -/

/-- `POR_N` falls: the chip is held, `ALERT_N` releases, the controlled power-down is noted in MRAM unless a brown-out has stopped its writes. -/
def Fabato.porAssert (f : Fabato) : Fabato :=
  if !f.board.por then f
  else
    let f := f.almanacTake
    let f := if f.board.alert then f.drive pinAlert false else f
    let f : Fabato := match f.board.mramHeld with
      | none => f
      | some (own, mirror) =>
        let blank : Fabato := { f with g := { f.g with core := { f.core with store := [], waitX := [], locks := [], keys := { roles := List.replicate 4 (zeros 32), tenants := [], tree := zeros 32 } } },
                                       hor := HorizonPart.fresh, fen := FencePart.fresh, cast := CastPart.fresh, alm := { f.alm with histories := [] } }
        let back := own.foldl (fun (x : Fabato) i => x.loadItem i.1 (some i.2)) blank
        { back with sun := { back.sun with mirror := mirror } }
    let held := f.board.mramHeld.isSome
    let f := f.cleared
    { f with board := { f.board with boot := 0, hold := 0, por := false, alert := false, clean := !held, mramHeld := none } }

/-- `POR_N` rises: straps are sampled, and boot begins or holds. `power`: the always-on supply came up since it fell. -/
def Fabato.porRelease (f : Fabato) (mode : Nat) (flashOwned power reference : Bool) (failing margins : List Nat) : Fabato :=
  if f.board.por then f
  else
    let mode := mode % 4
    let straps := mode + (if flashOwned then 0 else 4)
    let f := if f.board.trip then f.drive pinTrip false else f
    let f : Fabato := { f with alm := { f.alm with cycles := if power then f.alm.cycles + 1 else f.alm.cycles } }
    let f : Fabato := { f with board := { f.board with por := true, straps := straps, trip := false, reference := reference, restarts := 0, cause := 0, hold := 0, boot := 0 } }
    let f := if f.board.clean then f else f.romEntry 0x2106 0xFF [f.alm.cycles, f.alm.hours]
    let f : Fabato := { f with board := { f.board with clean := false } }
    if mode = 3 then
      (({ f with board := { f.board with hold := 1, alert := true } } : Fabato).romEntry 0x2103 0xFF [straps]).drive pinAlert true
    else if flashOwned then { f with board := { f.board with hold := 2 }, fw := { f.fw with open_ := true } }
    else
      let f := f.onCore (fun c => (({ c with kind := mode + 1 } : Core)).remade)
      f.train failing margins

/-- `VDD_AON` or `VDD_MRAM` falls 5 % below nominal: MRAM keeps what it has (R514). -/
def Fabato.brownout (f : Fabato) : Fabato :=
  let f := f.almanacTake
  if f.board.mramHeld.isSome then f else { f with board := { f.board with mramHeld := some (f.durableMram, f.sun.mirror), clean := false } }

/-- 60 s in the training hold: training starts again (R518). -/
def Fabato.trainRetry (f : Fabato) (failing margins : List Nat) : Fabato :=
  if f.board.hold = 3 ∧ f.up ≥ f.board.trainAt + 60 * secNs then
    let r := f.train failing margins
    if r.board.hold = 3 then r else ({ r with board := { r.board with alert := false } } : Fabato).drive pinAlert false
  else f

/-! ### Sensors (R522) -/

/-- A 1 ms conversion: calibrated temperatures and rails (R89), and the alert threshold of now. -/
def Fabato.converted (f : Fabato) (temps rails : List Nat) : Fabato :=
  if f.board.boot ≠ 3 then f
  else
    let t := (List.range 16).map (fun n => toF32 (calibratedBy f.core (0x0B070000 + n * 256) (f32Val (temps.getD n 0))))
    let r := (List.range 12).map (fun n => toF32 (calibratedBy f.core (0x0B071000 + n * 256) (f32Val (rails.getD n 0))))
    let th := f32Val (f.core.num oPowerThermAlert)
    let hot := t.map (fun x => fle th (f32Val x))
    let low := t.all (fun x => fle (fadd (f32Val x) (fofInt 3)) th)
    let was := f.board.hot
    let f : Fabato := { f with board := { f.board with temps := t, convAt := some f.ns, rails := r, hot := hot, belowAt := if low then (match f.board.belowAt with | some s => some s | none => some f.up) else none } }
    (List.range 16).foldl (fun (f : Fabato) n =>
      if hot.getD n false && !was.getD n false then
        let f := if f.board.alert then f else ({ f with board := { f.board with alert := true } } : Fabato).drive pinAlert true
        (f.raise 0x2101 0xFF [n, t.getD n 0]).numbered f.core.path (t.getD n 0) 0x37 0x0A
      else f) f

/-- Every sensor has stayed 3 °C below for 1 s: `ALERT_N` releases. -/
def Fabato.alertRelease (f : Fabato) : Fabato :=
  match f.board.belowAt with
  | some t => if f.board.alert ∧ f.board.hold = 0 ∧ f.up ≥ t + secNs then ({ f with board := { f.board with alert := false } } : Fabato).drive pinAlert false else f
  | none => f

/-- The comparator at 115 °C (R522): the trip latches, and every domain but management and Almanac is held in reset. The temperature is f32 bits. -/
def Fabato.thermalTrip (f : Fabato) (sensor temp : Nat) : Fabato :=
  if f.board.trip ∨ !f.board.por ∨ !fle (fofInt 115) (f32Val temp) then f
  else
    let f := f.almanacTake
    let f := (f.romEntry 0x2102 0xFF [sensor, temp]).drive pinTrip true
    let f := f.cleared
    { f with board := { f.board with trip := true, boot := 0, hold := 4 } }

/-- `MOD_PRES_N` of a management port changes (R517). -/
def Fabato.moduleChange (f : Fabato) (port : Nat) (present : Bool) : Fabato := { f with board := { f.board with modules := f.board.modules.set port present } }

/-- POWER.REFPLL_STATE (R515): what the reference PLL runs from now. -/
def Fabato.pllState (f : Fabato) : Nat :=
  if f.board.boot ≠ 3 then 3 else if f.core.time.refPresent then 0 else if f.core.num oTimeHoldoverOsc = 1 then 2 else 1

/-- A change of POWER.REFPLL_STATE is reported. -/
def Fabato.pllScan (f : Fabato) : Fabato :=
  let s := f.pllState
  if s = f.board.refPll then f else ({ f with board := { f.board with refPll := s } } : Fabato).raise 0x2105 0x70 [f.board.refPll, s]

/-! ### Activation (R503) -/

/-- The update restarts now: FW_UPDATE_START, then the restart. -/
def Fabato.updateStart (f : Fabato) : Fabato :=
  (f.raise 0x1B07 0x74 [(imageHead f.fw.running).release, (imageHead f.fw.flash).release]).restart true

/-- The commit instant of FW.ACTIVATE. -/
def Fabato.fwActivate (f : Fabato) : Fabato :=
  match f.updateHeld with
  | none => if (lagOf f.sun.journal f.ns).1 = 0 then f.updateStart else { f with fw := { f.fw with activate := some f.up } }
  | some c => if f.core.flag oFwActivateForce ∧ f.fw.stage ≠ 4 then f.updateStart else f.holdUpdate c

/-- The lag has reached 0 while an activation waits. -/
def Fabato.activateScan (f : Fabato) : Fabato :=
  match f.fw.activate with
  | some t =>
    if f.up ≥ t + 100000000 then f
    else match f.updateHeld with
      | some c => if f.core.flag oFwActivateForce ∧ f.fw.stage ≠ 4 then f.updateStart else f.holdUpdate c
      | none => if (lagOf f.sun.journal f.ns).1 = 0 then f.updateStart else f
  | none => f

/-- 100 ms without lag 0. -/
def Fabato.activateTimeout (f : Fabato) : Fabato :=
  match f.fw.activate with
  | some t =>
    if f.up < t + 100000000 then f
    else if f.core.flag oFwActivateForce then f.updateStart else f.holdUpdate 3
  | none => f

end Sys2Proof.Machine
end

