-- ==== Sys2Proof/Machine/OvtanCut.lean ====
section
/-! DEFINITION. Cuts at an Ovtan: firing, and the markers in the class streams (R457, R458). -/
namespace Sys2Proof.Machine

/-- The class A, C and T markers of a cut whose latch time is `lt` (R458), and CUT_LATCHED. -/
def Ovtan.cutMarkers (o : Ovtan) (k : CutFire) (fire lt : Nat) : Ovtan :=
  let late := decide (lt > fire)
  let p := cutPayload k.id 0 0 0 0 0 late k.jumped k.early
  let o := o.onBuf (fun c b => placeA c b (cutRecord k lt .a p) lt)
  let o := o.onBuf (fun c b => placeC c b (cutRecord k lt .c p))
  let o := o.onTrace (fun x =>
    let x := x.account (fun _ => true)
    let x := x.drain (fun e => decide (e.time < lt))
    x.emitT { cutRecord k lt .t p with src := srcOf 0x03 0 })
  o.onCore (fun c => c.raise 0x0F02 c.cutSub [k.id, lt, (if k.early then 1 else 0) + (if k.jumped then 2 else 0) + (if late then 4 else 0)])

/-- A run that has started for a cut puts the markers in place, if they are not yet. -/
def Ovtan.markRun (o : Ovtan) : Ovtan :=
  match o.cap.run with
  | some r =>
    match r.fir.cut with
    | some k =>
      if k.marked then o
      else
        let o := o.cutMarkers k r.fir.fire r.lt
        { o with cap := { o.cap with run := o.cap.run.map (fun r => { r with fir := { r.fir with cut := some { k with marked := true } } }) } }
    | none => o
  | none => o

/-- Start the run at the head of the queue (R188), a cut's with its markers. -/
def Ovtan.startRun (o : Ovtan) : Ovtan :=
  if o.bnd.bist.deadMacros.any (fun m => m == 8 || m == 9) then o else (o.onCap Sys2Proof.Machine.startRun).markRun

/-- Fire one armed cut at `fire` (R457): its firing takes the slot reserved for cuts. Markers go in at once where the latch time is
already settled: the latch is shared (R188), or the sequencer is free and the run starts. -/
def Ovtan.fireCut (o : Ovtan) (k : ArmedCut) (fire : Nat) (early jumped : Bool) : Ovtan :=
  let a := o.core.angle
  let cf : CutFire := { id := k.id, step := k.step % 2 ^ 32, angle := k.angle, early := early, jumped := jumped, marked := false }
  let prog := o.core.num oCutProgram
  let f : Firing := { entry := 255, program := prog, tag := 0, lateLimit := 0, optional := false, timeEntry := false, fire := fire,
                      angle := k.angle, stamp := some (k.step % 2 ^ 32, k.angle / 65536, a.statusByte fire false false), cut := some cf }
  let o := { o with core := { o.core with cuts := o.core.cuts.filter (fun j => j.id != k.id) } }
  match o.cap.run, o.cap.queue with
  | none, [] => ({ o with cap := { o.cap with queue := [f] } }).startRun
  | _, _ =>
    match o.cap.latch with
    | some l =>
      if l.fire = fire ∧ o.cap.run.isSome then
        let o := o.cutMarkers cf fire l.lt
        { o with cap := { o.cap with queue := insertFiring { f with cut := some { cf with marked := true } } o.cap.queue,
                                     latch := some { l with armed := l.armed ||| headMask o.cap.prog 1024 prog } } }
      else { o with cap := { o.cap with queue := insertFiring f o.cap.queue } }
    | none => { o with cap := { o.cap with queue := insertFiring f o.cap.queue } }

/-- Armed cuts in ascending id (Table 18.7). -/
def Core.cutsInOrder (c : Core) : List ArmedCut := sortBy c.cuts (fun a b => decide (a.id ≤ b.id))

/-- Fire time of a cut in the step in progress, none in another step. -/
def Core.cutDue (c : Core) (k : ArmedCut) : Option Nat :=
  if c.angle.isLocked && c.angle.step % 2 ^ 32 == k.step % 2 ^ 32 then some (fireTime c.angle.tm c.angle.lq k.angle) else none

/-- Every armed cut whose (S, A) has come fires (R457). -/
def Ovtan.cutsDue (o : Ovtan) (t : Nat) : Ovtan :=
  o.core.cutsInOrder.foldl (fun o k =>
    match o.core.cutDue k with
    | some f => if f ≤ t then o.fireCut k f false false else o
    | none => o) o

/-- What an accepted marker to step `num` at time `t` does to the armed cuts, before step 1 of R163 (R457): a cut of the step that
ends fires EARLY, one of a step passed over fires JUMPED. -/
def Ovtan.cutsAtMarker (o : Ovtan) (t num : Nat) : Ovtan :=
  let old := o.core.angle.step % 2 ^ 32
  let o := if t = 0 then o else o.cutsDue (t - 1)
  o.core.cutsInOrder.foldl (fun o k =>
    let s := k.step % 2 ^ 32
    let ahead := (s + 2 ^ 32 - old) % 2 ^ 32
    let past := (num % 2 ^ 32 + 2 ^ 32 - s) % 2 ^ 32
    if past = 0 ∨ past ≥ 0x80000000 ∨ ahead ≥ 0x80000000 then o
    else if ahead = 0 then o.fireCut k t true false else o.fireCut k t false true) o

/-- Whether a cut has latched at the Ovtan: its run is queued or in progress, or was the last. -/
def Ovtan.cutLatched (o : Ovtan) (id : Nat) : Bool :=
  let is (f : Firing) : Bool := match f.cut with
    | some k => k.id == id
    | none => false
  o.cap.queue.any is || (match o.cap.run with | some r => is r.fir | none => false) || leAt o.core.cutLast 12 4 == id

end Sys2Proof.Machine
end

