-- ==== Sys2Proof/Machine/OvtanDict.lean ====
section
/-! DEFINITION. The Ovtan's dictionary: the values it computes, the checks of its objects, what a value that takes effect does, and its command objects. -/
namespace Sys2Proof.Machine

/-! ### Values the Ovtan computes -/

/-- Health of an Ovtan (R419). -/
def BndPart.health (b : BndPart) : Nat :=
  if b.bist.deadMacros.any (fun m => m == 8 || m == 9) || decide ((b.bist.deadMacros.filter (fun m => decide (m < 8))).length ≥ 3) then 3
  else if b.bist.exhausted then 2 else if b.bist.repaired then 1 else 0

/-- A spare inventory entry (Table 16.1). -/
def inventoryEntry (kind total free used beyond : Nat) : Bytes :=
  leBytes 1 kind ++ leBytes 3 beyond ++ leBytes 4 used ++ leBytes 4 free ++ leBytes 4 total

/-- SPARE.INVENTORY of an Ovtan: kinds 1 and 2 (R418). -/
def Ovtan.inventory (o : Ovtan) (e : Nat) : Bytes :=
  let used := o.cap.repaired.length
  if e = 1 then inventoryEntry 1 32 (32 - used) used o.bnd.bist.deadCounters.length
  else inventoryEntry 2 26 (26 - o.bnd.bist.columns) o.bnd.bist.columns o.bnd.bist.columnsBeyond

/-- Whether a self-managed block of Table 9.8 has work. -/
def Ovtan.blockBusy (o : Ovtan) (e : Nat) : Bool :=
  match e with
  | 1 => !o.cap.queue.isEmpty || o.cap.run.isSome
  | 2 => o.core.flag oTraceEnable
  | 3 => o.dma.ch.any (fun h => h.run.isSome)
  | 4 => o.core.flag oDewDpEnable
  | 5 => o.dew.any (fun d => !d.queue.isEmpty)
  | _ => false

/-- POWER.BLOCK_STATE of a block: 3 while a gated block has work and has not yet woken (R256). -/
def Ovtan.blockState (o : Ovtan) (e : Nat) : Nat :=
  let s := o.bnd.blocks.getD (e - 1) 0
  if s ≠ 0 ∧ o.blockBusy e then 3 else s

/-- Objects whose value the Ovtan computes. -/
def Ovtan.readObj (o : Ovtan) (a : Actor) (obj : Nat) : Option Bytes :=
  let c := o.core
  let e := objElem obj
  let i := obj / 256 % 65536
  match c.readShared (c.quality true false c.up) a obj with
  | some v => some v
  | none =>
    match objArea obj with
    | 0x00 => if obj = oIdentPart then some [79, 86, 45, 50] else none
    | 0x01 =>
      if obj = oSessionTraceGrant then
        some (leBytes 4 (match o.trace.grantEnd with | some t => (t - c.up + secNs - 1) / secNs | none => 0))
      else if obj = oSessionFwdTimeout ∨ obj = oSessionOutstanding then some (zeros 4)
      else none
    | 0x04 =>
      if 0x0100 ≤ i ∧ i < 0x0100 + 576 then
        let n := i - 0x0100
        if e = 1 then some (leBytes 8 (o.cap.ctr.getD n 0).toNat)
        else if 4 ≤ e ∧ e ≤ 7 then some (leBytes 8 ((o.cap.base.getD (e - 4) []).getD n 0).toNat)
        else none
      else if 0x8000 ≤ i ∧ i < 0x8008 ∧ e ≠ 0 then some (leBytes 8 (o.cap.prog.getD ((i - 0x8000) * 128 + e - 1) 0).toNat)
      else if i = 0x8010 ∧ e ≠ 0 then some (nthLe 4 o.cap.repaired e)
      else none
    | 0x05 =>
      if 0x0100 ≤ i ∧ i < 0x0100 + 96 then
        let v := o.cap.chans.getD (i - 0x0100) Chan.none
        if e = 1 then some (leBytes 4 v.value) else if e = 2 then some (leBytes 4 v.raw)
        else if e = 3 then some (leBytes 10 (time80 v.time)) else none
      else none
    | 0x06 =>
      if obj = oTraceState then some (leBytes 1 o.trace.mode.code)
      else if obj = oTracePdState then some (leBytes 4 (ofBits (o.trace.gates.map (fun g => g.domain))))
      else none
    | 0x07 =>
      if 0x0100 ≤ i ∧ i < 0x0108 then
        let k := i - 0x0100
        let f := c.dewCfg k
        let d := (o.dew.getD k { reg := 0, addr := 0, seq := 0, queue := [], held := [], fed := 0, feeder := none }).drain f
        if e = 6 then some (leBytes 8 (d.result f)) else if e = 7 then some (leBytes 8 d.fed.toNat) else none
      else if obj = oDewDpStatus then
        some (leBytes 1 (if o.dma.dp.isSome then 2 else if c.flag oDewDpEnable && o.bnd.blocks.getD 3 0 == 0 then 1 else 0))
      else if obj = oDewDpLast then some o.dma.dpLast
      else none
    | 0x08 =>
      if 0x0100 ≤ i ∧ i < 0x0108 then
        let h := o.dma.ch.getD (i - 0x0100) DmaCh.idle
        let bytes := match h.run with | some r => r.done | none => h.bytes
        if e = 2 then some (leBytes 8 (h.state * 2 ^ 60 + h.code * 2 ^ 40 + bytes % 2 ^ 40))
        else if e = 3 then some (leBytes 8 h.mismatch) else if e = 4 then some (leBytes 8 h.mismatches) else none
      else none
    | 0x09 =>
      if obj = oRecordBufLevel then some (leBytes 4 o.buf.s.length)
      else if obj = oRecordSpillUsed then some (leBytes 8 (32 * o.buf.ring.length))
      else if i = 0x000C ∧ e ≠ 0 then some (leBytes 4 (o.buf.seq.getD (e - 1) 0).toNat)
      else none
    | 0x0A =>
      if i = 0 ∧ e ≠ 0 then some (leBytes 1 o.link.lane.phy.state.code)
      else if i = 8 ∧ e ≠ 0 then some (o.link.lane.phy.peerUid ++ o.link.lane.phy.peerInfo)
      else if i = 0x8000 ∧ e ≠ 0 then some (leBytes 4 (Config.freeBits 24 4 c.free).toNat)
      else none
    | 0x0C =>
      if i = 0 ∧ e ≠ 0 then some (leBytes 1 (o.blockState e))
      else if obj = oPowerEstimate then some (leBytes 4 (Config.freeBits 32 5 c.free).toNat)
      else if obj = oPowerStatusWord then some (leBytes 8 o.bnd.statusWord)
      else if obj = oPowerBistResult then some o.bnd.bist.result
      else none
    | 0x0D =>
      if obj = oSpareHealth then some (leBytes 1 o.bnd.health)
      else if i = 1 ∧ e ≠ 0 then some (o.inventory e)
      else none
    | _ => none

/-- What a read changes besides: a Dew result read waits for the writes accepted before it (R222); a free value is drawn once. -/
def Ovtan.didRead (o : Ovtan) (obj : Nat) : Ovtan :=
  let i := obj / 256 % 65536
  if objArea obj = 0x07 ∧ 0x0100 ≤ i ∧ i < 0x0108 ∧ objElem obj = 6 then
    { o with dew := modAt o.dew (i - 0x0100) (fun d => d.drain (o.core.dewCfg (i - 0x0100))) }
  else if obj = oPowerEstimate ∨ obj / 256 = 0x0A8000 then { o with core := { o.core with free := o.core.free + 1 } }
  else o

/-- Arrays whose length the Ovtan computes: the lane's objects have one element. -/
def Ovtan.inUse (o : Ovtan) (obj : Nat) : Option Nat :=
  match o.core.inUseShared obj with
  | some n => some n
  | none =>
    let i := obj / 256 % 65536
    if objArea obj = 0x0A ∧ (i < 9 ∨ i = 0x8000) then some 1
    else if obj / 256 = 0x048010 then some o.cap.repaired.length
    else if obj / 256 = oSpareInventory / 256 then some 2
    else if obj / 256 = oSpareCandidates / 256 then some 0
    else if obj / 256 = oRecordNextSeq / 256 then some 4
    else if obj / 256 = oPowerBlockState / 256 ∨ obj / 256 = oPowerHoldAwake / 256 then some 6
    else none

/-- Tenant of a job-scoped counter's value, configuration and baselines (R183). -/
def Ovtan.tenant (o : Ovtan) (obj : Nat) : Option Nat :=
  let i := obj / 256 % 65536
  if objArea obj = 0x04 ∧ 0x0100 ≤ i ∧ i < 0x0100 + 512 ∧ objElem obj ≠ 3 ∧ objElem obj ≠ 0 then
    let t := o.core.num (withElem obj 3)
    if t = 0 then none else some t
  else none

/-! ### Checks -/

/-- First and count of a standard range (R197): [9:0] and [25:16], the rest reserved. -/
def checkRange (v limit : Nat) : Nat :=
  if bitsOf v 15 10 ≠ 0 ∨ bitsOf v 31 26 ≠ 0 then eReserved
  else
    let f := bitsOf v 9 0
    let n := bitsOf v 25 16
    if n = 0 ∨ n > limit ∨ f + n > limit then eRange else stOk

/-- Checks of the Ovtan's objects beyond type, range and codes. -/
def Ovtan.checkObj (o : Ovtan) (_ : Actor) (obj : Nat) (v : Bytes) : Nat :=
  let n := ofLe v
  let e := objElem obj
  let i := obj / 256 % 65536
  match objArea obj with
  | 0x01 => if obj = oSessionTraceGrant ∧ n > 86400 then eRange else stOk
  | 0x03 => if i = 0x0010 ∨ i = 0x0011 then (if e = 0 then stOk else checkEntry v) else stOk
  | 0x04 =>
    if 0x0100 ≤ i ∧ i < 0x0100 + 512 ∧ e = 2 then
      if bitsOf n 15 11 ≠ 0 ∨ bitsOf n 31 27 ≠ 0 then eReserved
      else if bitsOf n 26 24 ≥ 6 ∨ o.bnd.bist.deadCounters.contains (i - 0x0100) then eRange else stOk
    else if obj = oCountStdRange then checkRange n 576
    else stOk
  | 0x05 => if obj = oSenseStdRange then checkRange n 96 else stOk
  | 0x06 =>
    if i = 0x0003 ∧ e ≠ 0 then
      let b := leAt v 0 32
      if bitsOf b 135 128 ≠ 0 ∨ bitsOf b 63 2 ≠ 0 then eReserved
      else if bitsOf b 207 160 > bitsOf b 255 208 then eRange else stOk
    else if obj = oTraceEnable ∧ n = 1 ∧ o.bnd.bist.deadMacros.contains 10 then eRange
    else if obj = oTraceInject ∧ v.length < 17 then eRange
    else stOk
  | 0x07 =>
    if 0x0100 ≤ i ∧ i < 0x0108 ∧ e = 4 then
      if bitsOf n 31 12 ≠ 0 then eReserved
      else if bitsOf n 11 10 = 3 ∨ bitsOf n 7 0 < 8 ∨ bitsOf n 7 0 > 64 then eRange else stOk
    else if i = 0x0201 ∧ e ≠ 0 then
      let b := leAt v 0 32
      if bitsOf b 143 0 ≠ 0 then eReserved
      else if bitsOf b 255 208 % 64 ≠ 0 then eRange else stOk
    else if obj = oDewDpReplica then
      if bitsOf n 23 19 ≠ 0 ∨ bitsOf n 31 28 ≠ 0 then eReserved
      else if bitsOf n 27 24 = 0 ∨ bitsOf n 27 24 > 8 ∨ bitsOf n 18 16 ≥ bitsOf n 27 24 then eRange else stOk
    else if obj = oDewDpStartEvent ∧ n > 2047 ∧ n ≠ 0xFFFFFFFF then eRange
    else if obj = oDewDpIrq ∧ n > 3 ∧ n ≠ 0xFFFFFFFF then eRange
    else stOk
  | 0x0A => if obj = oLinkDzForceRetrain ∧ n ≠ 0 then eRange else stOk
  | 0x0B => checkCal obj v
  | 0x0F => if obj = oCutWfTaps ∧ n ≥ 65536 then eReserved else stOk
  | _ => stOk

/-- A view of the Dewpoint segments as base, lines, first line, of those that hold lines. -/
def segmentsIn (v : Nat → Bytes) : List (Nat × Nat × Nat) :=
  ((List.range (Nat.min 16 (ofLe (v oDewDpSegment)))).map (fun i =>
    let b := leAt (v (oDewDpSegment + i + 1)) 0 32
    (bitsOf b 255 208, bitsOf b 207 176, bitsOf b 175 144))).filter (fun s => s.2.1 != 0)

/-- The declared pairs of an Ovtan: R135, R194, R232. -/
def Ovtan.pairs (_ : Ovtan) (os : List Nat) : List (List Nat × ((Nat → Bytes) → Bool)) :=
  let spill : List Nat × ((Nat → Bytes) → Bool) := ([oRecordSpillBase, oRecordSpillSize], fun v =>
    let b := ofLe (v oRecordSpillBase)
    let s := ofLe (v oRecordSpillSize)
    if s = 0 then decide (b ≤ 2 ^ 48)
    else decide (65536 ≤ s) && decide (s ≤ 2 ^ 30) && s == 2 ^ Nat.log2 s && b % s == 0 && decide (b + s ≤ 2 ^ 48))
  let seg : List Nat × ((Nat → Bytes) → Bool) := (oDewDpLines :: (List.range 17).map (fun i => oDewDpSegment + i), fun v =>
    let l := segmentsIn v
    l.all (fun s => decide (s.2.2 + s.2.1 ≤ ofLe (v oDewDpLines)) && decide (s.1 + 64 * s.2.1 ≤ 2 ^ 48))
      && (List.range l.length).all (fun i => (List.range i).all (fun j =>
          let x := l.getD i (0, 0, 0)
          let y := l.getD j (0, 0, 0)
          decide (x.2.2 + x.2.1 ≤ y.2.2) || decide (y.2.2 + y.2.1 ≤ x.2.2))))
  [timePair, spill, seg].filter (fun p => p.1.any (fun o => os.contains o))

/-! ### Values taking effect -/

/-- Before a rate or burst changes, its bucket fills at the old one (R195, R230, Table 8.7). -/
def Ovtan.before (o : Ovtan) (obj : Nat) : Ovtan :=
  if obj = oDmaBwBudget ∨ obj = oDmaBwBurst then o.onMem MemSide.refill
  else if obj = oRecordAlarmRate ∨ obj = oRecordAlarmBurst then { o with buf := refillTokens o.core o.buf }
  else o

/-- ANGLE.LOCK_MODE takes effect (Table 5.1). -/
def Core.lockMode (c : Core) : Core :=
  if c.num oAngleLockMode = 1 then (if c.angle.mode = .off then ({ c with angle := c.angle.toFree } : Core).armTimed c.ns else c)
  else { c with angle := { c.angle with mode := .off, lq := 0, armed := [], timed := [] } }

/-- A schedule list element, or the choice of list, takes effect: time entries that become active start afresh (R534). -/
def Core.listChanged (c : Core) (obj : Nat) : Core :=
  if obj = oAngleActiveList ∨ obj = c.listObj 0 then c.armTimed c.ns
  else if objElem obj ≠ 0 ∧ obj = c.listObj (objElem obj) then
    let keep := c.angle.timed.filter (fun t => t.entry != objElem obj)
    let fresh := (c.armTimed c.ns).angle.timed.filter (fun t => t.entry == objElem obj)
    { c with angle := { c.angle with timed := sortBy (keep ++ fresh) (fun a b => decide (a.entry ≤ b.entry)) } }
  else c

/-- What a value that has taken effect does at the Ovtan. -/
def Ovtan.effect (o : Ovtan) (obj : Nat) (v : Bytes) : Ovtan :=
  let n := ofLe v
  let e := objElem obj
  let i := obj / 256 % 65536
  match objArea obj with
  | 0x01 =>
    if obj = oSessionTraceGrant then
      { o with core := if n = 0 ∧ o.trace.grantEnd = none then o.core else o.core.raise 0x0306 0x09 [n],
               trace := { o.trace with grantEnd := if n = 0 then none else some (o.core.up + n * secNs) } }
    else o
  | 0x03 =>
    if obj = oAngleLockMode then { o with core := o.core.lockMode }
    else if obj = oAngleActiveList ∨ i = 0x0010 ∨ i = 0x0011 then { o with core := o.core.listChanged obj }
    else o
  | 0x04 =>
    if 0x0100 ≤ i ∧ i < 0x0100 + 512 ∧ e = 2 then
      let o := o.onCap (fun x => latchDue x (fun _ => true) true)
      { o with cap := o.cap.clearCounter (i - 0x0100) }
    else if 0x8000 ≤ i ∧ i < 0x8008 ∧ e ≠ 0 then
      { o with cap := { o.cap with prog := o.cap.prog.set ((i - 0x8000) * 128 + e - 1) (BitVec.ofNat 64 n) } }
    else o
  | 0x07 =>
    if 0x0100 ≤ i ∧ i < 0x0108 ∧ 1 ≤ e ∧ e ≤ 5 then { o with dew := modAt o.dew (i - 0x0100) (fun d => d.reset (o.core.dewCfg (i - 0x0100))) }
    else o
  | 0x09 => if obj = oRecordSpillSize then { o with buf := { o.buf with ringOff := false } } else o
  | 0x0A =>
    if obj = oLinkDzEnable + 1 then
      if n = 0 then
        let o := if o.link.lane.phy.state = .up then o.laneDown 4 else o
        { o with link := { o.link with lane := o.link.lane.disable o.core.up } }
      else if o.link.lane.phy.state = .disabled ∧ !(o.bnd.bist.deadMacros.any (fun m => m == 11 || m == 12)) then
        { o with link := { o.link with lane := o.link.lane.train o.core.up } }
      else o
    else o
  | 0x0C =>
    if i = 0x0001 ∧ e ≠ 0 ∧ n ≠ 0 then { o with bnd := { o.bnd with blocks := o.bnd.blocks.set (e - 1) 0 } } else o
  | _ => o

/-- What follows once all values of one instant are in: standard programs over COUNT.PROGRAM (R197), trace reconfigured, one filter
generation per commit (R206). -/
def Ovtan.done (o : Ovtan) (os : List Nat) : Ovtan :=
  let o := if os.contains oCountStdRange || os.contains oSenseStdRange then { o with cap := o.cap.writeStandard o.core } else o
  let o := if os.any (fun x => x / 256 == oTraceFilter / 256) then { o with trace := o.trace.filtersChanged } else o
  if os.contains oTraceEnable || os.contains oTraceCaptureMode then o.onTrace TraceSide.reconfigure else o

/-! ### Command objects -/

/-- TIME.FORCE_STATE at an Ovtan (R531). -/
def Ovtan.force (o : Ovtan) (n : Nat) : Ovtan :=
  let old := o.core.quality true false o.core.up
  let c := if n = 1 then o.core.enterHoldover true false o.core.up 2
    else { o.core with time := { o.core.time with forced := false, mode := .acquiring } }
  ({ o with core := c }).qualityChange old

/-- IDENT.RESTART (R251, Table 9.5): everything but the fuse image, repairs and power-domain logic is cleared, and self-test follows. -/
def Ovtan.restart (o : Ovtan) : Ovtan :=
  let o := { o with core := o.core.closeSessions (fun _ => true) 6 }
  let o := o.clear
  let o := { o with bnd := { o.bnd with boot := .selfTest, restarts := o.bnd.restarts + 1, cause := 1 } }
  if o.bnd.pll ∧ !o.core.flag oPowerBistOnRestart then o.ready else o

/-- TRACE.ARM written 1 arm, 2 force trigger, 3 stop (R207, Table 7.3). -/
def TraceSide.armWrite (x : TraceSide) (n : Nat) : TraceSide :=
  match n, x.trace.mode with
  | 1, .done => { x with trace := { x.trace with mode := .armed, pre := [], n := 0 } }
  | 2, .armed => x.trigger 2 0 x.core.ns
  | 3, .armed => (x.discardRing).finish true
  | 3, .capturing => x.finish true
  | _, _ => x

/-- A feed item to Dew channel `k` (R222, R223): refused with E_BUSY while Contrail feeds it. -/
def Ovtan.feed (o : Ovtan) (k bytes n : Nat) : Ovtan × Nat :=
  match o.dew[k]? with
  | some d =>
    if d.feeder.isSome then (o, eBusy)
    else ({ o with dew := o.dew.set k (d.accept { n := bytes, v := n, addr := none }) }, stOk)
  | none => (o, eRange)

/-- DEW.DP_GO (R233). -/
def Ovtan.dpGo (o : Ovtan) (n : Nat) : Ovtan × Nat :=
  if n = 0 then (o, stOk)
  else if o.dma.dp.isSome then (o.onMem MemSide.dpOverrun, stOk)
  else if o.core.flag oDewDpEnable && o.bnd.blocks.getD 3 0 == 0 then
    let o := { o with core := o.core.usePair oDewDpLines (oDewDpSegment + 1) }
    (o.onMem (fun x => x.dpStart x.core.ns), stOk)
  else (o, eRange)

/-- A write to a command object of the Ovtan; a soft marker's sequence is added where the marker sequence is defined. -/
def Ovtan.command (o : Ovtan) (_ : Actor) (obj : Nat) (v : Bytes) : Ovtan × Nat :=
  let n := ofLe v
  let e := objElem obj
  let i := obj / 256 % 65536
  match objArea obj with
  | 0x00 => if obj = oIdentRestart then (o.restart, stOk) else (o, eNoObject)
  | 0x01 =>
    if obj = oSessionCloseSession then let r := o.core.closeNamed n; ({ o with core := r.1 }, r.2)
    else (o, eNoObject)
  | 0x02 => if obj = oTimeForceState then (o.force n, stOk) else (o, eNoObject)
  | 0x03 => if obj = oAngleSoftMarker then ({ o with core := o.core.bump oAngleGlitches }, stOk) else (o, eNoObject)
  | 0x06 =>
    if obj = oTraceArm then (o.onTrace (fun x => x.armWrite n), stOk)
    else if obj = oTraceInject then
      (o.onTrace (fun x => x.present (leAt v 16 1 % 16) (BitVec.ofNat 128 (leAt v 0 16)) o.bnd.auth false), stOk)
    else (o, eNoObject)
  | 0x07 =>
    if 0x0100 ≤ i ∧ i < 0x0108 then
      let k := i - 0x0100
      if e = 8 then
        (if n = 1 then { o with dew := modAt o.dew k (fun d => d.reset (o.core.dewCfg k)) } else o, stOk)
      else if e = 0x10 then o.feed k 1 (n % 2 ^ 8)
      else if e = 0x11 then o.feed k 2 (n % 2 ^ 16)
      else o.feed k 4 n
    else if obj = oDewDpGo then o.dpGo n
    else (o, eNoObject)
  | 0x08 =>
    if n ≥ 8 then (o, eRange)
    else if obj = oDmaGo then
      let r := o.memSide.go n
      ({ o with core := r.1.core, dew := r.1.dew, dma := r.1.dma },
        match r.2 with | .busy => eBusy | .range => eRange | .started => stOk)
    else (o.onMem (fun x => x.stop n), stOk)
  | 0x0A =>
    if obj = oLinkDzForceRetrain then
      if o.link.lane.phy.state = .up then
        let o := o.laneDown 3
        ({ o with link := { o.link with lane := o.link.lane.enter .retrain o.core.up } }, stOk)
      else (o, stOk)
    else (o, eNoObject)
  | 0x0F =>
    if obj = oCutArm then let r := o.core.armCut v; ({ o with core := r.1 }, r.2)
    else if obj = oCutCancel then let r := o.core.cancelCut n (o.cutLatched n); ({ o with core := r.1 }, r.2)
    else (o, eNoObject)
  | _ => (o, eNoObject)

/-- The Ovtan's dictionary. SESSION.COMMIT is the COMMIT opcode's (R78). -/
def ovOps0 : UnitOps Ovtan :=
  { get := fun o => o.core, set := fun o c => { o with core := c }, read := fun o a x => o.readObj a x, didRead := Ovtan.didRead,
    inUse := Ovtan.inUse, tenant := Ovtan.tenant, check := Ovtan.checkObj, before := Ovtan.before, effect := Ovtan.effect, done := Ovtan.done,
    command := Ovtan.command, pairs := Ovtan.pairs }

end Sys2Proof.Machine
end

