-- ==== Sys2Proof/Machine/FabDict.lean ====
section
/-! DEFINITION. A group's dictionary: the values it computes, the checks of its objects, what a value that takes effect does, and its command objects (object tables of spec/02 to spec/21). -/
namespace Sys2Proof.Machine

/-! ### Values a group computes -/

/-- Bytes of `n` f32 numbers. -/
def f32Bytes (n : Nat) (v : Nat → FVal) : Bytes := (List.range n).flatMap (fun i => leBytes 4 (toF32 (v i)))

/-- POWER.DOMAIN_STATE (Table 11.7): a domain is gated when every block of it is; management, Halo, Almanac and the network always run. -/
def Fabato.domainState (f : Fabato) (k : Nat) : Nat :=
  let st (lo n : Nat) : Nat := ((List.range n).map (fun i => match f.cel.blockState.getD (lo + i) 0 with | 1 => 1 | 2 => 2 | 4 => 2 | _ => 0)).foldl Nat.min 2
  if k < 4 then st (13 * k) 13
  else if k = 5 then st 52 16
  else if k < 9 then 0
  else if k < 15 then st (84 + (k - 9)) 1
  else if k < 23 then st (90 + (k - 15)) 1
  else st (98 + (k - 23)) 1

/-- Bytes of a trace store: 64 for each extended record. -/
def ForwardPart.traceBytes (w : ForwardPart) : Nat := 64 * w.trace.length

/-- JET.SUB element (Table 12.4). -/
def JSub.bytes (s : JSub) : Bytes :=
  leBytes 5 1 ++ leBytes 1 (s.profiles.getD 2 0) ++ leBytes 1 (s.profiles.getD 1 0) ++ leBytes 1 (s.profiles.getD 0 0) ++ leBytes 1 s.port
    ++ leBytes 1 0 ++ leBytes 2 s.quantum ++ leBytes 4 s.path

/-- Bytes queued toward a port, its class A records among them. -/
def JetPart.portBytes (j : JetPart) (p : Nat) : Nat :=
  ((j.subs.filter (fun s => s.port == p)).map (fun s => (s.queues.map (fun q => q.bytes)).sum)).sum
    + (((j.ports.getD p JPort.fresh).alarms).map (fun a => a.2.bytes)).sum

/-- LINK objects of a group. -/
def Fabato.readLink (f : Fabato) (obj : Nat) : Option Bytes :=
  let e := objElem obj
  let i := obj / 256 % 65536
  let n := e - 1
  if e = 0 ∧ i ≠ 0x0104 then none
  else if i = 0x0000 then (f.g.lanes[n]?).map (fun l => leBytes 1 (if f.core.kind = 1 then l.lane.phy.state.code else 0))
  else if i = 0x0008 then (f.g.lanes[n]?).map (fun l => l.lane.phy.peerUid ++ l.lane.phy.peerInfo)
  else if i = 0x8000 then some (leBytes 4 (Config.freeBits 24 4 f.core.free).toNat)
  else if i = 0x0101 then some (leBytes 1 (f.g.port n).state.code)
  else if i = 0x0102 then some (leBytes 4 (f.g.port n).lanes)
  else if i = 0x0103 then some (leBytes 1 (f.g.port n).preempt)
  else if i = 0x0104 then some (leBytes 4 (ofBits ((List.range 4).filter (fun k => f.g.parent.onP1.getD k false))))
  else none

/-- SPARE, CELL and FT objects. -/
def Fabato.readCells (f : Fabato) (obj : Nat) : Option Bytes :=
  let e := objElem obj
  let o := obj / 256 * 256
  let n := e - 1
  if obj = oSpareHealth then some (leBytes 1 f.spareHealth)
  else if obj = oSpareShed then
    some (leBytes 2 (f.cel.places.filter (fun p => p.mode == 2)).length ++ leBytes 2 (f.cel.places.filter (fun p => p.mode == 3)).length)
  else if obj = oSpareSkyLaneOut then some (leBytes 4 f.cel.skyOut)
  else if obj = oSpareLpddrOut then some (leBytes 1 f.cel.lpddr.1 ++ leBytes 1 f.cel.lpddr.2 ++ zeros 2)
  else if obj = oCellActive then some (leBytes 4 f.cellActive)
  else if obj = oCellCapacity then some f.capacity
  else if obj = oCellSatFlags then some (leBytes 4 f.cel.satFlags)
  else if obj = oFtState then
    some (match f.cel.test with | some t => leBytes 1 t.cell ++ leBytes 1 t.path ++ zeros 2 | none => leBytes 1 0xFF ++ zeros 3)
  else if e = 0 then none
  else if o = oSpareInventory then some ((f.spareInventory (inventory 7 64 (64 - f.alm.sparesUsed) f.alm.sparesUsed f.alm.beyond)).getD n [])
  else if o = oSpareCandidates then (f.cel.cands[n]?).map (fun c => leBytes 4 c.1 ++ leBytes 4 c.2.1 ++ leBytes 10 c.2.2)
  else if o = oSpareFillQueue then some (nthLe 4 (f.cel.fillQueue.map (fun x => x.1)) e)
  else if o = oSpareLaneMap then some (nthLe 4 f.g.laneMap e)
  else if o = oSpareDzLaneOut then some (leBytes 1 (if f.cel.dzOut.getD n false then 1 else 0))
  else if o = oCellRole then some (leBytes 1 (f.cell n).role.code)
  else if o = oCellContexts then some (leBytes 4 (f.contextsOn n))
  else if o = oCellLoad then some (leBytes 4 (f.cell n).load)
  else if o = oCellIngestLoad then some (nthLe 4 f.cel.ingestLoad e)
  else if o = oCellNocLoad then some (leBytes 4 (Config.freeBits 32 6 f.core.free).toNat)
  else if o = oFtLast then some (leBytes 10 (f.cell n).result.1 ++ leBytes 1 (f.cell n).result.2)
  else none

/-- POWER objects. -/
def Fabato.readPower (f : Fabato) (obj : Nat) : Option Bytes :=
  let e := objElem obj
  let o := obj / 256 * 256
  let n := e - 1
  if obj = oPowerEstimate then some (leBytes 4 (Config.freeBits 32 5 f.core.free).toNat)
  else if obj = oPowerStatusWord then some (leBytes 8 f.board.word)
  else if obj = oPowerBistResult then some f.board.bist
  else if obj = oPowerLanesAsleep then
    let dz := if f.core.kind = 1 then (f.g.lanes.filter (fun l => l.lane.phy.state == .disabled)).length else 136
    let mapped := (List.range 32).filter (fun i => (List.range 24).any (fun p => let m := f.core.skyMap p; decide (m.first ≤ i) && decide (i < m.first + m.lanes)))
    some (leBytes 2 dz ++ leBytes 2 (32 - mapped.length))
  else if obj = oPowerStraps then some (leBytes 4 f.board.straps)
  else if obj = oPowerRefpllState then some (leBytes 1 f.pllState)
  else if e = 0 then none
  else if o = oPowerBlockState then some (leBytes 1 (f.cel.blockState.getD n 0))
  else if o = oPowerPortDomain then some (zeros 4)
  else if o = oPowerDomainState then some (leBytes 1 (f.domainState n))
  else if o = oPowerDieTemp then some (nthLe 4 f.board.temps e)
  else if o = oPowerRailMon then some (nthLe 4 f.board.rails e)
  else if o = oPowerLpddrMargin then some (nthLe 4 f.board.margins e)
  else none

/-- REDUCE, ANVIL and DRIFT objects. -/
def Fabato.readAnalytics (f : Fabato) (obj : Nat) : Option Bytes :=
  let e := objElem obj
  let i := obj / 256 % 65536
  match objArea obj with
  | 0x11 =>
    if obj = oReduceActive then some (leBytes 4 (((List.range 1024).filter (fun n => (redDesc (f.core.usedBytes (oRed n 1))).mode != 0)).length))
    else if 0x1000 ≤ i then
      let n := i - 0x1000
      if e = 2 then some (leBytes 16 (f.maskOf (oRed n 2))) else if e = 4 then some (leBytes 4 (f.redState n)) else none
    else none
  | 0x12 =>
    if obj = oAnvilMemberRisk then some (f32Bytes 128 f.rA)
    else if 0x0100 ≤ i ∧ i < 0x0200 then (if e = 2 then some (leBytes 16 (f.maskOf (oFeat (i - 0x0100) 2))) else none)
    else if 0x0300 ≤ i ∧ i < 0x0340 then
      let m := i - 0x0300
      if e = 5 then some (leBytes 4 (f.model m).state) else if e = 6 then some (f.modelInfo m)
      else if e = 7 then some (leBytes 4 (f.model m).fault) else if e = 9 then some (leBytes 4 (f.model m).ppm) else none
    else none
  | _ =>
    if obj = oDriftMemberRisk then some (f32Bytes 128 f.rD)
    else if obj = oDriftStreams then some (leBytes 4 ((f.an.sets.map (fun s => s.streams.length)).sum))
    else none

/-- FENCE objects. -/
def Fabato.readFence (f : Fabato) (obj : Nat) : Option Bytes :=
  let e := objElem obj
  let o := obj / 256 * 256
  if obj = oFenceAuto then some (leBytes 1 (if f.core.flag oFenceAuto && !f.fen.failed then 1 else 0))
  else if obj = oFenceTokens then some (leBytes 8 (f.fen.bucket.refill f.core).tokens)
  else if obj = oFenceExhaustions then some ((f.fen.bucket.runs.filter (fun t => decide (f.ns < t + fence72h))).flatMap (fun t => leBytes 10 (time80 t)))
  else if obj = oFenceSuspicion then some (leBytes 1 f.fen.suspicion)
  else if obj = oFenceHealth then some ((List.range 128).flatMap (fun m => leBytes 4 (f.healthOf m)))
  else if obj = oFenceVoteRisk then some (f32Bytes 128 f.rV)
  else if obj = oFenceHistoryRisk then some (f32Bytes 128 f.rH)
  else if obj = oFenceFenced then some (leBytes 16 f.fen.fenced)
  else if o = oFenceDecisions ∧ e ≠ 0 then some (f.fen.decisions.getD (e - 1) [])
  else if o = oFenceKatRequest ∧ e ≠ 0 then
    ((f.fen.kats.filter (fun k => k.result.isNone && !k.timedOut))[e - 1]?).map (fun k => leBytes 4 k.path ++ leBytes 4 k.num ++ leBytes 8 k.step)
  else none

/-- HORIZON objects. -/
def Fabato.readHorizon (f : Fabato) (obj : Nat) : Option Bytes :=
  let e := objElem obj
  let o := obj / 256 * 256
  let i := obj / 256 % 65536
  if obj = oHorizonValid then some (leBytes 1 (if f.hor.valid then 1 else 0))
  else if obj = oHorizonPresent then some (leBytes 4 f.present)
  else if obj = oHorizonRosterUsed then some (leBytes 4 f.hor.roster.length)
  else if obj = oHorizonCommBytes then some (leBytes 4 f.hor.commBytes)
  else if e = 0 then none
  else if o = oHorizonMemberState then some (leBytes 1 (f.memberState (e - 1)))
  else if o = oHorizonSwaps then (f.hor.swaps[e - 1]?).map (fun s => leBytes 1 s.1 ++ leBytes 1 s.2 ++ zeros 2)
  else if o = oHorizonCommDef then some (f.hor.comm.getD (e - 1) [])
  else if o = oHorizonCommCapture then some ((f.hor.captures.map (fun x => x.2)).getD (e - 1) [])
  else if 0x1000 ≤ i ∧ i < 0x1200 then
    let n := 128 * (i - 0x1000) + e - 1
    some (match f.hor.roster.find? (fun r => r.idx == n) with | some r => r.bytes | none => zeros 64)
  else none

/-- SUNDOG objects. -/
def Fabato.readSundog (f : Fabato) (obj : Nat) : Option Bytes :=
  let e := objElem obj
  let o := obj / 256 * 256
  let s := f.sun
  if obj = oSundogState then some (leBytes 1 s.state.code)
  else if obj = oSundogPartner then some (leBytes 4 s.path ++ leBytes 16 s.uid ++ leBytes 4 s.feed)
  else if obj = oSundogCoFed then some (leBytes 1 (if s.coFed then 1 else 0))
  else if obj = oSundogJournalSeq then some (leBytes 8 s.seq)
  else if obj = oSundogLagBytes then some (leBytes 8 (lagOf s.journal f.ns).1)
  else if obj = oSundogLagNs then some (leBytes 8 (lagOf s.journal f.ns).2)
  else if obj = oSundogLastSnapshot then some (leBytes 10 (time80 s.lastSnap))
  else if obj = oSundogSnapshotsHeld then some (leBytes 4 s.snaps.length)
  else if obj = oSundogHosting then some (leBytes 4 (s.hosting.getD 0xFFFFFFFF))
  else if obj = oSundogRefill then some (leBytes 4 s.refill.1 ++ leBytes 4 s.refill.2.1 ++ leBytes 8 s.refill.2.2.1 ++ leBytes 8 s.refill.2.2.2)
  else if obj = oSundogDurableBytes then some (leBytes 8 (setBytes f.durableMram))
  else if obj = oSundogBulkBytes then some (leBytes 8 (setBytes (fitBulk f.bulkImages 536870912).1))
  else if o = oSundogCutLag ∧ e ≠ 0 then some (s.cutLag.getD (e - 1) (zeros 24))
  else if o = oSundogGaps ∧ e ≠ 0 then (s.gaps[e - 1]?).map (fun g => leBytes 10 (time80 g.1) ++ leBytes 10 (time80 g.2))
  else none

/-- Objects whose value a group computes. -/
def Fabato.readObj (f : Fabato) (a : Actor) (obj : Nat) : Option Bytes :=
  let c := f.core
  let e := objElem obj
  let o := obj / 256 * 256
  let i := obj / 256 % 65536
  match c.readShared f.g.quality a obj with
  | some v => some v
  | none =>
    match objArea obj with
    | 0x00 => if obj = oIdentPart then some [70, 66, 45, 52, 56] else none
    | 0x01 => if obj = oSessionOutstanding then some (leBytes 4 f.fwd.pending.length) else none
    | 0x02 =>
      if o = oTimeMemberOffset ∧ e ≠ 0 then (f.g.halo.members[e - 1]?).map (fun m => leBytes 8 (wrapInt 64 m.theta))
      else if o = oTimeMemberQuality ∧ e ≠ 0 then (f.g.halo.members[e - 1]?).map (fun m => leBytes 4 m.quality.toNat)
      else none
    | 0x03 =>
      if obj = oAnglePhaseSpread then some (leBytes 8 f.g.win.spread)
      else if o = oAngleMemberLag ∧ e ≠ 0 then some (leBytes 4 (wrapInt 32 (f.g.win.lags.getD (e - 1) 0)))
      else none
    | 0x06 =>
      if obj = oTraceStoreUsed then some (leBytes 8 f.fwd.traceBytes)
      else if obj = oTraceExportStatus then some (c.get oTraceExportStatus)
      else none
    | 0x09 => if o = oRecordNextSeq ∧ e ≠ 0 then some (leBytes 4 (f.g.jet.seq.getD (e - 1) 0).toNat) else none
    | 0x0A => f.readLink obj
    | 0x0C => f.readPower obj
    | 0x0D => f.readCells obj
    | 0x0F =>
      if e = 0 then (if obj = oCutWfGraph then some f.cast.graph else none)
      else if o = oCutResult then some (f.cast.results.getD (e - 1) [])
      else if o = oCutOutside then some (f.cast.outside.getD (e - 1) [])
      else if o = oCutChannel then some (f.cast.channel.getD (e - 1) [])
      else none
    | 0x10 => f.readCells obj
    | 0x11 => f.readAnalytics obj
    | 0x12 => f.readAnalytics obj
    | 0x13 => f.readAnalytics obj
    | 0x14 => f.readFence obj
    | 0x15 =>
      if e = 0 then none
      else if o = oJetGclOper then some ((f.g.jet.ports.getD (e - 1) JPort.fresh).oper.list)
      else if o = oJetQueueBytes then some (leBytes 8 (f.g.jet.portBytes (e - 1)))
      else if 0x0100 ≤ i ∧ i < 0x0110 then
        some (match f.g.jet.subs.find? (fun s => s.idx == 128 * (i - 0x0100) + e - 1) with | some s => s.bytes | none => zeros 16)
      else none
    | 0x16 => f.readHorizon obj
    | 0x17 => f.readSundog obj
    | 0x18 =>
      if o = oCadenceState ∧ e ≠ 0 then some (match f.cast.jobs.find? (fun j => j.idx == e - 1) with | some j => j.bytes | none => zeros 64)
      else if o = oCadenceRequest ∧ e ≠ 0 then (f.cast.reqs[e - 1]?).map CadReq.bytes
      else none
    | 0x19 =>
      if obj = oCondenseInUse then
        some (leBytes 2 (f.g.cond.ctxs.filter (fun x => x.bound.isSome)).length ++ leBytes 2 (f.g.cond.ctxs.filter (fun x => x.key.isSome)).length)
      else if o = oCondenseEngineLoad ∧ e ≠ 0 then some (leBytes 4 (Config.freeBits 32 7 c.free).toNat)
      else if 0x1000 ≤ i ∧ e = 2 then
        some (leBytes 8 (match f.g.cond.ctxs.find? (fun x => x.idx == i - 0x1000) with | some x => x.word | none => 0xFFFF * 65536 + 0xF))
      else none
    | 0x1A => f.readAlmanac obj
    | 0x1B => f.readFw obj
    | 0x1D =>
      if e = 0 then none
      else if o = oLoftSlotState then some (leBytes 1 (f.slot (e - 1)).state)
      else if o = oLoftSlotFault then some (leBytes 4 (f.slot (e - 1)).fault)
      else if o = oLoftCoreState then some (leBytes 1 (f.coreState (e - 1)))
      else if 0x0100 ≤ i ∧ i < 0x0110 then some (nthLe 8 (f.slot (i - 0x0100)).out e)
      else none
    | _ => none

/-- A read draws a free value once. -/
def Fabato.didRead (f : Fabato) (obj : Nat) : Fabato :=
  if obj = oPowerEstimate ∨ obj / 256 = 0x0A8000 ∨ obj / 256 = oCellNocLoad / 256 ∨ obj / 256 = oCondenseEngineLoad / 256 then
    f.onCore (fun c => { c with free := c.free + 1 })
  else f

/-- Arrays whose length a group computes. -/
def Fabato.inUse (f : Fabato) (obj : Nat) : Option Nat :=
  match f.core.inUseShared obj with
  | some n => some n
  | none =>
    let o := obj / 256 * 256
    if o = oSpareInventory then some 5
    else if o = oSpareCandidates then some f.cel.cands.length
    else if o = oSpareFillQueue then some f.cel.fillQueue.length
    else if o = oFenceDecisions then some f.fen.decisions.length
    else if o = oFenceKatRequest then some (f.fen.kats.filter (fun k => k.result.isNone && !k.timedOut)).length
    else if o = oCutResult then some f.cast.results.length
    else if o = oCutOutside then some f.cast.outside.length
    else if o = oCutChannel then some f.cast.channel.length
    else if o = oHorizonSwaps then some f.hor.swaps.length
    else if o = oHorizonCommCapture then some f.hor.captures.length
    else if o = oSundogGaps then some f.sun.gaps.length
    else if o = oCadenceRequest then some f.cast.reqs.length
    else if obj / 256 = 0x048010 then some 0
    else if objArea obj = 0x1A ∧ 0x1000 ≤ obj / 256 % 65536 ∧ obj / 256 % 65536 < 0x1000 + 1478 then
      some (Nat.min 255 (f.alm.log.length - 255 * (obj / 256 % 65536 - 0x1000)))
    else if objArea obj = 0x1B ∧ 0x4000 ≤ obj / 256 % 65536 then some (Nat.min 255 (f.fwChunks - 255 * (obj / 256 % 65536 - 0x4000)))
    else none

/-- Tenant of a job-scoped element (R116): cadence entries, communication definitions and captures; a counter's own. -/
def Fabato.tenant (f : Fabato) (obj : Nat) : Option Nat :=
  let e := objElem obj
  let o := obj / 256 * 256
  let t :=
    if e = 0 then 0
    else if o = oCadenceJob then (f.core.jobEntry (e - 1)).1
    else if o = oCadenceState then ((f.cast.jobs.find? (fun j => j.idx == e - 1)).map (fun j => j.tenant)).getD 0
    else if o = oCadenceRequest then ((f.cast.reqs[e - 1]?).map (fun r => r.tenant)).getD 0
    else if o = oHorizonCommDef then commTenant (f.hor.comm.getD (e - 1) [])
    else if o = oHorizonCommCapture then commTenant ((f.hor.captures.map (fun x => x.2)).getD (e - 1) [])
    else 0
  if t = 0 then none else some t

/-! ### Checks -/

/-- A queue profile (Table 12.5). -/
def checkProfile (b : Bytes) : Nat :=
  let rate := leAt b 8 8
  let burst := leAt b 4 4
  let ctx := leAt b 2 2
  if (rate ≠ 0 ∧ (rate < 10000 ∨ rate > 100000000000)) ∨ burst < 9216 ∨ burst > 16777216 ∨ (ctx ≥ 4096 ∧ ctx ≠ 0xFFFF) ∨ leAt b 0 2 = 0 then eRange else stOk

/-- A subscriber entry (R325, Table 12.4). -/
def Fabato.checkSub (f : Fabato) (idx : Nat) (b : Bytes) : Nat :=
  if leAt b 10 1 ≠ 0 ∨ leAt b 0 5 / 2 ≠ 0 then eReserved
  else match f.g.jet.subs.find? (fun s => s.idx == idx) with
    | none => eRange
    | some s =>
      if leAt b 12 4 ≠ s.path ∨ leAt b 8 1 ≠ s.port ∨ leAt b 10 2 = 0 ∨ leAt b 7 1 ≥ 64 ∨ leAt b 6 1 ≥ 64 ∨ leAt b 5 1 ≥ 64 then eRange else stOk

/-- A Vantage subscription (Table 12.10). -/
def checkVantage (b : Bytes) : Nat :=
  if leAt b 7 1 % 16 ≠ 0 ∨ leAt b 1 5 ≠ 0 then eReserved else if leAt b 0 1 > 2 then eRange else stOk

/-- A Sky port map entry in its map (R283, R27, Table 10.7). -/
def Core.checkMap (c : Core) (p : Nat) (b : Bytes) : Nat :=
  let m := skyMapOf b
  let other (q : Nat) : SkyMap := skyMapOf (viewWith c c.waitX (oLinkSkyPortMap + q + 1))
  if leAt b 5 3 ≠ 0 then eReserved
  else if m.lanes = 0 then stOk
  else if !(m.lanes == 1 || m.lanes == 2 || m.lanes == 4) ∨ m.first % m.lanes ≠ 0 ∨ m.first + m.lanes > 32 ∨ m.role > 5 ∨ m.member > 15 ∨ (m.role ≠ 2 ∧ m.member ≠ 0)
      ∨ (m.role = 4 ∧ m.lanes ≠ 4) ∨ (c.kind = 1 ∧ (m.role = 2 ∨ m.role = 5)) then eRange
  else if (List.range 24).any (fun q => q != p && (let x := other q; decide (x.lanes > 0) && decide (m.first < x.first + x.lanes) && decide (x.first < m.first + m.lanes))) then eRange
  else stOk

/-- Whether an f32 lies between two fractions, given as numerators over 100; both ends count. -/
def checkF32 (v : Bytes) (lo hi : Int) : Nat := if f32In v lo hi then stOk else eRange

/-- A job entry (Table 18.9); an Observer registers a job of its own tenant only (R116). -/
def checkJob (a : Actor) (b : Bytes) : Nat :=
  let r := f32Val (leAt b 20 4)
  let mode := leAt b 0 1
  if a.role.rank < 1 ∧ leAt b 28 4 ≠ a.tenant then eScope
  else if leAt b 1 19 ≠ 0 then eReserved
  else if mode > 3 then eRange
  else if mode = 0 then stOk
  else if leAt b 28 4 = 0 ∨ leAt b 24 4 = 0 ∨ leAt b 24 4 > 86400000 ∨ !flt (fofInt 0) r ∨ !flt r (fofInt 1) then eRange
  else stOk

/-- A steering rule (Table 12.3). -/
def checkSteer (b : Bytes) : Nat :=
  if leAt b 0 1 / 8 ≠ 0 then eReserved else if leAt b 7 1 > 3 then eRange else stOk

/-- A vote entry (Table 15.3): its reserved bits. -/
def checkVote (b : Bytes) : Nat :=
  let n := leAt b 0 16
  if bitsOf n 31 2 ≠ 0 ∨ bitsOf n 47 42 ≠ 0 ∨ bitsOf n 95 64 ≠ 0 then eReserved else stOk

/-- Slots of a feature context: whole pieces of 16 bytes, each well formed; streams of 32 bytes. -/
def checkPieces (k most : Nat) (one : Bytes → Nat) (b : Bytes) : Nat :=
  if b.length % k ≠ 0 ∨ b.length > k * most then eRange
  else (List.range (b.length / k)).foldl (fun st i => if st ≠ stOk then st else one (slice b (k * i) k)) stOk

/-- A change of bulk or durable configuration that would not fit the durable region (R427). -/
def Fabato.checkRoom (f : Fabato) (obj : Nat) (v : Bytes) : Nat :=
  if isDurable f.core.kind obj ∧ !f.durableRoom v.length then eRange else stOk

/-- Checks of the group's objects beyond type, range and codes. -/
def Fabato.checkObj (f : Fabato) (a : Actor) (obj : Nat) (v : Bytes) : Nat :=
  let n := ofLe v
  let e := objElem obj
  let o := obj / 256 * 256
  let i := obj / 256 % 65536
  let c := f.core
  let st :=
    match objArea obj with
    | 0x02 =>
      if obj = oTimePhaseSrc ∧ n ≠ 0 ∧ !c.plan.root then eRange
      else if obj = oTimeTodSet ∧ !(c.isRoot && (c.num oTimePhaseSrc == 0 || c.num oTimePhaseSrc == 4)) then eRange else stOk
    | 0x03 => if o = oAngleListA ∨ o = oAngleListB then checkEntry v else stOk
    | 0x06 =>
      if obj = oTraceEnable then (if n = 0 then stOk else eRange)
      else if obj = oTraceStoreSize then (if n % 2 ^ 30 = 0 ∧ n ≤ 192 * 2 ^ 30 then stOk else eRange)
      else if obj = oTraceExport then
        (if leAt v 1 5 ≠ 0 then eReserved else if leAt v 0 1 > 2 then eRange else stOk)
      else if obj = oTraceInject then eRange
      else stOk
    | 0x0A =>
      if obj = oLinkDzForceRetrain then (if c.kind = 1 ∧ n < 136 then stOk else eRange)
      else if o = oLinkSkyPortMap then c.checkMap (e - 1) v
      else stOk
    | 0x0B => checkCal obj v
    | 0x0C =>
      if o = oPowerPortDomain ∨ obj = oPowerMemTimeout then eRange
      else if obj = oPowerThermAlert then checkF32 v 7000 11000
      else stOk
    | 0x0F =>
      if obj = oCutWfBuild then (if v.length ≠ 14 then eRange else stOk)
      else stOk
    | 0x10 =>
      if obj = oCellSpareInit then (if n < 2 ^ 52 ∧ popCount 64 n = 4 then stOk else eRange)
      else if obj = oFtShadowRate then (if n = 0 ∨ (8 ≤ n ∧ n ≤ 1024) then stOk else eRange)
      else stOk
    | 0x11 => if e = 1 then checkRedDesc v else if e = 3 then checkValues v else stOk
    | 0x12 =>
      if 0x0100 ≤ i ∧ i < 0x0200 then (if e = 1 then checkFeatDesc v else if e = 3 then checkPieces 128 64 (checkPieces 16 8 checkFeatSlot) v else stOk)
      else if 0x0300 ≤ i ∧ i < 0x0340 then
        (if e = 4 then (if f.activateOk (i - 0x0300) n then stOk else eRange)
         else if e = 8 then
          (let w := f32Val (leAt v 12 4)
           if leAt v 1 6 ≠ 0 ∨ leAt v 0 1 / 2 ≠ 0 then eReserved
           else if leAt v 8 4 > 8 ∨ fisNeg w ∨ w == .nan ∨ w == .inf false then eRange else stOk)
         else stOk)
      else stOk
    | 0x13 => if 0x0100 ≤ i ∧ e = 1 then checkPieces 32 32 checkStream v else stOk
    | 0x14 =>
      if obj = oFenceThreshold ∨ obj = oFenceKindThreshold then checkF32 v 0 100
      else if obj = oFenceSuspicion then (if n = 0 then stOk else eRange)
      else if o = oFenceVote then checkVote v
      else stOk
    | 0x15 =>
      if o = oJetProfile then checkProfile v
      else if o = oJetSteer then checkSteer v
      else if o = oJetGclAdmin then gclCheck v
      else if obj = oJetIngestSt then (if n / 65536 ≠ 0 then eReserved else if n % 256 = 0 ∨ n / 256 = 0 then eRange else stOk)
      else if 0x0100 ≤ i ∧ i < 0x0110 then f.checkSub (128 * (i - 0x0100) + e - 1) v
      else stOk
    | 0x16 =>
      if obj = oHorizonPlanHeader then checkHeader c.kind v
      else if o = oHorizonPlanMember then checkPlanMember v
      else if o = oHorizonCommDef then
        (let s := checkComm v
         if s ≠ stOk then s
         else if f.hor.commBytes + v.length > 524288 then eRange else stOk)
      else stOk
    | 0x18 => if o = oCadenceJob then checkJob a v else if obj = oCadenceRiskHyst then checkF32 v 0 50 else stOk
    | 0x19 =>
      if 0x1000 ≤ i ∧ e = 1 then (if bitsOf n 15 8 ≠ 0 then eReserved else if bitsOf n 7 0 = 0 ∨ bitsOf n 7 0 > 9 ∨ bitsOf n 31 16 = 0 then eRange else stOk)
      else stOk
    | 0x1B => if obj = oFwMinSvn ∧ (n < c.num oFwMinSvn ∨ n > (imageHead f.fw.running).svn) then eRange else stOk
    | 0x1C => if o = oVantageSub then checkVantage v else if o = oVantageTrigDesc then checkTrig v else stOk
    | 0x1D =>
      if (o = oLoftSlotLoad ∨ o = oLoftSlotMem ∨ o = oLoftSlotDigest) ∧ (f.slot (e - 1)).state = 3 then eBusy else stOk
    | _ => stOk
  if st ≠ stOk then st else f.checkRoom obj v

/-- The declared pairs of a group: R135, the descriptors of a reduction and its values, of a feature context and its slots, the plan, cadence's bounds,
the snapshot intervals, the Condenser's idle times. -/
def Fabato.pairs (f : Fabato) (os : List Nat) : List (List Nat × ((Nat → Bytes) → Bool)) :=
  let red := (os.filter (fun o => objArea o == 0x11 && decide (o / 256 % 65536 ≥ 0x1000) && (o % 256 == 1 || o % 256 == 3))).map (fun o => o / 256 * 256)
  let feat := (os.filter (fun o => o / 65536 == 0x1201 && (o % 256 == 1 || o % 256 == 3))).map (fun o => o / 256 * 256)
  let plan : List Nat × ((Nat → Bytes) → Bool) := (oHorizonPlanHeader :: (List.range 128).map (fun i => oHorizonPlanMember + i + 1), planAgree f.core.kind)
  let le (x y : Nat) : List Nat × ((Nat → Bytes) → Bool) := ([x, y], fun v => decide (ofLe (v x) ≤ ofLe (v y)))
  let fixed := [timePair, plan, le oCadenceMinInterval oCadenceMaxInterval, le oSundogSnapshotIntervalCofed oSundogSnapshotInterval,
    (([oCondenseIdleReset, oCondenseDecodeIdle], fun v => decide (ofLe (v oCondenseIdleReset) < ofLe (v oCondenseDecodeIdle))) : List Nat × ((Nat → Bytes) → Bool))]
  (red.eraseDups.map (fun b => ([b + 1, b + 3], fun v => redAgree (v (b + 1)) (v (b + 3)))))
    ++ (feat.eraseDups.map (fun b => ([b + 1, b + 3], fun v => featAgree (v (b + 1)) (v (b + 3)))))
    ++ fixed.filter (fun p => p.1.any (fun o => os.contains o))

/-! ### Values taking effect -/

/-- What leaving Up means beside the lane itself: the open exchange ends, a step not yet echoed is cancelled (R271), the member's quality byte is noted
for its OLD records (R316). -/
def Group.laneLeft (g : Group) (n : Nat) : Group :=
  let owed := ((g.lanes[n]?).map (fun l => l.step.isSome)).getD false
  (g.onLane n (fun l => { l with waiting := false, step := none })).onMember n (fun m =>
    { m with oldQuality := m.quality, t1 := none, mode := if owed && m.mode == .locked then .acquiring else m.mode })

/-- A Drizzle lane leaves Up with a cause (R263–R275). -/
def Group.dzDown (g : Group) (n cause : Nat) : Group :=
  match g.lanes[n]? with
  | none => g
  | some l =>
    if l.lane.phy.state ≠ .up then g
    else
      let r := laneDown g.core l.lane n 0xFF cause
      ({ g with core := r.1, lanes := g.lanes.set n { l with lane := r.2 } }).laneLeft n

/-- LINK.DZ_ENABLE of a lane takes effect. -/
def Fabato.dzEnable (f : Fabato) (n : Nat) (on : Bool) : Fabato :=
  if f.core.kind ≠ 1 then f
  else if !on then
    let g := f.g.dzDown n 4
    { f with g := g.onLane n (fun l => { l with lane := l.lane.disable g.core.up }) }
  else if f.cel.dzOut.getD n false then f
  else f.onG (fun g => g.onLane n (fun l => if l.lane.phy.state = .disabled then { l with lane := l.lane.train g.core.up } else l))

/-- A subscriber entry takes effect; none where the subscriber has been freed (R325). A class that changes its profile starts with that profile's full
burst. -/
def Group.subWritten (g : Group) (idx : Nat) (b : Bytes) : Group :=
  match g.jet.subs.find? (fun s => s.idx == idx) with
  | none => g
  | some s =>
    let ps := [leAt b 7 1, leAt b 6 1, leAt b 5 1]
    let queues := s.queues.mapIdx (fun k q =>
      if ps.getD k 0 = s.profiles.getD k 0 then q else { q with tokens := (g.core.profile (ps.getD k 0)).burst * 1000000000, tokensAt := g.core.ns, eligibleAt := none })
    ({ g with jet := g.jet.setSub { s with quantum := leAt b 10 2, profiles := ps, queues := queues } }).rebind

/-- Drop the stored copy of an object whose value lives elsewhere. -/
def Fabato.unstore (f : Fabato) (obj : Nat) : Fabato := f.onCore (fun c => { c with store := storeErase c.store obj })

/-- CADENCE.JOB's count takes effect: entries out of use leave, entries back in use register. -/
def Fabato.jobCount (f : Fabato) : Fabato :=
  (List.range 64).foldl (fun (f : Fabato) i =>
    let on := (f.core.jobEntry i).1 != 0 && (f.core.jobEntry i).2.2.2 != 0
    if on = f.cast.jobs.any (fun j => j.idx == i) then f else f.jobWritten i) f

/-- Before a rate, burst or budget changes, the buckets under it fill at the old one (R330, R414). -/
def Fabato.before (f : Fabato) (obj : Nat) : Fabato :=
  if obj = oFenceBudget ∨ obj = oFencePeriod then { f with fen := { f.fen with bucket := f.fen.bucket.refill f.core } }
  else if obj = oJetAPoliceRate ∨ obj = oJetAPoliceBurst then
    f.onG (fun g => { g with jet := { g.jet with subs := g.jet.subs.map (fun s => s.refill g.core) } })
  else if obj / 256 = oJetProfile / 256 then
    f.onG (fun g => { g with jet := { g.jet with subs := g.jet.subs.map (fun s =>
      { s with queues := s.queues.mapIdx (fun k q => q.refill (g.core.profile (s.profiles.getD k 0)) g.core.ns) }) } })
  else f

/-- What a value that has taken effect does at the group; `step?` is the step of the marker it takes effect at. -/
def Fabato.effect (step? : Option Nat) (f : Fabato) (obj : Nat) (v : Bytes) : Fabato :=
  let n := ofLe v
  let e := objElem obj
  let o := obj / 256 * 256
  let i := obj / 256 % 65536
  match objArea obj with
  | 0x03 =>
    if obj = oAngleLockMode then f.onCore Core.lockMode
    else if obj = oAngleActiveList ∨ o = oAngleListA ∨ o = oAngleListB then f.onCore (fun c => c.listChanged obj)
    else f
  | 0x0A => if o = oLinkDzEnable ∧ e ≠ 0 then f.dzEnable (e - 1) (n != 0) else f
  | 0x0C => if o = oPowerHoldAwake ∧ e ≠ 0 ∧ n ≠ 0 ∧ f.cel.blockState.getD (e - 1) 0 ≠ 0 then f.touch (e - 1) else f
  | 0x11 =>
    if 0x1000 ≤ i then
      (if e = 2 then { f with an := { f.an with masks := if f.an.masks.contains obj then f.an.masks else f.an.masks ++ [obj] } }
       else f)
    else f
  | 0x12 =>
    if 0x0100 ≤ i ∧ i < 0x0200 then
      (if e = 2 then { f with an := { f.an with masks := if f.an.masks.contains obj then f.an.masks else f.an.masks ++ [obj] } }
       else f)
    else if 0x0300 ≤ i ∧ i < 0x0340 ∧ e = 4 then f.modelSwitch (i - 0x0300) n step?
    else f
  | 0x13 => if 0x0100 ≤ i ∧ e = 1 then f.driftCommit (i - 0x0100) else f
  | 0x14 => if obj = oFenceSuspicion then (f.unstore obj).clearSuspicion else f
  | 0x15 =>
    if o = oJetProfile ∧ e ≠ 0 then f.onG (fun g => (g.profileChanged (e - 1)).rebind)
    else if o = oJetGclAdmin ∧ e ≠ 0 then f.onG (fun g => g.gclCommit (e - 1) v)
    else if 0x0100 ≤ i ∧ i < 0x0110 ∧ e ≠ 0 then (f.unstore obj).onG (fun g => g.subWritten (128 * (i - 0x0100) + e - 1) v)
    else f
  | 0x16 =>
    if o = oHorizonCommDef then
      (if e = 0 then { f with hor := { f.hor with comm := f.hor.comm.take n } }
       else let g := f.unstore obj; { g with hor := g.hor.setComm e v })
    else f
  | 0x18 => if o = oCadenceJob then (if e = 0 then f.jobCount else f.jobWritten (e - 1)) else f
  | 0x1B => if obj = oFwActivate ∧ n ≠ 0 then f.fwActivate else f
  | 0x1C => if o = oVantageTrigDesc ∧ e ≠ 0 then f.onG (fun g => g.trigStart (e - 1)) else f
  | _ => f

/-- What follows once all values of one instant are in: a context whose pair changed is placed or leaves its Cell, a plan is compared with the roster once (R441), and a refused partner is greeted anew. -/
def Fabato.valuesIn (f : Fabato) (os : List Nat) : Fabato :=
  let pairOf (area lo hi o : Nat) : Bool := objArea o == area && decide (lo ≤ o / 256 % 65536) && decide (o / 256 % 65536 < hi) && (objElem o == 1 || objElem o == 3)
  let f := (((os.filter (pairOf 0x11 0x1000 0x1400)).map (fun o => o / 256 % 65536 - 0x1000)).eraseDups).foldl (fun (f : Fabato) n => f.redCommit n) f
  let f := (((os.filter (pairOf 0x12 0x0100 0x0200)).map (fun o => o / 256 % 65536 - 0x0100)).eraseDups).foldl (fun (f : Fabato) n => f.featCommit n) f
  if os.any (fun o => o == oHorizonPlanHeader || o / 256 == oHorizonPlanMember / 256) then
    let f := (f.onCore (fun c => c.usePair oHorizonPlanHeader (oHorizonPlanMember + 1))).planCommit
    if f.sun.state = .refused then ({ f with sun := { f.sun with state := .alone } } : Fabato).sunHelloSend else f
  else f

/-! ### Trace export (R217) -/

/-- Order of a trace export: extended time, member path, source sub-identifier, sequence. -/
def traceLe (x y : ExtRecord) : Bool :=
  let k (e : ExtRecord) : List Nat := [e.time.toNat, e.path.toNat, e.base.src.toNat, e.base.seq.toNat]
  decide (k x ≤ k y)

/-- Whether a record lies in the selection of an export: its time, member and tap. -/
def traceHit (d : Bytes) (e : ExtRecord) : Bool :=
  let m := leAt d 8 4
  let p := e.path.toNat
  let all (hi lo : Nat) : Bool := bitsOf m hi lo == 2 ^ (hi - lo + 1) - 1 || bitsOf m hi lo == bitsOf p hi lo
  let sub := e.base.src.toNat / 1024
  decide (ofTime80 (leAt d 22 10) ≤ e.time.toNat) && decide (e.time.toNat < ofTime80 (leAt d 12 10))
    && all 31 28 && all 27 22 && all 21 16 && all 15 8
    && decide (0x20 ≤ sub) && decide (sub < 0x30) && (leAt d 6 2).testBit (sub - 0x20)

/-- TRACE.EXPORT_STATUS. -/
def Fabato.exportStatus (f : Fabato) (state sent : Nat) : Fabato := f.onCore (fun c => c.putNum oTraceExportStatus (state * 2 ^ 62 + sent % 2 ^ 62))

/-- A write to TRACE.EXPORT. Records overwritten in the range stand as one gap record of reason 0x24 ahead of what is left. -/
def Fabato.exportWrite (f : Fabato) (d : Bytes) : Fabato × Nat :=
  let dest := leAt d 0 1
  if dest = 0 then
    match f.fwd.exporting with
    | some _ => (({ f with fwd := { f.fwd with exporting := none } } : Fabato).exportStatus 3 (f.core.num oTraceExportStatus % 2 ^ 62), stOk)
    | none => (f, stOk)
  else if f.fwd.exporting.isSome then (f, eBusy)
  else
    let sel := sortBy (f.fwd.trace.filter (traceHit d)) traceLe
    let lost := match f.fwd.overwritten with
      | some t => decide (ofTime80 (leAt d 22 10) ≤ t)
      | none => false
    let gap := if !lost then [] else match sel with
      | e :: _ => [gapOf e e.base.seq.toNat (Nat.min (f.core.num oTraceStoreOverwrites) 65535) 0x24]
      | [] => [f.g.bareGap f.core.path .t 0 (Nat.min (f.core.num oTraceStoreOverwrites) 65535) 0x24]
    (({ f with fwd := { f.fwd with exporting := some { desc := d, dest := dest, todo := gap ++ sel } } } : Fabato).exportStatus 1 0, stOk)

/-! ### Command objects -/

/-- A fan-out of a cut's arm or cancel with nobody waiting; Forward attaches the requester (R454, R456). -/
def Fabato.cutFan (f : Fabato) (a : Actor) (obj : Nat) (ty : Ty) (v : Bytes) (cut : Option Nat) (own : Nat) : Fabato :=
  f.fanStart { port := .mailbox, paths := [f.core.path], hop := 15 } a [] 1 0x02 (writeItemBytes { obj := obj, ty := ty.code, value := v }) cut
    (own, if own < 0x80 then none else some (0, own))

/-- CUT objects. -/
def Fabato.cutCommand (f : Fabato) (a : Actor) (obj : Nat) (v : Bytes) : Fabato × Nat :=
  let n := ofLe v
  if obj = oCutArm then f.castArm v false
  else if obj = oCutRequest then
    let st := f.castRequest v
    if st ≠ stOk then (f, st)
    else
      let r := f.castArm v true
      (r.1.cutFan a oCutArm .blob v (some (cutId v)) r.2, stOk)
  else if obj = oCutCancel then
    let first := f.cast.cuts.any (fun k => cutId k.desc == n && k.initiator)
    let r := f.castCancel n
    if first ∧ r.2 = stOk then (r.1.cutFan a oCutCancel .u32 v none stOk, stOk) else r
  else if obj = oCutWfBuild then (f.wfBuild (leAt v 0 4) (ofTime80 (leAt v 4 10)), stOk)
  else if obj / 256 = oCutWfMerge / 256 then f.wfChild (objElem obj - 1) v
  else (f, eNoObject)

/-- A write to a command object of the group; the soft marker is added where the marker sequence is defined. -/
def Fabato.command (f : Fabato) (a : Actor) (obj : Nat) (v : Bytes) : Fabato × Nat :=
  let n := ofLe v
  let e := objElem obj
  let o := obj / 256 * 256
  let i := obj / 256 % 65536
  match objArea obj with
  | 0x00 => if obj = oIdentRestart then (f.restart false, stOk) else (f, eNoObject)
  | 0x01 => if obj = oSessionCloseSession then let r := f.core.closeNamed n; (f.onCore (fun _ => r.1), r.2) else (f, eNoObject)
  | 0x02 =>
    if obj = oTimeForceState then (f.onG (fun g => g.force n), stOk)
    else if obj = oTimeTodSet then (f.onG (fun g => g.todSet (ofTime80 n)), stOk)
    else (f, eNoObject)
  | 0x03 =>
    if obj = oAngleSoftMarker then (f.onCore (fun c => c.bump oAngleGlitches), stOk)
    else if obj = oAngleStepBase then (f.onG (fun g =>
      let a := g.core.angle
      let a := if a.seen then { a with step := n * 2 ^ 32 + a.step % 2 ^ 32 } else a
      { g with win := { g.win with base := n }, core := { g.core with angle := a } }), stOk)
    else (f, eNoObject)
  | 0x06 =>
    if obj = oTraceExport then f.exportWrite v
    else if obj = oTraceArm ∨ obj = oTraceInject then (f, stOk)
    else (f, eNoObject)
  | 0x0A =>
    if obj = oLinkDzForceRetrain then
      match f.g.lanes[n]? with
      | some l =>
        if l.lane.phy.state = .up then
          (({ f with g := (f.g.dzDown n 3).onLane n (fun l => { l with lane := l.lane.enter .retrain f.up }) } : Fabato), stOk)
        else (f, stOk)
      | none => (f, eRange)
    else (f, eNoObject)
  | 0x0D => if obj = oSpareCellReadmit then f.readmit n else if obj = oSpareLaneRestore then f.laneRestore n else (f, eNoObject)
  | 0x0F => f.cutCommand a obj v
  | 0x10 => if obj = oFtRun then f.testRun n else if obj = oFtInject then f.inject n else (f, eNoObject)
  | 0x12 =>
    if 0x0300 ≤ i ∧ i < 0x0340 then
      let m := i - 0x0300
      if e = 1 then f.modelLoad m v
      else if n = 1 then (f.modelInstall m, stOk) else if n = 2 then f.modelDiscard m else f.modelUnload m
    else (f, eNoObject)
  | 0x13 => if obj = oDriftReset then f.driftReset n else (f, eNoObject)
  | 0x14 =>
    if obj = oFenceRelease then f.release n
    else if obj = oFenceForce then f.forceFence n
    else if o = oFenceKatResult ∧ e ≠ 0 then f.katResult n (e == 2)
    else (f, eNoObject)
  | 0x16 => if obj = oHorizonAdopt then f.adopt n else if obj = oHorizonEndProbation then f.endProbationWrite n else (f, eNoObject)
  | 0x17 => if obj = oSundogTakeover then f.takeoverWrite n else (f, eNoObject)
  | 0x18 =>
    if obj = oCadenceAck then f.cadAck n
    else if obj = oCadenceInterrupt then f.cadWrite n
    else if obj = oCadenceCkptDone then f.cadDone (leAt v 0 4) (leAt v 4 8)
    else (f, eNoObject)
  | 0x19 => if 0x1000 ≤ i ∧ e = 3 then ((if n = 1 then f.onG (fun g => g.condReset (i - 0x1000)) else f), stOk) else (f, eNoObject)
  | 0x1A => if obj = oAlmanacClear then f.almanacClear a n else (f, eNoObject)
  | 0x1B =>
    if obj = oFwLoad then f.fwLoad v
    else if obj = oFwCtrl then f.fwCtrl n
    else if obj = oFwKeyRevoke then (f.fwRevoke n, stOk)
    else (f, eNoObject)
  | 0x1D =>
    if o = oLoftSlotLoad then f.loftLoad (e - 1) v else if o = oLoftSlotCtrl then f.loftCtrl (e - 1) n else (f, eNoObject)
  | _ => (f, eNoObject)

/-- The group's dictionary, for values that take effect at the marker of a step or at another instant. -/
def fbOps0 (step? : Option Nat) : UnitOps Fabato :=
  { get := Fabato.core, set := fun f c => f.onCore (fun _ => c), read := fun f a x => f.readObj a x, didRead := Fabato.didRead,
    inUse := Fabato.inUse, tenant := Fabato.tenant, check := Fabato.checkObj, before := Fabato.before, effect := Fabato.effect step?, done := Fabato.valuesIn,
    command := Fabato.command, pairs := Fabato.pairs }

end Sys2Proof.Machine
end

