-- ==== Sys2Proof/Machine/OvtanAngle.lean ====
section
/-! DEFINITION. Meridian at an Ovtan: the marker sequence (R163, R532), the marker report (R170), handing firings to the sequencer (R165–R167), and the Ovtan's dictionary with the soft marker (R175). -/
namespace Sys2Proof.Machine

/-- R163 step 1 at time `t`: every angle entry of the old step not yet fired is cancelled, in Meridian and in the sequencer's queue. -/
def Ovtan.cancelStep (o : Ovtan) (t : Nat) : Ovtan :=
  let live (f : Firing) : Bool := !f.timeEntry && f.cut.isNone && decide (f.fire ≥ t)
  let gone := (o.cap.queue.filter live).length + (match o.cap.run with | some r => if live r.fir then 1 else 0 | none => 0)
  let fresh := (o.core.angle.armed.filter (fun e => !e.handed && decide (e.fire ≥ t))).length
  let a := { o.core.angle with armed := [], cancelled := o.core.angle.cancelled + gone + fresh, fired := o.core.angle.fired - gone }
  let run := match o.cap.run with
    | some r => if live r.fir then none else some r
    | none => none
  { o with core := { o.core with angle := a }, cap := { o.cap with queue := o.cap.queue.filter (fun f => !live f), run := run } }

/-- The marker report (R170): entry 0's sample, with the counts of the step that the marker closed. -/
def Ovtan.markerReport (o : Ovtan) (t : Nat) : Ovtan :=
  let a := o.core.angle
  let o := if o.core.flag oAngleMarkerReport then
      let h := headerRecord 0 0x02 t (a.step % 2 ^ 32, 0, a.statusByte t false false) 0 a.fired a.cancelled a.skipped 0 0 0 0
      o.onBuf (fun c b => commitS c b 0 t [h])
    else o
  { o with core := { o.core with angle := { o.core.angle with fired := 0, cancelled := 0, skipped := 0 } } }

/-- Whether an optional entry is skipped at hand-off (R167). -/
def Ovtan.skips (o : Ovtan) : Bool :=
  decide (o.buf.s.length ≥ Nat.min (o.core.num oAngleSkipLevel) (shareS o.core o.buf)) || o.link.lane.tx.withheld

/-- Hand one firing to the sequencer (R166, R167). The sequencer is off with a failed macro 8 or 9 (Table 9.9). -/
def Ovtan.handFiring (o : Ovtan) (e : SchedEntry) (idx fire : Nat) (timeEntry : Bool) : Ovtan :=
  if o.bnd.bist.deadMacros.any (fun m => m == 8 || m == 9) then o
  else if e.optional && o.skips then { o with core := skipOptional o.core idx }
  else
    let f : Firing := { entry := idx, program := e.program, tag := e.tag, lateLimit := e.late, optional := e.optional,
                        timeEntry := timeEntry, fire := fire, angle := e.pos, stamp := none, cut := none }
    o.onCap (fun x => enqueueFiring x (f.stampAt x.core.angle x.core.ns))

/-- Armed entries whose hand-off is due at `t`, in order of fire time and entry. -/
def dueEntries (l : List ArmedEntry) (t : Nat) : List ArmedEntry :=
  sortBy (l.filter (fun e => !e.handed && decide (e.fire ≤ t))) (fun a b =>
    decide (a.fire < b.fire) || (a.fire == b.fire && decide (a.entry ≤ b.entry)))

/-- Hand off every angle entry whose fire time is at or before `t` (R166). Angle entries fire only in Locked and Stalled. -/
def Ovtan.handAngle (o : Ovtan) (t : Nat) : Ovtan :=
  if !o.core.angle.isLocked then o
  else
    let due := dueEntries o.core.angle.armed t
    let a := { o.core.angle with armed := o.core.angle.armed.map (fun e => if e.fire ≤ t then { e with handed := true } else e) }
    due.foldl (fun o e => o.handFiring (o.core.entry e.entry) e.entry e.fire false) { o with core := { o.core with angle := a } }

/-- Hand off every time entry due within ANGLE.ARM_LEAD of now; each moves on to its next matching instant (R165). -/
def Ovtan.handTimed (o : Ovtan) : Ovtan :=
  if o.core.angle.mode = .off then o
  else
    let t := o.core.ns + o.core.num oAngleArmLead
    let due := dueEntries o.core.angle.timed t
    let o' := due.foldl (fun o e => o.handFiring (o.core.entry e.entry) e.entry e.fire true) o
    let a := { o'.core.angle with timed := o'.core.angle.timed.map (fun e =>
      if e.fire ≤ t then { e with fire := e.fire + Nat.max 1 (o'.core.entry e.entry).period } else e) }
    { o' with core := { o'.core with angle := a } }

/-- A marker of step `num` at unit time now (R158–R163, R174, R532); `soft` for a soft marker (R175). -/
def Ovtan.marker (o : Ovtan) (num : Nat) (soft : Bool) : Ovtan :=
  let t := o.core.ns
  let num := num % 2 ^ 32
  let k := o.core.classify t num
  if !k.accepted then { o with core := o.core.noteMarker k t num }
  else if o.core.angle.mode = .off then
    let o := o.cutsAtMarker t num
    let c := o.core.noteMarker k t num
    commitsAtMarker ovOps0 { o with core := { c with angle := { c.angle with step := num } } }
  else
    let o := if t = 0 then o else o.handAngle (t - 1)
    let o := { o with cap := if t = 0 then o.cap else o.cap.stampDue o.core.angle (t - 1) }
    let o := o.cutsAtMarker t num
    let o := o.cancelStep t
    let c := o.core.noteMarker k t num
    let jump := soft || (match k with | .jump _ => true | .rewind => true | _ => false)
    let c := { c with angle := { c.angle with early := false, slow := false, jump := jump, overdue := false } }
    let o := { o with core := c.angleLock t num k.k }
    let o := commitsAtMarker ovOps0 o
    if o.core.angle.mode = .off then o
    else
      let o := o.markerReport t
      let o := { o with core := o.core.armStep }
      o.handAngle t

/-- The angle reaches 0xFFFFFFFF with no marker (R160, Table 5.1). -/
def Core.stall (c : Core) : Core :=
  let a := c.angle
  { c with angle := { a with mode := a.modeAt c.ns } }

/-- 16 × L since the last marker in Stalled: MARKER_OVERDUE, once per step (Table 5.1). -/
def Core.overdue (c : Core) : Core :=
  let a := c.angle
  if a.mode == .stalled && !a.overdue && decide (c.ns ≥ a.tm + 16 * (a.lq / 65536)) then
    ({ c with angle := { a with overdue := true } }).raise 0x0506 (if c.kind = 0 then 0x02 else 0x77) [a.step, c.ns - a.tm]
  else c

/-- The Ovtan's dictionary, the soft marker included. -/
def ovOps : UnitOps Ovtan :=
  { ovOps0 with command := fun o a obj v => if obj = oAngleSoftMarker then (o.marker (ofLe v) true, stOk) else o.command a obj v }

end Sys2Proof.Machine
end

