-- ==== Sys2Proof/Machine/Marker.lean ====
section
/-! DEFINITION. Meridian at a group: its schedule (R533), the marker sequence (R163, R172, R532), the marker windows and phase lag (R171–R173), and the group's dictionary with the soft marker (R175). -/
namespace Sys2Proof.Machine

/-! ### Group samples (R533) -/

/-- Channel `ch` of a group sample: temperatures 0–15, rails 16–27. -/
def BoardPart.channel (b : BoardPart) (ch : Nat) : Chan :=
  match b.convAt with
  | none => Chan.none
  | some t =>
    let v := if ch < 16 then b.temps.getD ch 0 else b.rails.getD (ch - 16) 0
    { raw := v, value := v, time := t, valid := true, stretch := false, seen := true }

/-- Counter `i` of a group sample: JET.INGEST_RECORDS 0–7, JET.PORT_BYTES 8–39. -/
def Core.groupCounter (c : Core) (i : Nat) : Nat := if i < 8 then c.num (oJetIngestRecords + i + 1) else c.num (oJetPortBytes + (i - 8) + 1)

/-- The sample of user entry `idx`, fired at `t`; its angle is `angle` for an angle entry. -/
def Fabato.groupSample (f : Fabato) (idx t angle : Nat) (timeEntry : Bool) : Fabato :=
  let c := f.core
  let e := c.entry idx
  let ang := (if timeEntry then angleAt c.angle t else angle) / 65536
  let src := ownSrc 0x77 idx
  let rcd (type payload : Nat) : Record := ownRecord type .s 0 t c.angle.step ang src payload
  let head := rcd 0x01 (34 * 2 ^ 112 + idx % 256 * 2 ^ 24 + e.tag % 256 * 2 ^ 16 + c.angle.statusByte t false timeEntry * 256)
  let slot (ch : Nat) : Nat := sensorSlot (f.board.channel ch) ch t
  let sensors := (List.range 14).map (fun j => rcd 0x03 (slot (2 * j) + slot (2 * j + 1) * 2 ^ 64))
  let counters := (List.range 20).map (fun j => rcd 0x02 (c.groupCounter (2 * j) % 2 ^ 64 + c.groupCounter (2 * j + 1) % 2 ^ 64 * 2 ^ 64))
  let f := if timeEntry then f else f.onCore (fun c => { c with angle := { c.angle with fired := c.angle.fired + 1 } })
  f.emitChain true t c.angle.step 0 (head :: (sensors ++ counters))

/-- Fire every entry due at `lim`: angle entries in Locked and Stalled, time entries in all states but Off; in order of fire time and entry. -/
def Fabato.fireEntries (f : Fabato) (lim : Nat) (timed : Bool) : Fabato :=
  let a := f.core.angle
  let angles := if a.isLocked then dueEntries a.armed lim else []
  let times := if timed && a.mode != .off then dueEntries a.timed lim else []
  let due := sortBy (angles.map (fun e => (e, false)) ++ times.map (fun e => (e, true))) (fun x y =>
    decide (x.1.fire < y.1.fire) || (x.1.fire == y.1.fire && decide (x.1.entry ≤ y.1.entry)))
  let c := f.core
  let armed := if a.isLocked then a.armed.map (fun e => if e.fire ≤ lim then { e with handed := true } else e) else a.armed
  let next := if timed && a.mode != .off then
      a.timed.map (fun (e : ArmedEntry) => if e.fire ≤ lim then { e with fire := e.fire + Nat.max 1 (c.entry e.entry).period } else e)
    else a.timed
  due.foldl (fun (f : Fabato) x => f.groupSample x.1.entry x.1.fire x.1.angle x.2)
    (f.onCore (fun c => { c with angle := { c.angle with armed := armed, timed := next } }))

/-! ### The marker sequence -/

/-- The group's marker report (R170, R172): `n` reports behind the marker; the counts of the step that ends start anew. -/
def Fabato.groupReport (f : Fabato) (t n : Nat) : Fabato :=
  let a := f.core.angle
  let f := if f.core.flag oAngleMarkerReport then
      let p := a.fired % 65536 * 2 ^ 96 + a.cancelled % 65536 * 2 ^ 80 + a.skipped % 65536 * 2 ^ 64 + n % 2 ^ 32 * 2 ^ 32 + a.statusByte t false false * 256
      f.emitChain true t a.step 0 [ownRecord 0x01 .s 0 t a.step 0 (ownSrc 0x77 0) p]
    else f
  f.onCore (fun c => { c with angle := { c.angle with fired := 0, cancelled := 0, skipped := 0 } })

/-- A confirmed rewind to `step` reaches the contexts (R349, R369). -/
def Fabato.rewound (f : Fabato) (k : MarkerKind) (step : Nat) : Fabato :=
  match k with
  | .rewind => (f.redRewind step).featRewind step
  | _ => f

/-- A group marker of step `num` at time `t` (R163, R172, R532), with `n` reports behind it; `soft` for a soft marker (R175). Members in probation
count it in step 3 (R450). -/
def Fabato.groupMarker (f : Fabato) (t num n : Nat) (soft : Bool) : Fabato :=
  let num := num % 2 ^ 64
  let k := f.core.classify t num
  if !k.accepted then f.onCore (fun c => c.noteMarker k t num)
  else if f.core.angle.mode = .off then
    let f := f.castAtMarker t num
    let f := f.onCore (fun c => let c := c.noteMarker k t num; { c with angle := { c.angle with step := num } })
    ((commitsAtMarker (fbOps0 (some num)) f).rewound k num).probationMarker
  else
    let f := if t = 0 then f else f.fireEntries (t - 1) true
    let f := if t = 0 then f else (List.range 4).foldl (fun (f : Fabato) i => f.onG (fun g => g.trigAngle i)) f
    let f := f.onG (fun g => g.trigSkips t)
    let f := f.castAtMarker t num
    let gone := (f.core.angle.armed.filter (fun e => !e.handed)).length
    let f := f.onCore (fun c => { c with angle := { c.angle with armed := [], cancelled := c.angle.cancelled + gone } })
    let f := f.onCore (fun c => c.noteMarker k t num)
    let jump := soft || (match k with | .jump _ => true | .rewind => true | _ => false)
    let f := f.onCore (fun c => { c with angle := { c.angle with early := false, slow := false, jump := jump, overdue := false } })
    let f := f.onCore (fun c => c.angleLock t num k.k)
    let f := ((commitsAtMarker (fbOps0 (some num)) f).rewound k num).probationMarker
    if f.core.angle.mode = .off then f
    else
      let f := f.groupReport t n
      let f := f.onCore Core.armStep
      (f.fireEntries t false).castDueBy t

/-- The group's dictionary, the soft marker included: it has no reports behind it. -/
def fbOps : UnitOps Fabato :=
  { fbOps0 none with command := fun f a obj v => if obj = oAngleSoftMarker then (f.groupMarker f.ns (ofLe v) 0 true, stOk) else f.command a obj v }

/-! ### Windows and lags (R171, R173) -/

/-- Members of the group's reference set whose reports count: not in probation, quarantined or fenced (R413, R450). -/
def Fabato.refMember (f : Fabato) (m : Nat) : Bool := (f.core.num oAngleGroupRef).testBit m && !f.excluded m

/-- Reference members that are Present. -/
def Fabato.refPresent (f : Fabato) : List Nat := (List.range 128).filter (fun m => f.refMember m && f.memberState m == 1)

/-- A lag in ns as an angle: truncated toward zero, saturated at s32. -/
def lagAngle (lag : Int) (l : Nat) : Int := satSigned 32 ((lag * 2 ^ 32).tdiv l)

/-- A member's lag at a step. -/
def Fabato.noteLag (f : Fabato) (step tm : Nat) (x : Nat × Nat) : Fabato :=
  let lag : Int := (x.2 : Int) - tm
  let l := f.core.angle.lq / 65536
  f.onG (fun g =>
    let a := if l = 0 then 0 else lagAngle lag l
    let past := (step, x.1, lag, a) :: g.win.past.filter (fun y => !(y.1 == step && y.2.1 == x.1))
    { g with win := { g.win with past := past, lags := if l = 0 then g.win.lags else g.win.lags.set x.1 a } })

/-- The k-th smallest of the N report times, k = (N + 1) / 2. -/
def medianTime (l : List (Nat × Nat)) : Nat :=
  let ts := sortBy (l.map (fun x => x.2)) (fun a b => decide (a ≤ b))
  ts.getD ((ts.length + 1) / 2 - 1) 0

/-- A window closes, by its members' reports or by ANGLE.GROUP_WAIT. -/
def Fabato.closeWindow (f : Fabato) (w : MarkerWindow) (byWait : Bool) : Fabato :=
  let tm := medianTime w.reports
  let heard := w.reports.map (fun x => x.1)
  let f := f.onG (fun g => { g with win := { g.win with opens := g.win.opens.filter (fun x => x.step != w.step),
                                                        closed := { step := w.step, tm := tm, heard := heard } :: g.win.closed.filter (fun x => x.step != w.step) } })
  let f := if byWait then f.raise 0x0507 0x77 [w.step, w.reports.length, f.refPresent.length] else f
  let f := ((List.range 128).filter (fun m => f.refMember m && !heard.contains m)).foldl (fun (f : Fabato) m => f.onCore (fun c => c.bump (oAngleMemberNoMarker + m + 1))) f
  let f := f.groupMarker tm w.step w.reports.length false
  let ts := w.reports.map (fun x => x.2)
  let f := f.onG (fun g => { g with win := { g.win with spread := ts.foldl Nat.max 0 - ts.foldl Nat.min (ts.headD 0) } })
  w.reports.foldl (fun (f : Fabato) x => f.noteLag w.step tm x) f

/-- Windows whose present reference members have all reported close, oldest first. -/
def Fabato.windowCheck (f : Fabato) : Fabato :=
  f.g.win.opens.foldl (fun (f : Fabato) w =>
    let heard := w.reports.map (fun x => x.1)
    if f.refPresent.all (fun m => heard.contains m) then f.closeWindow w false else f) f

/-- Windows ANGLE.GROUP_WAIT old close. -/
def Fabato.windowWait (f : Fabato) : Fabato :=
  f.g.win.opens.foldl (fun (f : Fabato) w =>
    if f.up ≥ w.at_ + 1000 * f.core.num oAngleGroupWait then f.closeWindow w true else f) f

/-- A member's marker report (R171–R173). A report for a closed window yields its lag, unless the member was heard in it or lies a whole step past it:
then the step runs again after a rewind, and the report opens a new window. -/
def Fabato.markerReport (f : Fabato) (member step time : Nat) : Fabato :=
  if !f.refMember member then f
  else
    let l := f.core.angle.lq / 65536
    match f.g.win.closed.find? (fun w => w.step == step && !w.heard.contains member && (l == 0 || decide (time < w.tm + l))) with
    | some w =>
      let f := f.onG (fun g => { g with win := { g.win with closed := modWhere (fun (x : ClosedWindow) => x.step == step) (fun (x : ClosedWindow) => { x with heard := x.heard ++ [member] }) g.win.closed } })
      f.noteLag step w.tm (member, time)
    | none =>
      let f := f.onG (fun g => { g with win := { g.win with closed := g.win.closed.filter (fun x => x.step != step) } })
      let f := if f.g.win.opens.any (fun w => w.step == step) then f
        else f.onG (fun g => { g with win := { g.win with opens := g.win.opens ++ [{ step := step, at_ := f.up, reports := [] }] } })
      let f := f.onG (fun g => { g with win := { g.win with opens := modWhere (fun (w : MarkerWindow) => w.step == step && !w.reports.any (fun x => x.1 == member)) (fun (w : MarkerWindow) => { w with reports := w.reports ++ [(member, time)] }) g.win.opens } })
      match f.g.win.opens.find? (fun w => w.step == step) with
      | some w => if f.refPresent.all (fun m => (w.reports.map (fun x => x.1)).contains m) then f.closeWindow w false else f
      | none => f

end Sys2Proof.Machine
end

