-- ==== Sys2Proof/Machine/Forward.lean ====
section
/-! DEFINITION. Messages that arrive at a group (R90–R98, R113), those it answers for a hosted partner (R432), a Loft program's own (R302), and what follows every command of a group. -/
namespace Sys2Proof.Machine

/-! ### Where a request goes (R94) -/

/-- A path stack once the group's own paths on top have been popped; the last one stays. -/
def popOwn (own : Nat) : List Nat → List Nat
  | [] => []
  | [p] => [p]
  | p :: q :: rest => if p = own then popOwn own (q :: rest) else p :: q :: rest

/-- The role-5 port behind which a path of the hosted group's subtree lies: the one whose peer's hello names the member on that path. -/
def Fabato.hostedPort (f : Fabato) (path target : Nat) : Option Hop :=
  ((f.core.portsOf 5).find? (fun p => inSubtree (leAt (f.g.port p).peerHello 12 4) target)).map (fun p =>
    { port := .sky p, path := leAt (f.g.port p).peerHello 12 4, up := f.g.portUp p, levels := pathLevel path - pathLevel target })

/-- The hop of a target that is not this group itself: through the hosted group's members while it hosts (R432), else R94. -/
def Fabato.route (f : Fabato) (target : Nat) : Except Nat Hop :=
  match f.sun.hosting with
  | some path =>
    if inSubtree path target then match f.hostedPort path target with
      | some h => .ok h
      | none => .error eUnreachable
    else f.hopTo target
  | none => f.hopTo target

/-! ### A hosted partner's dictionary (R432) -/

/-- The partner's unit as its mirrored configuration gives it, at this group's time and with this group's sessions, their stage sets empty. -/
def Fabato.hollow (f : Fabato) (path : Nat) : Fabato :=
  let m : Fabato := f.sun.mirror.foldl (fun (g : Fabato) x => g.loadItem x.1 (some x.2)) (Fabato.made.onCore (fun c => { c with kind := f.core.kind, up := f.core.up, time := f.core.time }))
  m.onCore (fun c => { c with path := path, sessions := f.core.sessions.map (fun (s : Session) => { s with stage := [] }) })

/-- A request for the hosted path: answered from the mirror, its changes kept in the mirror and in the journal of the hosting. -/
def Fabato.actHosted (f : Fabato) (path : Nat) (a : Actor) (flags : Nat) (q : Request) : Fabato × Response :=
  let m := f.hollow path
  let r := act fbOps m a flags q
  let f := (storeDiff m.durable r.1.durable).foldl (fun (f : Fabato) d =>
    let it : JournalItem := { seq := f.sun.peerSeq + 1, bytes := itemBytes d.1 d.2, at_ := f.ns }
    { f with sun := { f.sun with peerSeq := it.seq, mirror := mirrorPut f.sun.mirror it.bytes, hostLog := f.sun.hostLog ++ [it] } }) f
  (f, r.2)

/-! ### A request of a known actor (R92–R98) -/

/-- A fan-out that a cut's request has just started is given to its requester (R454, R456). -/
def ForwardPart.adopt (w : ForwardPart) (num : Nat) (e : Envelope) (a : Actor) (digest : Bytes) : ForwardPart :=
  { w with fans := modWhere (fun x => x.num == num) (fun (x : Fanout) => { x with env := e, who := a.principal, digest := digest }) w.fans }

/-- Whether a request is one write that makes a cut's fan-out at its initiator. -/
def cutWrite (q : Request) : Bool :=
  match q with
  | .write [w] => w.obj == oCutRequest || w.obj == oCutCancel
  | _ => false

/-- The group acts on a request itself: a replay, a fan-out, a cut's request, or a plain response (R96, R97). -/
def Fabato.actSelf (f : Fabato) (e : Envelope) (a : Actor) (q : Request) : Fabato :=
  let digest := requestDigest e q.opcode q.body
  match f.core.keptFor a e.msgId digest with
  | some k => f.answerTo e q.opcode ⟨k.summary, k.body⟩ true
  | none =>
    let fan := f.fwd.nextFan
    let r := act fbOps f a e.flags q
    let f := r.1
    if flagFanout e.flags then
      f.fanStart e a digest (if flagLocal e.flags then e.flags - 16 else e.flags) q.opcode q.body none (r.2.summary, failureOf q r.2)
    else if cutWrite q ∧ f.fwd.nextFan ≠ fan then { f with fwd := f.fwd.adopt fan e a digest }
    else (f.onCore (fun c => c.keep a e.msgId digest (q.opcode + 0x80) r.2)).answerTo e q.opcode r.2

/-- The hosted partner's answer, kept like the group's own. -/
def Fabato.answerHosted (f : Fabato) (path : Nat) (e : Envelope) (a : Actor) (q : Request) : Fabato :=
  let digest := requestDigest e q.opcode q.body
  match f.core.keptFor a e.msgId digest with
  | some k => f.answerTo e q.opcode ⟨k.summary, k.body⟩ true
  | none =>
    let r := f.actHosted path a e.flags q
    let body := match flagFanout e.flags, failureOf q r.2 with
      | false, _ => r.2.body
      | true, none => fanBody 1 1 0 []
      | true, some x => fanBody 1 0 1 [(path, x.1, x.2)]
    let p : Response := ⟨r.2.summary, body⟩
    (r.1.onCore (fun c => c.keep a e.msgId digest (q.opcode + 0x80) p)).answerTo e q.opcode p

/-- Areas a request touches. -/
def Request.areas : Request → List Nat
  | .read l => l.map (fun i => objArea i.obj)
  | .write l => l.map (fun w => objArea w.obj)
  | .list area _ => [area]
  | _ => []

/-- A well-formed request goes to the group itself, to the partner it hosts, or on its way (R94, R95). A Loft program's request does not leave for an
area it is barred from (R302). -/
def Fabato.onward (f : Fabato) (e : Envelope) (a : Actor) (q : Request) : Fabato :=
  let paths := popOwn f.core.path e.paths
  let target := paths.headD f.core.path
  if flagLocal e.flags ∨ target = f.core.path then f.actSelf e a q
  else if f.sun.hosting = some target then f.answerHosted target e a q
  else if q.areas.any (loftBarred a) then f.answerTo e q.opcode (.error eRole)
  else match f.route target with
    | .error st => f.answerTo e q.opcode (.error st)
    | .ok h =>
      match f.relay h e paths e.flags q.opcode q.body a.role a.tenant none with
      | (g, some st) => g.answerTo e q.opcode (.error st)
      | (g, none) => g

/-- The checks of a request whose sender is known (R98). -/
def Fabato.accept (f : Fabato) (e : Envelope) (a : Actor) (q : Request) : Fabato :=
  if e.version ≠ 1 then f.answerTo e q.opcode (.error eVersion)
  else if !requestOk e q then (f.onCore (fun c => c.bump oSessionMsgMalformed)).answerTo e q.opcode (.error eMalformed)
  else if e.hop = 0 then f.answerTo e q.opcode (.error eHopLimit)
  else f.onward e a q

/-- A request arrives under a session (R90, R110). -/
def Fabato.request (f : Fabato) (e : Envelope) (q : Request) : Fabato :=
  let c := f.core.expireSessions
  match c.authenticate e q.opcode q.body with
  | none => f.onCore (fun _ => c.macFail)
  | some (s, c) => (f.onCore (fun _ => c)).accept e s.actor q

/-! ### Every message -/

/-- After an update: ask the partner, at the first Sundog Up, whether it hosts this group (R504). -/
def Fabato.askHost (f : Fabato) : Fabato :=
  if !f.sun.askHost ∨ !f.g.sundogUp then f
  else
    let f : Fabato := { f with sun := { f.sun with askHost := false } }
    let target := f.sun.path
    match f.hopTo target with
    | .error _ => f
    | .ok h => (f.relay h { port := .mailbox, paths := [target] } [target] 0 0x01 (readItemBytes { obj := oSundogHosting }) .observer 0 none).1

/-- The partner's answer to that question: it hosts this group, which enters Refilling. -/
def Fabato.hostAnswer (f : Fabato) (body : Bytes) : Fabato :=
  if leAt body 0 4 = oSundogHosting ∧ leAt body 5 1 = stOk ∧ leAt body 8 4 = f.core.path then
    { f with sun := { f.sun with state := .refilling, refill := (1, 0, 0, 0), load := [], loaded := false, later := [], refillAt := f.ns } }
  else f

/-- A response under a link session; one to the group's own question of R504 is acted on. -/
def Fabato.response (f : Fabato) (e : Envelope) (opcode summary : Nat) (body : Bytes) : Fabato :=
  let own := match f.fwd.pending.find? (fun w => w.out == e.port && w.msgId == e.msgId && w.opcode + 0x80 == opcode) with
    | some w => w.env.session == 0 && w.opcode == 0x01 && w.fanout.isNone
    | none => false
  let n := f.fwd.pending.length
  let f := f.forwardResponse e opcode summary body
  if own && decide (f.fwd.pending.length < n) then f.hostAnswer body else f

/-- Any message of known opcode, summary and body. -/
def Fabato.receive (f : Fabato) (e : Envelope) (opcode summary : Nat) (body : Bytes) : Fabato :=
  if opcode = 0x10 then f.sending (fun c => c.hello e body)
  else if opcode = 0x11 then f.sending (fun c => c.proof e body)
  else if opcode = 0x12 ∧ body.isEmpty then f.sending (fun c => c.closeMessage e)
  else if opcode = 0x90 ∨ opcode = 0x91 then f.linkReply e.port (e.paths.headD 0) opcode body
  else if opcode ≥ 0x80 then f.response e opcode summary body
  else f.request e (parseRequest opcode body)

/-- A message as bytes; one whose lengths do not fit fails the session check (R90). -/
def Fabato.receiveBytes (f : Fabato) (port : Port) (b : Bytes) : Fabato :=
  match parseMessage port b with
  | some (e, op, sum, body) => f.receive e op sum body
  | none => f.onCore (fun c => c.macFail)

/-! ### A program's message (R302) -/

/-- Session id of a slot's local session. -/
def loftSession (s : Nat) : Nat := 2 ^ 32 + s

/-- The local session of a slot, opened or brought to its present role. -/
def Fabato.loftOpen (f : Fabato) (s : Nat) : Fabato × Session :=
  let id := loftSession s
  let role := Role.ofCode (f.core.num (oLoftSlotRole + s + 1))
  match f.core.sessions.find? (fun x => x.id == id) with
  | some x => let x : Session := { x with role := role, lastAt := f.up }; (f.onCore (fun c => { c with sessions := modWhere (fun y => y.id == id) (fun _ => x) c.sessions }), x)
  | none =>
    let x : Session := { id := id, role := role, tenant := 0, port := .loft s, link := false, key := [], high := 0, window := 1, own := 0, openedAt := f.up, lastAt := f.up,
                         idle := 0, life := 0, stage := [] }
    (f.onCore (fun c => { c with sessions := c.sessions ++ [x] }), x)

/-- Call 0x4C4D: a dictionary message of a slot's program. Loft fills in the session's fields and the MAC. -/
def Fabato.loftMessage (f : Fabato) (s : Nat) (b : Bytes) (inWindow : Bool) : Fabato :=
  if !f.loftRuns s then f
  else if !inWindow then f.loftReturn s 0x4C4D loftMinus1
  else
    let o := f.loftOpen s
    let f := o.1.onSlot s (fun x => { x with seq := x.seq + 1 })
    let seq := (f.slot s).seq
    match parseMessage (.loft s) b with
    | none => (f.onCore (fun c => c.bump oSessionMsgMalformed)).answerTo { port := .loft s, session := loftSession s, seq := seq, paths := [f.core.path] } (leAt b 1 1) (.error eMalformed)
    | some (e, op, _, body) => f.accept { e with session := loftSession s, seq := seq } o.2.actor (parseRequest op body)

/-! ### What follows every command -/

/-- Settling after a command: the links' members, Sundog, contexts whose configuration has landed, health, the PLL, an activation, marker windows,
fan-outs, Almanac. `loaded`: the configuration was loaded before the command. -/
def Fabato.settle (f old : Fabato) : Fabato :=
  if f.board.boot ≠ 3 then f.almanacTake
  else
    let f := (f.linkScan).sunSettle
    let f := if !old.sun.loaded && f.sun.loaded then f.restorePlaces else f
    let f := f.retryPlaces old
    let f := ((f.askHost).reportHealth).pllScan
    ((((f.onG Group.holdLow).windowCheck).fanSettle).almanacTake).activateScan

end Sys2Proof.Machine
end

