-- ==== Sys2Proof/Machine/LaneOps.lean ====
section
/-! DEFINITION. Events of Table 10.5 and of the blocks at one Drizzle lane end (R264–R268, R274), for either unit: `p` is the port number of events (0 on an Ovtan), `sub` the sub-unit of its events. -/
namespace Sys2Proof.Machine

/-- Full training completes at both ends: Train to Align. -/
def laneTrained (c : Core) (l : Lane) : Core × Lane := if l.phy.state = .train then (c, l.align c.up) else (c, l)

/-- 15 ms in Train without completion: counted, and training restarts. -/
def laneTrainTimeout (p : Nat) (c : Core) (l : Lane) : Core × Lane :=
  if l.phy.state = .train ∧ c.up ≥ l.phy.since + 15000000 then (c.bump (oLinkDzRetrains + p + 1), l.train c.up) else (c, l)

/-- 1 ms in Align without block lock: back to Train. -/
def laneAlignTimeout (c : Core) (l : Lane) : Core × Lane :=
  if l.phy.state = .align ∧ c.up ≥ l.phy.since + 1000000 then (c, l.train c.up) else (c, l)

/-- A fast retrain completes: Retrain to Align. -/
def laneFastTrained (c : Core) (l : Lane) : Core × Lane := if l.phy.state = .retrain then (c, l.align c.up) else (c, l)

/-- 1 ms in Retrain without completion: full training. -/
def laneRetrainTimeout (c : Core) (l : Lane) : Core × Lane :=
  if l.phy.state = .retrain ∧ c.up ≥ l.phy.since + 1000000 then (c, l.train c.up) else (c, l)

/-- A block arrives (R265, R266): `hdr` its header, `symbols` corrected symbols, `uncorr` uncorrectable codewords. -/
def laneBlock (p sub hdr symbols uncorr : Nat) (c : Core) (l : Lane) : Core × Lane :=
  match l.phy.state with
  | .disabled | .train | .retrain => (c, l)
  | s =>
    let c := c.count (oLinkDzFecSymbols + p + 1) symbols
    let c := c.count (oLinkDzFecUncorr + p + 1) uncorr
    let l' := { l with phy := l.phy.block hdr (decide (uncorr > 0)) }
    if s = .align ∧ l'.phy.lock then (c, l'.enter .hello c.up)
    else if s = .up ∧ !l'.phy.lock then laneDown c l' p sub 0
    else (c, l')

/-- Whether a block's flits are delivered: the lane is locked, in Hello or Up, and no codeword is uncorrectable. -/
def laneDelivers (l : Lane) (uncorr : Nat) : Bool :=
  uncorr == 0 && l.phy.lock && (l.phy.state == .hello || l.phy.state == .up)

/-- A HELLO_UID item in Hello: the peer's identity (LINK.DZ_PEER). -/
def laneHelloUid (item : Nat) (c : Core) (l : Lane) : Core × Lane :=
  if l.phy.state = .hello then (c, { l with phy := { l.phy with peerUid := leBytes 16 item } }) else (c, l)

/-- A HELLO_INFO item in Hello: ECHO is set in the own one; one with ECHO takes the lane to Up, with LINK_UP and the outage's length
counted. The third part is none unless the lane entered Up, and then whether the peer's epoch is new. -/
def laneHelloInfo (p sub item : Nat) (c : Core) (l : Lane) : Core × Lane × Option Bool :=
  if l.phy.state ≠ .hello then (c, l, none)
  else
    let l := { l with phy := { l.phy with peerInfo := leBytes 16 item, echo := true } }
    if item.testBit 16 then
      let out := match l.phy.downAt with | some t => c.up - t | none => 0
      let r := l.goUp c.up (bitsOf item 127 96)
      let c := (c.count (oLinkDzDownNs + p + 1) out).raise 0x0A01 sub [p, if r.2 then 1 else 0, out]
      (c, r.1, some r.2)
    else (c, l, none)

/-- A RESUME item in Hello: the next data flit the peer expects. -/
def laneResume (seq : Nat) (c : Core) (l : Lane) : Core × Lane :=
  if l.phy.state = .hello then (c, { l with phy := { l.phy with resume := some (seq % 4096) } }) else (c, l)

/-- A flit's CRC, acknowledgement and payload at a lane in Up (R268, R273): the lane, and whether it was a good data flit. -/
def laneFlit (p : Nat) (b : Bytes) (c : Core) (l : Lane) : Core × Lane × Bool :=
  if l.phy.state ≠ .up then (c, l, false)
  else if !flitGood b then (c.bump (oLinkDzCrcErrors + p + 1), l, false)
  else
    let h := flitHead b
    let l := if h.ackValid then { l with tx := l.tx.acked h.ack h.nak c.up } else l
    if h.kind = 0 then (c, l.acceptData h.seq h.old (slice b 4 248) c.ns, true) else (c, l, false)

/-- The items of a control flit's payload (R271), as numbers of 128 bits. -/
def controlItems (b : Bytes) : List Nat := (List.range 15).map (fun i => leAt b (4 + 16 * i) 16)

/-- Whether a flit's bytes are a good control flit. -/
def isControl (b : Bytes) : Bool := flitGood b && (flitHead b).kind == 1

/-- A message's bytes without the padding of its last 16-byte piece (R93). -/
def unpad (b : Bytes) : Bytes :=
  let n := 32 + 4 * (leAt b 22 1 - 1) + leAt b 20 2 + 16
  if n ≤ b.length ∧ b.length < n + 16 then b.take n else b

/-- The messages that whole chains of type 0x70 records spell, with the records of a chain still open; `acc` is the chain so far. -/
def gatherMessages : Bytes → List RxRec → List Bytes × List RxRec → List RxRec → List Bytes × List RxRec
  | _, open_, (done, _), [] => (done, open_)
  | acc, open_, (done, _), r :: rest =>
    if r.base.type = 0x70 ∧ r.base.cls = .c then
      let acc' := acc ++ leBytes 16 r.base.payload.toNat
      if r.base.cont then gatherMessages acc' (open_ ++ [r]) (done, []) rest
      else gatherMessages [] [] (done ++ [unpad acc'], []) rest
    else gatherMessages acc open_ (done, []) rest

/-- The credit lane state of R322: available class S credit has stayed below 32 slots for 1 µs. -/
def laneWithheld (c : Core) (l : Lane) : Core × Lane :=
  match l.tx.lowSince with
  | some t => if c.up ≥ t + 1000 then (c, { l with tx := { l.tx with withheld := true } }) else (c, l)
  | none => (c, l)

end Sys2Proof.Machine
end

