-- ==== Sys2Proof/Machine/Ingest.lean ====
section
/-! DEFINITION. Ingest at a group: the engines' order, sequence checks, anchors, times, steering, chains, the trace store (R276, R142–R145, R216, R313–R320, R538). -/
namespace Sys2Proof.Machine

/-! ### Which record an engine takes next (R313) -/

/-- A record that waits on a lane: lane number (a Sky port is 1,000 + p), class, arrival, place in the lane's queue. -/
structure Waiting where
  lane : Nat
  cls : RClass
  at_ : Nat
  place : Nat
deriving DecidableEq, Repr

/-- What waits on a lane, oldest first. -/
def Group.waitingOn (g : Group) (lane : Nat) : List Waiting :=
  if lane < 1000 then match g.lanes[lane]? with
    | some l => l.lane.rx.queue.zipIdx.map (fun (x : RxRec × Nat) => { lane := lane, cls := x.1.base.cls, at_ := x.1.at_, place := x.2 })
    | none => []
  else (g.port (lane - 1000)).rx.zipIdx.map (fun (x : SkyRx × Nat) => { lane := lane, cls := x.1.r.base.cls, at_ := x.1.at_, place := x.2 })

/-- Lanes of engine `e`: the Drizzle group of a tray, and the Sky ports whose first mapped lane is among 4e to 4e + 3. -/
def Group.engineLanes (g : Group) (e : Nat) : List Nat :=
  (if g.core.kind = 1 then (List.range 17).map (fun i => 17 * e + i) else [])
    ++ ((List.range 24).filter (fun p => (g.core.skyMap p).lanes != 0 && (g.core.skyMap p).first / 4 == e)).map (fun p => 1000 + p)

/-- The class A record that arrived first, on equal times of the lower lane. -/
def firstAlarm (l : List Waiting) : Option Waiting :=
  (l.filter (fun w => w.cls == .a)).foldl (fun (b : Option Waiting) w =>
    match b with
    | none => some w
    | some x => if w.at_ < x.at_ then some w else some x) none

/-- At a lane's turn: its oldest class C record, else class S and T in the ratio S to T, `n` records into it. -/
def laneTurn (s t n : Nat) (l : List Waiting) : Option Waiting :=
  let oldest (c : RClass) : Option Waiting := l.find? (fun w => w.cls == c)
  match oldest .c with
  | some w => some w
  | none => if n % (s + t) < s then (oldest .s <|> oldest .t) else (oldest .t <|> oldest .s)

/-- The choice of engine `e`. -/
def Group.engineNext (g : Group) (e : Nat) : Option Waiting :=
  let lanes := g.engineLanes e
  let all := lanes.map (fun n => (n, g.waitingOn n))
  match firstAlarm (all.flatMap (fun x => x.2)) with
  | some w => some w
  | none =>
    let eng := g.jet.engines.getD e { last := 0, st := [] }
    let busy := all.filter (fun x => !x.2.isEmpty)
    let next := (busy.find? (fun x => decide (x.1 > eng.last))) <|> busy.head?
    next.bind (fun x =>
      let n := ((eng.st.find? (fun y => y.1 == x.1)).map (fun y => y.2)).getD 0
      laneTurn (bitsOf (g.core.num oJetIngestSt) 15 8) (bitsOf (g.core.num oJetIngestSt) 7 0) n x.2)

/-- The engine's turn after a record: class A leaves it as it is. -/
def Engine.served (x : Engine) (w : Waiting) : Engine :=
  if w.cls = .a then x
  else
    let n := ((x.st.find? (fun y => y.1 == w.lane)).map (fun y => y.2)).getD 0
    { last := w.lane, st := if w.cls = .c then x.st else (x.st.filter (fun y => y.1 != w.lane)) ++ [(w.lane, n + 1)] }

/-! ### Sequence, anchors, time (R276, R142–R145, R278, R315–R317) -/

/-- Table 1.5: the classes of a record type. A type not in the table has none. -/
def classAllowed (type : Nat) (cls : RClass) : Bool :=
  match type with
  | 0x01 => cls == .s | 0x02 => cls == .s | 0x03 => cls == .s | 0x10 => cls == .a | 0x20 => cls == .t | 0x30 => cls == .s
  | 0x40 => cls == .c | 0x50 => true | 0x51 => cls == .c | 0x60 => true | 0x70 => cls == .c | _ => false

/-- Span of a gap record. -/
def gapSpan (r : Record) : Nat := bitsOf r.payload.toNat 95 80

/-- A SeqCheck of a source and class. -/
def JetPart.check (j : JetPart) (path : Nat) (cls : RClass) : Option SeqCheck := j.checks.find? (fun c => c.path == path && c.cls == cls)

/-- Put a SeqCheck. -/
def JetPart.setCheck (j : JetPart) (c : SeqCheck) : JetPart := { j with checks := j.checks.filter (fun x => !(x.path == c.path && x.cls == c.cls)) ++ [c] }

/-- The check of R276: what is delivered for a received record, gap records first; `sub` is the engine's sub-unit. -/
def Group.checkSeq (g : Group) (sub : Nat) (e : ExtRecord) : Group × List ExtRecord :=
  let r := e.base
  let path := e.path.toNat
  let s := (g.jet.check path r.cls).getD { path := path, cls := r.cls, exp := r.seq.toNat, episode := false }
  let d := (r.seq.toNat + 65536 - s.exp) % 65536
  if d ≥ 0x8000 then ({ g with core := g.core.bump oLinkDuplicates, jet := g.jet.setCheck s }, [])
  else
    let bad := !classAllowed r.type.toNat r.cls
    let lost := if d > 0 then [gapOf e s.exp d 0x04] else []
    let self := if bad then [gapOf e r.seq.toNat 1 0x03] else [e]
    let gaps := lost.length + (if bad then 1 else 0)
    let c := g.core.count oLinkGapsInserted gaps
    let c := if bad then c.bump oLinkDamaged else c
    let c := if gaps ≠ 0 ∧ !s.episode then c.raise 0x0A09 sub [path, r.cls.code, if d > 0 then d else 1] else c
    let nxt := if r.type = 0x50 then r.seq.toNat + gapSpan r else r.seq.toNat + 1
    ({ g with core := c, jet := g.jet.setCheck { s with exp := nxt % 65536, episode := gaps != 0 } }, lost ++ self)

/-- The anchor that covers a record, and the anchors after it: what lies behind the record in an anchor's range is used up (R145). -/
def useAnchor (path : Nat) (cls : RClass) (seq : Nat) : List Anchor → Option Nat × List Anchor
  | [] => (none, [])
  | a :: rest =>
    if a.path ≠ path ∨ a.cls ≠ cls then let r := useAnchor path cls seq rest; (r.1, a :: r.2)
    else
      let d := (seq + 65536 - a.first) % 65536
      if d < a.count then
        let r := useAnchor path cls seq rest
        let left := a.count - d - 1
        (some a.ref, if left = 0 then r.2 else { a with first := (seq + 1) % 65536, count := left } :: r.2)
      else
        let r := useAnchor path cls seq rest
        (r.1, if d < 0x8000 then r.2 else a :: r.2)

/-- An anchor of a full time record with a nonzero count (Table 4.5): it replaces older ones for the numbers they share. -/
def JetPart.addAnchor (j : JetPart) (path : Nat) (p : Nat) : JetPart :=
  if bitsOf p 7 0 ≠ 0x01 ∨ bitsOf p 63 48 = 0 then j
  else { j with anchors := { path := path, cls := RClass.ofCode (bitsOf p 17 16), first := bitsOf p 47 32, count := bitsOf p 63 48, ref := bitsOf p 127 64 } :: j.anchors }

/-- The quality byte with STEPPED set when this group stepped within 1 s after the capture and before the arrival (R316). -/
def Group.ingestQuality (g : Group) (q : Byte) (time at_ : Nat) : Byte :=
  match g.core.time.steppedAt with
  | some s => if time < s ∧ s ≤ time + 1000000000 ∧ s ≤ at_ then q ||| 0x10 else q
  | none => q

/-- The 64-bit step of a record's 32-bit step (R317). -/
def Group.ingestStep (g : Group) (step : Nat) : Nat :=
  if g.core.angle.seen then extendStep step (g.core.angle.step + 1) else g.win.base * 2 ^ 32 + step

/-- The flags that describe this group's own receipt (R315). -/
def Fabato.flagMember (f : Fabato) (i : Option Nat) (e : ExtRecord) : ExtRecord :=
  match i with
  | none => { e with roster := 0xFFFF, quarantined := false, probation := false, lateMerge := false }
  | some i =>
    { e with roster := BitVec.ofNat 16 (((f.entryOf i).map (fun x => x.idx)).getD 0xFFFF), quarantined := f.memberState i == 4,
             probation := f.memberState i == 2, lateMerge := false }

/-- The extended record of a record taken from a lane, with the anchors after it (Table 12.1). -/
def Fabato.formDrizzle (f : Fabato) (i lane : Nat) (x : RxRec) : Fabato × ExtRecord :=
  let path := f.memberPathOf i
  let m := f.g.halo.members.getD lane MemberServo.fresh
  let a := useAnchor path x.base.cls x.base.seq.toNat f.g.jet.anchors
  let down := ((f.g.lanes[lane]?).map (fun l => l.lane.phy.downRef)).getD 0
  let ref := a.1.getD (if x.old then down else x.at_)
  let t := extendNs x.base.tns.toNat ref
  let e : ExtRecord :=
    { base := x.base, path := BitVec.ofNat 32 path, roster := 0xFFFF, quality := f.g.ingestQuality (if x.old then m.oldQuality else m.quality) t x.at_,
      old := x.old, anchored := a.1.isSome, relayed := false, quarantined := false, probation := false, lateMerge := false,
      time := BitVec.ofNat 64 t, epoch := 0, step := BitVec.ofNat 64 (f.g.ingestStep x.base.step.toNat) }
  let f := f.onG (fun g => { g with core := if a.1.isSome then g.core.bump oTimeAnchored else g.core, jet := { g.jet with anchors := a.2 } })
  (f, f.flagMember (some i) e)

/-- An extended record over Sky keeps its record, step, epoch, time and path (R315). -/
def Fabato.formSky (f : Fabato) (i : Option Nat) (x : SkyRx) : ExtRecord :=
  f.flagMember i { x.r with old := false, anchored := false, relayed := x.relay, quality := f.g.ingestQuality x.r.quality x.r.time.toNat x.at_ }

/-! ### Stores -/

/-- The group trace store (R216). -/
def Fabato.traceStore (f : Fabato) (e : ExtRecord) : Fabato :=
  let full := decide (64 * (f.fwd.trace.length + 1) > f.core.num oTraceStoreSize)
  if !full then { f with fwd := { f.fwd with trace := f.fwd.trace ++ [e], full := false } }
  else if f.core.num oTraceStorePolicy = 0 then
    match f.fwd.trace with
    | [] => f.onCore (fun c => c.bump oTraceStoreOverwrites)
    | old :: rest =>
      let t := Nat.max (f.fwd.overwritten.getD 0) old.time.toNat
      ({ f with fwd := { f.fwd with trace := rest ++ [e], overwritten := some t } } : Fabato).onCore (fun c => c.bump oTraceStoreOverwrites)
  else
    let p := e.path.toNat
    let n := ((f.fwd.lostTrace.find? (fun x => x.1 == p)).map (fun x => x.2)).getD 0
    let f := if f.fwd.full then f else f.raise 0x0706 0x73 [64 * f.fwd.trace.length]
    { f with fwd := { f.fwd with full := true, lostTrace := (f.fwd.lostTrace.filter (fun x => x.1 != p)) ++ [(p, n + 1)] } }

/-- Store a record, and offer it to Vantage where its steering allows. -/
def Fabato.keepRec (f : Fabato) (vantage : Bool) (e : ExtRecord) : Fabato :=
  f.onG (fun g => if vantage then (g.keep e).vantageCopy e else g.keep e)

/-! ### Cell contexts (R320, R538) -/

/-- Whether a context handle names a context that exists: one with a key mode, or a model slot with an image in force. -/
def Fabato.hasContext (f : Fabato) (h : Nat) : Bool :=
  let n := h % 4096
  match h / 4096 with
  | 1 => decide (n < 1024) && (redDesc (f.core.usedBytes (oRed n 1))).mode != 0
  | 2 => decide (n < 256) && (featDesc (f.core.usedBytes (oFeat n 1))).mode != 0
  | _ => false

/-- A chain joins the inputs of a context; a suspended feature context forms no vector of it, which counts in SPARE.SHED_INPUTS (Table 16.4). -/
def Fabato.giveContext (f : Fabato) (m : Nat) (recs : List ExtRecord) (h : Nat) : Fabato :=
  if handleRank h = 2 ∧ (f.cel.place h).any (fun p => p.mode == 3) then
    (if f.formsVector (h % 4096) m recs then f.onCore (fun c => c.bump oSpareShedInputs) else f)
  else { f with cel := { f.cel with inputs := f.cel.inputs ++ [(h, .chain m recs)] } }

/-- Fields of a steering rule (Table 12.3). -/
structure SteerRule where
  value : Nat
  mask : Nat
  type : Nat
  entry : Nat
  tag : Nat
  ctxA : Nat
  ctxB : Nat
  loft : Bool
  vantage : Bool
  store : Bool
deriving DecidableEq, Repr

/-- The 16 bytes of a rule. -/
def steerRule (b : Bytes) : SteerRule :=
  { value := leAt b 12 4, mask := leAt b 8 4, type := leAt b 7 1, entry := leAt b 6 1, tag := leAt b 5 1, ctxA := leAt b 3 2, ctxB := leAt b 1 2,
    loft := (leAt b 0 1).testBit 2, vantage := (leAt b 0 1).testBit 1, store := (leAt b 0 1).testBit 0 }

/-- Whether a rule matches a chain by its first record: entry and tag are a sample header's. -/
def SteerRule.hits (r : SteerRule) (e : ExtRecord) : Bool :=
  let p := e.base.payload.toNat
  let head := e.base.type == 0x01
  e.path.toNat &&& r.mask == r.value &&& r.mask && (r.type == 0 || r.type == e.base.type.toNat)
    && (r.entry == 0 || (head && bitsOf p 31 24 == r.entry)) && (r.tag == 0 || (head && bitsOf p 23 16 == r.tag))

/-- JET.STEER's rules in element order. An element of the default bytes is a rule nobody wrote: all zeros names context 0x0000 of no kind and is no
rule. -/
def Core.steerRules (c : Core) : List Bytes := (List.range (c.num oJetSteer)).map (fun i => c.get (oJetSteer + i + 1))

/-- The first rule that matches a record (R320). -/
def Core.ruleOf (c : Core) (e : ExtRecord) : Option Bytes := c.steerRules.find? (fun b => (steerRule b).hits e)

/-- Whether a record's bytes 14–15 are a context handle of a group (R537). -/
def isHandle (e : ExtRecord) : Bool := pathLevel e.path.toNat != 0 && decide (0x1000 ≤ e.base.src.toNat) && decide (e.base.src.toNat ≤ 0x4FFF)

/-- Reduction contexts whose child is the context that formed a result chain (R349). -/
def Fabato.childOf (f : Fabato) (e : ExtRecord) : List Nat :=
  if e.base.type = 0x01 ∧ isHandle e then
    (f.an.reds.map (fun c => c.idx)).filterMap (fun n => if (redDesc (f.core.usedBytes (oRed n 1))).mode != 0 && (redDesc (f.core.usedBytes (oRed n 1))).child == e.base.src.toNat then some (hReduce n) else none)
  else []

/-- A whole chain of class S of member `m` that Table 12.2 steers by JET.STEER, with the rule in force at its first record (Table 12.11). -/
def Fabato.steerChain (f : Fabato) (m : Nat) (rule : Option Bytes) (recs : List ExtRecord) : Fabato :=
  match recs with
  | [] => f
  | h :: _ =>
    let kids := f.childOf h
    match rule.map steerRule with
    | none =>
      let f := recs.foldl (fun f e => f.keepRec false e) f
      if kids.isEmpty then f.onCore (fun c => c.bump oJetUnsteered) else kids.foldl (fun f k => f.giveContext m recs k) f
    | some r =>
      let named := ([r.ctxA, r.ctxB].filter (fun k => k != 0xFFFF)).eraseDups
      let f := (named.filter (fun k => !f.hasContext k)).foldl (fun f _ => f.onCore (fun c => c.bump oJetUnsteered)) f
      let f := ((named.filter (fun k => f.hasContext k)) ++ kids.filter (fun k => !named.contains k)).foldl (fun f k => f.giveContext m recs k) f
      let f := if r.loft then { f with g := { f.g with jet := { f.g.jet with loft := f.g.jet.loft ++ recs } } } else f
      let f := if r.store then recs.foldl (fun f e => f.keepRec false e) f else f
      if r.vantage then f.onG (fun g => recs.foldl (fun g e => g.vantageCopy e) g) else f

/-- A gap record of class S from or for member `m`: every context of key mode 1 has it offered (R349, R369), and it is stored. -/
def Fabato.steerGap (f : Fabato) (m : Nat) (e : ExtRecord) : Fabato :=
  let f := f.keepRec false e
  if gapSpan e.base ≠ 1 then f
  else
    let p := e.base.payload.toNat
    let step := extendStep (bitsOf p 63 32) e.step.toNat
    let entry := bitsOf p 31 24
    let f := (f.an.reds.map (fun c => c.idx)).foldl (fun f n => f.redGap n m e step entry) f
    (f.an.feats.map (fun c => c.idx)).foldl (fun f n => f.featGap n m step entry) f

/-- A whole chain of class S of a member that is not excluded, by Table 12.2. -/
def Fabato.chainWhole (f : Fabato) (m : Nat) (rule : Option Bytes) (recs : List ExtRecord) : Fabato :=
  match recs with
  | [] => f
  | h :: rest =>
    let p := h.base.payload.toNat
    match h.base.type.toNat with
    | 0x30 =>
      let f := recs.foldl (fun f e => f.keepRec false e) f
      match rest with
      | second :: _ =>
        let f := if bitsOf second.base.payload.toNat 7 0 % 2 = 1 then { f with cel := { f.cel with satSeen := f.cel.satSeen ||| 8 } } else f
        f.digest m h second
      | [] => f
    | 0x01 =>
      if isHandle h then f.steerChain m rule recs
      else
        let f := f.castSample h.path.toNat h
        if bitsOf p 31 24 = 0 then (recs.foldl (fun f e => f.keepRec false e) f).markerReport m h.step.toNat h.time.toNat else f.steerChain m rule recs
    | _ => f.steerChain m rule recs

/-- A record of an open chain, or of a new one (R538): its chain, whole, broken or still open. -/
def ChainHold.add (k : Core) (c : Option ChainHold) (e : ExtRecord) : ChainHold :=
  match c with
  | some h => { h with recs := h.recs ++ [e], broken := h.broken || decide (h.recs.length ≥ 256) }
  | none => { path := e.path.toNat, cls := e.base.cls, recs := [e], broken := e.base.type == 0x02 || e.base.type == 0x03, rule := k.ruleOf e }

/-- The held chain of a source and class. -/
def JetPart.chain (j : JetPart) (path : Nat) (cls : RClass) : Option ChainHold := j.chains.find? (fun c => c.path == path && c.cls == cls)

/-- Remove the held chain of a source and class. -/
def JetPart.dropChain (j : JetPart) (path : Nat) (cls : RClass) : JetPart := { j with chains := j.chains.filter (fun c => !(c.path == path && c.cls == cls)) }

/-- A class S record of a member, other than a gap or cut marker. -/
def Fabato.sampleRec (f : Fabato) (m : Nat) (e : ExtRecord) : Fabato :=
  let path := e.path.toNat
  let c := ChainHold.add f.core (f.g.jet.chain path .s) e
  let f := f.onG (fun g => { g with jet := g.jet.dropChain path .s })
  if e.base.cont then f.onG (fun g => { g with jet := { g.jet with chains := g.jet.chains ++ [c] } })
  else if c.broken then c.recs.foldl (fun f e => f.keepRec true e) f
  else f.chainWhole m c.rule c.recs

/-- An inserted gap record breaks the chain its source has open in its class. -/
def Fabato.breakChain (f : Fabato) (e : ExtRecord) : Fabato :=
  f.onG (fun g => { g with jet := { g.jet with chains := modWhere (fun c => c.path == e.path.toNat && c.cls == e.base.cls) (fun (c : ChainHold) => { c with broken := true }) g.jet.chains } })

/-! ### Class A (Table 12.2) -/

/-- What the fencing manager and the other managers take from an alarm of a member group (Table 15.5); whether it goes on upward. -/
def Fabato.groupAlarm (f : Fabato) (m : Nat) (e : ExtRecord) : Fabato × Bool :=
  let p := e.base.payload.toNat
  match bitsOf p 63 56 with
  | 0x50 => ((f.keepRec false e).cadFence (bitsOf p 127 96), true)
  | 0x51 => f.tokenRequest e.path.toNat (bitsOf p 95 64)
  | 0x32 => ({ f with hor := f.hor.childQuorum m true }, true)
  | 0x33 => ({ f with hor := f.hor.childQuorum m false }, true)
  | _ => (f, true)

/-- A class A record: the fencing manager, the subscriber of its source on the parent port, Vantage. The second record of a chain is no alarm of its
own. -/
def Fabato.alarmRec (f : Fabato) (m : Option Nat) (e : ExtRecord) : Fabato :=
  let path := e.path.toNat
  let rest := (f.g.jet.chain path .a).isSome
  let f := f.onG (fun g => { g with jet := g.jet.dropChain path .a })
  let f := if e.base.cont then f.onG (fun g => { g with jet := { g.jet with chains := g.jet.chains ++ [{ path := path, cls := .a, recs := [], broken := false, rule := none }] } }) else f
  let r : Fabato × Bool :=
    if rest ∨ e.base.type ≠ 0x10 then (f, true)
    else match m with
      | none => (f, true)
      | some i =>
        if pathLevel path = 0 then
          (if f.core.kind = 1 ∧ bitsOf e.base.payload.toNat 55 48 = 3 then f.dieAlarm i (bitsOf e.base.payload.toNat 63 56) else f, true)
        else if path = f.memberPathOf i ∨ bitsOf e.base.payload.toNat 63 56 = 0x51 ∨ bitsOf e.base.payload.toNat 63 56 = 0x50 then f.groupAlarm i e
        else (f, true)
  r.1.onG (fun g => let g := if r.2 then g.enqueue path 31 e else g; g.vantageCopy e)

/-! ### Class C -/

/-- A class C record of type 0x70: a piece of a message, or of a fence exchange (R93, R412). -/
def Fabato.messageRec (f : Fabato) (port : Option Port) (e : ExtRecord) : Fabato :=
  let path := e.path.toNat
  let c : ChainHold := match f.g.jet.chain path .c with
    | some h => { h with recs := h.recs ++ [e] }
    | none => { path := path, cls := .c, recs := [e], broken := false, rule := none }
  let f := f.onG (fun g => { g with jet := g.jet.dropChain path .c })
  if e.base.cont then f.onG (fun g => { g with jet := { g.jet with chains := g.jet.chains ++ [c] } })
  else if c.broken then f
  else if pathLevel path ≠ 0 ∧ ownSrc 0x75 0 = (c.recs.map (fun x => x.base.src)).headD 0 then
    match c.recs with
    | a :: b :: [] => f.exchange path a.base b.base
    | _ => f
  else match port with
    | some p => f.receiveBytes p (unpad (c.recs.flatMap (fun x => leBytes 16 x.base.payload.toNat)))
    | none => f

/-! ### Steering one record (R319) -/

/-- A checked record of a direct member `m`, or of none in the group's tree, that came in on `port` where it may carry messages. -/
def Fabato.steer (f : Fabato) (m : Option Nat) (port : Option Port) (e : ExtRecord) : Fabato :=
  let f := { f with cel := { f.cel with satSeen := if e.base.type = 0x50 ∧ bitsOf e.base.payload.toNat 79 64 = 0x20 then f.cel.satSeen ||| 2 else f.cel.satSeen } }
  if f.sun.onlyStore ∧ e.base.type ≠ 0x70 then ({ f with sun := { f.sun with stored := f.sun.stored ++ [e] } } : Fabato).keepRec false e
  else
    let f := if e.base.type = 0x60 ∧ m.isSome then f.castMarker e.path.toNat e.base.cls.code e.base.seq.toNat e.base.payload.toNat ((m.map f.memberPathOf).getD 0) else f
    let f := if e.base.type = 0x40 then f.onG (fun g => { g with jet := g.jet.addAnchor e.path.toNat e.base.payload.toNat }) else f
    match e.base.cls with
    | .a => f.alarmRec m e
    | .c =>
      if e.base.type = 0x70 then f.messageRec port e
      else if m.any (fun i => f.excluded i) then f.keepRec true e
      else match e.base.type.toNat with
        | 0x51 => (f.keepRec false e).traceStore e
        | 0x60 => f
        | _ => f.keepRec false e
    | .t => if m.any (fun i => f.excluded i) then f.keepRec true e else if e.base.type = 0x60 then f else if e.base.type = 0x50 then (f.keepRec false e).traceStore e else f.traceStore e
    | .s =>
      match m with
      | none => f.keepRec true e
      | some i =>
        if f.excluded i then (f.onG (fun g => { g with jet := g.jet.dropChain e.path.toNat .s })).keepRec true e
        else match e.base.type.toNat with
          | 0x50 => f.steerGap i e
          | 0x60 => f
          | _ => f.sampleRec i e

/-- Check a formed record and steer what is delivered for it, gap records breaking the source's open chain. -/
def Fabato.ingest (f : Fabato) (sub : Nat) (m : Option Nat) (port : Option Port) (e : ExtRecord) : Fabato :=
  let r := f.g.checkSeq sub e
  r.2.foldl (fun (f : Fabato) x => (if x.base.type = 0x50 ∧ (e.base.type ≠ 0x50 ∨ x != e) then f.breakChain x else f).steer m port x) { f with g := r.1 }

/-! ### Taking a record (R313, R314, R321) -/

/-- The direct member an extended record of Sky port `p` comes from: the port map's on a member port, the one its path lies under in a relay frame. -/
def Fabato.skyMember (f : Fabato) (p : Nat) (x : SkyRx) : Option Nat :=
  let path := x.r.path.toNat
  if (f.core.skyMap p).role = 2 then some (f.core.skyMap p).member
  else if x.relay ∧ inSubtree f.core.path path ∧ path ≠ f.core.path then memberOf f.core.path path else none

/-- Whether a Sky port lies beyond the level's limit of members (R28). -/
def Fabato.skyExcess (f : Fabato) (p : Nat) : Bool := (f.core.skyMap p).role == 2 && decide ((f.core.skyMap p).member ≥ memberLimit f.core.kind)

/-- Engine `e` takes its next record. -/
def Fabato.ingestTake (f : Fabato) (e : Nat) : Fabato :=
  match f.g.engineNext e with
  | none => f
  | some w =>
    let f := f.onG (fun g => { g with core := g.core.bump (oJetIngestRecords + e + 1), jet := { g.jet with engines := modAt g.jet.engines e (fun x => x.served w) } })
    let f := { f with cel := { f.cel with ingestBusy := modAt f.cel.ingestBusy e (fun n => n + 1) } }
    let sub := 0x50 + e
    if w.lane < 1000 then
      match (f.g.lanes[w.lane]?).bind (fun l => l.lane.rx.queue[w.place]?) with
      | none => f
      | some x =>
        let f := f.onG (fun g => g.onLane w.lane (fun l =>
          { l with lane := { l.lane with rx := { l.lane.rx with queue := l.lane.rx.queue.eraseIdx w.place, taken := modAt l.lane.rx.taken w.cls.code (fun n => slotAdd n 1) } } }))
        match f.g.laneMap.findIdx? (fun n => n == w.lane) with
        | none => f.onCore (fun c => c.bump oHorizonExcessRecords)
        | some i =>
          let r := f.formDrizzle i w.lane x
          r.1.ingest sub (some i) (some (.drizzle i)) r.2
    else
      let p := w.lane - 1000
      match (f.g.port p).rx[w.place]? with
      | none => f
      | some x =>
        let f := f.onG (fun g => (g.onPort p (fun s => { s with rx := s.rx.eraseIdx w.place })).skyTaken p w.cls.code x.slots)
        if f.skyExcess p then f.onCore (fun c => c.bump oHorizonExcessRecords)
        else
          let m := f.skyMember p x
          f.ingest sub m none (f.formSky m x)

end Sys2Proof.Machine
end

