-- ==== Sys2Proof/Machine/FabLane.lean ====
section
/-! DEFINITION. A tray's ends of its Drizzle lanes (R263–R275), a group's Sky frames (R283–R292, Table 10.9), and the end of a trace export (R217). -/
namespace Sys2Proof.Machine

/-! ### Lane events -/

/-- An event at physical lane `n`: one that takes the lane out of Up has the effects of that. -/
def Group.laneEvent (g : Group) (n : Nat) (h : Core → Lane → Core × Lane) : Group :=
  match g.lanes[n]? with
  | none => g
  | some l =>
    let r := h g.core l.lane
    let g' : Group := { g with core := r.1, lanes := g.lanes.set n { l with lane := r.2 } }
    if l.lane.phy.state = .up ∧ r.2.phy.state ≠ .up then g'.laneLeft n else g'

/-- The same at the Fabato of a tray; other modes have no Drizzle lanes (R27). -/
def Fabato.laneEvent (f : Fabato) (n : Nat) (h : Core → Lane → Core × Lane) : Fabato := if f.core.kind = 1 then f.onG (fun g => g.laneEvent n h) else f

/-- Identity that a lane's peer has announced: HELLO_UID's 120 bits and HELLO_INFO's eight. -/
def FabLane.peer (l : FabLane) : Nat := bitsOf (ofLe l.lane.phy.peerUid) 127 8 + bitsOf (ofLe l.lane.phy.peerInfo) 31 24 * 2 ^ 120

/-- A HELLO_INFO item at lane `n`: the re-patch of R443, then Up, where a new epoch starts the die's sequence checks anew (R276) and Horizon classifies
the identity (R442). A die is unfused unless its fuse status is 0. -/
def Fabato.helloInfo (f : Fabato) (n item : Nat) : Fabato :=
  match f.g.lanes[n]? with
  | none => f
  | some l =>
    if f.core.kind ≠ 1 ∨ l.lane.phy.state ≠ .hello then f
    else
      let r := laneHelloInfo n 0xFF item f.core l.lane
      let l : FabLane := { l with lane := r.2.1 }
      let f := f.onG (fun g => { g with core := r.1, lanes := g.lanes.set n l })
      let x := f.laneIndex n l.peer
      match r.2.2 with
      | none => x.1
      | some fresh =>
        let f := match fresh, x.2 with
          | true, some i => x.1.resetChecks (x.1.memberPathOf i)
          | _, _ => x.1
        f.horizonHello { port := n, index := x.2, uid := l.peer, unfused := bitsOf item 55 48 != 0, fits := true }

/-- A TIME_RSP item (R136). -/
def Fabato.timeRspItem (f : Fabato) (n item : Nat) : Fabato :=
  match f.g.lanes[n]? with
  | some l => if l.lane.phy.state = .up then f.onG (fun g => g.timeRsp n (bitsOf item 127 64) (bitsOf item 63 40) (bitsOf item 39 16) (bitsOf item 15 8)) else f
  | none => f

/-- One control item (Table 10.4). Reserved types are ignored. -/
def Fabato.item (f : Fabato) (n v : Nat) : Fabato :=
  match v % 256 with
  | 0x01 => f.laneEvent n (fun c l => (c, l.credit (bitsOf v 127 104) (bitsOf v 103 80) (bitsOf v 79 56) (bitsOf v 55 32)))
  | 0x03 => f.timeRspItem n v
  | 0x06 => f.laneEvent n (laneHelloUid v)
  | 0x07 => f.helloInfo n v
  | 0x08 => f.laneEvent n (laneResume (bitsOf v 27 16))
  | _ => f

/-- A flit from lane `n` (R268, R271, R273). -/
def Fabato.flit (f : Fabato) (n : Nat) (b : Bytes) : Fabato :=
  match f.g.lanes[n]? with
  | none => f
  | some l =>
    if f.core.kind ≠ 1 then f
    else
      let r := laneFlit n b f.core l.lane
      let f := f.onG (fun g => { g with core := r.1, lanes := g.lanes.set n { l with lane := r.2.1 } })
      if r.2.2 then f
      else if isControl b ∧ (l.lane.phy.state = .up ∨ l.lane.phy.state = .hello) then (controlItems b).foldl (fun f v => f.item n v) f
      else f

/-- A block and its flits (R265, R266). -/
def Fabato.block (f : Fabato) (n hdr symbols uncorr : Nat) (flits : List Bytes) : Fabato :=
  let f := f.laneEvent n (laneBlock n 0xFF hdr symbols uncorr)
  match f.g.lanes[n]? with
  | some l => if f.core.kind = 1 ∧ laneDelivers l.lane uncorr then (flits.take 5).foldl (fun f b => f.flit n b) f else f
  | none => f

/-! ### Sending on a lane (R267, R269–R273) -/

/-- The Fabato's source of slots: the class C records toward the die, a whole chain at a time. -/
def fabSlots : SlotSource (List Held) :=
  { alarm := fun _ => none,
    frame := fun t s =>
      let ch := firstChain s
      if ch.isEmpty || decide (t.avail 2 < ch.length) then none else some (ch, t, s.drop ch.length) }

/-- Items of a control flit of lane `n`. -/
def Group.itemsOut (g : Group) (n : Nat) (l : FabLane) (slot0 : Bool) : List Nat :=
  let credit := l.lane.creditItem (g.core.num oLinkACredits)
  let m := g.halo.members.getD n MemberServo.fresh
  match l.lane.phy.state with
  | .hello => credit :: helloItems l.lane (ofLe (g.core.get oIdentUid)) g.core.path g.core.kind 0 ((g.laneMap.findIdx? (fun k => k == n)).getD 0xFF) n
  | .up =>
    let servo := if l.servo then [4 + m.quality.toNat * 2 ^ 24 + Nat.min m.bound (2 ^ 32 - 1) * 2 ^ 32 + wrapInt 64 m.adj * 2 ^ 64] else []
    let step := match l.step with
      | some (s, id) => [5 + id % 256 * 2 ^ 16 + (m.quality ||| 0x10).toNat * 2 ^ 24 + wrapInt 64 s * 2 ^ 64]
      | none => []
    let req := match l.lane.tx.req, slot0 with
      | some id, true => [2 + id % 2 ^ 24 * 2 ^ 40]
      | _, _ => []
    credit :: (servo ++ step ++ req)
  | _ => [credit]

/-- Send a control flit; a TIME_REQ is stamped now, corrected for the transmit path (R136). -/
def Group.sendControl (g : Group) (n : Nat) (l : FabLane) (slot0 : Bool) : Group :=
  let core := (g.itemsOut n l slot0).foldl (fun c v => c.send (.item n (v % 256) v)) g.core
  let asked := slot0 && l.lane.phy.state == .up && l.lane.tx.req.isSome
  let g := { g with core := core }.onLane n (fun l => { l with lane := l.lane.sentControl (core.num oLinkACredits) slot0 })
  if asked then g.onMember n (fun m => { m with t1 := some (correctStamp core (0x0B040000 + n * 0x200) core.ns).toNat }) else g

/-- Lane `n`'s next flit (R271, R273). -/
def Group.transmit (g : Group) (n : Nat) (slot0 : Bool) : Group :=
  match g.lanes[n]? with
  | none => g
  | some l =>
    match l.lane.phy.state with
    | .align | .hello => g.sendControl n l slot0
    | .up =>
      if l.lane.controlDue (g.core.num oLinkACredits) slot0 then g.sendControl n l slot0
      else match l.lane.resendOne with
        | some (x, l') =>
          if x.sends > g.core.num oLinkDzRetryLimit then g.dzDown n 1
          else { g with core := (g.core.bump (oLinkDzResent + n + 1)).send (.flit n x.seq x.old (x.ends.map (fun h => h.base))), lanes := g.lanes.set n { l with lane := l' } }
        | none =>
          if decide (l.lane.tx.retry.length < 256) && hasData fabSlots l.lane.tx l.out then
            let r := newFlit fabSlots l.lane l.out g.core.up
            { g with core := g.core.send (.flit n r.1 false (r.2.1.map (fun h => h.base))), lanes := g.lanes.set n { l with lane := r.2.2.1, out := r.2.2.2 } }
          else g.sendControl n l slot0
    | _ => g

/-- The same at a tray's Fabato. -/
def Fabato.transmit (f : Fabato) (n : Nat) (slot0 : Bool) : Fabato := if f.core.kind = 1 then f.onG (fun g => g.transmit n slot0) else f

/-! ### Sky frames (Table 10.9) -/

/-- A sequenced frame at a port: the group after its header, and whether its content is taken. -/
def Fabato.skyTake (f : Fabato) (p : Nat) (h : SkyHead) : Fabato × Bool :=
  let r := f.g.skyHead p h true
  ({ f with g := r.1 }, r.2)

/-- Frames of classes C, S and T on a role-5 port wait at their sender while the Sundog link is down and the group does not host (R292): only the acks count. -/
def Fabato.relayHeld (f : Fabato) (p : Nat) (h : SkyHead) : Bool :=
  (f.core.skyMap p).role == 5 && h.cls != .a && !f.g.sundogUp && f.sun.hosting.isNone

/-- Whether a frame on a port is to be relayed to the Sundog partner (R291). -/
def Fabato.relays (f : Fabato) (p : Nat) : Bool := (f.core.skyMap p).role == 5 && f.g.sundogUp && f.sun.hosting.isNone

/-- Relay a frame's payload: an 8-byte header with the child path and the class, then the payload (R291). -/
def Fabato.relayOn (f : Fabato) (p slots : Nat) (cls : RClass) (b : Bytes) : Fabato :=
  let child := leAt (f.g.port p).peerHello 12 4
  let f := f.onG (fun g => g.skyTaken p cls.code slots)
  match f.sunPort with
  | some s => f.onG (fun g => g.enqueueFrame child s 0x07 cls (leBytes 8 (child + cls.code * 2 ^ 32) ++ b))
  | none => f

/-- Records that arrive on a port, each with the slots its taking frees. -/
def Fabato.queueRecords (f : Fabato) (p : Nat) (relay : Bool) (slots : Nat) (l : List ExtRecord) : Fabato :=
  f.onG (fun g => g.onPort p (fun s =>
    { s with rx := s.rx ++ l.zipIdx.map (fun (x : ExtRecord × Nat) =>
      { r := x.1, relay := relay, at_ := g.core.ns, slots := slots / l.length + (if x.2 < slots % l.length then 1 else 0) }) }))

/-- Kind 0x01: extended records, all of the frame's class. Records on a port that no member or relayed child sends on are dropped. -/
def Fabato.skyRecords (f : Fabato) (p : Nat) (h : SkyHead) (l : List ExtRecord) : Fabato :=
  if f.relayHeld p h then { f with g := (f.g.skyHead p h false).1 }
  else
    let r := f.skyTake p h
    if !r.2 then r.1
    else if r.1.relays p then r.1.relayOn p l.length h.cls (l.flatMap extBytes)
    else match (r.1.core.skyMap p).role with
      | 2 => r.1.queueRecords p false l.length l
      | 5 => r.1.queueRecords p false l.length l
      | _ => r.1.onG (fun g => g.skyTaken p h.cls.code l.length)

/-- Kind 0x02: one dictionary message. -/
def Fabato.skyMessage (f : Fabato) (p : Nat) (h : SkyHead) (b : Bytes) : Fabato :=
  if f.relayHeld p h then { f with g := (f.g.skyHead p h false).1 }
  else
    let r := f.skyTake p h
    let n := skySlots 2 0 b.length
    if !r.2 then r.1
    else if r.1.relays p then r.1.relayOn p n .c b
    else (r.1.onG (fun g => g.skyTaken p 2 n)).receiveBytes (.sky p) b

/-- Kind 0x03: cumulative grants. -/
def Fabato.skyControlFrame (f : Fabato) (p : Nat) (h : SkyHead) (a c s t : Nat) : Fabato := f.onG (fun g => g.skyGrants p h a c s t)

/-- Kind 0x04: a Condenser frame from the unit at the other end. -/
def Fabato.skyCondenser (f : Fabato) (p : Nat) (h : SkyHead) (b : Bytes) : Fabato :=
  if f.relayHeld p h then { f with g := (f.g.skyHead p h false).1 }
  else
    let r := f.skyTake p h
    let n := skySlots 4 0 b.length
    if !r.2 then r.1
    else if r.1.relays p then r.1.relayOn p n h.cls b
    else
      let d := r.1.g.condReceive (leAt (r.1.g.port p).peerHello 12 4) h.cls.code b
      let f : Fabato := { r.1 with g := d.1 }
      if d.2.isEmpty then f.onG (fun g => g.skyTaken p h.cls.code n) else f.queueRecords p false n d.2

/-- Kind 0x06: a hello; on a member port Horizon classifies the identity (R442). -/
def Fabato.skyHelloFrame (f : Fabato) (p : Nat) (b : Bytes) : Fabato :=
  let was := f.g.portUp p
  let f := f.onG (fun g => (g.skyHello p b).parentScan p)
  let m := f.core.skyMap p
  if m.role = 2 ∧ f.g.portUp p ∧ !was then
    f.horizonHello { port := p, index := some m.member, uid := leAt b 16 16, unfused := false,
                     fits := leAt b 7 1 + 1 == f.core.kind && leAt b 12 4 == f.memberPathOf m.member }
  else f

/-- Kind 0x07: on the Sundog link, what the partner received from one of this group's members (R291). -/
def Fabato.skyRelay (f : Fabato) (p : Nat) (h : SkyHead) (child : Nat) (x : SkyBody) : Fabato :=
  let r := f.skyTake p h
  let len := match x with | .records l => 64 * l.length | .message b => b.length | .condenser b => b.length
  let n := skySlots 7 0 (len + 8)
  let free (f : Fabato) : Fabato := f.onG (fun g => g.skyTaken p h.cls.code n)
  if !r.2 then r.1
  else if (r.1.core.skyMap p).role ≠ 3 then free r.1
  else match x with
    | .records l => if l.isEmpty then free r.1 else r.1.queueRecords p true n l
    | .message b =>
      let port := ((memberOf r.1.core.path child).bind (fun i => r.1.core.memberPort i)).getD p
      (free r.1).receiveBytes (.sky port) b
    | .condenser b =>
      let d := r.1.g.condReceive child h.cls.code b
      let f : Fabato := { r.1 with g := d.1 }
      if d.2.isEmpty then free f else f.queueRecords p true n d.2

/-! ### Trace export (R217) -/

/-- The export's records have all gone to the parent or to Vantage. -/
def Fabato.exportDone (f : Fabato) : Fabato :=
  match f.fwd.exporting with
  | none => f
  | some x =>
    let port := if x.dest = 1 then some 31 else f.core.vantagePort
    let f := match port with
      | some p => f.onG (fun g => x.todo.foldl (fun (g : Group) (e : ExtRecord) => g.enqueue e.path.toNat p e) g)
      | none => f
    ({ f with fwd := { f.fwd with exporting := none } } : Fabato).exportStatus 2 x.todo.length

end Sys2Proof.Machine
end

