-- ==== Sys2Proof/Machine/OvtanMsg.lean ====
section
/-! DEFINITION. Dictionary messages at an Ovtan, over the mailbox (R247) and over Drizzle (R93), and the frames of the CFG port (R246–R250). -/
namespace Sys2Proof.Machine

/-- Pieces of 16 bytes of a message, zero-padded (R93). -/
def pieces (b : Bytes) : List Bytes := (List.range ((b.length + 15) / 16)).map (fun i => slice b (16 * i) 16)

/-- The class C records of type 0x70 that carry a message on Drizzle (R93): all but the last carry the continuation flag. -/
def messageRecords (c : Core) (sub : Nat) (b : Bytes) : List Record :=
  let ps := pieces b
  (List.range ps.length).map (fun i =>
    { mkRecord c c.ns 0x70 .c (srcOf sub 0) (leAt (ps.getD i []) 0 16) with cont := decide (i + 1 < ps.length) })

/-- Place the messages sent on the Drizzle lane since the unit had sent `n` things as class C records. -/
def Ovtan.placeMessages (o : Ovtan) (n : Nat) : Ovtan :=
  (o.core.sent.drop n).foldl (fun o s =>
    match s with
    | .message (.drizzle _) _ _ b => (messageRecords o.core 0x09 b).foldl (fun o r => o.onBuf (fun c x => placeC c x r)) o
    | _ => o) o

/-- The response of an Ovtan to a request of a known actor (R92, R94, R96–R98, R247): the unit, the response, and replayed or not. -/
def Ovtan.answer (o : Ovtan) (a : Actor) (e : Envelope) (q : Request) : Ovtan × Response × Bool :=
  let err (st : Nat) : Ovtan × Response × Bool := (o, .error st, false)
  if e.version ≠ 1 then err eVersion
  else if !requestOk e q then ({ o with core := o.core.bump oSessionMsgMalformed }, .error eMalformed, false)
  else if e.hop = 0 then err eHopLimit
  else if !flagLocal e.flags ∧ e.paths ≠ [o.core.path] then err eAbsentMember
  else
    let r := actKept ovOps o a e q
    if flagFanout e.flags then
      let f := failureOf q r.2.1
      let body := match f with
        | none => fanBody 1 1 0 []
        | some x => fanBody 1 0 1 [(o.core.path, x.1, x.2)]
      (r.1, ⟨r.2.1.summary, body⟩, r.2.2)
    else r

/-- A request arrives under a session (R90, R110). -/
def Ovtan.request (o : Ovtan) (e : Envelope) (q : Request) : Ovtan :=
  let c := o.core.expireSessions
  match c.authenticate e q.opcode q.body with
  | none => { o with core := c.macFail }
  | some (s, c) =>
    let r := ({ o with core := c }).answer s.actor e q
    let n := r.1.core.sent.length
    let o := { r.1 with core := r.1.core.respond e q.opcode r.2.1 r.2.2 }
    o.placeMessages n

/-- A HELLO, PROOF or CLOSE at an Ovtan (Table 3.1). -/
def Ovtan.onCoreSend (o : Ovtan) (f : Core → Core) : Ovtan :=
  let n := o.core.sent.length
  (o.onCore f).placeMessages n

/-- Any message of known opcode and body. -/
def Ovtan.receive (o : Ovtan) (e : Envelope) (opcode : Nat) (body : Bytes) : Ovtan :=
  if opcode = 0x10 then o.onCoreSend (fun c => c.hello e body)
  else if opcode = 0x11 then o.onCoreSend (fun c => c.proof e body)
  else if opcode = 0x12 ∧ body.isEmpty then o.onCoreSend (fun c => c.closeMessage e)
  else o.request e (parseRequest opcode body)

/-- A message as bytes, from the mailbox or from a chain of type 0x70; one whose lengths do not fit fails the session check (R90). -/
def Ovtan.receiveBytes (o : Ovtan) (port : Port) (b : Bytes) : Ovtan :=
  match parseMessage port b with
  | some (e, op, _, body) => o.receive e op body
  | none => { o with core := o.core.macFail }

/-! ### The CFG port (R246–R250) -/

/-- A CFG response: kind, tag, status, payload (Table 9.2). -/
def Ovtan.cfgAnswer (o : Ovtan) (kind tag status : Nat) (payload : Bytes) : Ovtan :=
  { o with core := o.core.send (.cfg kind (leBytes 2 payload.length ++ zeros 3 ++ leBytes 1 status ++ leBytes 1 tag ++ leBytes 1 kind ++ payload)) }

/-- A frame of kind 0x01 (R247): the mailbox's response is the unit's response message. In Reset `CFG` is not open (Table 9.5). -/
def Ovtan.mailbox (o : Ovtan) (tag : Nat) (b : Bytes) : Ovtan :=
  if o.bnd.boot = .reset then o
  else if o.bnd.boot ≠ .ready then o.cfgAnswer 1 tag 3 []
  else if b.length > 4156 then o.cfgAnswer 1 tag 2 []
  else
    let o := { o with bnd := { o.bnd with blocks := o.bnd.blocks.set 5 0 } }
    let n := o.core.sent.length
    let o := o.receiveBytes .mailbox b
    let reply := match (o.core.sent.drop n).find? (fun s => match s with | .message .mailbox _ _ _ => true | _ => false) with
      | some (.message _ _ _ r) => r
      | _ => []
    o.cfgAnswer 1 tag 0 reply

/-- A frame of kind 0x03 (R248). -/
def Ovtan.statusFrame (o : Ovtan) (tag len : Nat) : Ovtan :=
  if o.bnd.boot = .reset then o
  else if len ≠ 0 then o.cfgAnswer 3 tag 2 []
  else o.cfgAnswer 3 tag 0 (leBytes 8 o.bnd.statusWord)

end Sys2Proof.Machine
end

