-- ==== Sys2Proof/Machine/OvtanBoot.lean ====
section
/-! DEFINITION. Bring-up, fuse image, self-test, reference loss, self-managed blocks and IRQ lines of an Ovtan (spec/09, R245–R258). -/
namespace Sys2Proof.Machine

/-- The block held at reset: `up` and `free` are the model's own counts, `sent` what left before. -/
def Ovtan.held (up free : Nat) (sent : List Sent) : Ovtan :=
  let core : Core :=
    { kind := 0, path := 0xFFFFFFFF, up := up, store := [], waitX := [], waitB := [], made := [],
      keys := { roles := List.replicate 4 (zeros 32), tenants := [], tree := zeros 32 }, sessions := [], handshakes := [], locks := [],
      commits := [], kept := [], pairGood := [], pairBad := [], time := TimePart.fresh, angle := AnglePart.fresh false, cuts := [],
      cutLast := zeros 16, events := [], sent := sent, free := free, commitLost := 0 }
  { core := core, buf := RecBuf.fresh, cap := Capture.fresh 0 0 core,
    trace := TracePart.fresh [] [] 0, dew := dewFresh core, dma := DmaPart.fresh,
    link := { lane := Lane.fresh 0, stepId := 0, servoSeen := false, spillRaised := false },
    bnd := { boot := .reset, aon := false, risenAt := 0, fuse := [], fuseStatus := 1, fuseFails := 0, restarts := 0, cause := 0, pll := false,
             bist := { memoryPass := false, countersPass := false, repaired := false, exhausted := false, result := [], columns := 0,
                       columnsBeyond := 0, deadCounters := [], deadMacros := [] },
             blocks := blocksIdle, refLost := none, auth := false, irq := [none, none, none, none] } }

/-- `AON_RST_N` falls: everything is held at reset (Table 9.5). The levels of the input lines are the host's and stay as they are. -/
def Ovtan.aonAssert (o : Ovtan) : Ovtan :=
  let h := Ovtan.held o.core.up o.core.free o.core.sent
  { h with cap := { h.cap with cgNote := o.cap.cgNote }, trace := { h.trace with pdReq := o.trace.pdReq },
           bnd := { h.bnd with auth := o.bnd.auth } }

/-- `AON_RST_N` rises: the PLL starts, `CFG` opens for fuse and status frames (Table 9.5). A `PD_REQ` line that is high counts as risen. -/
def Ovtan.aonRelease (o : Ovtan) : Ovtan :=
  if o.bnd.boot = .reset then
    let fl := ((List.range 32).filter (fun d => o.trace.pdReq.testBit d)).map (fun d =>
      { domain := d, since := o.core.up, refused := 0, withdrawn := false : Flush })
    { o with bnd := { o.bnd with boot := .fuseLoad, aon := true, risenAt := o.core.up }, trace := { o.trace with flushes := fl } }
  else o

/-- The PLL locks (Table 9.5): a warm restart with POWER.BIST_ON_RESTART false goes on with the last soft repair. -/
def Ovtan.pllLock (o : Ovtan) : Ovtan :=
  if o.bnd.boot = .reset then o
  else
    let o := { o with bnd := { o.bnd with pll := true } }
    if o.bnd.boot = .selfTest ∧ o.bnd.cause = 1 ∧ !o.core.flag oPowerBistOnRestart then o.ready else o

/-- A fuse image frame (R249, R250). -/
def Ovtan.fuseFrame (o : Ovtan) (tag : Nat) (img : Bytes) : Ovtan :=
  if o.bnd.boot = .reset then o
  else if o.bnd.boot ≠ .fuseLoad then o.cfgAnswer 2 tag 3 []
  else if img.length ≠ 1024 then o.cfgAnswer 2 tag 2 []
  else if !fuseGood img then
    ({ o with bnd := { o.bnd with fuseStatus := 2, fuseFails := o.bnd.fuseFails + 1 } }).cfgAnswer 2 tag 4 []
  else
    let o := { o with bnd := { o.bnd with fuse := img, fuseStatus := 0, boot := .selfTest } }
    o.clear.cfgAnswer 2 tag 0 []

/-- 10 ms without a good image (R250): identity 0, no Custodian key, no hard repair. Check failures seen are the event's payload. -/
def Ovtan.fuseTimeout (o : Ovtan) : Ovtan :=
  if o.bnd.boot = .fuseLoad ∧ o.core.up ≥ o.bnd.risenAt + 10000000 then
    let o := { o with bnd := { o.bnd with fuse := [], fuseStatus := 3, boot := .selfTest } }
    let o := o.clear
    { o with core := { o.core with made := [] }.raise 0x0908 0x08 [o.bnd.fuseFails] }
  else o

/-- Hard-repaired columns of macro `m` in the fuse image (Table 9.4). -/
def BndPart.hardColumns (b : BndPart) (m : Nat) : Nat :=
  if b.fuse.isEmpty then 0
  else ((slice b.fuse (864 + 2 * m) 2).filter (fun x => x != 0xFF)).length

/-- Self-test ends (R258): `counters` the failing counters, 576 to 607 for the 32 spares, `cols` the failing columns as macro and column after hard
repair. The lowest free spare goes to each counter; each macro has two spare columns. -/
def Ovtan.selfTestDone (o : Ovtan) (counters : List Nat) (cols : List (Nat × Nat)) : Ovtan :=
  if o.bnd.boot = .selfTest ∧ o.bnd.pll then
    let cs := (counters.filter (fun i => decide (i < 576))).eraseDups
    let bs := (counters.filter (fun i => decide (576 ≤ i ∧ i < 608))).eraseDups
    let free := 32 - bs.length
    let macros := List.range 13
    let bad (m : Nat) : Nat := (cols.filter (fun c => c.1 == m)).length
    let spare (m : Nat) : Nat := 2 - o.bnd.hardColumns m
    let soft := (macros.map (fun m => Nat.min (bad m) (spare m))).sum
    let beyond := (macros.map (fun m => bad m - spare m)).sum
    let hard := (macros.map (fun m => o.bnd.hardColumns m)).sum
    let deadM := macros.filter (fun m => decide (bad m > spare m))
    let deadC := cs.drop free
    let result := cols.flatMap (fun c => leBytes 1 c.1 ++ leBytes 1 c.2) ++ (cs ++ bs).flatMap (leBytes 2)
    let bist : BistPart :=
      { memoryPass := deadM.isEmpty, countersPass := deadC.isEmpty, repaired := decide (soft > 0) || !(cs.take free).isEmpty,
        exhausted := !deadM.isEmpty || !deadC.isEmpty, result := result, columns := hard + soft, columnsBeyond := beyond,
        deadCounters := deadC, deadMacros := deadM }
    let o := { o with bnd := { o.bnd with bist := bist }, cap := { o.cap with repaired := cs.take free, dead := deadC },
                      buf := { o.buf with failedMacros := (deadM.filter (fun m => decide (m < 8))).length } }
    o.ready
  else o

/-! ### Reference (R257) -/

/-- `REFCLK` is lost: the internal oscillator takes over, time state 7, the lane drops. -/
def Ovtan.refLost (o : Ovtan) : Ovtan :=
  if o.bnd.boot = .reset ∨ !o.core.time.refPresent then o
  else
    let old := o.core.quality true false o.core.up
    let time := { o.core.time with mode := .acquiring, refPresent := false, holdSince := none }
    let core := ({ o.core with time := time }.bump oPowerRefclkLosses).raise 0x0901 0x08 [o.core.ns]
    let o : Ovtan := { o with core := core, bnd := { o.bnd with refLost := some core.up, pll := false } }
    if o.bnd.boot ≠ .ready then o
    else
      let o := o.qualityChange old
      let o := o.laneDown 4
      let lane := o.link.lane
      if lane.phy.state = .disabled ∨ lane.phy.state = .retrain then o
      else { o with link := { o.link with lane := lane.train o.core.up } }

/-- `REFCLK` returns and the PLL relocks; the lane's own training goes on from here (R257). -/
def Ovtan.refRestored (o : Ovtan) : Ovtan :=
  match o.bnd.refLost with
  | none => o
  | some t =>
    let core := { o.core with time := { o.core.time with refPresent := true } }.raise 0x0902 0x08 [o.core.up - t]
    let o := { o with core := core, bnd := { o.bnd with refLost := none } }
    o.pllLock

/-! ### Self-managed blocks (R256) -/

/-- A block without work for its idle time gates, unless held awake (Table 9.8). -/
def Ovtan.blockIdle (o : Ovtan) (e : Nat) : Ovtan :=
  if e = 0 ∨ e > 6 ∨ o.blockBusy e ∨ o.core.flag (oPowerHoldAwake + e) then o
  else { o with bnd := { o.bnd with blocks := o.bnd.blocks.set (e - 1) (blockIdleState e) } }

/-- A gated block with work completes its wake. -/
def Ovtan.blockWake (o : Ovtan) (e : Nat) : Ovtan :=
  if e = 0 ∨ e > 6 ∨ !(o.blockBusy e || o.core.flag (oPowerHoldAwake + e)) then o
  else { o with bnd := { o.bnd with blocks := o.bnd.blocks.set (e - 1) 0 } }

/-- The power-domain logic (R212–R214), which IDENT.RESTART does not reset (R251): outside Ready it goes on acknowledging, and nothing is emitted or
raised; the gate times it keeps then belong to the earlier count. In Reset everything is held, and the lines' levels are the host's. -/
def Ovtan.onPower (o : Ovtan) (h : TraceSide → TraceSide) : Ovtan :=
  match o.bnd.boot with
  | .ready => o.onTrace h
  | .reset => { o with trace := { o.trace with pdReq := (h { core := o.core, buf := o.buf, cap := o.cap, trace := o.trace }).trace.pdReq } }
  | _ =>
    let y := h { core := o.core, buf := o.buf, cap := o.cap, trace := o.trace }
    { o with cap := { o.cap with gated := y.cap.gated },
             trace := { o.trace with pdReq := y.trace.pdReq, flushes := y.trace.flushes, gates := y.trace.gates.map (fun g => { g with prior := true }) } }

/-- Pulses of 64 ns that have ended (R245). -/
def Ovtan.irqEnd (o : Ovtan) : Ovtan :=
  (List.range 4).foldl (fun o i =>
    match o.bnd.irq.getD i none with
    | some t => if t ≤ o.core.up then
        { o with bnd := { o.bnd with irq := o.bnd.irq.set i none }, core := o.core.send (.pin i false) }
      else o
    | none => o) o

end Sys2Proof.Machine
end

