-- ==== Sys2Proof/Machine/OvtanLane.lean ====
section
/-! DEFINITION. The Ovtan's end of its Drizzle lane: what arrives, what it sends, retry, spill after an outage (spec/10, R267–R281). -/
namespace Sys2Proof.Machine

/-! ### Arrivals -/

/-- The buffer as the lane returns to Up (R280): an anchor that is no longer in a flit to send again is waited for no more. -/
def RecBuf.laneBack (b : RecBuf) (l : Lane) : RecBuf :=
  let wait := match b.anchorWait with
    | some s => if (s ≥ 4096 && l.tx.tailRec.isSome) || l.tx.retry.any (fun f => f.seq == s) then some s else none
    | none => none
  { b with replaying := (b.replaying || b.spilling) && !b.ring.isEmpty, spilling := false, anchorWait := wait }

/-- A HELLO_INFO item at the Ovtan: on Up it takes its path (R438), and records leave for the lane again (R280). -/
def Ovtan.helloInfo (o : Ovtan) (item : Nat) : Ovtan :=
  let r := laneHelloInfo 0 0x08 item o.core o.link.lane
  let o := { o with core := r.1, link := { o.link with lane := r.2.1 } }
  match r.2.2 with
  | none => o
  | some _ =>
    let port := bitsOf item 47 40
    let g := bitsOf item 95 64
    let path := if port = 0xFF then 0xFFFFFFFF else g / 65536 * 65536 + port * 256 + 0xFF
    { o with core := { o.core with path := path }, buf := o.buf.laneBack r.2.1,
             link := { o.link with spillRaised := false } }

/-- A TIME_REQ: the response is owed, with t2 as the Ovtan stamps it (R136, R271). -/
def Ovtan.timeReq (o : Ovtan) (id : Nat) : Ovtan :=
  if o.link.lane.phy.state ≠ .up then o
  else
    let t2 := wrapInt 64 (correctStamp o.core 0x0B040100 o.core.ns)
    let lane := o.link.lane
    { o with link := { o.link with lane := { lane with tx := { lane.tx with rsp := some (id % 2 ^ 24, t2) } } } }

/-- One control item (Table 10.4). Reserved types are ignored. -/
def Ovtan.item (o : Ovtan) (v : Nat) : Ovtan :=
  match v % 256 with
  | 0x01 => o.onLane (fun c l => (c, l.credit (bitsOf v 127 104) (bitsOf v 103 80) (bitsOf v 79 56) (bitsOf v 55 32)))
  | 0x02 => o.timeReq (bitsOf v 63 40)
  | 0x04 => if o.link.lane.phy.state = .up then
      o.servo (signedOf 64 (bitsOf v 127 64)) (bitsOf v 63 32) (BitVec.ofNat 8 (bitsOf v 31 24)) else o
  | 0x05 => if o.link.lane.phy.state = .up then
      o.stepItem (signedOf 64 (bitsOf v 127 64)) (BitVec.ofNat 8 (bitsOf v 31 24)) (bitsOf v 23 16) else o
  | 0x06 => o.onLane (laneHelloUid v)
  | 0x07 => o.helloInfo v
  | 0x08 => o.onLane (laneResume (bitsOf v 27 16))
  | _ => o

/-- The dictionary messages in records received (R93); the first `n` records waited already and count as taken. -/
def Ovtan.takeReceived (o : Ovtan) (n : Nat) : Ovtan :=
  let l := o.link.lane
  let q := l.rx.queue
  let g := gatherMessages [] [] ([], []) q
  let taken := (q.drop n).foldl (fun t r => modAt t r.base.cls.code (fun k => slotAdd k 1)) l.rx.taken
  let o := { o with link := { o.link with lane := { l with rx := { l.rx with queue := g.2, taken := taken } } } }
  g.1.foldl (fun o b => o.receiveBytes (.drizzle 0) b) o

/-- A flit of 256 bytes from the lane: data, or control items (R268, R271, R273). -/
def Ovtan.flit (o : Ovtan) (b : Bytes) : Ovtan :=
  let n := o.link.lane.rx.queue.length
  let r := laneFlit 0 b o.core o.link.lane
  let o := { o with core := r.1, link := { o.link with lane := r.2.1 }, buf := o.buf.anchorAcked r.2.1 }
  if r.2.2 then o.takeReceived n
  else if isControl b ∧ (o.link.lane.phy.state = .up ∨ o.link.lane.phy.state = .hello) then
    (controlItems b).foldl (fun o v => o.item v) o
  else o

/-- A block and its flits (R265, R266). -/
def Ovtan.block (o : Ovtan) (hdr symbols uncorr : Nat) (flits : List Bytes) : Ovtan :=
  let o := o.onLane (laneBlock 0 0x08 hdr symbols uncorr)
  if laneDelivers o.link.lane uncorr then (flits.take 5).foldl (fun o b => o.flit b) o else o

/-! ### Sending (R267, R269–R273) -/

/-- What a control flit of the Ovtan carries in slot 0 or another slot, as items; the response's t3 is stamped now. -/
def Ovtan.controlItemsOut (o : Ovtan) (slot0 : Bool) : List Nat :=
  let l := o.link.lane
  let credit := l.creditItem (o.core.num oLinkACredits)
  match l.phy.state with
  | .hello => credit :: helloItems l (ofLe (o.core.get oIdentUid)) o.core.path 0 o.bnd.fuseStatus 0xFF 0xFF
  | .up =>
    match (if slot0 then l.tx.rsp else none) with
    | some (id, t2) =>
      let t3 := wrapInt 64 (correctStamp o.core 0x0B040000 o.core.ns)
      let d := (t3 + 2 ^ 64 - t2) % 2 ^ 24
      [credit, 3 + o.link.stepId * 256 + id * 65536 + d * 2 ^ 40 + t2 * 2 ^ 64]
    | none => [credit]
  | _ => [credit]

/-- Send a control flit. -/
def Ovtan.sendControl (o : Ovtan) (slot0 : Bool) : Ovtan :=
  let items := o.controlItemsOut slot0
  let core := items.foldl (fun c v => c.send (.item 0 (v % 256) v)) o.core
  { o with core := core, link := { o.link with lane := o.link.lane.sentControl (core.num oLinkACredits) slot0 } }

/-- Send a new data flit out of buffer and ring, or a control flit when there is nothing to send. -/
def Ovtan.sendNew (o : Ovtan) (slot0 : Bool) : Ovtan :=
  let s : OvSource := { core := o.core, buf := o.buf }
  let l := o.link.lane
  if decide (l.tx.retry.length < 256) && hasData ovSlots l.tx s then
    let r := newFlit ovSlots l s o.core.up
    let ends := r.2.1
    let lane := { r.2.2.1 with tx := r.2.2.1.tx.watch o.core.up }
    let buf := r.2.2.2.buf
    let anchor (h : Held) : Bool := h.base.type == 0x40 && decide (bitsOf h.base.payload.toNat 63 48 ≠ 0)
    let whole := ends.any anchor && !lane.tx.tailRec.any anchor
    let buf := if whole && buf.anchorWait.isSome then { buf with anchorWait := some r.1 } else buf
    { o with core := r.2.2.2.core.send (.flit 0 r.1 false (ends.map (fun h => h.base))), buf := buf, link := { o.link with lane := lane } }
  else o.sendControl slot0

/-- The lane's next flit, in flit slot 0 of a block or another (R271, R273): a due control flit, a resend, a new data flit, or a
control flit as filler. A flit at its limit of sends takes the lane out of Up. -/
def Ovtan.transmit (o : Ovtan) (slot0 : Bool) : Ovtan :=
  let l := o.link.lane
  match l.phy.state with
  | .align | .hello => o.sendControl slot0
  | .up =>
    if l.controlDue (o.core.num oLinkACredits) slot0 then o.sendControl slot0
    else match l.resendOne with
      | some (f, l') =>
        if f.sends > o.core.num oLinkDzRetryLimit then o.laneDown 1
        else { o with core := (o.core.bump (oLinkDzResent + 1)).send (.flit 0 f.seq f.old (f.ends.map (fun h => h.base))),
                      link := { o.link with lane := l' } }
      | none => o.sendNew slot0
  | _ => o

/-! ### Time without the lane -/

/-- LINK.SPILL_AFTER out of Up (R280): LINK_SPILL, and the buffer's records go to the ring. -/
def Ovtan.spillAfter (o : Ovtan) : Ovtan :=
  match o.link.lane.phy.downAt with
  | some t =>
    if o.bnd.boot = .ready ∧ !o.link.spillRaised ∧ o.core.up ≥ t + 1000 * o.core.num oLinkSpillAfter then
      let r := { o with link := { o.link with spillRaised := true } }.spillAll
      { r.1 with core := r.1.core.raise 0x0A03 0x08 [r.2] }
    else o
  | none => o

/-- 3 sync intervals out of Up: a locked Ovtan holds over, in state 6 (R138). -/
def Ovtan.laneHoldover (o : Ovtan) : Ovtan :=
  match o.link.lane.phy.downAt with
  | some t =>
    if o.core.time.mode = .locked ∧ o.core.up ≥ t + 3000 * o.core.num oTimeSyncInterval then
      let old := o.core.quality true false o.core.up
      { o with core := o.core.enterHoldover true false o.core.up 0 }.qualityChange old
    else o
  | none => o

end Sys2Proof.Machine
end

