-- ==== Sys2Proof/Machine/OvtanEvents.lean ====
section
/-! DEFINITION. Events of the Ovtan that act on several of its parts: bus cycles, tap descriptors, `CG_NOTE`, bursts of the MEM port, Dewpoint's starts, what elapses. -/
namespace Sys2Proof.Machine

/-- A trace grant at its expiry ends, with TRACE_GRANT_CHANGED (R119). -/
def Ovtan.grantExpire (o : Ovtan) : Ovtan :=
  match o.trace.grantEnd with
  | some t => if o.core.up ≥ t then { o with core := o.core.raise 0x0306 0x09 [0], trace := { o.trace with grantEnd := none } } else o
  | none => o

/-- The periodic full time record, while the lane is up (R143). -/
def Ovtan.fullTimeDue (o : Ovtan) : Ovtan :=
  if o.link.lane.phy.state = .up ∧ o.core.up ≥ o.core.time.lastFull + 1000000 * o.core.num oTimeFullInterval then o.fullTime else o

/-- 24 h in holdover: the uncertainty class is 15 (R130), with a quality-change record. -/
def Ovtan.holdoverLimit (o : Ovtan) : Ovtan :=
  if o.core.heldDay o.core.up ∧ !o.core.time.dayNoted then
    let old := qualityByte (o.core.qState true false) (steppedAtTime o.core.time o.core.ns) (uClass (o.core.bound true false o.core.up))
    ({ o with core := { o.core with time := { o.core.time with dayNoted := true } } }).qualityChange old
  else o

/-- Dewpoint's start on its event (R233): taken when Armed, an overrun while a sweep runs. -/
def Ovtan.dpEvent (o : Ovtan) : Ovtan :=
  if o.core.num oDewDpStartEvent > 2047 then o
  else if o.dma.dp.isSome then o.onMem MemSide.dpOverrun
  else if o.core.flag oDewDpEnable && o.bnd.blocks.getD 3 0 == 0 then
    ({ o with core := o.core.usePair oDewDpLines (oDewDpSegment + 1) }).onMem (fun x => x.dpStart x.core.ns)
  else o

/-- A conversion on `SNS_STROBE` (R184, R244): a channel of 88 to 127 is ignored and counted. -/
def Ovtan.conversion (o : Ovtan) (ch code : Nat) (valid : Bool) : Ovtan :=
  if ch < 88 then o.onCap (fun x => snsConversion x ch code valid)
  else if ch < 128 then o.onCore (fun c => c.bump oPowerSnsBadCh)
  else o

/-- One domain cycle of an event bus (R176): its counters count, and the bit that DEW.DP_START_EVENT names starts Dewpoint. -/
def Ovtan.eventInput (o : Ovtan) (bus : Nat) (bits : U128) (parity : Option Nat) : Ovtan :=
  let start := o.core.num oDewDpStartEvent
  let live := !o.cap.gated.testBit (bankDomain o.core bus) && !o.cap.cgNote.testBit (bankDomain o.core bus)
  let o := o.onCap (fun x => busCycle x bus bits x.core.ns parity)
  if bus < 16 ∧ live ∧ start / 128 = bus ∧ bits.getLsbD (start % 128) then o.dpEvent else o

/-- A descriptor on a tap; the level of `TRACE_AUTH` is kept (R118, R201). -/
def Ovtan.tapDescriptor (o : Ovtan) (tap : Nat) (d : U128) (auth stretch : Bool) : Ovtan :=
  if tap < 16 then ({ o with bnd := { o.bnd with auth := auth } }).onTrace (fun x => x.present tap d auth stretch) else o

/-- A `CG_NOTE` line takes a level. -/
def Ovtan.cgNote (o : Ovtan) (d : Nat) (level : Bool) : Ovtan :=
  if d < 32 then
    let o := if o.bnd.boot = .ready then o.onCap (fun x => latchDue x (fun b => bankDomain x.core b == d) false) else o
    let n := o.cap.cgNote
    { o with cap := { o.cap with cgNote := if n.testBit d = level then n else if level then n + 2 ^ d else n - 2 ^ d } }
  else o

/-- Queued writes of a Dew channel: the first is taken (R221). -/
def Ovtan.dewStep (o : Ovtan) (ch : Nat) : Ovtan := { o with dew := modAt o.dew ch (fun d => d.process (o.core.dewCfg ch)) }

/-- One burst of the MEM port: spill traffic first, then the eligible channel of R229. -/
def Ovtan.burstGrant (o : Ovtan) : Ovtan :=
  let up := o.link.lane.phy.state == .up
  o.onMem (fun x => (x.grantSpill up).getD x.grantChannel)

/-- A finished sweep commits its digest pair (R236). -/
def Ovtan.digestDone (o : Ovtan) : Ovtan :=
  match o.dma.dp with
  | some r => if r.complete then o.onMem (fun x => x.dpCommit false) else o
  | none => o

end Sys2Proof.Machine
end

