-- ==== Sys2Proof/Syntax.lean ====
section
/-! DEFINITION. The commands the block takes: one constructor for each row of the command table, those with operands first. `u` is the unit of the pair that a command acts at,
`e` the header of the dictionary message that carries it. -/
namespace Sys2Proof
open Sys2Proof.Machine

/-- A command of the Lamune pair. -/
inductive Instr where
  /-- A READ message (R92): one item of the response for each element read. -/
  | dictRead (u : UnitSel) (e : Envelope) (items : List ReadItem)
  /-- A WRITE message (R72, R77, R84, R92): each item takes effect under its apply class, or joins the stage set. -/
  | objectWrite (u : UnitSel) (e : Envelope) (items : List WriteItem)
  /-- A LIST message (R92, R94). -/
  | dictList (u : UnitSel) (e : Envelope) (area : Nat) (start : Nat)
  /-- A COMMIT of mode 0 (R77): the stage set is discarded. -/
  | commitDiscard (u : UnitSel) (e : Envelope)
  /-- A COMMIT of mode 1 (R78–R81). -/
  | commitAtStep (u : UnitSel) (e : Envelope) (id : Nat) (step : Nat)
  /-- A COMMIT of mode 2 (R78–R81): at least 10 µs of lead. -/
  | commitAtTime (u : UnitSel) (e : Envelope) (id : Nat) (time : Nat)
  /-- A COMMIT of mode 3 (R80). -/
  | commitCancel (u : UnitSel) (e : Envelope) (id : Nat)
  /-- Unit time has reached the target of pending time commits (R82). -/
  | timeCommitInstant (u : UnitSel)
  /-- A response to a forwarded request returns by the route of its request (R95). -/
  | forwardResponse (e : Envelope) (opcode : Nat) (summary : Nat) (body : Bytes)
  /-- Kept responses of 86,400 s of age are dropped (R96). -/
  | keptResponseExpire (u : UnitSel)
  /-- A write of 1 to IDENT.RESTART (R99, R251, R504). -/
  | identRestart (u : UnitSel) (e : Envelope)
  /-- A HELLO (R104, R105, R108). -/
  | sessionHello (u : UnitSel) (e : Envelope) (body : Bytes)
  /-- A PROOF (R106, R107, R120). -/
  | sessionProof (u : UnitSel) (e : Envelope) (body : Bytes)
  /-- A CLOSE (R111). -/
  | sessionClose (u : UnitSel) (e : Envelope)
  /-- A handshake 10 s after its CHALLENGE (R108). -/
  | handshakeExpire (u : UnitSel) (id : Nat)
  /-- A session without an accepted message for its idle time (R111). -/
  | sessionIdleTimeout (u : UnitSel) (id : Nat)
  /-- A session at the end of its lifetime (R111). -/
  | sessionLifetimeEnd (u : UnitSel) (id : Nat)
  /-- A write to SESSION.CLOSE_SESSION (R111). -/
  | closeSessionWrite (u : UnitSel) (e : Envelope) (id : Nat)
  /-- A neighbour's CHALLENGE (0x90) or OPENED (0x91) for a link session (R112, R114). -/
  | linkHandshakeReply (port : Port) (path : Nat) (opcode : Nat) (body : Bytes)
  /-- A role's lock on a port ends (R120). -/
  | lockoutEnd (u : UnitSel) (port : Port) (role : Role)
  /-- A write to SESSION.TRACE_GRANT (R119); a group has no such object. -/
  | traceGrantWrite (u : UnitSel) (e : Envelope) (seconds : Nat)
  /-- A PTP message on a Sky port, or on management port 24 or 25 (R140, R128). -/
  | ptpEventMessage (p : Nat) (m : PtpMsg)
  /-- A TIME_RSP item (R133, R136, R137). -/
  | timeRspItem (n : Nat) (item : Nat)
  /-- TIME.SYNC_INTERVAL has passed on a Drizzle lane (R136). -/
  | timeReqDue (n : Nat)
  /-- A write of 1 to TIME.FORCE_STATE (R531). -/
  | forceHoldover (u : UnitSel) (e : Envelope)
  /-- A write of 2 to TIME.FORCE_STATE (R531). -/
  | forceAcquire (u : UnitSel) (e : Envelope)
  /-- A SERVO item at the Ovtan (R133, R138, R271). -/
  | servoItem (item : Nat)
  /-- A STEP item at the Ovtan (R134, R271). -/
  | stepItem (item : Nat)
  /-- 24 h in holdover (R130). -/
  | holdoverLimit (u : UnitSel)
  /-- A firing time of a mode 1 trigger (R151–R153). -/
  | triggerFire (k : Nat)
  /-- The angle of a mode 2 trigger in a step it selects (R152, R153). -/
  | triggerAngleFire (k : Nat)
  /-- A trigger pulse's width has passed (R151). -/
  | triggerPulseEnd (k : Nat)
  /-- A `STEP_PULSE` marker (R158–R163, R532). -/
  | stepMarker (num : Nat)
  /-- A write to ANGLE.SOFT_MARKER (R175). -/
  | softMarker (u : UnitSel) (e : Envelope) (step : Nat)
  /-- The angle reaches 0xFFFF_FFFF without a marker (R160). -/
  | angleStall (u : UnitSel)
  /-- 16 × L without a marker in Stalled (R162). -/
  | markerOverdue (u : UnitSel)
  /-- A member's marker report (R171–R173). -/
  | markerReportArrival (member : Nat) (step : Nat) (time : Nat)
  /-- A domain cycle of an event bus with the bits high (R176, R177, R182); `parity` a counter found with bad parity. -/
  | eventInput (bus : Nat) (bits : U128) (parity : Option Nat)
  /-- A conversion on `SNS_STROBE` (R184, R186, R244). -/
  | sensorConversion (ch : Nat) (code : Nat) (valid : Bool)
  /-- A frequency monitor's window ends (R185). -/
  | fmonWindowEnd (m : Nat) (cycles : Nat) (stretch : Bool)
  /-- A word that no row of Table 6.4 defines, or that reads with an uncorrectable error (R190). -/
  | programErrorWord (uncorrectable : Bool)
  /-- Space has returned for a class's pending gap records (R192). -/
  | pendingGapEmit (cls : RClass)
  /-- A tap presents a descriptor, with the level of `TRACE_AUTH` (R201–R208). -/
  | tapDescriptor (tap : Nat) (d : U128) (auth : Bool) (stretch : Bool)
  /-- A write of 1 to TRACE.ARM (R207). -/
  | traceArm (u : UnitSel) (e : Envelope)
  /-- A write of 2 to TRACE.ARM (R207). -/
  | traceForceTrigger (u : UnitSel) (e : Envelope)
  /-- A write of 3 to TRACE.ARM (R207). -/
  | traceStop (u : UnitSel) (e : Envelope)
  /-- A tap has reached TRACE.SYNC_INTERVAL records (R211). -/
  | tracePeriodicSync (tap : Nat)
  /-- `PD_REQ[d]` rises (R212). -/
  | pdReqRise (d : Nat)
  /-- The flush of domain d is complete (R212, R214). -/
  | flushComplete (d : Nat)
  /-- `PD_REQ[d]` falls after `PD_ACK[d]` has risen (R213). -/
  | pdReqFall (d : Nat)
  /-- First clock edge of a waking domain (R213). -/
  | domainWakeEdge (d : Nat)
  /-- `PD_REQ[d]` falls before `PD_ACK[d]` rises (R214). -/
  | pdReqWithdrawn (d : Nat)
  /-- 1.5 µs of a flush without a domain clock edge (R253). -/
  | pdEdgeTimeout (d : Nat)
  /-- A `CG_NOTE` line changes (R189, R251). -/
  | cgNoteChange (d : Nat) (level : Bool)
  /-- A TRACE.EXPORT descriptor (R217). -/
  | traceExportStart (u : UnitSel) (e : Envelope) (desc : Bytes)
  /-- A TRACE.EXPORT descriptor with destination 0 (R217). -/
  | traceExportCancel (u : UnitSel) (e : Envelope)
  /-- A write to TRACE.INJECT, with the level of `TRACE_AUTH` (R201). -/
  | traceInject (u : UnitSel) (e : Envelope) (value : Bytes) (auth : Bool)
  /-- A write to a Dew channel's feed byte (R222). -/
  | dewFeedByte (u : UnitSel) (e : Envelope) (ch : Nat) (value : Nat)
  /-- A write to a Dew channel's feed half-word (R222). -/
  | dewFeedHalfWord (u : UnitSel) (e : Envelope) (ch : Nat) (value : Nat)
  /-- A write to a Dew channel's feed word (R222). -/
  | dewFeedWord (u : UnitSel) (e : Envelope) (ch : Nat) (value : Nat)
  /-- A Dew channel takes a queued write (R218–R221). -/
  | dewByteProcess (ch : Nat)
  /-- A read of a Dew channel's result (R222). -/
  | dewResultRead (u : UnitSel) (e : Envelope) (ch : Nat)
  /-- A write of true to a Dew channel's reset (R220). -/
  | dewReset (u : UnitSel) (e : Envelope) (ch : Nat)
  /-- A write to DMA.GO (R225–R228). -/
  | dmaGo (u : UnitSel) (e : Envelope) (ch : Nat)
  /-- A write to DMA.STOP (R231). -/
  | dmaStop (u : UnitSel) (e : Envelope) (ch : Nat)
  /-- A MEM read response (R254, R255). -/
  | memReadResponse (id : Nat) (data : Bytes) (err : Bool)
  /-- A MEM write response (R254, R255). -/
  | memWriteResponse (id : Nat) (err : Bool)
  /-- A MEM request without a response in POWER.MEM_TIMEOUT (R255). -/
  | memTimeout (id : Nat)
  /-- A write of true to DEW.DP_GO (R233). -/
  | dpGo (u : UnitSel) (e : Envelope)
  /-- A `CFG` frame of kind 0x01 (R246, R247). -/
  | mailboxFrame (tag : Nat) (b : Bytes)
  /-- A `CFG` frame of kind 0x02 (R249, R250). -/
  | fuseImageFrame (tag : Nat) (image : Bytes)
  /-- A `CFG` frame of kind 0x03 (R248). -/
  | statusFrame (tag : Nat) (len : Nat)
  /-- Self-test ends with the counters and macro columns that failed (R258). -/
  | ovtanSelfTestDone (counters : List Nat) (cols : List (Nat × Nat))
  /-- Full training is complete at both ends (R264, Table 10.5). -/
  | dzTrainingComplete (u : UnitSel) (n : Nat)
  /-- 15 ms in Train (Table 10.5). -/
  | dzTrainTimeout (u : UnitSel) (n : Nat)
  /-- A received block: its sync header, corrected symbols, uncorrectable codewords and flits (R265, R266). -/
  | blockReceive (u : UnitSel) (n : Nat) (hdr : Nat) (symbols : Nat) (uncorr : Nat) (flits : List Bytes)
  /-- 1 ms in Align (Table 10.5). -/
  | dzAlignTimeout (u : UnitSel) (n : Nat)
  /-- A fast retrain is complete (Table 10.5). -/
  | dzFastRetrainComplete (u : UnitSel) (n : Nat)
  /-- 1 ms in Retrain (Table 10.5). -/
  | dzRetrainTimeout (u : UnitSel) (n : Nat)
  /-- A write to LINK.DZ_FORCE_RETRAIN (Table 10.5). -/
  | dzForceRetrain (u : UnitSel) (e : Envelope) (n : Nat)
  /-- The peer's training pattern on an Up lane (Table 10.5). -/
  | peerTrainingSeen (u : UnitSel) (n : Nat)
  /-- A flit of 256 bytes (R268, R273). -/
  | dataFlitReceive (u : UnitSel) (n : Nat) (b : Bytes)
  /-- A CREDIT item (R272). -/
  | creditItem (u : UnitSel) (n : Nat) (item : Nat)
  /-- A TIME_REQ item at the Ovtan (R136, R271). -/
  | timeReqItem (item : Nat)
  /-- A HELLO_UID item (R274). -/
  | helloUidItem (u : UnitSel) (n : Nat) (item : Nat)
  /-- A HELLO_INFO item (R274, Table 10.5). -/
  | helloInfoItem (u : UnitSel) (n : Nat) (item : Nat)
  /-- A RESUME item (R274). -/
  | resumeItem (u : UnitSel) (n : Nat) (item : Nat)
  /-- A lane end sends its next flit, in flit slot 0 of a block or another (R267–R273). -/
  | flitTransmit (u : UnitSel) (n : Nat) (slot0 : Bool)
  /-- 2 µs without progress of Ack (R273). -/
  | retryTimeout (u : UnitSel) (n : Nat)
  /-- PHY training of a Sky port is complete (R283–R286). -/
  | skyTrainingComplete (p : Nat)
  /-- A frame of kind 0x01: extended records (R287). -/
  | skyRecordFrame (p : Nat) (h : SkyHead) (l : List ExtRecord)
  /-- A frame of kind 0x02: one dictionary message (R93, R287). -/
  | skyMessageFrame (p : Nat) (h : SkyHead) (b : Bytes)
  /-- A frame of kind 0x03: cumulative grants of classes A, C, S and T (R287). -/
  | skyControlFrame (p : Nat) (h : SkyHead) (a : Nat) (cc : Nat) (ss : Nat) (t : Nat)
  /-- A frame of kind 0x04: a Condenser frame (R480–R483). -/
  | skyCondenserFrame (p : Nat) (h : SkyHead) (b : Bytes)
  /-- A frame of kind 0x06: a hello (R287). -/
  | skyHelloFrame (p : Nat) (b : Bytes)
  /-- A frame of kind 0x07 on the Sundog link (R291). -/
  | skyRelayFrame (p : Nat) (h : SkyHead) (child : Nat) (x : SkyBody)
  /-- LINK.SKY_RTO without progress of a class's Ack (R287). -/
  | skyRtoExpire (p : Nat) (cls : RClass)
  /-- LINK.SKY_DEAD without a frame (R288). -/
  | skyDeadExpire (p : Nat)
  /-- A PHY link fault or loss of PCS alignment (R288). -/
  | skyLinkFault (p : Nat)
  /-- Lanes faulty for 10 ms (R284). -/
  | skyLaneFaultHold (p : Nat) (faulty : List Nat)
  /-- 50 ms of trying one width (R284). -/
  | skyWidthTryExpire (p : Nat)
  /-- 802.3br verification ends (R286). -/
  | preemptVerifyDone (p : Nat) (ok : Bool)
  /-- P1 has acknowledged all frames of a class (R290). -/
  | failbackDrainDone (cls : RClass)
  /-- 2 µs with nothing to send (R287). -/
  | skyIdleControl (p : Nat)
  /-- A quadrant dispatcher issues a work unit to a Cell (R297, R298). -/
  | workUnitDispatch (cell : Nat)
  /-- A work unit ends, with what its checks found and the Cell's busy ns (R394, R395). -/
  | workUnitDone (handle : Nat) (outcome : Nat) (busy : Nat)
  /-- A self-managed block has been idle for its time (R256, R306). -/
  | blockIdleTimeout (u : UnitSel) (element : Nat)
  /-- A gated block has woken (R256, R306). -/
  | blockWakeDone (u : UnitSel) (element : Nat)
  /-- A write to LOFT.SLOT_LOAD (R301). -/
  | loftSlotLoad (u : UnitSel) (e : Envelope) (slot : Nat) (chunk : Bytes)
  /-- LOFT.SLOT_CTRL 1 checks and places the staged image (R301). -/
  | loftInstall (u : UnitSel) (e : Envelope) (slot : Nat)
  /-- LOFT.SLOT_CTRL 2 starts a loaded slot (R301). -/
  | loftStart (u : UnitSel) (e : Envelope) (slot : Nat)
  /-- LOFT.SLOT_CTRL 3 halts a running slot (R301). -/
  | loftStop (u : UnitSel) (e : Envelope) (slot : Nat)
  /-- LOFT.SLOT_CTRL 4 frees a slot's window (R301). -/
  | loftUnload (u : UnitSel) (e : Envelope) (slot : Nat)
  /-- A program's dictionary call; `inWindow` whether its buffers lie in its window (R302). -/
  | ecallDictionary (slot : Nat) (b : Bytes) (inWindow : Bool)
  /-- A set-output call (R302). -/
  | ecallSetOutput (slot : Nat) (element : Nat) (value : Nat)
  /-- A sleep call (R302). -/
  | ecallSleep (slot : Nat) (time : Nat)
  /-- An exit call (R302). -/
  | ecallExit (slot : Nat) (status : Nat) (pc : Nat)
  /-- A read-time call (R302). -/
  | ecallReadTime (slot : Nat)
  /-- A sleeping program's time has come (R302). -/
  | loftSleepWake (slot : Nat)
  /-- A running program faults (R301). -/
  | loftFault (slot : Nat) (code : Nat) (pc : Nat)
  /-- An ingest engine takes its next record (R313–R321). -/
  | ingestTake (engine : Nat)
  /-- A port starts a frame of class C, S or T (R327). -/
  | portFrameStart (port : Nat)
  /-- A port sends its waiting class A records (R327). -/
  | portAlarmSend (port : Nat)
  /-- The base time of a pending gate control list (R329). -/
  | gclTakeover (port : Nat)
  /-- A gate control entry's interval ends (R329). -/
  | gclEntryExpire (port : Nat)
  /-- A shaped queue's wheel slot (R330). -/
  | shaperEligible (idx : Nat) (port : Nat) (cls : RClass)
  /-- A class A policer refills (R330). -/
  | aPolicerRefill (idx : Nat) (port : Nat)
  /-- JET.SUB_IDLE of empty queues (R324). -/
  | subIdleExpire (idx : Nat) (port : Nat)
  /-- A class C queue falls below JET.QUEUE_LIMIT (R328). -/
  | classCQueueDrain (idx : Nat) (port : Nat)
  /-- 1 µs with less than 32 slots of class S credit (R322). -/
  | creditWithheldStart (u : UnitSel) (n : Nat)
  /-- The oldest waiting contribution of a reduction context (R346–R353). -/
  | reductionContribution (n : Nat)
  /-- A model's Cells take queued vectors (R379–R382). -/
  | anvilWalk (m : Nat)
  /-- A chunk of a model image (R377). -/
  | modelLoad (u : UnitSel) (e : Envelope) (m : Nat) (chunk : Bytes)
  /-- ANVIL.MODEL control 1 checks the staged image (R375). -/
  | modelInstall (u : UnitSel) (e : Envelope) (m : Nat)
  /-- ANVIL.MODEL control 2 discards the shadow image (R377). -/
  | modelDiscardShadow (u : UnitSel) (e : Envelope) (m : Nat)
  /-- ANVIL.MODEL control 3 unloads the slot (R377). -/
  | modelUnload (u : UnitSel) (e : Envelope) (m : Nat)
  /-- A gang Cell has its node store of the new version (R378). -/
  | modelReloadDone (m : Nat) (cell : Nat)
  /-- A write to DRIFT.RESET (R387). -/
  | driftReset (u : UnitSel) (e : Envelope) (member : Nat)
  /-- Both executions of a shadowed unit have ended: the digests of each execution, the third and those after a device's replacement (R400, R401). -/
  | shadowDigestsReady (handle : Nat) (primary : Nat) (shadow : Nat) (third : Nat) (again : Nat) (againShadow : Nat) (devices : List Nat)
  /-- A write to FT.RUN (R403). -/
  | ftRun (u : UnitSel) (e : Envelope) (cell : Nat)
  /-- The in-field test ends: 0 pass, 1 fail, 2 stopped (R403). -/
  | ftTestDone (result : Nat)
  /-- A write to FT.INJECT (R394). -/
  | ftInject (u : UnitSel) (e : Envelope) (value : Nat)
  /-- A token request from below (R414). -/
  | tokenRequest (path : Nat) (num : Nat)
  /-- A token answer (R414). -/
  | tokenAnswer (sender : Nat) (first : Record) (second : Record)
  /-- A vote verdict (R409). -/
  | verdictExchange (sender : Nat) (first : Record) (second : Record)
  /-- A suspicion notice (R415). -/
  | suspicionNotice (sender : Nat) (first : Record) (second : Record)
  /-- A write of 0 to FENCE.SUSPICION (R415). -/
  | suspicionClear (u : UnitSel) (e : Envelope)
  /-- A write to FENCE.RELEASE (R413). -/
  | fenceRelease (u : UnitSel) (e : Envelope) (member : Nat)
  /-- A write to FENCE.FORCE (R414). -/
  | fenceForce (u : UnitSel) (e : Envelope) (member : Nat)
  /-- A write to element 0x01 of FENCE.KAT_RESULT (R408, R417). -/
  | katFail (u : UnitSel) (e : Envelope) (value : Nat)
  /-- A write to element 0x02 of FENCE.KAT_RESULT (R408, R417). -/
  | katPass (u : UnitSel) (e : Envelope) (value : Nat)
  /-- A failed Cell's contexts have been read out, or could not be (R422, R423). -/
  | contextReadoutDone (cell : Nat) (readable : Bool)
  /-- A write to SPARE.CELL_READMIT (R420). -/
  | cellReadmit (u : UnitSel) (e : Envelope) (cell : Nat)
  /-- A readmission test ends (R420). -/
  | readmitTestDone (pass : Bool)
  /-- A write to SPARE.LANE_RESTORE (R425). -/
  | laneRestore (u : UnitSel) (e : Envelope) (value : Nat)
  /-- A journal item (R429). -/
  | sundogJournalItem (p : Nat) (h : SkyHead) (x : Transfer)
  /-- A journal acknowledgement (R429). -/
  | sundogJournalAck (p : Nat) (h : SkyHead) (x : Transfer)
  /-- A refill chunk (R433). -/
  | sundogRefillChunk (p : Nat) (h : SkyHead) (x : Transfer)
  /-- Refill done (R433). -/
  | sundogRefillDone (p : Nat) (h : SkyHead) (x : Transfer)
  /-- A snapshot chunk (R431, R434). -/
  | sundogSnapshotChunk (p : Nat) (h : SkyHead) (x : Transfer)
  /-- Snapshot done (R431, R434). -/
  | sundogSnapshotDone (p : Nat) (h : SkyHead) (x : Transfer)
  /-- A Sundog hello (R430). -/
  | sundogHello (p : Nat) (h : SkyHead) (x : Transfer)
  /-- A hand-back (R432). -/
  | sundogHandBack (p : Nat) (h : SkyHead) (x : Transfer)
  /-- A takeover request for the group at `path` by the one at `host` (R432). -/
  | takeoverRequest (path : Nat) (host : Nat)
  /-- The common parent's answer (R432). -/
  | takeoverGrant (path : Nat) (granted : Bool)
  /-- A write to SUNDOG.TAKEOVER (R432). -/
  | sundogTakeoverWrite (u : UnitSel) (e : Envelope) (path : Nat)
  /-- A write to HORIZON.ADOPT (R449). -/
  | horizonAdopt (u : UnitSel) (e : Envelope) (index : Nat)
  /-- A write to HORIZON.END_PROBATION (R450). -/
  | endProbation (u : UnitSel) (e : Envelope) (index : Nat)
  /-- A write to CUT.REQUEST (R454). -/
  | cutRequest (u : UnitSel) (e : Envelope) (desc : Bytes)
  /-- A write to CUT.ARM (R455). -/
  | cutArm (u : UnitSel) (e : Envelope) (desc : Bytes)
  /-- A write to CUT.CANCEL (R456). -/
  | cutCancel (u : UnitSel) (e : Envelope) (id : Nat)
  /-- A write to CUT.WF_BUILD (R466). -/
  | wfBuild (u : UnitSel) (e : Envelope) (value : Bytes)
  /-- A child's summary is written to CUT.WF_MERGE (R466). -/
  | wfMergeWrite (u : UnitSel) (e : Envelope) (member : Nat) (summary : Bytes)
  /-- A write to CADENCE.INTERRUPT (R468). -/
  | cadenceInterrupt (u : UnitSel) (e : Envelope) (tenant : Nat)
  /-- A write to CADENCE.CKPT_DONE (R471). -/
  | cadenceCkptDone (u : UnitSel) (e : Envelope) (value : Bytes)
  /-- A write to CADENCE.ACK (R471). -/
  | cadenceAck (u : UnitSel) (e : Envelope) (num : Nat)
  /-- CONDENSE.GATHER since a frame's first record (R474). -/
  | condenseGatherExpire (idx : Nat)
  /-- A write of true to a context's reset (R479). -/
  | condenseCtxReset (u : UnitSel) (e : Envelope) (idx : Nat)
  /-- CONDENSE.IDLE_RESET without a frame sent (R479). -/
  | condenseIdleReset (idx : Nat)
  /-- CONDENSE.DECODE_IDLE without a frame decoded (R480). -/
  | condenseDecodeIdle (idx : Nat)
  /-- A write to ALMANAC.CLEAR (R492). -/
  | almanacClear (u : UnitSel) (e : Envelope) (count : Nat)
  /-- `POR_N` rises with the straps, the rails, the reference and what LPDDR training finds (R508–R513, R518). -/
  | porRelease (mode : Nat) (flashOwned : Bool) (power : Bool) (reference : Bool) (failing : List Nat) (margins : List Nat)
  /-- The ROM has read the flash image (R499, Table 20.7). -/
  | flashImageReadDone (readError : Bool) (image : Bytes)
  /-- A recovery image from a source (R500). -/
  | recoveryImageReceived (source : Nat) (readError : Bool) (image : Bytes)
  /-- The SRAM tests end, with the Cells that failed and whether Loft passed (R499). -/
  | fabatoSelfTestDone (cells : List Nat) (loft : Bool)
  /-- A write to FW.LOAD (R502). -/
  | fwLoad (u : UnitSel) (e : Envelope) (chunk : Bytes)
  /-- FW.CTRL 1 checks the staged image (R502). -/
  | fwCheck (u : UnitSel) (e : Envelope)
  /-- FW.CTRL 2 starts writing staging to flash (R502). -/
  | fwWriteFlash (u : UnitSel) (e : Envelope)
  /-- FW.CTRL 3 starts fetching the parent's image (R502). -/
  | fwFetchParent (u : UnitSel) (e : Envelope)
  /-- FW.CTRL 4 discards staging (R502). -/
  | fwDiscardStaging (u : UnitSel) (e : Envelope)
  /-- The fetch from the parent is complete (R502). -/
  | fwFetchDone (readError : Bool) (image : Bytes)
  /-- A flash write and its read-back are complete (R502). -/
  | fwFlashWriteDone (back : Bytes)
  /-- A write of true to FW.KEY_REVOKE (R498). -/
  | fwKeyRevoke (u : UnitSel) (e : Envelope)
  /-- On-die sensor conversions, as f32 words (R522). -/
  | dieTempConversion (temps : List Nat) (rails : List Nat)
  /-- A sensor reaches 115 °C (R522). -/
  | thermalTripComparator (sensor : Nat) (temp : Nat)
  /-- 60 s in the LPDDR training hold (R518). -/
  | lpddrTrainRetry (failing : List Nat) (margins : List Nat)
  /-- A bank latches at L_T (R189). -/
  | bankLatch (b : Nat) (cycle : Nat) (parity : Option Nat)
  /-- A PTP interval of a port has passed (R140). -/
  | ptpSyncDue (p : Nat)
  /-- A run of stretched cycles has ended (R185). -/
  | stretchIntervalEnd (m : Nat) (len : Nat)
  /-- `MOD_PRES_N` of a management port changes (R517). -/
  | modulePresentChange (port : Nat) (present : Bool)
  /-- Forwarded requests without a response in SESSION.FWD_TIMEOUT per level are answered E_TIMEOUT (R95). -/
  | forwardTimeout
  /-- The 1 s holdoffs after failed link handshakes that have ended (R114). -/
  | linkAuthHoldoffEnd
  /-- A trace grant at its expiry (R119). -/
  | traceGrantExpire
  /-- Three sync intervals without the phase source (R128, Table 4.2). -/
  | phaseSourceLoss
  /-- The rack reference is lost (R128, R515). -/
  | rackRefLost
  /-- The rack reference returns (R128, R515). -/
  | rackRefReturn
  /-- A rising edge of the 1PPS input (R125, R140). -/
  | ppsInEdge
  /-- 2 s without an edge after a TIME.TOD_SET commit (R125). -/
  | todSetTimeout
  /-- TIME.FULL_INTERVAL has passed with the lane up (R143). -/
  | fullTimeDue
  /-- The Ovtan's lane has been down for 3 sync intervals (R138). -/
  | ovtanLaneHoldover
  /-- A whole second of Halo time (R150). -/
  | ppsOutPulse
  /-- Angle entries ANGLE.ARM_LEAD before their fire times (R161, R166). -/
  | angleEntryHandoff
  /-- Time entries ANGLE.ARM_LEAD before their matching instants (R165, R166, R534). -/
  | timeEntryHandoff
  /-- Marker windows open for ANGLE.GROUP_WAIT (R171). -/
  | groupWaitExpire
  /-- Group schedule entries at their fire times (R533). -/
  | groupEntryFire
  /-- The sequencer starts a queued run (R187, R188). -/
  | runStart
  /-- The SNAP word at hand (R189). -/
  | snap
  /-- COUNT.LATCH_WAIT after L_T (R189). -/
  | latchWaitEnd
  /-- The READ word at hand (R190). -/
  | read
  /-- The DELTA word at hand (R190). -/
  | delta
  /-- The CMP word at hand (R190). -/
  | cmp
  /-- The BR word at hand (R190). -/
  | br
  /-- The EMIT word at hand (R191). -/
  | emit
  /-- The HALT word at hand (R191). -/
  | halt
  /-- The alarm token bucket refills (R195). -/
  | alarmTokenRefill
  /-- A class C slot frees (R535). -/
  | classCSlotFree
  /-- The Funnel takes the earliest queued descriptor (R209). -/
  | funnelTake
  /-- TRACE.ACCOUNT_INTERVAL has passed (R210). -/
  | traceAccountInterval
  /-- A running export has sent its records (R217). -/
  | traceExportDone
  /-- The MEM port grants one burst (R229, R254). -/
  | memBurstGrant
  /-- An event on DEW.DP_START_EVENT (R233). -/
  | dpStartEvent
  /-- The selector and the last hash have finished (R236). -/
  | digestComplete
  /-- `AON_RST_N` rises (Table 9.5). -/
  | aonResetRelease
  /-- `AON_RST_N` falls (Table 9.5). -/
  | aonResetAssert
  /-- 10 ms in Fuse-load without a good image (R250). -/
  | fuseLoadTimeout
  /-- The PLL locks (Table 9.5). -/
  | pllLock
  /-- `REFCLK` is missing or the PLL unlocks (R257). -/
  | refclkLost
  /-- `REFCLK` returns and the PLL relocks (R257). -/
  | refclkRestored
  /-- LINK.SPILL_AFTER out of Up (R280). -/
  | spillAfterExpire
  /-- P0 has been out of Up for LINK.FAILOVER_HOLD (R289). -/
  | failoverHoldExpire
  /-- P0 has been Up for LINK.FAILBACK_HOLD (R290). -/
  | failbackHoldExpire
  /-- A new second of LOFT.SLOT_CPU (R302). -/
  | loftCpuSecond
  /-- A CELL.SAT_WINDOW ends (R311). -/
  | satWindowEnd
  /-- The merge window of the earliest copies has passed (R333). -/
  | vantageMergeRelease
  /-- Epochs at their time-out (R353). -/
  | epochTimeout
  /-- Epochs whose quorum wait has passed (R353). -/
  | quorumWaitExpire
  /-- Closed keys whose late window has ended (R352). -/
  | lateWindowEnd
  /-- Feature vectors whose Hold has run out (R369). -/
  | featureHoldExpire
  /-- FT.INTERVAL has passed for Cells (R403). -/
  | ftDue
  /-- FT.MAX_DEFER has run out (R403). -/
  | ftDeferExpire
  /-- Vote keys at their time-out (R406). -/
  | voteTimeout
  /-- FENCE.EVAL_INTERVAL has passed (R405, R407). -/
  | fenceEvalTick
  /-- FENCE.GRANT_TIMEOUT without an answer (R414). -/
  | grantTimeout
  /-- FENCE.KAT_TIMEOUT without a result (R408). -/
  | katTimeout
  /-- The Loft lockstep pair diverges (R410). -/
  | lockstepDivergence
  /-- The lockstep pair has restarted (R410). -/
  | lockstepRestartDone
  /-- The context in move is at its target (R421). -/
  | contextMoveDone
  /-- SPARE.REPLACE_WAIT at the head of the fill queue (R424). -/
  | replaceWaitExpire
  /-- SPARE.WARM_HOLD of a warm Cell (R420). -/
  | warmHoldExpire
  /-- The snapshot interval has passed (R431). -/
  | snapshotPushTimer
  /-- SUNDOG.TAKEOVER_HOLD of the Sundog link down (R432). -/
  | takeoverHoldExpire
  /-- HORIZON.DISCOVERY_WAIT (R446). -/
  | discoveryWaitExpire
  /-- HORIZON.ABSENT_AFTER of a member's link out of Up (R446). -/
  | absentAfterExpire
  /-- HORIZON.PROBATION_TIME with Meridian off (R450). -/
  | probationTimeExpire
  /-- Armed cuts of an Ovtan at their fire times (R457). -/
  | cutFire
  /-- CUT.CLOSE_TIMEOUT after a latch (R460). -/
  | cutCloseTimeout
  /-- CUT.WF_HOLD after the graph's time (R466). -/
  | wfHoldExpire
  /-- CUT.WF_WAIT has passed (R466). -/
  | wfWaitExpire
  /-- CADENCE.UPDATE has passed (R469). -/
  | cadenceUpdateTick
  /-- The clear completes (R492). -/
  | almanacClearDone
  /-- 360 s of powered time (R488). -/
  | hoursTick
  /-- `POR_N` falls (R508). -/
  | porAssert
  /-- 5 s without an answer of a recovery source (R500). -/
  | recoverySourceTimeout
  /-- 10 s after a failed round of recovery (R500). -/
  | recoveryRoundWait
  /-- 100 ms after an activation instant with Sundog lag (R503). -/
  | fwActivateLagTimeout
  /-- VDD_AON or VDD_MRAM 5 % below nominal (R514). -/
  | brownoutDetect
  /-- Every sensor has been 3 °C below the threshold for 1 s (R522). -/
  | alertRelease
  /-- Cuts of a group at their fire times (R459). -/
  | groupCutAngleFire
  /-- 10 µs without an idle spare for a shadowed unit (R400). -/
  | shadowSpareTimeout
  /-- VANTAGE.PPS_OUT_WIDTH after a whole second (R150). -/
  | ppsOutWidthEnd
  /-- An IRQ line's 64 ns pulse has ended (R245). -/
  | irqPulseEnd
deriving DecidableEq, Repr

end Sys2Proof
end

