-- ==== Sys2Proof/Machine/State.lean ====
section
/-! DEFINITION. The state of the block: one Ovtan, one Fabato group and the commands that wait (log entry 1). -/
namespace Sys2Proof.Machine

/-- The machine. -/
structure State where
  /-- the Ovtan: spec/02–spec/10 -/
  ov : Ovtan
  /-- the Fabato group: spec/02–spec/05, spec/10–spec/21 -/
  fb : Fabato
  /-- commands that wait, first in, first out -/
  pending : List Instr
deriving DecidableEq, Repr

/-- Reasons to stop with a fault: there are none, every command of the table completes. -/
inductive Fault where
deriving DecidableEq, Repr

/-- Reasons to refuse a command. -/
inductive Refusal where
  /-- raised by an arm of `exec` that has no meaning yet, with the command's mnemonic; no arm is left that raises it. Safe: the machine stops. -/
  | notModelled (mnemonic : String)
deriving DecidableEq, Repr

/-- The machine right after reset: the Ovtan held by `AON_RST_N`, the Fabato held by `POR_N` as made, nothing waiting. -/
def State.reset : State := { ov := Ovtan.held 0 0 [], fb := Fabato.made, pending := [] }

end Sys2Proof.Machine
end

