-- ==== Sys2Proof/Machine/Units.lean ====
section
/-! DEFINITION. How a command reaches the Ovtan or the Fabato of the pair, and the requests that commands naming one object stand for. -/
namespace Sys2Proof.Machine

/-- Act on the Ovtan whatever its state. -/
def State.onOvAny (s : State) (h : Ovtan → Ovtan) : State := { s with ov := h s.ov }

/-- Act on the Ovtan in Ready (Table 9.5). -/
def State.onOv (s : State) (h : Ovtan → Ovtan) : State := if s.ov.bnd.boot = .ready then s.onOvAny h else s

/-- Act on the Fabato whatever its state; what the change entails follows at once. -/
def State.onFbAny (s : State) (h : Fabato → Fabato) : State := { s with fb := (h s.fb).settle s.fb }

/-- Act on the Fabato in Ready (Table 20.8). -/
def State.onFb (s : State) (h : Fabato → Fabato) : State := if s.fb.board.boot = 3 then s.onFbAny h else s

/-- Act on one unit of the pair. -/
def State.on (s : State) (u : UnitSel) (ho : Ovtan → Ovtan) (hf : Fabato → Fabato) : State :=
  match u with
  | .ovtan => s.onOv ho
  | .fabato => s.onFb hf

/-- Act on what both units have. -/
def State.onCore (s : State) (u : UnitSel) (h : Core → Core) : State := s.on u (fun o => o.onCore h) (fun f => f.onCore h)

/-- An event at a lane end: the Ovtan's one lane, or lane `n` of the tray; `h` is given the port number of the lane's events. -/
def State.lane (s : State) (u : UnitSel) (n : Nat) (h : Nat → Core → Lane → Core × Lane) : State :=
  s.on u (fun o => o.onLane (h 0)) (fun f => f.laneEvent n (h n))

/-- A dictionary message of any opcode and body at a unit. -/
def State.receive (s : State) (u : UnitSel) (e : Envelope) (opcode : Nat) (body : Bytes) : State :=
  s.on u (fun o => o.receive e opcode body) (fun f => f.receive e opcode 0 body)

/-- A request at a unit. -/
def State.request (s : State) (u : UnitSel) (e : Envelope) (q : Request) : State := s.on u (fun o => o.request e q) (fun f => f.request e q)

/-- Kind of a unit of the pair (IDENT.UNIT_KIND). -/
def State.kind (s : State) (u : UnitSel) : Nat :=
  match u with
  | .ovtan => s.ov.core.kind
  | .fabato => s.fb.core.kind

/-- A WRITE of one item to an object, under the object's own type. -/
def State.write (s : State) (u : UnitSel) (e : Envelope) (obj : Nat) (v : Bytes) : State :=
  let ty := match findRow (s.kind u) obj with | some r => r.ty.code | none => Ty.blob.code
  s.request u e (.write [{ obj := obj, ty := ty, value := v }])

/-- A WRITE of one number, in the object's length. -/
def State.writeNum (s : State) (u : UnitSel) (e : Envelope) (obj n : Nat) : State :=
  let len := match findRow (s.kind u) obj with | some r => rowLen r | none => 4
  s.write u e obj (leBytes len n)

/-- A READ of one element. -/
def State.readOne (s : State) (u : UnitSel) (e : Envelope) (obj : Nat) : State := s.request u e (.read [{ obj := obj }])

/-- A COMMIT at a unit. -/
def State.commit (s : State) (u : UnitSel) (e : Envelope) (mode id step time : Nat) : State := s.request u e (.commit (commitBytes mode id step time))

/-- The rack reference at the Fabato comes or goes; a running Halo follows (R128, R515). -/
def State.rackRef (s : State) (present : Bool) : State :=
  let s := s.onFbAny (fun f => { f with board := { f.board with reference := present } })
  s.onFb (fun f => f.onG (fun g => if present then g.refBack else g.refLoss))

/-- The level of `TRACE_AUTH` (R118). -/
def State.traceAuth (s : State) (auth : Bool) : State := s.onOv (fun o => { o with bnd := { o.bnd with auth := auth } })

end Sys2Proof.Machine
end

