-- ==== Sys2Proof/Machine/AlmanacCommands.lean ====
section
/-! DEFINITION. Commands of the Almanac (spec/20). Every command completes; one that names nothing there is, or an event that is not due, changes nothing. -/
namespace Sys2Proof.Machine

/-- ALMANAC_CLEAR: A write to ALMANAC.CLEAR (R492). -/
def execAlmanacClear (u : UnitSel) (e : Envelope) (count : Nat) (s : State) : Host.Outcome State Fault Refusal := .next (s.writeNum u e oAlmanacClear count)

/-- ALMANAC_CLEAR_DONE: The clear completes (R492). -/
def execAlmanacClearDone (s : State) : Host.Outcome State Fault Refusal := .next (s.onFb (fun f => f.almanacCleared))

/-- HOURS_TICK: 360 s of powered time (R488). -/
def execHoursTick (s : State) : Host.Outcome State Fault Refusal := .next (s.onFbAny (fun f => f.hoursTick))

end Sys2Proof.Machine
end

