-- ==== Sys2Proof/Machine/AnalyticsCommands.lean ====
section
/-! DEFINITION. Commands of reduction, features, Anvil and Drift (spec/13, spec/14). Every command completes; one that names nothing there is, or an event that is not due, changes nothing. -/
namespace Sys2Proof.Machine

/-- REDUCTION_CONTRIBUTION: The oldest waiting contribution of a reduction context (R346–R353). -/
def execReductionContribution (n : Nat) (s : State) : Host.Outcome State Fault Refusal := .next (s.onFb (fun f => f.contribution n))

/-- ANVIL_WALK: A model's Cells take queued vectors (R379–R382). -/
def execAnvilWalk (m : Nat) (s : State) : Host.Outcome State Fault Refusal := .next (s.onFb (fun f => f.anvilWalk m))

/-- MODEL_LOAD: A chunk of a model image (R377). -/
def execModelLoad (u : UnitSel) (e : Envelope) (m : Nat) (chunk : Bytes) (s : State) : Host.Outcome State Fault Refusal := .next (s.write u e (oModel m 1) chunk)

/-- MODEL_INSTALL: ANVIL.MODEL control 1 checks the staged image (R375). -/
def execModelInstall (u : UnitSel) (e : Envelope) (m : Nat) (s : State) : Host.Outcome State Fault Refusal := .next (s.writeNum u e (oModel m 3) 1)

/-- MODEL_DISCARD_SHADOW: ANVIL.MODEL control 2 discards the shadow image (R377). -/
def execModelDiscardShadow (u : UnitSel) (e : Envelope) (m : Nat) (s : State) : Host.Outcome State Fault Refusal := .next (s.writeNum u e (oModel m 3) 2)

/-- MODEL_UNLOAD: ANVIL.MODEL control 3 unloads the slot (R377). -/
def execModelUnload (u : UnitSel) (e : Envelope) (m : Nat) (s : State) : Host.Outcome State Fault Refusal := .next (s.writeNum u e (oModel m 3) 3)

/-- MODEL_RELOAD_DONE: A gang Cell has its node store of the new version (R378). -/
def execModelReloadDone (m : Nat) (cell : Nat) (s : State) : Host.Outcome State Fault Refusal := .next (s.onFb (fun f => f.reloadDone m cell))

/-- DRIFT_RESET: A write to DRIFT.RESET (R387). -/
def execDriftReset (u : UnitSel) (e : Envelope) (member : Nat) (s : State) : Host.Outcome State Fault Refusal := .next (s.writeNum u e oDriftReset member)

/-- EPOCH_TIMEOUT: Epochs at their time-out (R353). -/
def execEpochTimeout (s : State) : Host.Outcome State Fault Refusal := .next (s.onFb (fun f => f.redExpire false))

/-- QUORUM_WAIT_EXPIRE: Epochs whose quorum wait has passed (R353). -/
def execQuorumWaitExpire (s : State) : Host.Outcome State Fault Refusal := .next (s.onFb (fun f => f.redExpire true))

/-- LATE_WINDOW_END: Closed keys whose late window has ended (R352). -/
def execLateWindowEnd (s : State) : Host.Outcome State Fault Refusal := .next (s.onFb (fun f => f.redForget))

/-- FEATURE_HOLD_EXPIRE: Feature vectors whose Hold has run out (R369). -/
def execFeatureHoldExpire (s : State) : Host.Outcome State Fault Refusal := .next (s.onFb (fun f => f.featHold))

end Sys2Proof.Machine
end

