-- ==== Sys2Proof/Machine/BoardCommands.lean ====
section
/-! DEFINITION. Commands of the Fabato package: reset, rails, temperature, modules (spec/21). Every command completes; one that names nothing there is, or an event that is not due, changes nothing. -/
namespace Sys2Proof.Machine

/-- POR_RELEASE: `POR_N` rises with the straps, the rails, the reference and what LPDDR training finds (R508–R513, R518). -/
def execPorRelease (mode : Nat) (flashOwned : Bool) (power : Bool) (reference : Bool) (failing : List Nat) (margins : List Nat) (s : State) : Host.Outcome State Fault Refusal := .next (s.onFbAny (fun f => f.porRelease mode flashOwned power reference failing margins))

/-- DIE_TEMP_CONVERSION: On-die sensor conversions, as f32 words (R522). -/
def execDieTempConversion (temps : List Nat) (rails : List Nat) (s : State) : Host.Outcome State Fault Refusal := .next (s.onFbAny (fun f => f.converted temps rails))

/-- THERMAL_TRIP_COMPARATOR: A sensor reaches 115 °C (R522). -/
def execThermalTripComparator (sensor : Nat) (temp : Nat) (s : State) : Host.Outcome State Fault Refusal := .next (s.onFbAny (fun f => f.thermalTrip sensor temp))

/-- LPDDR_TRAIN_RETRY: 60 s in the LPDDR training hold (R518). -/
def execLpddrTrainRetry (failing : List Nat) (margins : List Nat) (s : State) : Host.Outcome State Fault Refusal := .next (s.onFbAny (fun f => f.trainRetry failing margins))

/-- MODULE_PRESENT_CHANGE: `MOD_PRES_N` of a management port changes (R517). -/
def execModulePresentChange (port : Nat) (present : Bool) (s : State) : Host.Outcome State Fault Refusal := .next (s.onFbAny (fun f => f.moduleChange port present))

/-- POR_ASSERT: `POR_N` falls (R508). -/
def execPorAssert (s : State) : Host.Outcome State Fault Refusal := .next (s.onFbAny (fun f => f.porAssert))

/-- BROWNOUT_DETECT: VDD_AON or VDD_MRAM 5 % below nominal (R514). -/
def execBrownoutDetect (s : State) : Host.Outcome State Fault Refusal := .next (s.onFbAny (fun f => f.brownout))

/-- ALERT_RELEASE: Every sensor has been 3 °C below the threshold for 1 s (R522). -/
def execAlertRelease (s : State) : Host.Outcome State Fault Refusal := .next (s.onFbAny (fun f => f.alertRelease))

end Sys2Proof.Machine
end

