-- ==== Sys2Proof/Machine/BoundaryCommands.lean ====
section
/-! DEFINITION. Commands of the Ovtan's boundary (spec/09). Every command completes; one that names nothing there is, or an event that is not due, changes nothing. -/
namespace Sys2Proof.Machine

/-- MAILBOX_FRAME: A `CFG` frame of kind 0x01 (R246, R247). -/
def execMailboxFrame (tag : Nat) (b : Bytes) (s : State) : Host.Outcome State Fault Refusal := .next (s.onOvAny (fun o => o.mailbox tag b))

/-- FUSE_IMAGE_FRAME: A `CFG` frame of kind 0x02 (R249, R250). -/
def execFuseImageFrame (tag : Nat) (image : Bytes) (s : State) : Host.Outcome State Fault Refusal := .next (s.onOvAny (fun o => o.fuseFrame tag image))

/-- STATUS_FRAME: A `CFG` frame of kind 0x03 (R248). -/
def execStatusFrame (tag : Nat) (len : Nat) (s : State) : Host.Outcome State Fault Refusal := .next (s.onOvAny (fun o => o.statusFrame tag len))

/-- OVTAN_SELF_TEST_DONE: Self-test ends with the counters and macro columns that failed (R258). -/
def execOvtanSelfTestDone (counters : List Nat) (cols : List (Nat × Nat)) (s : State) : Host.Outcome State Fault Refusal := .next (s.onOvAny (fun o => o.selfTestDone counters cols))

/-- AON_RESET_RELEASE: `AON_RST_N` rises (Table 9.5). -/
def execAonResetRelease (s : State) : Host.Outcome State Fault Refusal := .next (s.onOvAny (fun o => o.aonRelease))

/-- AON_RESET_ASSERT: `AON_RST_N` falls (Table 9.5). -/
def execAonResetAssert (s : State) : Host.Outcome State Fault Refusal := .next (s.onOvAny (fun o => o.aonAssert))

/-- FUSE_LOAD_TIMEOUT: 10 ms in Fuse-load without a good image (R250). -/
def execFuseLoadTimeout (s : State) : Host.Outcome State Fault Refusal := .next (s.onOvAny (fun o => o.fuseTimeout))

/-- PLL_LOCK: The PLL locks (Table 9.5). -/
def execPllLock (s : State) : Host.Outcome State Fault Refusal := .next (s.onOvAny (fun o => o.pllLock))

/-- REFCLK_LOST: `REFCLK` is missing or the PLL unlocks (R257). -/
def execRefclkLost (s : State) : Host.Outcome State Fault Refusal := .next (s.onOvAny (fun o => o.refLost))

/-- REFCLK_RESTORED: `REFCLK` returns and the PLL relocks (R257). -/
def execRefclkRestored (s : State) : Host.Outcome State Fault Refusal := .next (s.onOvAny (fun o => o.refRestored))

/-- IRQ_PULSE_END: An IRQ line's 64 ns pulse has ended (R245). -/
def execIrqPulseEnd (s : State) : Host.Outcome State Fault Refusal := .next (s.onOvAny (fun o => o.irqEnd))

end Sys2Proof.Machine
end

