-- ==== Sys2Proof/Machine/CaptureCommands.lean ====
section
/-! DEFINITION. Commands of the Ovtan's capture side (spec/06). Every command completes; one that names nothing there is, or an event that is not due, changes nothing. -/
namespace Sys2Proof.Machine

/-- EVENT_INPUT: A domain cycle of an event bus with the bits high (R176, R177, R182); `parity` a counter found with bad parity. -/
def execEventInput (bus : Nat) (bits : U128) (parity : Option Nat) (s : State) : Host.Outcome State Fault Refusal := .next (s.onOv (fun o => o.eventInput bus bits parity))

/-- SENSOR_CONVERSION: A conversion on `SNS_STROBE` (R184, R186, R244). -/
def execSensorConversion (ch : Nat) (code : Nat) (valid : Bool) (s : State) : Host.Outcome State Fault Refusal := .next (s.onOv (fun o => o.conversion ch code valid))

/-- FMON_WINDOW_END: A frequency monitor's window ends (R185). -/
def execFmonWindowEnd (m : Nat) (cycles : Nat) (stretch : Bool) (s : State) : Host.Outcome State Fault Refusal := .next (s.onOv (fun o => o.onCap (fun x => fmonWindow x m cycles stretch)))

/-- PROGRAM_ERROR_WORD: A word that no row of Table 6.4 defines, or that reads with an uncorrectable error (R190). -/
def execProgramErrorWord (uncorrectable : Bool) (s : State) : Host.Outcome State Fault Refusal := .next (s.onOv (fun o => o.onCap (fun x => doBadWord x uncorrectable)))

/-- PENDING_GAP_EMIT: Space has returned for a class's pending gap records (R192). -/
def execPendingGapEmit (cls : RClass) (s : State) : Host.Outcome State Fault Refusal := .next (s.onOv (fun o => o.onCap (fun x => emitPending x cls)))

/-- BANK_LATCH: A bank latches at L_T (R189). -/
def execBankLatch (b : Nat) (cycle : Nat) (parity : Option Nat) (s : State) : Host.Outcome State Fault Refusal := .next (s.onOv (fun o => o.onCap (fun x => doBankLatch x b cycle parity)))

/-- STRETCH_INTERVAL_END: A run of stretched cycles has ended (R185). -/
def execStretchIntervalEnd (m : Nat) (len : Nat) (s : State) : Host.Outcome State Fault Refusal := .next (s.onOv (fun o => o.onCap (fun x => stretchEnd x m len)))

/-- RUN_START: The sequencer starts a queued run (R187, R188). -/
def execRunStart (s : State) : Host.Outcome State Fault Refusal := .next (s.onOv (fun o => o.startRun))

/-- SNAP: The SNAP word at hand (R189). -/
def execSnap (s : State) : Host.Outcome State Fault Refusal := .next (s.onOv (fun o => o.onCap doSnap))

/-- LATCH_WAIT_END: COUNT.LATCH_WAIT after L_T (R189). -/
def execLatchWaitEnd (s : State) : Host.Outcome State Fault Refusal := .next (s.onOv (fun o => o.onCap endLatchWait))

/-- READ: The READ word at hand (R190). -/
def execRead (s : State) : Host.Outcome State Fault Refusal := .next (s.onOv (fun o => o.onCap doRead))

/-- DELTA: The DELTA word at hand (R190). -/
def execDelta (s : State) : Host.Outcome State Fault Refusal := .next (s.onOv (fun o => o.onCap doDelta))

/-- CMP: The CMP word at hand (R190). -/
def execCmp (s : State) : Host.Outcome State Fault Refusal := .next (s.onOv (fun o => o.onCap doCmp))

/-- BR: The BR word at hand (R190). -/
def execBr (s : State) : Host.Outcome State Fault Refusal := .next (s.onOv (fun o => o.onCap doBr))

/-- EMIT: The EMIT word at hand (R191). -/
def execEmit (s : State) : Host.Outcome State Fault Refusal := .next (s.onOv (fun o => o.onCap doEmit))

/-- HALT: The HALT word at hand (R191). -/
def execHalt (s : State) : Host.Outcome State Fault Refusal := .next (s.onOv (fun o => o.onCap doHalt))

/-- ALARM_TOKEN_REFILL: The alarm token bucket refills (R195). -/
def execAlarmTokenRefill (s : State) : Host.Outcome State Fault Refusal := .next (s.onOv (fun o => o.onBuf (fun c b => alarmGap c (refillTokens c b))))

/-- CLASS_C_SLOT_FREE: A class C slot frees (R535). -/
def execClassCSlotFree (s : State) : Host.Outcome State Fault Refusal := .next (s.onOv (fun o => o.onCap placeWaitingC))

end Sys2Proof.Machine
end

