-- ==== Sys2Proof/Machine/CellCommands.lean ====
section
/-! DEFINITION. Commands of Cells, work units, tests and spares (spec/11, spec/15, spec/16). Every command completes; one that names nothing there is, or an event that is not due, changes nothing. -/
namespace Sys2Proof.Machine

/-- WORK_UNIT_DISPATCH: A quadrant dispatcher issues a work unit to a Cell (R297, R298). -/
def execWorkUnitDispatch (cell : Nat) (s : State) : Host.Outcome State Fault Refusal := .next (s.onFb (fun f => f.dispatch cell))

/-- WORK_UNIT_DONE: A work unit ends, with what its checks found and the Cell's busy ns (R394, R395). -/
def execWorkUnitDone (handle : Nat) (outcome : Nat) (busy : Nat) (s : State) : Host.Outcome State Fault Refusal := .next (s.onFb (fun f => f.unitDone handle outcome busy))

/-- BLOCK_IDLE_TIMEOUT: A self-managed block has been idle for its time (R256, R306). -/
def execBlockIdleTimeout (u : UnitSel) (element : Nat) (s : State) : Host.Outcome State Fault Refusal := .next (s.on u (fun o => o.blockIdle element) (fun f => f.blockGate element))

/-- BLOCK_WAKE_DONE: A gated block has woken (R256, R306). -/
def execBlockWakeDone (u : UnitSel) (element : Nat) (s : State) : Host.Outcome State Fault Refusal := .next (s.on u (fun o => o.blockWake element) (fun f => f.wakeDone element))

/-- SHADOW_DIGESTS_READY: Both executions of a shadowed unit have ended: the digests of each execution, the third and those after a device's replacement (R400, R401). -/
def execShadowDigestsReady (handle : Nat) (primary : Nat) (shadow : Nat) (third : Nat) (again : Nat) (againShadow : Nat) (devices : List Nat) (s : State) : Host.Outcome State Fault Refusal := .next (s.onFb (fun f => f.shadowReady handle primary shadow third again againShadow devices))

/-- FT_RUN: A write to FT.RUN (R403). -/
def execFtRun (u : UnitSel) (e : Envelope) (cell : Nat) (s : State) : Host.Outcome State Fault Refusal := .next (s.writeNum u e oFtRun cell)

/-- FT_TEST_DONE: The in-field test ends: 0 pass, 1 fail, 2 stopped (R403). -/
def execFtTestDone (result : Nat) (s : State) : Host.Outcome State Fault Refusal := .next (s.onFb (fun f => f.testDone result))

/-- FT_INJECT: A write to FT.INJECT (R394). -/
def execFtInject (u : UnitSel) (e : Envelope) (value : Nat) (s : State) : Host.Outcome State Fault Refusal := .next (s.writeNum u e oFtInject value)

/-- CONTEXT_READOUT_DONE: A failed Cell's contexts have been read out, or could not be (R422, R423). -/
def execContextReadoutDone (cell : Nat) (readable : Bool) (s : State) : Host.Outcome State Fault Refusal := .next (s.onFb (fun f => f.readoutDone cell readable))

/-- CELL_READMIT: A write to SPARE.CELL_READMIT (R420). -/
def execCellReadmit (u : UnitSel) (e : Envelope) (cell : Nat) (s : State) : Host.Outcome State Fault Refusal := .next (s.writeNum u e oSpareCellReadmit cell)

/-- READMIT_TEST_DONE: A readmission test ends (R420). -/
def execReadmitTestDone (pass : Bool) (s : State) : Host.Outcome State Fault Refusal := .next (s.onFb (fun f => f.readmitDone pass))

/-- LANE_RESTORE: A write to SPARE.LANE_RESTORE (R425). -/
def execLaneRestore (u : UnitSel) (e : Envelope) (value : Nat) (s : State) : Host.Outcome State Fault Refusal := .next (s.writeNum u e oSpareLaneRestore value)

/-- SAT_WINDOW_END: A CELL.SAT_WINDOW ends (R311). -/
def execSatWindowEnd (s : State) : Host.Outcome State Fault Refusal := .next (s.onFb (fun f => f.satEnd))

/-- FT_DUE: FT.INTERVAL has passed for Cells (R403). -/
def execFtDue (s : State) : Host.Outcome State Fault Refusal := .next (s.onFb (fun f => f.testDue))

/-- FT_DEFER_EXPIRE: FT.MAX_DEFER has run out (R403). -/
def execFtDeferExpire (s : State) : Host.Outcome State Fault Refusal := .next (s.onFb (fun f => f.deferExpire))

/-- CONTEXT_MOVE_DONE: The context in move is at its target (R421). -/
def execContextMoveDone (s : State) : Host.Outcome State Fault Refusal := .next (s.onFb (fun f => f.moveDone))

/-- REPLACE_WAIT_EXPIRE: SPARE.REPLACE_WAIT at the head of the fill queue (R424). -/
def execReplaceWaitExpire (s : State) : Host.Outcome State Fault Refusal := .next (s.onFb (fun f => f.replaceExpire))

/-- WARM_HOLD_EXPIRE: SPARE.WARM_HOLD of a warm Cell (R420). -/
def execWarmHoldExpire (s : State) : Host.Outcome State Fault Refusal := .next (s.onFb (fun f => f.warmExpire))

/-- SHADOW_SPARE_TIMEOUT: 10 µs without an idle spare for a shadowed unit (R400). -/
def execShadowSpareTimeout (s : State) : Host.Outcome State Fault Refusal := .next (s.onFb (fun f => f.shadowTimeout))

end Sys2Proof.Machine
end

