-- ==== Sys2Proof/Machine/CheckCommands.lean ====
section
/-! DEFINITION. Commands of Dew, Contrail, the MEM port and Dewpoint (spec/08). Every command completes; one that names nothing there is, or an event that is not due, changes nothing. -/
namespace Sys2Proof.Machine

/-- DEW_FEED_BYTE: A write to a Dew channel's feed byte (R222). -/
def execDewFeedByte (u : UnitSel) (e : Envelope) (ch : Nat) (value : Nat) (s : State) : Host.Outcome State Fault Refusal := .next (s.writeNum u e (dewObj ch 0x10) value)

/-- DEW_FEED_HALF_WORD: A write to a Dew channel's feed half-word (R222). -/
def execDewFeedHalfWord (u : UnitSel) (e : Envelope) (ch : Nat) (value : Nat) (s : State) : Host.Outcome State Fault Refusal := .next (s.writeNum u e (dewObj ch 0x11) value)

/-- DEW_FEED_WORD: A write to a Dew channel's feed word (R222). -/
def execDewFeedWord (u : UnitSel) (e : Envelope) (ch : Nat) (value : Nat) (s : State) : Host.Outcome State Fault Refusal := .next (s.writeNum u e (dewObj ch 0x12) value)

/-- DEW_BYTE_PROCESS: A Dew channel takes a queued write (R218–R221). -/
def execDewByteProcess (ch : Nat) (s : State) : Host.Outcome State Fault Refusal := .next (s.onOv (fun o => o.dewStep ch))

/-- DEW_RESULT_READ: A read of a Dew channel's result (R222). -/
def execDewResultRead (u : UnitSel) (e : Envelope) (ch : Nat) (s : State) : Host.Outcome State Fault Refusal := .next (s.readOne u e (dewObj ch 6))

/-- DEW_RESET: A write of true to a Dew channel's reset (R220). -/
def execDewReset (u : UnitSel) (e : Envelope) (ch : Nat) (s : State) : Host.Outcome State Fault Refusal := .next (s.writeNum u e (dewObj ch 8) 1)

/-- DMA_GO: A write to DMA.GO (R225–R228). -/
def execDmaGo (u : UnitSel) (e : Envelope) (ch : Nat) (s : State) : Host.Outcome State Fault Refusal := .next (s.writeNum u e oDmaGo ch)

/-- DMA_STOP: A write to DMA.STOP (R231). -/
def execDmaStop (u : UnitSel) (e : Envelope) (ch : Nat) (s : State) : Host.Outcome State Fault Refusal := .next (s.writeNum u e oDmaStop ch)

/-- MEM_READ_RESPONSE: A MEM read response (R254, R255). -/
def execMemReadResponse (id : Nat) (data : Bytes) (err : Bool) (s : State) : Host.Outcome State Fault Refusal := .next (s.onOv (fun o => o.onMem (fun x => x.response id false data err)))

/-- MEM_WRITE_RESPONSE: A MEM write response (R254, R255). -/
def execMemWriteResponse (id : Nat) (err : Bool) (s : State) : Host.Outcome State Fault Refusal := .next (s.onOv (fun o => o.onMem (fun x => x.response id true [] err)))

/-- MEM_TIMEOUT: A MEM request without a response in POWER.MEM_TIMEOUT (R255). -/
def execMemTimeout (id : Nat) (s : State) : Host.Outcome State Fault Refusal := .next (s.onOv (fun o => o.onMem (fun x => x.timeout id)))

/-- DP_GO: A write of true to DEW.DP_GO (R233). -/
def execDpGo (u : UnitSel) (e : Envelope) (s : State) : Host.Outcome State Fault Refusal := .next (s.writeNum u e oDewDpGo 1)

/-- MEM_BURST_GRANT: The MEM port grants one burst (R229, R254). -/
def execMemBurstGrant (s : State) : Host.Outcome State Fault Refusal := .next (s.onOv (fun o => o.burstGrant))

/-- DP_START_EVENT: An event on DEW.DP_START_EVENT (R233). -/
def execDpStartEvent (s : State) : Host.Outcome State Fault Refusal := .next (s.onOv (fun o => o.dpEvent))

/-- DIGEST_COMPLETE: The selector and the last hash have finished (R236). -/
def execDigestComplete (s : State) : Host.Outcome State Fault Refusal := .next (s.onOv (fun o => o.digestDone))

end Sys2Proof.Machine
end

