-- ==== Sys2Proof/Machine/CondenserCommands.lean ====
section
/-! DEFINITION. Commands of the Condenser (spec/19). Every command completes; one that names nothing there is, or an event that is not due, changes nothing. -/
namespace Sys2Proof.Machine

/-- CONDENSE_GATHER_EXPIRE: CONDENSE.GATHER since a frame's first record (R474). -/
def execCondenseGatherExpire (idx : Nat) (s : State) : Host.Outcome State Fault Refusal := .next (s.onFb (fun f => f.onG (fun g => g.gatherExpire idx)))

/-- CONDENSE_CTX_RESET: A write of true to a context's reset (R479). -/
def execCondenseCtxReset (u : UnitSel) (e : Envelope) (idx : Nat) (s : State) : Host.Outcome State Fault Refusal := .next (s.writeNum u e (condObj idx 3) 1)

/-- CONDENSE_IDLE_RESET: CONDENSE.IDLE_RESET without a frame sent (R479). -/
def execCondenseIdleReset (idx : Nat) (s : State) : Host.Outcome State Fault Refusal := .next (s.onFb (fun f => f.onG (fun g => g.condIdleReset idx)))

/-- CONDENSE_DECODE_IDLE: CONDENSE.DECODE_IDLE without a frame decoded (R480). -/
def execCondenseDecodeIdle (idx : Nat) (s : State) : Host.Outcome State Fault Refusal := .next (s.onFb (fun f => f.onG (fun g => g.condDecodeIdle idx)))

end Sys2Proof.Machine
end

