-- ==== Sys2Proof/Machine/CutCommands.lean ====
section
/-! DEFINITION. Commands of Overcast cuts, wait-for graphs and Cadence (spec/18). Every command completes; one that names nothing there is, or an event that is not due, changes nothing. -/
namespace Sys2Proof.Machine

/-- CUT_REQUEST: A write to CUT.REQUEST (R454). -/
def execCutRequest (u : UnitSel) (e : Envelope) (desc : Bytes) (s : State) : Host.Outcome State Fault Refusal := .next (s.write u e oCutRequest desc)

/-- CUT_ARM: A write to CUT.ARM (R455). -/
def execCutArm (u : UnitSel) (e : Envelope) (desc : Bytes) (s : State) : Host.Outcome State Fault Refusal := .next (s.write u e oCutArm desc)

/-- CUT_CANCEL: A write to CUT.CANCEL (R456). -/
def execCutCancel (u : UnitSel) (e : Envelope) (id : Nat) (s : State) : Host.Outcome State Fault Refusal := .next (s.writeNum u e oCutCancel id)

/-- WF_BUILD: A write to CUT.WF_BUILD (R466). -/
def execWfBuild (u : UnitSel) (e : Envelope) (value : Bytes) (s : State) : Host.Outcome State Fault Refusal := .next (s.write u e oCutWfBuild value)

/-- WF_MERGE_WRITE: A child's summary is written to CUT.WF_MERGE (R466). -/
def execWfMergeWrite (u : UnitSel) (e : Envelope) (member : Nat) (summary : Bytes) (s : State) : Host.Outcome State Fault Refusal := .next (s.write u e (oCutWfMerge + member + 1) summary)

/-- CADENCE_INTERRUPT: A write to CADENCE.INTERRUPT (R468). -/
def execCadenceInterrupt (u : UnitSel) (e : Envelope) (tenant : Nat) (s : State) : Host.Outcome State Fault Refusal := .next (s.writeNum u e oCadenceInterrupt tenant)

/-- CADENCE_CKPT_DONE: A write to CADENCE.CKPT_DONE (R471). -/
def execCadenceCkptDone (u : UnitSel) (e : Envelope) (value : Bytes) (s : State) : Host.Outcome State Fault Refusal := .next (s.write u e oCadenceCkptDone value)

/-- CADENCE_ACK: A write to CADENCE.ACK (R471). -/
def execCadenceAck (u : UnitSel) (e : Envelope) (num : Nat) (s : State) : Host.Outcome State Fault Refusal := .next (s.writeNum u e oCadenceAck num)

/-- CUT_FIRE: Armed cuts of an Ovtan at their fire times (R457). -/
def execCutFire (s : State) : Host.Outcome State Fault Refusal := .next (s.onOv (fun o => o.cutsDue o.core.ns))

/-- CUT_CLOSE_TIMEOUT: CUT.CLOSE_TIMEOUT after a latch (R460). -/
def execCutCloseTimeout (s : State) : Host.Outcome State Fault Refusal := .next (s.onFb (fun f => f.castTimeout))

/-- WF_HOLD_EXPIRE: CUT.WF_HOLD after the graph's time (R466). -/
def execWfHoldExpire (s : State) : Host.Outcome State Fault Refusal := .next (s.onFb (fun f => f.wfHold))

/-- WF_WAIT_EXPIRE: CUT.WF_WAIT has passed (R466). -/
def execWfWaitExpire (s : State) : Host.Outcome State Fault Refusal := .next (s.onFb (fun f => f.wfWait))

/-- CADENCE_UPDATE_TICK: CADENCE.UPDATE has passed (R469). -/
def execCadenceUpdateTick (s : State) : Host.Outcome State Fault Refusal := .next (s.onFb (fun f => f.cadTick))

/-- GROUP_CUT_ANGLE_FIRE: Cuts of a group at their fire times (R459). -/
def execGroupCutAngleFire (s : State) : Host.Outcome State Fault Refusal := .next (s.onFb (fun f => f.castDue))

end Sys2Proof.Machine
end

