-- ==== Sys2Proof/Machine/DictCommands.lean ====
section
/-! DEFINITION. Commands of the object dictionary and of sessions (spec/02, spec/03). Every command completes; one that names nothing there is, or an event that is not due, changes nothing. -/
namespace Sys2Proof.Machine

/-- DICT_READ: A READ message (R92): one item of the response for each element read. -/
def execDictRead (u : UnitSel) (e : Envelope) (items : List ReadItem) (s : State) : Host.Outcome State Fault Refusal := .next (s.on u (fun o => o.request e (.read items)) (fun f => f.request e (.read items)))

/-- OBJECT_WRITE: A WRITE message (R72, R77, R84, R92): each item takes effect under its apply class, or joins the stage set. -/
def execObjectWrite (u : UnitSel) (e : Envelope) (items : List WriteItem) (s : State) : Host.Outcome State Fault Refusal := .next (s.on u (fun o => o.request e (.write items)) (fun f => f.request e (.write items)))

/-- DICT_LIST: A LIST message (R92, R94). -/
def execDictList (u : UnitSel) (e : Envelope) (area : Nat) (start : Nat) (s : State) : Host.Outcome State Fault Refusal := .next (s.on u (fun o => o.request e (.list area start)) (fun f => f.request e (.list area start)))

/-- COMMIT_DISCARD: A COMMIT of mode 0 (R77): the stage set is discarded. -/
def execCommitDiscard (u : UnitSel) (e : Envelope) (s : State) : Host.Outcome State Fault Refusal := .next (s.commit u e 0 0 0 0)

/-- COMMIT_AT_STEP: A COMMIT of mode 1 (R78–R81). -/
def execCommitAtStep (u : UnitSel) (e : Envelope) (id : Nat) (step : Nat) (s : State) : Host.Outcome State Fault Refusal := .next (s.commit u e 1 id step 0)

/-- COMMIT_AT_TIME: A COMMIT of mode 2 (R78–R81): at least 10 µs of lead. -/
def execCommitAtTime (u : UnitSel) (e : Envelope) (id : Nat) (time : Nat) (s : State) : Host.Outcome State Fault Refusal := .next (s.commit u e 2 id 0 time)

/-- COMMIT_CANCEL: A COMMIT of mode 3 (R80). -/
def execCommitCancel (u : UnitSel) (e : Envelope) (id : Nat) (s : State) : Host.Outcome State Fault Refusal := .next (s.commit u e 3 id 0 0)

/-- TIME_COMMIT_INSTANT: Unit time has reached the target of pending time commits (R82). -/
def execTimeCommitInstant (u : UnitSel) (s : State) : Host.Outcome State Fault Refusal := .next (s.on u (fun o => commitsAtTime ovOps o) (fun f => commitsAtTime fbOps f))

/-- FORWARD_RESPONSE: A response to a forwarded request returns by the route of its request (R95). -/
def execForwardResponse (e : Envelope) (opcode : Nat) (summary : Nat) (body : Bytes) (s : State) : Host.Outcome State Fault Refusal := .next (s.onFb (fun f => f.response e opcode summary body))

/-- KEPT_RESPONSE_EXPIRE: Kept responses of 86,400 s of age are dropped (R96). -/
def execKeptResponseExpire (u : UnitSel) (s : State) : Host.Outcome State Fault Refusal := .next (s.onCore u (fun c => c.keptExpire))

/-- IDENT_RESTART: A write of 1 to IDENT.RESTART (R99, R251, R504). -/
def execIdentRestart (u : UnitSel) (e : Envelope) (s : State) : Host.Outcome State Fault Refusal := .next (s.writeNum u e oIdentRestart 1)

/-- SESSION_HELLO: A HELLO (R104, R105, R108). -/
def execSessionHello (u : UnitSel) (e : Envelope) (body : Bytes) (s : State) : Host.Outcome State Fault Refusal := .next (s.receive u e 0x10 body)

/-- SESSION_PROOF: A PROOF (R106, R107, R120). -/
def execSessionProof (u : UnitSel) (e : Envelope) (body : Bytes) (s : State) : Host.Outcome State Fault Refusal := .next (s.receive u e 0x11 body)

/-- SESSION_CLOSE: A CLOSE (R111). -/
def execSessionClose (u : UnitSel) (e : Envelope) (s : State) : Host.Outcome State Fault Refusal := .next (s.receive u e 0x12 [])

/-- HANDSHAKE_EXPIRE: A handshake 10 s after its CHALLENGE (R108). -/
def execHandshakeExpire (u : UnitSel) (id : Nat) (s : State) : Host.Outcome State Fault Refusal := .next (s.onCore u (fun c => c.handshakeExpire id))

/-- SESSION_IDLE_TIMEOUT: A session without an accepted message for its idle time (R111). -/
def execSessionIdleTimeout (u : UnitSel) (id : Nat) (s : State) : Host.Outcome State Fault Refusal := .next (s.onCore u (fun c => c.idleOut id))

/-- SESSION_LIFETIME_END: A session at the end of its lifetime (R111). -/
def execSessionLifetimeEnd (u : UnitSel) (id : Nat) (s : State) : Host.Outcome State Fault Refusal := .next (s.onCore u (fun c => c.lifeOut id))

/-- CLOSE_SESSION_WRITE: A write to SESSION.CLOSE_SESSION (R111). -/
def execCloseSessionWrite (u : UnitSel) (e : Envelope) (id : Nat) (s : State) : Host.Outcome State Fault Refusal := .next (s.writeNum u e oSessionCloseSession id)

/-- LINK_HANDSHAKE_REPLY: A neighbour's CHALLENGE (0x90) or OPENED (0x91) for a link session (R112, R114). -/
def execLinkHandshakeReply (port : Port) (path : Nat) (opcode : Nat) (body : Bytes) (s : State) : Host.Outcome State Fault Refusal := .next (s.onFb (fun f => f.linkReply port path opcode body))

/-- LOCKOUT_END: A role's lock on a port ends (R120). -/
def execLockoutEnd (u : UnitSel) (port : Port) (role : Role) (s : State) : Host.Outcome State Fault Refusal := .next (s.onCore u (fun c => c.lockEnd port role))

/-- TRACE_GRANT_WRITE: A write to SESSION.TRACE_GRANT (R119); a group has no such object. -/
def execTraceGrantWrite (u : UnitSel) (e : Envelope) (seconds : Nat) (s : State) : Host.Outcome State Fault Refusal := .next (s.writeNum u e oSessionTraceGrant seconds)

/-- FORWARD_TIMEOUT: Forwarded requests without a response in SESSION.FWD_TIMEOUT per level are answered E_TIMEOUT (R95). -/
def execForwardTimeout (s : State) : Host.Outcome State Fault Refusal := .next (s.onFb (fun f => f.forwardExpire))

/-- LINK_AUTH_HOLDOFF_END: The 1 s holdoffs after failed link handshakes that have ended (R114). -/
def execLinkAuthHoldoffEnd (s : State) : Host.Outcome State Fault Refusal := .next (s.onFb (fun f => f.holdoffEnd))

/-- TRACE_GRANT_EXPIRE: A trace grant at its expiry (R119). -/
def execTraceGrantExpire (s : State) : Host.Outcome State Fault Refusal := .next (s.onOv (fun o => o.grantExpire))

end Sys2Proof.Machine
end

