-- ==== Sys2Proof/Machine/DrizzleCommands.lean ====
section
/-! DEFINITION. Commands of the Drizzle lane ends (spec/10). Every command completes; one that names nothing there is, or an event that is not due, changes nothing. -/
namespace Sys2Proof.Machine

/-- DZ_TRAINING_COMPLETE: Full training is complete at both ends (R264, Table 10.5). -/
def execDzTrainingComplete (u : UnitSel) (n : Nat) (s : State) : Host.Outcome State Fault Refusal := .next (s.lane u n (fun _ => laneTrained))

/-- DZ_TRAIN_TIMEOUT: 15 ms in Train (Table 10.5). -/
def execDzTrainTimeout (u : UnitSel) (n : Nat) (s : State) : Host.Outcome State Fault Refusal := .next (s.lane u n laneTrainTimeout)

/-- BLOCK_RECEIVE: A received block: its sync header, corrected symbols, uncorrectable codewords and flits (R265, R266). -/
def execBlockReceive (u : UnitSel) (n : Nat) (hdr : Nat) (symbols : Nat) (uncorr : Nat) (flits : List Bytes) (s : State) : Host.Outcome State Fault Refusal := .next (s.on u (fun o => o.block hdr symbols uncorr flits) (fun f => f.block n hdr symbols uncorr flits))

/-- DZ_ALIGN_TIMEOUT: 1 ms in Align (Table 10.5). -/
def execDzAlignTimeout (u : UnitSel) (n : Nat) (s : State) : Host.Outcome State Fault Refusal := .next (s.lane u n (fun _ => laneAlignTimeout))

/-- DZ_FAST_RETRAIN_COMPLETE: A fast retrain is complete (Table 10.5). -/
def execDzFastRetrainComplete (u : UnitSel) (n : Nat) (s : State) : Host.Outcome State Fault Refusal := .next (s.lane u n (fun _ => laneFastTrained))

/-- DZ_RETRAIN_TIMEOUT: 1 ms in Retrain (Table 10.5). -/
def execDzRetrainTimeout (u : UnitSel) (n : Nat) (s : State) : Host.Outcome State Fault Refusal := .next (s.lane u n (fun _ => laneRetrainTimeout))

/-- DZ_FORCE_RETRAIN: A write to LINK.DZ_FORCE_RETRAIN (Table 10.5). -/
def execDzForceRetrain (u : UnitSel) (e : Envelope) (n : Nat) (s : State) : Host.Outcome State Fault Refusal := .next (s.writeNum u e oLinkDzForceRetrain n)

/-- PEER_TRAINING_SEEN: The peer's training pattern on an Up lane (Table 10.5). -/
def execPeerTrainingSeen (u : UnitSel) (n : Nat) (s : State) : Host.Outcome State Fault Refusal := .next (s.on u (fun o => o.laneDown 2) (fun f => f.laneEvent n (fun c l => laneDown c l n 0xFF 2)))

/-- DATA_FLIT_RECEIVE: A flit of 256 bytes (R268, R273). -/
def execDataFlitReceive (u : UnitSel) (n : Nat) (b : Bytes) (s : State) : Host.Outcome State Fault Refusal := .next (s.on u (fun o => o.flit b) (fun f => f.flit n b))

/-- CREDIT_ITEM: A CREDIT item (R272). -/
def execCreditItem (u : UnitSel) (n : Nat) (item : Nat) (s : State) : Host.Outcome State Fault Refusal := .next (s.on u (fun o => o.item (item / 256 * 256 + 1)) (fun f => f.item n (item / 256 * 256 + 1)))

/-- TIME_REQ_ITEM: A TIME_REQ item at the Ovtan (R136, R271). -/
def execTimeReqItem (item : Nat) (s : State) : Host.Outcome State Fault Refusal := .next (s.onOv (fun o => o.item (item / 256 * 256 + 2)))

/-- HELLO_UID_ITEM: A HELLO_UID item (R274). -/
def execHelloUidItem (u : UnitSel) (n : Nat) (item : Nat) (s : State) : Host.Outcome State Fault Refusal := .next (s.on u (fun o => o.item (item / 256 * 256 + 6)) (fun f => f.item n (item / 256 * 256 + 6)))

/-- HELLO_INFO_ITEM: A HELLO_INFO item (R274, Table 10.5). -/
def execHelloInfoItem (u : UnitSel) (n : Nat) (item : Nat) (s : State) : Host.Outcome State Fault Refusal := .next (s.on u (fun o => o.item (item / 256 * 256 + 7)) (fun f => f.item n (item / 256 * 256 + 7)))

/-- RESUME_ITEM: A RESUME item (R274). -/
def execResumeItem (u : UnitSel) (n : Nat) (item : Nat) (s : State) : Host.Outcome State Fault Refusal := .next (s.on u (fun o => o.item (item / 256 * 256 + 8)) (fun f => f.item n (item / 256 * 256 + 8)))

/-- FLIT_TRANSMIT: A lane end sends its next flit, in flit slot 0 of a block or another (R267–R273). -/
def execFlitTransmit (u : UnitSel) (n : Nat) (slot0 : Bool) (s : State) : Host.Outcome State Fault Refusal := .next (s.on u (fun o => o.transmit slot0) (fun f => f.transmit n slot0))

/-- RETRY_TIMEOUT: 2 µs without progress of Ack (R273). -/
def execRetryTimeout (u : UnitSel) (n : Nat) (s : State) : Host.Outcome State Fault Refusal := .next (s.lane u n (fun _ c l => (c, l.retryTimeout c.up)))

/-- SPILL_AFTER_EXPIRE: LINK.SPILL_AFTER out of Up (R280). -/
def execSpillAfterExpire (s : State) : Host.Outcome State Fault Refusal := .next (s.onOv (fun o => o.spillAfter))

end Sys2Proof.Machine
end

