-- ==== Sys2Proof/Machine/FenceCommands.lean ====
section
/-! DEFINITION. Commands of voting and fencing (spec/15). Every command completes; one that names nothing there is, or an event that is not due, changes nothing. -/
namespace Sys2Proof.Machine

/-- TOKEN_REQUEST: A token request from below (R414). -/
def execTokenRequest (path : Nat) (num : Nat) (s : State) : Host.Outcome State Fault Refusal := .next (s.onFb (fun f => (f.tokenRequest path num).1))

/-- TOKEN_ANSWER: A token answer (R414). -/
def execTokenAnswer (sender : Nat) (first : Record) (second : Record) (s : State) : Host.Outcome State Fault Refusal := .next (s.onFb (fun f => f.exchange sender first second))

/-- VERDICT_EXCHANGE: A vote verdict (R409). -/
def execVerdictExchange (sender : Nat) (first : Record) (second : Record) (s : State) : Host.Outcome State Fault Refusal := .next (s.onFb (fun f => f.exchange sender first second))

/-- SUSPICION_NOTICE: A suspicion notice (R415). -/
def execSuspicionNotice (sender : Nat) (first : Record) (second : Record) (s : State) : Host.Outcome State Fault Refusal := .next (s.onFb (fun f => f.exchange sender first second))

/-- SUSPICION_CLEAR: A write of 0 to FENCE.SUSPICION (R415). -/
def execSuspicionClear (u : UnitSel) (e : Envelope) (s : State) : Host.Outcome State Fault Refusal := .next (s.writeNum u e oFenceSuspicion 0)

/-- FENCE_RELEASE: A write to FENCE.RELEASE (R413). -/
def execFenceRelease (u : UnitSel) (e : Envelope) (member : Nat) (s : State) : Host.Outcome State Fault Refusal := .next (s.writeNum u e oFenceRelease member)

/-- FENCE_FORCE: A write to FENCE.FORCE (R414). -/
def execFenceForce (u : UnitSel) (e : Envelope) (member : Nat) (s : State) : Host.Outcome State Fault Refusal := .next (s.writeNum u e oFenceForce member)

/-- KAT_FAIL: A write to element 0x01 of FENCE.KAT_RESULT (R408, R417). -/
def execKatFail (u : UnitSel) (e : Envelope) (value : Nat) (s : State) : Host.Outcome State Fault Refusal := .next (s.writeNum u e (oFenceKatResult + 1) value)

/-- KAT_PASS: A write to element 0x02 of FENCE.KAT_RESULT (R408, R417). -/
def execKatPass (u : UnitSel) (e : Envelope) (value : Nat) (s : State) : Host.Outcome State Fault Refusal := .next (s.writeNum u e (oFenceKatResult + 2) value)

/-- VOTE_TIMEOUT: Vote keys at their time-out (R406). -/
def execVoteTimeout (s : State) : Host.Outcome State Fault Refusal := .next (s.onFb (fun f => f.voteTimeouts))

/-- FENCE_EVAL_TICK: FENCE.EVAL_INTERVAL has passed (R405, R407). -/
def execFenceEvalTick (s : State) : Host.Outcome State Fault Refusal := .next (s.onFb (fun f => f.evalTick))

/-- GRANT_TIMEOUT: FENCE.GRANT_TIMEOUT without an answer (R414). -/
def execGrantTimeout (s : State) : Host.Outcome State Fault Refusal := .next (s.onFb (fun f => f.grantTimeout))

/-- KAT_TIMEOUT: FENCE.KAT_TIMEOUT without a result (R408). -/
def execKatTimeout (s : State) : Host.Outcome State Fault Refusal := .next (s.onFb (fun f => f.katTimeout))

/-- LOCKSTEP_DIVERGENCE: The Loft lockstep pair diverges (R410). -/
def execLockstepDivergence (s : State) : Host.Outcome State Fault Refusal := .next (s.onFb (fun f => f.lockstepDiverge))

/-- LOCKSTEP_RESTART_DONE: The lockstep pair has restarted (R410). -/
def execLockstepRestartDone (s : State) : Host.Outcome State Fault Refusal := .next (s.onFb (fun f => f.lockstepRestart))

end Sys2Proof.Machine
end

