-- ==== Sys2Proof/Machine/FirmwareCommands.lean ====
section
/-! DEFINITION. Commands of firmware, flash and recovery (spec/20). Every command completes; one that names nothing there is, or an event that is not due, changes nothing. -/
namespace Sys2Proof.Machine

/-- FLASH_IMAGE_READ_DONE: The ROM has read the flash image (R499, Table 20.7). -/
def execFlashImageReadDone (readError : Bool) (image : Bytes) (s : State) : Host.Outcome State Fault Refusal := .next (s.onFbAny (fun f => f.flashRead readError image))

/-- RECOVERY_IMAGE_RECEIVED: A recovery image from a source (R500). -/
def execRecoveryImageReceived (source : Nat) (readError : Bool) (image : Bytes) (s : State) : Host.Outcome State Fault Refusal := .next (s.onFbAny (fun f => f.recoveryImage source readError image))

/-- FABATO_SELF_TEST_DONE: The SRAM tests end, with the Cells that failed and whether Loft passed (R499). -/
def execFabatoSelfTestDone (cells : List Nat) (loft : Bool) (s : State) : Host.Outcome State Fault Refusal := .next (s.onFbAny (fun f => f.selfTested cells loft))

/-- FW_LOAD: A write to FW.LOAD (R502). -/
def execFwLoad (u : UnitSel) (e : Envelope) (chunk : Bytes) (s : State) : Host.Outcome State Fault Refusal := .next (s.write u e oFwLoad chunk)

/-- FW_CHECK: FW.CTRL 1 checks the staged image (R502). -/
def execFwCheck (u : UnitSel) (e : Envelope) (s : State) : Host.Outcome State Fault Refusal := .next (s.writeNum u e oFwCtrl 1)

/-- FW_WRITE_FLASH: FW.CTRL 2 starts writing staging to flash (R502). -/
def execFwWriteFlash (u : UnitSel) (e : Envelope) (s : State) : Host.Outcome State Fault Refusal := .next (s.writeNum u e oFwCtrl 2)

/-- FW_FETCH_PARENT: FW.CTRL 3 starts fetching the parent's image (R502). -/
def execFwFetchParent (u : UnitSel) (e : Envelope) (s : State) : Host.Outcome State Fault Refusal := .next (s.writeNum u e oFwCtrl 3)

/-- FW_DISCARD_STAGING: FW.CTRL 4 discards staging (R502). -/
def execFwDiscardStaging (u : UnitSel) (e : Envelope) (s : State) : Host.Outcome State Fault Refusal := .next (s.writeNum u e oFwCtrl 4)

/-- FW_FETCH_DONE: The fetch from the parent is complete (R502). -/
def execFwFetchDone (readError : Bool) (image : Bytes) (s : State) : Host.Outcome State Fault Refusal := .next (s.onFb (fun f => f.fwFetched readError image))

/-- FW_FLASH_WRITE_DONE: A flash write and its read-back are complete (R502). -/
def execFwFlashWriteDone (back : Bytes) (s : State) : Host.Outcome State Fault Refusal := .next (s.onFb (fun f => f.fwWritten back))

/-- FW_KEY_REVOKE: A write of true to FW.KEY_REVOKE (R498). -/
def execFwKeyRevoke (u : UnitSel) (e : Envelope) (s : State) : Host.Outcome State Fault Refusal := .next (s.writeNum u e oFwKeyRevoke 1)

/-- RECOVERY_SOURCE_TIMEOUT: 5 s without an answer of a recovery source (R500). -/
def execRecoverySourceTimeout (s : State) : Host.Outcome State Fault Refusal := .next (s.onFbAny (fun f => f.recoveryTimeout))

/-- RECOVERY_ROUND_WAIT: 10 s after a failed round of recovery (R500). -/
def execRecoveryRoundWait (s : State) : Host.Outcome State Fault Refusal := .next (s.onFbAny (fun f => f.recoveryRound))

/-- FW_ACTIVATE_LAG_TIMEOUT: 100 ms after an activation instant with Sundog lag (R503). -/
def execFwActivateLagTimeout (s : State) : Host.Outcome State Fault Refusal := .next (s.onFb (fun f => f.activateTimeout))

end Sys2Proof.Machine
end

