-- ==== Sys2Proof/Machine/HorizonCommands.lean ====
section
/-! DEFINITION. Commands of Horizon (spec/17). Every command completes; one that names nothing there is, or an event that is not due, changes nothing. -/
namespace Sys2Proof.Machine

/-- HORIZON_ADOPT: A write to HORIZON.ADOPT (R449). -/
def execHorizonAdopt (u : UnitSel) (e : Envelope) (index : Nat) (s : State) : Host.Outcome State Fault Refusal := .next (s.writeNum u e oHorizonAdopt index)

/-- END_PROBATION: A write to HORIZON.END_PROBATION (R450). -/
def execEndProbation (u : UnitSel) (e : Envelope) (index : Nat) (s : State) : Host.Outcome State Fault Refusal := .next (s.writeNum u e oHorizonEndProbation index)

/-- DISCOVERY_WAIT_EXPIRE: HORIZON.DISCOVERY_WAIT (R446). -/
def execDiscoveryWaitExpire (s : State) : Host.Outcome State Fault Refusal := .next (s.onFb (fun f => f.discoveryExpire))

/-- ABSENT_AFTER_EXPIRE: HORIZON.ABSENT_AFTER of a member's link out of Up (R446). -/
def execAbsentAfterExpire (s : State) : Host.Outcome State Fault Refusal := .next (s.onFb (fun f => f.absentExpire))

/-- PROBATION_TIME_EXPIRE: HORIZON.PROBATION_TIME with Meridian off (R450). -/
def execProbationTimeExpire (s : State) : Host.Outcome State Fault Refusal := .next (s.onFb (fun f => f.probationTime))

end Sys2Proof.Machine
end

