-- ==== Sys2Proof/Machine/JetCommands.lean ====
section
/-! DEFINITION. Commands of ingest and Jetstream (spec/12). Every command completes; one that names nothing there is, or an event that is not due, changes nothing. -/
namespace Sys2Proof.Machine

/-- INGEST_TAKE: An ingest engine takes its next record (R313–R321). -/
def execIngestTake (engine : Nat) (s : State) : Host.Outcome State Fault Refusal := .next (s.onFb (fun f => f.ingestTake engine))

/-- PORT_FRAME_START: A port starts a frame of class C, S or T (R327). -/
def execPortFrameStart (port : Nat) (s : State) : Host.Outcome State Fault Refusal := .next (s.onFb (fun f => f.onG (fun g => g.portFrame port)))

/-- PORT_ALARM_SEND: A port sends its waiting class A records (R327). -/
def execPortAlarmSend (port : Nat) (s : State) : Host.Outcome State Fault Refusal := .next (s.onFb (fun f => f.onG (fun g => g.portAlarm port)))

/-- GCL_TAKEOVER: The base time of a pending gate control list (R329). -/
def execGclTakeover (port : Nat) (s : State) : Host.Outcome State Fault Refusal := .next (s.onFb (fun f => f.onG (fun g => g.gclTakeover port)))

/-- GCL_ENTRY_EXPIRE: A gate control entry's interval ends (R329). -/
def execGclEntryExpire (port : Nat) (s : State) : Host.Outcome State Fault Refusal := .next (s.onFb (fun f => f.onG (fun g => g.gclNext port)))

/-- SHAPER_ELIGIBLE: A shaped queue's wheel slot (R330). -/
def execShaperEligible (idx : Nat) (port : Nat) (cls : RClass) (s : State) : Host.Outcome State Fault Refusal := .next (s.onFb (fun f => f.onG (fun g => g.shaperSlot idx port cls.code)))

/-- A_POLICER_REFILL: A class A policer refills (R330). -/
def execAPolicerRefill (idx : Nat) (port : Nat) (s : State) : Host.Outcome State Fault Refusal := .next (s.onFb (fun f => f.onG (fun g => g.policerRefill idx port)))

/-- SUB_IDLE_EXPIRE: JET.SUB_IDLE of empty queues (R324). -/
def execSubIdleExpire (idx : Nat) (port : Nat) (s : State) : Host.Outcome State Fault Refusal := .next (s.onFb (fun f => f.onG (fun g => g.subIdle idx port)))

/-- CLASS_C_QUEUE_DRAIN: A class C queue falls below JET.QUEUE_LIMIT (R328). -/
def execClassCQueueDrain (idx : Nat) (port : Nat) (s : State) : Host.Outcome State Fault Refusal := .next (s.onFb (fun f => f.onG (fun g => g.stallEnd idx port)))

/-- CREDIT_WITHHELD_START: 1 µs with less than 32 slots of class S credit (R322). -/
def execCreditWithheldStart (u : UnitSel) (n : Nat) (s : State) : Host.Outcome State Fault Refusal := .next (s.lane u n (fun _ => laneWithheld))

/-- VANTAGE_MERGE_RELEASE: The merge window of the earliest copies has passed (R333). -/
def execVantageMergeRelease (s : State) : Host.Outcome State Fault Refusal := .next (s.onFb (fun f => f.onG (fun g => g.mergeRelease)))

end Sys2Proof.Machine
end

