-- ==== Sys2Proof/Machine/LoftCommands.lean ====
section
/-! DEFINITION. Commands of Loft (spec/11). Every command completes; one that names nothing there is, or an event that is not due, changes nothing. -/
namespace Sys2Proof.Machine

/-- LOFT_SLOT_LOAD: A write to LOFT.SLOT_LOAD (R301). -/
def execLoftSlotLoad (u : UnitSel) (e : Envelope) (slot : Nat) (chunk : Bytes) (s : State) : Host.Outcome State Fault Refusal := .next (s.write u e (oLoftSlotLoad + slot + 1) chunk)

/-- LOFT_INSTALL: LOFT.SLOT_CTRL 1 checks and places the staged image (R301). -/
def execLoftInstall (u : UnitSel) (e : Envelope) (slot : Nat) (s : State) : Host.Outcome State Fault Refusal := .next (s.writeNum u e (oLoftSlotCtrl + slot + 1) 1)

/-- LOFT_START: LOFT.SLOT_CTRL 2 starts a loaded slot (R301). -/
def execLoftStart (u : UnitSel) (e : Envelope) (slot : Nat) (s : State) : Host.Outcome State Fault Refusal := .next (s.writeNum u e (oLoftSlotCtrl + slot + 1) 2)

/-- LOFT_STOP: LOFT.SLOT_CTRL 3 halts a running slot (R301). -/
def execLoftStop (u : UnitSel) (e : Envelope) (slot : Nat) (s : State) : Host.Outcome State Fault Refusal := .next (s.writeNum u e (oLoftSlotCtrl + slot + 1) 3)

/-- LOFT_UNLOAD: LOFT.SLOT_CTRL 4 frees a slot's window (R301). -/
def execLoftUnload (u : UnitSel) (e : Envelope) (slot : Nat) (s : State) : Host.Outcome State Fault Refusal := .next (s.writeNum u e (oLoftSlotCtrl + slot + 1) 4)

/-- ECALL_DICTIONARY: A program's dictionary call; `inWindow` whether its buffers lie in its window (R302). -/
def execEcallDictionary (slot : Nat) (b : Bytes) (inWindow : Bool) (s : State) : Host.Outcome State Fault Refusal := .next (s.onFb (fun f => f.loftMessage slot b inWindow))

/-- ECALL_SET_OUTPUT: A set-output call (R302). -/
def execEcallSetOutput (slot : Nat) (element : Nat) (value : Nat) (s : State) : Host.Outcome State Fault Refusal := .next (s.onFb (fun f => f.loftOutput slot element value))

/-- ECALL_SLEEP: A sleep call (R302). -/
def execEcallSleep (slot : Nat) (time : Nat) (s : State) : Host.Outcome State Fault Refusal := .next (s.onFb (fun f => f.loftSleep slot time))

/-- ECALL_EXIT: An exit call (R302). -/
def execEcallExit (slot : Nat) (status : Nat) (pc : Nat) (s : State) : Host.Outcome State Fault Refusal := .next (s.onFb (fun f => f.loftExit slot status pc))

/-- ECALL_READ_TIME: A read-time call (R302). -/
def execEcallReadTime (slot : Nat) (s : State) : Host.Outcome State Fault Refusal := .next (s.onFb (fun f => f.loftTime slot))

/-- LOFT_SLEEP_WAKE: A sleeping program's time has come (R302). -/
def execLoftSleepWake (slot : Nat) (s : State) : Host.Outcome State Fault Refusal := .next (s.onFb (fun f => f.loftWake slot))

/-- LOFT_FAULT: A running program faults (R301). -/
def execLoftFault (slot : Nat) (code : Nat) (pc : Nat) (s : State) : Host.Outcome State Fault Refusal := .next (s.onFb (fun f => f.loftFault slot code pc))

/-- LOFT_CPU_SECOND: A new second of LOFT.SLOT_CPU (R302). -/
def execLoftCpuSecond (s : State) : Host.Outcome State Fault Refusal := .next (s.onFb (fun f => f.loftSecond))

end Sys2Proof.Machine
end

