-- ==== Sys2Proof/Machine/SkyCommands.lean ====
section
/-! DEFINITION. Commands of the Sky ports (spec/10). Every command completes; one that names nothing there is, or an event that is not due, changes nothing. -/
namespace Sys2Proof.Machine

/-- SKY_TRAINING_COMPLETE: PHY training of a Sky port is complete (R283–R286). -/
def execSkyTrainingComplete (p : Nat) (s : State) : Host.Outcome State Fault Refusal := .next (s.onFb (fun f => f.onG (fun g => g.skyTrained p)))

/-- SKY_RECORD_FRAME: A frame of kind 0x01: extended records (R287). -/
def execSkyRecordFrame (p : Nat) (h : SkyHead) (l : List ExtRecord) (s : State) : Host.Outcome State Fault Refusal := .next (s.onFb (fun f => f.skyRecords p h l))

/-- SKY_MESSAGE_FRAME: A frame of kind 0x02: one dictionary message (R93, R287). -/
def execSkyMessageFrame (p : Nat) (h : SkyHead) (b : Bytes) (s : State) : Host.Outcome State Fault Refusal := .next (s.onFb (fun f => f.skyMessage p h b))

/-- SKY_CONTROL_FRAME: A frame of kind 0x03: cumulative grants of classes A, C, S and T (R287). -/
def execSkyControlFrame (p : Nat) (h : SkyHead) (a : Nat) (cc : Nat) (ss : Nat) (t : Nat) (s : State) : Host.Outcome State Fault Refusal := .next (s.onFb (fun f => f.skyControlFrame p h a cc ss t))

/-- SKY_CONDENSER_FRAME: A frame of kind 0x04: a Condenser frame (R480–R483). -/
def execSkyCondenserFrame (p : Nat) (h : SkyHead) (b : Bytes) (s : State) : Host.Outcome State Fault Refusal := .next (s.onFb (fun f => f.skyCondenser p h b))

/-- SKY_HELLO_FRAME: A frame of kind 0x06: a hello (R287). -/
def execSkyHelloFrame (p : Nat) (b : Bytes) (s : State) : Host.Outcome State Fault Refusal := .next (s.onFb (fun f => f.skyHelloFrame p b))

/-- SKY_RELAY_FRAME: A frame of kind 0x07 on the Sundog link (R291). -/
def execSkyRelayFrame (p : Nat) (h : SkyHead) (child : Nat) (x : SkyBody) (s : State) : Host.Outcome State Fault Refusal := .next (s.onFb (fun f => f.skyRelay p h child x))

/-- SKY_RTO_EXPIRE: LINK.SKY_RTO without progress of a class's Ack (R287). -/
def execSkyRtoExpire (p : Nat) (cls : RClass) (s : State) : Host.Outcome State Fault Refusal := .next (s.onFb (fun f => f.onG (fun g => g.skyRto p cls.code)))

/-- SKY_DEAD_EXPIRE: LINK.SKY_DEAD without a frame (R288). -/
def execSkyDeadExpire (p : Nat) (s : State) : Host.Outcome State Fault Refusal := .next (s.onFb (fun f => f.onG (fun g => g.skyDead p)))

/-- SKY_LINK_FAULT: A PHY link fault or loss of PCS alignment (R288). -/
def execSkyLinkFault (p : Nat) (s : State) : Host.Outcome State Fault Refusal := .next (s.onFb (fun f => f.onG (fun g => g.skyFault p)))

/-- SKY_LANE_FAULT_HOLD: Lanes faulty for 10 ms (R284). -/
def execSkyLaneFaultHold (p : Nat) (faulty : List Nat) (s : State) : Host.Outcome State Fault Refusal := .next (s.onFb (fun f => f.onG (fun g => g.skyReform p faulty)))

/-- SKY_WIDTH_TRY_EXPIRE: 50 ms of trying one width (R284). -/
def execSkyWidthTryExpire (p : Nat) (s : State) : Host.Outcome State Fault Refusal := .next (s.onFb (fun f => f.onG (fun g => g.skyWidthTry p)))

/-- PREEMPT_VERIFY_DONE: 802.3br verification ends (R286). -/
def execPreemptVerifyDone (p : Nat) (ok : Bool) (s : State) : Host.Outcome State Fault Refusal := .next (s.onFb (fun f => f.onG (fun g => g.preemptDone p ok)))

/-- FAILBACK_DRAIN_DONE: P1 has acknowledged all frames of a class (R290). -/
def execFailbackDrainDone (cls : RClass) (s : State) : Host.Outcome State Fault Refusal := .next (s.onFb (fun f => f.onG (fun g => g.failbackDone cls.code)))

/-- SKY_IDLE_CONTROL: 2 µs with nothing to send (R287). -/
def execSkyIdleControl (p : Nat) (s : State) : Host.Outcome State Fault Refusal := .next (s.onFb (fun f => f.onG (fun g => g.skyIdle p)))

/-- FAILOVER_HOLD_EXPIRE: P0 has been out of Up for LINK.FAILOVER_HOLD (R289). -/
def execFailoverHoldExpire (s : State) : Host.Outcome State Fault Refusal := .next (s.onFb (fun f => f.onG (fun g => g.failoverHold)))

/-- FAILBACK_HOLD_EXPIRE: P0 has been Up for LINK.FAILBACK_HOLD (R290). -/
def execFailbackHoldExpire (s : State) : Host.Outcome State Fault Refusal := .next (s.onFb (fun f => f.onG (fun g => g.failbackHold)))

end Sys2Proof.Machine
end

