-- ==== Sys2Proof/Machine/StepCommands.lean ====
section
/-! DEFINITION. Commands of Meridian (spec/05). Every command completes; one that names nothing there is, or an event that is not due, changes nothing. -/
namespace Sys2Proof.Machine

/-- STEP_MARKER: A `STEP_PULSE` marker (R158–R163, R532). -/
def execStepMarker (num : Nat) (s : State) : Host.Outcome State Fault Refusal := .next (s.onOv (fun o => o.marker num false))

/-- SOFT_MARKER: A write to ANGLE.SOFT_MARKER (R175). -/
def execSoftMarker (u : UnitSel) (e : Envelope) (step : Nat) (s : State) : Host.Outcome State Fault Refusal := .next (s.writeNum u e oAngleSoftMarker step)

/-- ANGLE_STALL: The angle reaches 0xFFFF_FFFF without a marker (R160). -/
def execAngleStall (u : UnitSel) (s : State) : Host.Outcome State Fault Refusal := .next (s.onCore u (fun c => c.stall))

/-- MARKER_OVERDUE: 16 × L without a marker in Stalled (R162). -/
def execMarkerOverdue (u : UnitSel) (s : State) : Host.Outcome State Fault Refusal := .next (s.onCore u (fun c => c.overdue))

/-- MARKER_REPORT_ARRIVAL: A member's marker report (R171–R173). -/
def execMarkerReportArrival (member : Nat) (step : Nat) (time : Nat) (s : State) : Host.Outcome State Fault Refusal := .next (s.onFb (fun f => f.markerReport member step time))

/-- ANGLE_ENTRY_HANDOFF: Angle entries ANGLE.ARM_LEAD before their fire times (R161, R166). -/
def execAngleEntryHandoff (s : State) : Host.Outcome State Fault Refusal := .next (s.onOv (fun o => o.handAngle (o.core.ns + o.core.num oAngleArmLead)))

/-- TIME_ENTRY_HANDOFF: Time entries ANGLE.ARM_LEAD before their matching instants (R165, R166, R534). -/
def execTimeEntryHandoff (s : State) : Host.Outcome State Fault Refusal := .next (s.onOv (fun o => o.handTimed))

/-- GROUP_WAIT_EXPIRE: Marker windows open for ANGLE.GROUP_WAIT (R171). -/
def execGroupWaitExpire (s : State) : Host.Outcome State Fault Refusal := .next (s.onFb (fun f => f.windowWait))

/-- GROUP_ENTRY_FIRE: Group schedule entries at their fire times (R533). -/
def execGroupEntryFire (s : State) : Host.Outcome State Fault Refusal := .next (s.onFb (fun f => f.fireEntries f.ns true))

end Sys2Proof.Machine
end

