-- ==== Sys2Proof/Machine/SundogCommands.lean ====
section
/-! DEFINITION. Commands of Sundog (spec/16). Every command completes; one that names nothing there is, or an event that is not due, changes nothing. -/
namespace Sys2Proof.Machine

/-- SUNDOG_JOURNAL_ITEM: A journal item (R429). -/
def execSundogJournalItem (p : Nat) (h : SkyHead) (x : Transfer) (s : State) : Host.Outcome State Fault Refusal := .next (s.onFb (fun f => f.sunItem p h x))

/-- SUNDOG_JOURNAL_ACK: A journal acknowledgement (R429). -/
def execSundogJournalAck (p : Nat) (h : SkyHead) (x : Transfer) (s : State) : Host.Outcome State Fault Refusal := .next (s.onFb (fun f => f.sunAck p h x))

/-- SUNDOG_REFILL_CHUNK: A refill chunk (R433). -/
def execSundogRefillChunk (p : Nat) (h : SkyHead) (x : Transfer) (s : State) : Host.Outcome State Fault Refusal := .next (s.onFb (fun f => f.sunRefillChunk p h x))

/-- SUNDOG_REFILL_DONE: Refill done (R433). -/
def execSundogRefillDone (p : Nat) (h : SkyHead) (x : Transfer) (s : State) : Host.Outcome State Fault Refusal := .next (s.onFb (fun f => f.sunRefillDone p h x))

/-- SUNDOG_SNAPSHOT_CHUNK: A snapshot chunk (R431, R434). -/
def execSundogSnapshotChunk (p : Nat) (h : SkyHead) (x : Transfer) (s : State) : Host.Outcome State Fault Refusal := .next (s.onFb (fun f => f.sunSnapChunk p h x))

/-- SUNDOG_SNAPSHOT_DONE: Snapshot done (R431, R434). -/
def execSundogSnapshotDone (p : Nat) (h : SkyHead) (x : Transfer) (s : State) : Host.Outcome State Fault Refusal := .next (s.onFb (fun f => f.sunSnapDone p h x))

/-- SUNDOG_HELLO: A Sundog hello (R430). -/
def execSundogHello (p : Nat) (h : SkyHead) (x : Transfer) (s : State) : Host.Outcome State Fault Refusal := .next (s.onFb (fun f => f.sunHello p h x))

/-- SUNDOG_HAND_BACK: A hand-back (R432). -/
def execSundogHandBack (p : Nat) (h : SkyHead) (x : Transfer) (s : State) : Host.Outcome State Fault Refusal := .next (s.onFb (fun f => f.sunHandBack p h x))

/-- TAKEOVER_REQUEST: A takeover request for the group at `path` by the one at `host` (R432). -/
def execTakeoverRequest (path : Nat) (host : Nat) (s : State) : Host.Outcome State Fault Refusal := .next (s.onFb (fun f => f.takeoverRequest path host))

/-- TAKEOVER_GRANT: The common parent's answer (R432). -/
def execTakeoverGrant (path : Nat) (granted : Bool) (s : State) : Host.Outcome State Fault Refusal := .next (s.onFb (fun f => f.takeoverGrant path granted))

/-- SUNDOG_TAKEOVER_WRITE: A write to SUNDOG.TAKEOVER (R432). -/
def execSundogTakeoverWrite (u : UnitSel) (e : Envelope) (path : Nat) (s : State) : Host.Outcome State Fault Refusal := .next (s.writeNum u e oSundogTakeover path)

/-- SNAPSHOT_PUSH_TIMER: The snapshot interval has passed (R431). -/
def execSnapshotPushTimer (s : State) : Host.Outcome State Fault Refusal := .next (s.onFb (fun f => f.snapshotTimer))

/-- TAKEOVER_HOLD_EXPIRE: SUNDOG.TAKEOVER_HOLD of the Sundog link down (R432). -/
def execTakeoverHoldExpire (s : State) : Host.Outcome State Fault Refusal := .next (s.onFb (fun f => f.takeoverHold))

end Sys2Proof.Machine
end

