-- ==== Sys2Proof/Machine/TimeCommands.lean ====
section
/-! DEFINITION. Commands of Halo time and the Vantage outputs (spec/04). Every command completes; one that names nothing there is, or an event that is not due, changes nothing. -/
namespace Sys2Proof.Machine

/-- PTP_EVENT_MESSAGE: A PTP message on a Sky port, or on management port 24 or 25 (R140, R128). -/
def execPtpEventMessage (p : Nat) (m : PtpMsg) (s : State) : Host.Outcome State Fault Refusal := .next (s.onFb (fun f => f.onG (fun g => g.ptp p m)))

/-- TIME_RSP_ITEM: A TIME_RSP item (R133, R136, R137). -/
def execTimeRspItem (n : Nat) (item : Nat) (s : State) : Host.Outcome State Fault Refusal := .next (s.onFb (fun f => f.item n (item / 256 * 256 + 3)))

/-- TIME_REQ_DUE: TIME.SYNC_INTERVAL has passed on a Drizzle lane (R136). -/
def execTimeReqDue (n : Nat) (s : State) : Host.Outcome State Fault Refusal := .next (s.onFb (fun f => f.onG (fun g => g.timeReq n)))

/-- FORCE_HOLDOVER: A write of 1 to TIME.FORCE_STATE (R531). -/
def execForceHoldover (u : UnitSel) (e : Envelope) (s : State) : Host.Outcome State Fault Refusal := .next (s.writeNum u e oTimeForceState 1)

/-- FORCE_ACQUIRE: A write of 2 to TIME.FORCE_STATE (R531). -/
def execForceAcquire (u : UnitSel) (e : Envelope) (s : State) : Host.Outcome State Fault Refusal := .next (s.writeNum u e oTimeForceState 2)

/-- SERVO_ITEM: A SERVO item at the Ovtan (R133, R138, R271). -/
def execServoItem (item : Nat) (s : State) : Host.Outcome State Fault Refusal := .next (s.onOv (fun o => o.item (item / 256 * 256 + 4)))

/-- STEP_ITEM: A STEP item at the Ovtan (R134, R271). -/
def execStepItem (item : Nat) (s : State) : Host.Outcome State Fault Refusal := .next (s.onOv (fun o => o.item (item / 256 * 256 + 5)))

/-- HOLDOVER_LIMIT: 24 h in holdover (R130). -/
def execHoldoverLimit (u : UnitSel) (s : State) : Host.Outcome State Fault Refusal := .next (s.on u (fun o => o.holdoverLimit) (fun f => f.onG (fun g => g.holdoverLimit)))

/-- TRIGGER_FIRE: A firing time of a mode 1 trigger (R151–R153). -/
def execTriggerFire (k : Nat) (s : State) : Host.Outcome State Fault Refusal := .next (s.onFb (fun f => f.onG (fun g => g.trigDue k)))

/-- TRIGGER_ANGLE_FIRE: The angle of a mode 2 trigger in a step it selects (R152, R153). -/
def execTriggerAngleFire (k : Nat) (s : State) : Host.Outcome State Fault Refusal := .next (s.onFb (fun f => f.onG (fun g => g.trigAngle k)))

/-- TRIGGER_PULSE_END: A trigger pulse's width has passed (R151). -/
def execTriggerPulseEnd (k : Nat) (s : State) : Host.Outcome State Fault Refusal := .next (s.onFb (fun f => f.onG (fun g => g.trigEnd k)))

/-- PTP_SYNC_DUE: A PTP interval of a port has passed (R140). -/
def execPtpSyncDue (p : Nat) (s : State) : Host.Outcome State Fault Refusal := .next (s.onFb (fun f => f.onG (fun g => g.ptpDue p)))

/-- PHASE_SOURCE_LOSS: Three sync intervals without the phase source (R128, Table 4.2). -/
def execPhaseSourceLoss (s : State) : Host.Outcome State Fault Refusal := .next (s.onFb (fun f => f.onG (fun g => g.phaseLoss)))

/-- RACK_REF_LOST: The rack reference is lost (R128, R515). -/
def execRackRefLost (s : State) : Host.Outcome State Fault Refusal := .next (s.rackRef false)

/-- RACK_REF_RETURN: The rack reference returns (R128, R515). -/
def execRackRefReturn (s : State) : Host.Outcome State Fault Refusal := .next (s.rackRef true)

/-- PPS_IN_EDGE: A rising edge of the 1PPS input (R125, R140). -/
def execPpsInEdge (s : State) : Host.Outcome State Fault Refusal := .next (s.onFb (fun f => f.onG (fun g => g.ppsIn)))

/-- TOD_SET_TIMEOUT: 2 s without an edge after a TIME.TOD_SET commit (R125). -/
def execTodSetTimeout (s : State) : Host.Outcome State Fault Refusal := .next (s.onFb (fun f => f.onG (fun g => g.todTimeout)))

/-- FULL_TIME_DUE: TIME.FULL_INTERVAL has passed with the lane up (R143). -/
def execFullTimeDue (s : State) : Host.Outcome State Fault Refusal := .next (s.onOv (fun o => o.fullTimeDue))

/-- OVTAN_LANE_HOLDOVER: The Ovtan's lane has been down for 3 sync intervals (R138). -/
def execOvtanLaneHoldover (s : State) : Host.Outcome State Fault Refusal := .next (s.onOv (fun o => o.laneHoldover))

/-- PPS_OUT_PULSE: A whole second of Halo time (R150). -/
def execPpsOutPulse (s : State) : Host.Outcome State Fault Refusal := .next (s.onFb (fun f => f.onG (fun g => g.ppsOut)))

/-- PPS_OUT_WIDTH_END: VANTAGE.PPS_OUT_WIDTH after a whole second (R150). -/
def execPpsOutWidthEnd (s : State) : Host.Outcome State Fault Refusal := .next (s.onFb (fun f => f.onG (fun g => g.ppsFallDue)))

end Sys2Proof.Machine
end

