-- ==== Sys2Proof/Machine/TraceCommands.lean ====
section
/-! DEFINITION. Commands of the Ovtan's trace and of trace export (spec/07). Every command completes; one that names nothing there is, or an event that is not due, changes nothing. -/
namespace Sys2Proof.Machine

/-- TAP_DESCRIPTOR: A tap presents a descriptor, with the level of `TRACE_AUTH` (R201–R208). -/
def execTapDescriptor (tap : Nat) (d : U128) (auth : Bool) (stretch : Bool) (s : State) : Host.Outcome State Fault Refusal := .next (s.onOv (fun o => o.tapDescriptor tap d auth stretch))

/-- TRACE_ARM: A write of 1 to TRACE.ARM (R207). -/
def execTraceArm (u : UnitSel) (e : Envelope) (s : State) : Host.Outcome State Fault Refusal := .next (s.writeNum u e oTraceArm 1)

/-- TRACE_FORCE_TRIGGER: A write of 2 to TRACE.ARM (R207). -/
def execTraceForceTrigger (u : UnitSel) (e : Envelope) (s : State) : Host.Outcome State Fault Refusal := .next (s.writeNum u e oTraceArm 2)

/-- TRACE_STOP: A write of 3 to TRACE.ARM (R207). -/
def execTraceStop (u : UnitSel) (e : Envelope) (s : State) : Host.Outcome State Fault Refusal := .next (s.writeNum u e oTraceArm 3)

/-- TRACE_PERIODIC_SYNC: A tap has reached TRACE.SYNC_INTERVAL records (R211). -/
def execTracePeriodicSync (tap : Nat) (s : State) : Host.Outcome State Fault Refusal := .next (s.onOv (fun o => o.onTrace (fun x => x.syncDue tap)))

/-- PD_REQ_RISE: `PD_REQ[d]` rises (R212). -/
def execPdReqRise (d : Nat) (s : State) : Host.Outcome State Fault Refusal := .next (s.onOvAny (fun o => o.onPower (fun x => x.pdRise d)))

/-- FLUSH_COMPLETE: The flush of domain d is complete (R212, R214). -/
def execFlushComplete (d : Nat) (s : State) : Host.Outcome State Fault Refusal := .next (s.onOvAny (fun o => o.onPower (fun x => x.pdComplete d)))

/-- PD_REQ_FALL: `PD_REQ[d]` falls after `PD_ACK[d]` has risen (R213). -/
def execPdReqFall (d : Nat) (s : State) : Host.Outcome State Fault Refusal := .next (s.onOvAny (fun o => o.onPower (fun x => x.pdFall d true)))

/-- DOMAIN_WAKE_EDGE: First clock edge of a waking domain (R213). -/
def execDomainWakeEdge (d : Nat) (s : State) : Host.Outcome State Fault Refusal := .next (s.onOvAny (fun o => o.onPower (fun x => x.pdWake d)))

/-- PD_REQ_WITHDRAWN: `PD_REQ[d]` falls before `PD_ACK[d]` rises (R214). -/
def execPdReqWithdrawn (d : Nat) (s : State) : Host.Outcome State Fault Refusal := .next (s.onOvAny (fun o => o.onPower (fun x => x.pdFall d false)))

/-- PD_EDGE_TIMEOUT: 1.5 µs of a flush without a domain clock edge (R253). -/
def execPdEdgeTimeout (d : Nat) (s : State) : Host.Outcome State Fault Refusal := .next (s.onOvAny (fun o => o.onPower (fun x => x.pdEdgeTimeout d)))

/-- CG_NOTE_CHANGE: A `CG_NOTE` line changes (R189, R251). -/
def execCgNoteChange (d : Nat) (level : Bool) (s : State) : Host.Outcome State Fault Refusal := .next (s.onOvAny (fun o => o.cgNote d level))

/-- TRACE_EXPORT_START: A TRACE.EXPORT descriptor (R217). -/
def execTraceExportStart (u : UnitSel) (e : Envelope) (desc : Bytes) (s : State) : Host.Outcome State Fault Refusal := .next (s.write u e oTraceExport desc)

/-- TRACE_EXPORT_CANCEL: A TRACE.EXPORT descriptor with destination 0 (R217). -/
def execTraceExportCancel (u : UnitSel) (e : Envelope) (s : State) : Host.Outcome State Fault Refusal := .next (s.write u e oTraceExport (zeros 32))

/-- TRACE_INJECT: A write to TRACE.INJECT, with the level of `TRACE_AUTH` (R201). -/
def execTraceInject (u : UnitSel) (e : Envelope) (value : Bytes) (auth : Bool) (s : State) : Host.Outcome State Fault Refusal := .next ((match u with | .ovtan => s.traceAuth auth | .fabato => s).write u e oTraceInject value)

/-- FUNNEL_TAKE: The Funnel takes the earliest queued descriptor (R209). -/
def execFunnelTake (s : State) : Host.Outcome State Fault Refusal := .next (s.onOv (fun o => o.onTrace (fun x => x.take)))

/-- TRACE_ACCOUNT_INTERVAL: TRACE.ACCOUNT_INTERVAL has passed (R210). -/
def execTraceAccountInterval (s : State) : Host.Outcome State Fault Refusal := .next (s.onOv (fun o => o.onTrace (fun x => x.accountDue)))

/-- TRACE_EXPORT_DONE: A running export has sent its records (R217). -/
def execTraceExportDone (s : State) : Host.Outcome State Fault Refusal := .next (s.onFb (fun f => f.exportDone))

end Sys2Proof.Machine
end

