-- ==== Sys2Proof/Machine/Dispatch.lean ====
section
/-! DEFINITION. The meaning of every command: one arm for each constructor. -/
namespace Sys2Proof.Machine

/-- The effect of a command on everything but the queue. -/
def exec (i : Instr) (s : State) : Host.Outcome State Fault Refusal :=
  match i with
  | .dictRead u e items => Sys2Proof.Machine.execDictRead u e items s
  | .objectWrite u e items => Sys2Proof.Machine.execObjectWrite u e items s
  | .dictList u e area start => Sys2Proof.Machine.execDictList u e area start s
  | .commitDiscard u e => Sys2Proof.Machine.execCommitDiscard u e s
  | .commitAtStep u e id step => Sys2Proof.Machine.execCommitAtStep u e id step s
  | .commitAtTime u e id time => Sys2Proof.Machine.execCommitAtTime u e id time s
  | .commitCancel u e id => Sys2Proof.Machine.execCommitCancel u e id s
  | .timeCommitInstant u => Sys2Proof.Machine.execTimeCommitInstant u s
  | .forwardResponse e opcode summary body => Sys2Proof.Machine.execForwardResponse e opcode summary body s
  | .keptResponseExpire u => Sys2Proof.Machine.execKeptResponseExpire u s
  | .identRestart u e => Sys2Proof.Machine.execIdentRestart u e s
  | .sessionHello u e body => Sys2Proof.Machine.execSessionHello u e body s
  | .sessionProof u e body => Sys2Proof.Machine.execSessionProof u e body s
  | .sessionClose u e => Sys2Proof.Machine.execSessionClose u e s
  | .handshakeExpire u id => Sys2Proof.Machine.execHandshakeExpire u id s
  | .sessionIdleTimeout u id => Sys2Proof.Machine.execSessionIdleTimeout u id s
  | .sessionLifetimeEnd u id => Sys2Proof.Machine.execSessionLifetimeEnd u id s
  | .closeSessionWrite u e id => Sys2Proof.Machine.execCloseSessionWrite u e id s
  | .linkHandshakeReply port path opcode body => Sys2Proof.Machine.execLinkHandshakeReply port path opcode body s
  | .lockoutEnd u port role => Sys2Proof.Machine.execLockoutEnd u port role s
  | .traceGrantWrite u e seconds => Sys2Proof.Machine.execTraceGrantWrite u e seconds s
  | .ptpEventMessage p m => Sys2Proof.Machine.execPtpEventMessage p m s
  | .timeRspItem n item => Sys2Proof.Machine.execTimeRspItem n item s
  | .timeReqDue n => Sys2Proof.Machine.execTimeReqDue n s
  | .forceHoldover u e => Sys2Proof.Machine.execForceHoldover u e s
  | .forceAcquire u e => Sys2Proof.Machine.execForceAcquire u e s
  | .servoItem item => Sys2Proof.Machine.execServoItem item s
  | .stepItem item => Sys2Proof.Machine.execStepItem item s
  | .holdoverLimit u => Sys2Proof.Machine.execHoldoverLimit u s
  | .triggerFire k => Sys2Proof.Machine.execTriggerFire k s
  | .triggerAngleFire k => Sys2Proof.Machine.execTriggerAngleFire k s
  | .triggerPulseEnd k => Sys2Proof.Machine.execTriggerPulseEnd k s
  | .stepMarker num => Sys2Proof.Machine.execStepMarker num s
  | .softMarker u e step => Sys2Proof.Machine.execSoftMarker u e step s
  | .angleStall u => Sys2Proof.Machine.execAngleStall u s
  | .markerOverdue u => Sys2Proof.Machine.execMarkerOverdue u s
  | .markerReportArrival member step time => Sys2Proof.Machine.execMarkerReportArrival member step time s
  | .eventInput bus bits parity => Sys2Proof.Machine.execEventInput bus bits parity s
  | .sensorConversion ch code valid => Sys2Proof.Machine.execSensorConversion ch code valid s
  | .fmonWindowEnd m cycles stretch => Sys2Proof.Machine.execFmonWindowEnd m cycles stretch s
  | .programErrorWord uncorrectable => Sys2Proof.Machine.execProgramErrorWord uncorrectable s
  | .pendingGapEmit cls => Sys2Proof.Machine.execPendingGapEmit cls s
  | .tapDescriptor tap d auth stretch => Sys2Proof.Machine.execTapDescriptor tap d auth stretch s
  | .traceArm u e => Sys2Proof.Machine.execTraceArm u e s
  | .traceForceTrigger u e => Sys2Proof.Machine.execTraceForceTrigger u e s
  | .traceStop u e => Sys2Proof.Machine.execTraceStop u e s
  | .tracePeriodicSync tap => Sys2Proof.Machine.execTracePeriodicSync tap s
  | .pdReqRise d => Sys2Proof.Machine.execPdReqRise d s
  | .flushComplete d => Sys2Proof.Machine.execFlushComplete d s
  | .pdReqFall d => Sys2Proof.Machine.execPdReqFall d s
  | .domainWakeEdge d => Sys2Proof.Machine.execDomainWakeEdge d s
  | .pdReqWithdrawn d => Sys2Proof.Machine.execPdReqWithdrawn d s
  | .pdEdgeTimeout d => Sys2Proof.Machine.execPdEdgeTimeout d s
  | .cgNoteChange d level => Sys2Proof.Machine.execCgNoteChange d level s
  | .traceExportStart u e desc => Sys2Proof.Machine.execTraceExportStart u e desc s
  | .traceExportCancel u e => Sys2Proof.Machine.execTraceExportCancel u e s
  | .traceInject u e value auth => Sys2Proof.Machine.execTraceInject u e value auth s
  | .dewFeedByte u e ch value => Sys2Proof.Machine.execDewFeedByte u e ch value s
  | .dewFeedHalfWord u e ch value => Sys2Proof.Machine.execDewFeedHalfWord u e ch value s
  | .dewFeedWord u e ch value => Sys2Proof.Machine.execDewFeedWord u e ch value s
  | .dewByteProcess ch => Sys2Proof.Machine.execDewByteProcess ch s
  | .dewResultRead u e ch => Sys2Proof.Machine.execDewResultRead u e ch s
  | .dewReset u e ch => Sys2Proof.Machine.execDewReset u e ch s
  | .dmaGo u e ch => Sys2Proof.Machine.execDmaGo u e ch s
  | .dmaStop u e ch => Sys2Proof.Machine.execDmaStop u e ch s
  | .memReadResponse id data err => Sys2Proof.Machine.execMemReadResponse id data err s
  | .memWriteResponse id err => Sys2Proof.Machine.execMemWriteResponse id err s
  | .memTimeout id => Sys2Proof.Machine.execMemTimeout id s
  | .dpGo u e => Sys2Proof.Machine.execDpGo u e s
  | .mailboxFrame tag b => Sys2Proof.Machine.execMailboxFrame tag b s
  | .fuseImageFrame tag image => Sys2Proof.Machine.execFuseImageFrame tag image s
  | .statusFrame tag len => Sys2Proof.Machine.execStatusFrame tag len s
  | .ovtanSelfTestDone counters cols => Sys2Proof.Machine.execOvtanSelfTestDone counters cols s
  | .dzTrainingComplete u n => Sys2Proof.Machine.execDzTrainingComplete u n s
  | .dzTrainTimeout u n => Sys2Proof.Machine.execDzTrainTimeout u n s
  | .blockReceive u n hdr symbols uncorr flits => Sys2Proof.Machine.execBlockReceive u n hdr symbols uncorr flits s
  | .dzAlignTimeout u n => Sys2Proof.Machine.execDzAlignTimeout u n s
  | .dzFastRetrainComplete u n => Sys2Proof.Machine.execDzFastRetrainComplete u n s
  | .dzRetrainTimeout u n => Sys2Proof.Machine.execDzRetrainTimeout u n s
  | .dzForceRetrain u e n => Sys2Proof.Machine.execDzForceRetrain u e n s
  | .peerTrainingSeen u n => Sys2Proof.Machine.execPeerTrainingSeen u n s
  | .dataFlitReceive u n b => Sys2Proof.Machine.execDataFlitReceive u n b s
  | .creditItem u n item => Sys2Proof.Machine.execCreditItem u n item s
  | .timeReqItem item => Sys2Proof.Machine.execTimeReqItem item s
  | .helloUidItem u n item => Sys2Proof.Machine.execHelloUidItem u n item s
  | .helloInfoItem u n item => Sys2Proof.Machine.execHelloInfoItem u n item s
  | .resumeItem u n item => Sys2Proof.Machine.execResumeItem u n item s
  | .flitTransmit u n slot0 => Sys2Proof.Machine.execFlitTransmit u n slot0 s
  | .retryTimeout u n => Sys2Proof.Machine.execRetryTimeout u n s
  | .skyTrainingComplete p => Sys2Proof.Machine.execSkyTrainingComplete p s
  | .skyRecordFrame p h l => Sys2Proof.Machine.execSkyRecordFrame p h l s
  | .skyMessageFrame p h b => Sys2Proof.Machine.execSkyMessageFrame p h b s
  | .skyControlFrame p h a cc ss t => Sys2Proof.Machine.execSkyControlFrame p h a cc ss t s
  | .skyCondenserFrame p h b => Sys2Proof.Machine.execSkyCondenserFrame p h b s
  | .skyHelloFrame p b => Sys2Proof.Machine.execSkyHelloFrame p b s
  | .skyRelayFrame p h child x => Sys2Proof.Machine.execSkyRelayFrame p h child x s
  | .skyRtoExpire p cls => Sys2Proof.Machine.execSkyRtoExpire p cls s
  | .skyDeadExpire p => Sys2Proof.Machine.execSkyDeadExpire p s
  | .skyLinkFault p => Sys2Proof.Machine.execSkyLinkFault p s
  | .skyLaneFaultHold p faulty => Sys2Proof.Machine.execSkyLaneFaultHold p faulty s
  | .skyWidthTryExpire p => Sys2Proof.Machine.execSkyWidthTryExpire p s
  | .preemptVerifyDone p ok => Sys2Proof.Machine.execPreemptVerifyDone p ok s
  | .failbackDrainDone cls => Sys2Proof.Machine.execFailbackDrainDone cls s
  | .skyIdleControl p => Sys2Proof.Machine.execSkyIdleControl p s
  | .workUnitDispatch cell => Sys2Proof.Machine.execWorkUnitDispatch cell s
  | .workUnitDone handle outcome busy => Sys2Proof.Machine.execWorkUnitDone handle outcome busy s
  | .blockIdleTimeout u element => Sys2Proof.Machine.execBlockIdleTimeout u element s
  | .blockWakeDone u element => Sys2Proof.Machine.execBlockWakeDone u element s
  | .loftSlotLoad u e slot chunk => Sys2Proof.Machine.execLoftSlotLoad u e slot chunk s
  | .loftInstall u e slot => Sys2Proof.Machine.execLoftInstall u e slot s
  | .loftStart u e slot => Sys2Proof.Machine.execLoftStart u e slot s
  | .loftStop u e slot => Sys2Proof.Machine.execLoftStop u e slot s
  | .loftUnload u e slot => Sys2Proof.Machine.execLoftUnload u e slot s
  | .ecallDictionary slot b inWindow => Sys2Proof.Machine.execEcallDictionary slot b inWindow s
  | .ecallSetOutput slot element value => Sys2Proof.Machine.execEcallSetOutput slot element value s
  | .ecallSleep slot time => Sys2Proof.Machine.execEcallSleep slot time s
  | .ecallExit slot status pc => Sys2Proof.Machine.execEcallExit slot status pc s
  | .ecallReadTime slot => Sys2Proof.Machine.execEcallReadTime slot s
  | .loftSleepWake slot => Sys2Proof.Machine.execLoftSleepWake slot s
  | .loftFault slot code pc => Sys2Proof.Machine.execLoftFault slot code pc s
  | .ingestTake engine => Sys2Proof.Machine.execIngestTake engine s
  | .portFrameStart port => Sys2Proof.Machine.execPortFrameStart port s
  | .portAlarmSend port => Sys2Proof.Machine.execPortAlarmSend port s
  | .gclTakeover port => Sys2Proof.Machine.execGclTakeover port s
  | .gclEntryExpire port => Sys2Proof.Machine.execGclEntryExpire port s
  | .shaperEligible idx port cls => Sys2Proof.Machine.execShaperEligible idx port cls s
  | .aPolicerRefill idx port => Sys2Proof.Machine.execAPolicerRefill idx port s
  | .subIdleExpire idx port => Sys2Proof.Machine.execSubIdleExpire idx port s
  | .classCQueueDrain idx port => Sys2Proof.Machine.execClassCQueueDrain idx port s
  | .creditWithheldStart u n => Sys2Proof.Machine.execCreditWithheldStart u n s
  | .reductionContribution n => Sys2Proof.Machine.execReductionContribution n s
  | .anvilWalk m => Sys2Proof.Machine.execAnvilWalk m s
  | .modelLoad u e m chunk => Sys2Proof.Machine.execModelLoad u e m chunk s
  | .modelInstall u e m => Sys2Proof.Machine.execModelInstall u e m s
  | .modelDiscardShadow u e m => Sys2Proof.Machine.execModelDiscardShadow u e m s
  | .modelUnload u e m => Sys2Proof.Machine.execModelUnload u e m s
  | .modelReloadDone m cell => Sys2Proof.Machine.execModelReloadDone m cell s
  | .driftReset u e member => Sys2Proof.Machine.execDriftReset u e member s
  | .shadowDigestsReady handle primary shadow third again againShadow devices => Sys2Proof.Machine.execShadowDigestsReady handle primary shadow third again againShadow devices s
  | .ftRun u e cell => Sys2Proof.Machine.execFtRun u e cell s
  | .ftTestDone result => Sys2Proof.Machine.execFtTestDone result s
  | .ftInject u e value => Sys2Proof.Machine.execFtInject u e value s
  | .tokenRequest path num => Sys2Proof.Machine.execTokenRequest path num s
  | .tokenAnswer sender first second => Sys2Proof.Machine.execTokenAnswer sender first second s
  | .verdictExchange sender first second => Sys2Proof.Machine.execVerdictExchange sender first second s
  | .suspicionNotice sender first second => Sys2Proof.Machine.execSuspicionNotice sender first second s
  | .suspicionClear u e => Sys2Proof.Machine.execSuspicionClear u e s
  | .fenceRelease u e member => Sys2Proof.Machine.execFenceRelease u e member s
  | .fenceForce u e member => Sys2Proof.Machine.execFenceForce u e member s
  | .katFail u e value => Sys2Proof.Machine.execKatFail u e value s
  | .katPass u e value => Sys2Proof.Machine.execKatPass u e value s
  | .contextReadoutDone cell readable => Sys2Proof.Machine.execContextReadoutDone cell readable s
  | .cellReadmit u e cell => Sys2Proof.Machine.execCellReadmit u e cell s
  | .readmitTestDone pass => Sys2Proof.Machine.execReadmitTestDone pass s
  | .laneRestore u e value => Sys2Proof.Machine.execLaneRestore u e value s
  | .sundogJournalItem p h x => Sys2Proof.Machine.execSundogJournalItem p h x s
  | .sundogJournalAck p h x => Sys2Proof.Machine.execSundogJournalAck p h x s
  | .sundogRefillChunk p h x => Sys2Proof.Machine.execSundogRefillChunk p h x s
  | .sundogRefillDone p h x => Sys2Proof.Machine.execSundogRefillDone p h x s
  | .sundogSnapshotChunk p h x => Sys2Proof.Machine.execSundogSnapshotChunk p h x s
  | .sundogSnapshotDone p h x => Sys2Proof.Machine.execSundogSnapshotDone p h x s
  | .sundogHello p h x => Sys2Proof.Machine.execSundogHello p h x s
  | .sundogHandBack p h x => Sys2Proof.Machine.execSundogHandBack p h x s
  | .takeoverRequest path host => Sys2Proof.Machine.execTakeoverRequest path host s
  | .takeoverGrant path granted => Sys2Proof.Machine.execTakeoverGrant path granted s
  | .sundogTakeoverWrite u e path => Sys2Proof.Machine.execSundogTakeoverWrite u e path s
  | .horizonAdopt u e index => Sys2Proof.Machine.execHorizonAdopt u e index s
  | .endProbation u e index => Sys2Proof.Machine.execEndProbation u e index s
  | .cutRequest u e desc => Sys2Proof.Machine.execCutRequest u e desc s
  | .cutArm u e desc => Sys2Proof.Machine.execCutArm u e desc s
  | .cutCancel u e id => Sys2Proof.Machine.execCutCancel u e id s
  | .wfBuild u e value => Sys2Proof.Machine.execWfBuild u e value s
  | .wfMergeWrite u e member summary => Sys2Proof.Machine.execWfMergeWrite u e member summary s
  | .cadenceInterrupt u e tenant => Sys2Proof.Machine.execCadenceInterrupt u e tenant s
  | .cadenceCkptDone u e value => Sys2Proof.Machine.execCadenceCkptDone u e value s
  | .cadenceAck u e num => Sys2Proof.Machine.execCadenceAck u e num s
  | .condenseGatherExpire idx => Sys2Proof.Machine.execCondenseGatherExpire idx s
  | .condenseCtxReset u e idx => Sys2Proof.Machine.execCondenseCtxReset u e idx s
  | .condenseIdleReset idx => Sys2Proof.Machine.execCondenseIdleReset idx s
  | .condenseDecodeIdle idx => Sys2Proof.Machine.execCondenseDecodeIdle idx s
  | .almanacClear u e count => Sys2Proof.Machine.execAlmanacClear u e count s
  | .porRelease mode flashOwned power reference failing margins => Sys2Proof.Machine.execPorRelease mode flashOwned power reference failing margins s
  | .flashImageReadDone readError image => Sys2Proof.Machine.execFlashImageReadDone readError image s
  | .recoveryImageReceived source readError image => Sys2Proof.Machine.execRecoveryImageReceived source readError image s
  | .fabatoSelfTestDone cells loft => Sys2Proof.Machine.execFabatoSelfTestDone cells loft s
  | .fwLoad u e chunk => Sys2Proof.Machine.execFwLoad u e chunk s
  | .fwCheck u e => Sys2Proof.Machine.execFwCheck u e s
  | .fwWriteFlash u e => Sys2Proof.Machine.execFwWriteFlash u e s
  | .fwFetchParent u e => Sys2Proof.Machine.execFwFetchParent u e s
  | .fwDiscardStaging u e => Sys2Proof.Machine.execFwDiscardStaging u e s
  | .fwFetchDone readError image => Sys2Proof.Machine.execFwFetchDone readError image s
  | .fwFlashWriteDone back => Sys2Proof.Machine.execFwFlashWriteDone back s
  | .fwKeyRevoke u e => Sys2Proof.Machine.execFwKeyRevoke u e s
  | .dieTempConversion temps rails => Sys2Proof.Machine.execDieTempConversion temps rails s
  | .thermalTripComparator sensor temp => Sys2Proof.Machine.execThermalTripComparator sensor temp s
  | .lpddrTrainRetry failing margins => Sys2Proof.Machine.execLpddrTrainRetry failing margins s
  | .bankLatch b cycle parity => Sys2Proof.Machine.execBankLatch b cycle parity s
  | .ptpSyncDue p => Sys2Proof.Machine.execPtpSyncDue p s
  | .stretchIntervalEnd m len => Sys2Proof.Machine.execStretchIntervalEnd m len s
  | .modulePresentChange port present => Sys2Proof.Machine.execModulePresentChange port present s
  | .forwardTimeout => Sys2Proof.Machine.execForwardTimeout s
  | .linkAuthHoldoffEnd => Sys2Proof.Machine.execLinkAuthHoldoffEnd s
  | .traceGrantExpire => Sys2Proof.Machine.execTraceGrantExpire s
  | .phaseSourceLoss => Sys2Proof.Machine.execPhaseSourceLoss s
  | .rackRefLost => Sys2Proof.Machine.execRackRefLost s
  | .rackRefReturn => Sys2Proof.Machine.execRackRefReturn s
  | .ppsInEdge => Sys2Proof.Machine.execPpsInEdge s
  | .todSetTimeout => Sys2Proof.Machine.execTodSetTimeout s
  | .fullTimeDue => Sys2Proof.Machine.execFullTimeDue s
  | .ovtanLaneHoldover => Sys2Proof.Machine.execOvtanLaneHoldover s
  | .ppsOutPulse => Sys2Proof.Machine.execPpsOutPulse s
  | .angleEntryHandoff => Sys2Proof.Machine.execAngleEntryHandoff s
  | .timeEntryHandoff => Sys2Proof.Machine.execTimeEntryHandoff s
  | .groupWaitExpire => Sys2Proof.Machine.execGroupWaitExpire s
  | .groupEntryFire => Sys2Proof.Machine.execGroupEntryFire s
  | .runStart => Sys2Proof.Machine.execRunStart s
  | .snap => Sys2Proof.Machine.execSnap s
  | .latchWaitEnd => Sys2Proof.Machine.execLatchWaitEnd s
  | .read => Sys2Proof.Machine.execRead s
  | .delta => Sys2Proof.Machine.execDelta s
  | .cmp => Sys2Proof.Machine.execCmp s
  | .br => Sys2Proof.Machine.execBr s
  | .emit => Sys2Proof.Machine.execEmit s
  | .halt => Sys2Proof.Machine.execHalt s
  | .alarmTokenRefill => Sys2Proof.Machine.execAlarmTokenRefill s
  | .classCSlotFree => Sys2Proof.Machine.execClassCSlotFree s
  | .funnelTake => Sys2Proof.Machine.execFunnelTake s
  | .traceAccountInterval => Sys2Proof.Machine.execTraceAccountInterval s
  | .traceExportDone => Sys2Proof.Machine.execTraceExportDone s
  | .memBurstGrant => Sys2Proof.Machine.execMemBurstGrant s
  | .dpStartEvent => Sys2Proof.Machine.execDpStartEvent s
  | .digestComplete => Sys2Proof.Machine.execDigestComplete s
  | .aonResetRelease => Sys2Proof.Machine.execAonResetRelease s
  | .aonResetAssert => Sys2Proof.Machine.execAonResetAssert s
  | .fuseLoadTimeout => Sys2Proof.Machine.execFuseLoadTimeout s
  | .pllLock => Sys2Proof.Machine.execPllLock s
  | .refclkLost => Sys2Proof.Machine.execRefclkLost s
  | .refclkRestored => Sys2Proof.Machine.execRefclkRestored s
  | .spillAfterExpire => Sys2Proof.Machine.execSpillAfterExpire s
  | .failoverHoldExpire => Sys2Proof.Machine.execFailoverHoldExpire s
  | .failbackHoldExpire => Sys2Proof.Machine.execFailbackHoldExpire s
  | .loftCpuSecond => Sys2Proof.Machine.execLoftCpuSecond s
  | .satWindowEnd => Sys2Proof.Machine.execSatWindowEnd s
  | .vantageMergeRelease => Sys2Proof.Machine.execVantageMergeRelease s
  | .epochTimeout => Sys2Proof.Machine.execEpochTimeout s
  | .quorumWaitExpire => Sys2Proof.Machine.execQuorumWaitExpire s
  | .lateWindowEnd => Sys2Proof.Machine.execLateWindowEnd s
  | .featureHoldExpire => Sys2Proof.Machine.execFeatureHoldExpire s
  | .ftDue => Sys2Proof.Machine.execFtDue s
  | .ftDeferExpire => Sys2Proof.Machine.execFtDeferExpire s
  | .voteTimeout => Sys2Proof.Machine.execVoteTimeout s
  | .fenceEvalTick => Sys2Proof.Machine.execFenceEvalTick s
  | .grantTimeout => Sys2Proof.Machine.execGrantTimeout s
  | .katTimeout => Sys2Proof.Machine.execKatTimeout s
  | .lockstepDivergence => Sys2Proof.Machine.execLockstepDivergence s
  | .lockstepRestartDone => Sys2Proof.Machine.execLockstepRestartDone s
  | .contextMoveDone => Sys2Proof.Machine.execContextMoveDone s
  | .replaceWaitExpire => Sys2Proof.Machine.execReplaceWaitExpire s
  | .warmHoldExpire => Sys2Proof.Machine.execWarmHoldExpire s
  | .snapshotPushTimer => Sys2Proof.Machine.execSnapshotPushTimer s
  | .takeoverHoldExpire => Sys2Proof.Machine.execTakeoverHoldExpire s
  | .discoveryWaitExpire => Sys2Proof.Machine.execDiscoveryWaitExpire s
  | .absentAfterExpire => Sys2Proof.Machine.execAbsentAfterExpire s
  | .probationTimeExpire => Sys2Proof.Machine.execProbationTimeExpire s
  | .cutFire => Sys2Proof.Machine.execCutFire s
  | .cutCloseTimeout => Sys2Proof.Machine.execCutCloseTimeout s
  | .wfHoldExpire => Sys2Proof.Machine.execWfHoldExpire s
  | .wfWaitExpire => Sys2Proof.Machine.execWfWaitExpire s
  | .cadenceUpdateTick => Sys2Proof.Machine.execCadenceUpdateTick s
  | .almanacClearDone => Sys2Proof.Machine.execAlmanacClearDone s
  | .hoursTick => Sys2Proof.Machine.execHoursTick s
  | .porAssert => Sys2Proof.Machine.execPorAssert s
  | .recoverySourceTimeout => Sys2Proof.Machine.execRecoverySourceTimeout s
  | .recoveryRoundWait => Sys2Proof.Machine.execRecoveryRoundWait s
  | .fwActivateLagTimeout => Sys2Proof.Machine.execFwActivateLagTimeout s
  | .brownoutDetect => Sys2Proof.Machine.execBrownoutDetect s
  | .alertRelease => Sys2Proof.Machine.execAlertRelease s
  | .groupCutAngleFire => Sys2Proof.Machine.execGroupCutAngleFire s
  | .shadowSpareTimeout => Sys2Proof.Machine.execShadowSpareTimeout s
  | .ppsOutWidthEnd => Sys2Proof.Machine.execPpsOutWidthEnd s
  | .irqPulseEnd => Sys2Proof.Machine.execIrqPulseEnd s

end Sys2Proof.Machine
end

