-- ==== Sys2Proof/Machine/Tick.lean ====
section
/-! DEFINITION. What a nanosecond does when no command waits (log entry 2). -/
namespace Sys2Proof.Machine

/-- A nanosecond at the Ovtan: powered time, in Ready the time counter and Dewpoint's selector (R127, R235). -/
def Ovtan.tick (o : Ovtan) : Ovtan :=
  let o := o.onCore (fun c => { c with up := c.up + 1 })
  if o.bnd.boot = .ready then
    (o.onCore (fun c => { c with time := c.time.tick })).onMem MemSide.selectCycle
  else o

/-- A nanosecond at the Fabato: powered time, in Ready Halo time and the Loft programs' CPU time (R127, R302). -/
def Fabato.tick (f : Fabato) : Fabato :=
  let f := f.onCore (fun c => { c with up := c.up + 1 })
  if f.board.boot = 3 then (f.onCore (fun c => { c with time := c.time.tick })).loftTick else f

/-- A nanosecond of the pair. -/
def State.tick (s : State) : State := { s with ov := s.ov.tick, fb := s.fb.tick }

end Sys2Proof.Machine
end

