-- ==== Sys2Proof/Safety.lean ====
section
/-! DEFINITION. What claims say of a step, in their own terms: a unit that answers a command, a write that the dictionary grants, and the invariant of the Ovtan's boundary. -/
namespace Sys2Proof.Machine

/-! ### A command that completes -/

/-- A command answers a next state of which `P` holds, and leaves the queue alone. -/
def Completes (i : Instr) (s : State) (P : State → Prop) : Prop := ∃ t, exec i s = .next t ∧ t.pending = s.pending ∧ P t

/-- A command answers a next state that differs from `s` in the Ovtan alone: it becomes `o`, of which `P` holds. The Fabato and the queue are the frame. -/
def OvAnswers (i : Instr) (s : State) (P : Ovtan → Prop) : Prop := ∃ o, exec i s = .next { s with ov := o } ∧ P o

/-- A command answers a next state that differs from `s` in the Fabato alone: the command's own effect makes it `f`, of which `P` holds, and what
follows every command of a group (`Fabato.settle`) comes after it. The Ovtan and the queue are the frame. -/
def FbAnswers (i : Instr) (s : State) (P : Fabato → Prop) : Prop := ∃ f, exec i s = .next { s with fb := f.settle s.fb } ∧ P f

/-- The Ovtan is in Ready (Table 9.5). -/
def OvReady (s : State) : Prop := s.ov.bnd.boot = .ready

/-- The Fabato is in Ready (Table 20.8). -/
def FbReady (s : State) : Prop := s.fb.board.boot = 3

/-! ### A write that the dictionary grants (R62–R69, R90–R98) -/

/-- The type code and the length of an object at a unit of a kind. -/
def tyOf (kind obj : Nat) : Nat := match findRow kind obj with | some r => r.ty.code | none => Ty.blob.code
def lenOf (kind obj : Nat) : Nat := match findRow kind obj with | some r => rowLen r | none => 4
/-- The type code of an object at a unit of the pair. -/
def State.objTy (s : State) (u : UnitSel) (obj : Nat) : Nat := tyOf (s.kind u) obj

/-- The request that a command naming one object stands for: a WRITE of one item, under the object's own type. -/
def State.oneWrite (s : State) (u : UnitSel) (obj : Nat) (v : Bytes) : Request :=
  .write [{ obj := obj, ty := s.objTy u obj, value := v }]

/-- A number in the length of its object. -/
def State.objBytes (s : State) (u : UnitSel) (obj n : Nat) : Bytes :=
  leBytes (lenOf (s.kind u) obj) n

/-- The dictionary lets an actor write `v` to `obj` at a unit: the object exists for the role and is written by one of that role (R58, R69, R70), the value
has its type, range and codes (R66), and the object's own checks pass. -/
def Permits {σ : Type} (u : UnitOps σ) (x : σ) (a : Actor) (acc : Access) (obj : Nat) (v : Bytes) : Prop :=
  ∃ r, lookupFor u x a obj = .value r ∧ findRow (u.get x).kind obj = some r ∧ r.access = acc ∧ r.apply = .immediate ∧ access u x a obj r.wrRole true = stOk ∧
    checkType r v = stOk ∧ isKeyObj obj = false ∧ obj ≠ oSessionCommit ∧ (u.pairs x [obj]).isEmpty = true ∧ u.check x a obj v = stOk

/-- The dictionary lets an actor read `obj` at a unit: the object exists for the role, is read by one of that role and is neither write-only nor read-to-clear. -/
def Reads {σ : Type} (u : UnitOps σ) (x : σ) (a : Actor) (obj : Nat) : Prop :=
  ∃ r, lookupFor u x a obj = .value r ∧ findRow (u.get x).kind obj = some r ∧ r.access ≠ .wo ∧ r.access ≠ .rc ∧ access u x a obj r.rdRole false = stOk

/-- The response to a read of one element. -/
def readResponse (kind obj : Nat) (v : Bytes) : Response := ⟨stOk, responseItemBytes obj (tyOf kind obj) stOk v⟩

/-- The message is one the unit acts on at once: version 1, well formed, hops left, one unit addressed, applied and not staged (R90–R98, Table 2.9). -/
def Plain (e : Envelope) (q : Request) (own : Nat) : Prop :=
  e.version = 1 ∧ requestOk e q = true ∧ e.hop ≠ 0 ∧ (flagLocal e.flags = true ∨ e.paths = [own]) ∧ flagFanout e.flags = false ∧ flagStage e.flags = false

/-- A request that the Ovtan acts on: `o` is the unit with the message accepted under its session, `a` the session's actor (R94, R96, R110). -/
def OvAccepts (s : State) (e : Envelope) (q : Request) (o : Ovtan) (a : Actor) : Prop :=
  OvReady s ∧ s.ov.core.kind = 0 ∧ Plain e q o.core.path ∧
  (∃ x, s.ov.core.expireSessions.authenticate e q.opcode q.body = some x ∧ o = { s.ov with core := x.2 } ∧ a = x.1.actor) ∧
  o.core.keptFor a e.msgId (requestDigest e q.opcode q.body) = none

/-- The Ovtan once a request has made it `r.1` with the response `r.2`: the response is kept (R96) and sent (R92, R110). -/
def Ovtan.answered (r : Ovtan × Response) (e : Envelope) (a : Actor) (q : Request) : Ovtan :=
  let o : Ovtan := { r.1 with core := r.1.core.keep a e.msgId (requestDigest e q.opcode q.body) (q.opcode + 0x80) r.2 }
  let n := o.core.sent.length
  ({ o with core := o.core.respond e q.opcode r.2 false } : Ovtan).placeMessages n

/-- A one-item write at the Ovtan that its dictionary grants. -/
def OvGrants (s : State) (e : Envelope) (acc : Access) (obj : Nat) (v : Bytes) (o : Ovtan) (a : Actor) : Prop :=
  OvAccepts s e (s.oneWrite .ovtan obj v) o a ∧ Permits ovOps o a acc obj v

/-- The response to a write of one item that ended with status `st`. -/
def writeResponse (obj ty st : Nat) : Response := ⟨st, responseItemBytes obj (if st ≥ 0x80 then 0 else ty) st []⟩

/-- The Ovtan once a granted write has made it `r.1` with status `r.2`. -/
def Ovtan.wrote (r : Ovtan × Nat) (e : Envelope) (a : Actor) (q : Request) (obj ty : Nat) : Ovtan :=
  Ovtan.answered (r.1, writeResponse obj ty r.2) e a q

/-- A request that the Fabato acts on itself: `f` is the group with the message accepted under its session, `a` the session's actor. -/
def FbAccepts (s : State) (e : Envelope) (q : Request) (f : Fabato) (a : Actor) : Prop :=
  FbReady s ∧ (s.fb.core.kind = 1 ∨ s.fb.core.kind = 2 ∨ s.fb.core.kind = 3) ∧ Plain e q f.core.path ∧
  (∃ x, s.fb.core.expireSessions.authenticate e q.opcode q.body = some x ∧ f = s.fb.onCore (fun _ => x.2) ∧ a = x.1.actor) ∧
  f.core.keptFor a e.msgId (requestDigest e q.opcode q.body) = none

/-- The Fabato once a request has made it `r.1` with the response `r.2`: the response is kept (R96) and sent (R92, R110). -/
def Fabato.answered (r : Fabato × Response) (e : Envelope) (a : Actor) (q : Request) : Fabato :=
  (r.1.onCore (fun c => c.keep a e.msgId (requestDigest e q.opcode q.body) (q.opcode + 0x80) r.2)).answerTo e q.opcode r.2

/-- A one-item write at the Fabato that its dictionary grants. -/
def FbGrants (s : State) (e : Envelope) (acc : Access) (obj : Nat) (v : Bytes) (f : Fabato) (a : Actor) : Prop :=
  FbAccepts s e (s.oneWrite .fabato obj v) f a ∧ Permits fbOps f a acc obj v

/-- The Fabato once a granted write has made it `r.1` with status `r.2`. -/
def Fabato.wrote (r : Fabato × Nat) (e : Envelope) (a : Actor) (q : Request) (obj ty : Nat) : Fabato :=
  Fabato.answered (r.1, writeResponse obj ty r.2) e a q

/-- The Fabato once a request has started fan-out `num` of the group's own accord: the fan-out takes the message over and answers it when it ends (R109, R456). -/
def Fabato.fanned (f : Fabato) (num : Nat) (e : Envelope) (a : Actor) (q : Request) : Fabato :=
  { f with fwd := f.fwd.adopt num e a (requestDigest e q.opcode q.body) }

/-- A command that is a request at the Ovtan: whenever the unit acts on it and `ok` holds, it makes the unit and the response `h`'s. -/
def OvActs (i : Instr) (s : State) (e : Envelope) (q : Request) (ok : Ovtan → Actor → Prop) (h : Ovtan → Actor → Ovtan × Response) : Prop :=
  ∀ o a, OvAccepts s e q o a → ok o a → exec i s = .next { s with ov := Ovtan.answered (h o a) e a q }

/-- The same at the Fabato. -/
def FbActs (i : Instr) (s : State) (e : Envelope) (q : Request) (ok : Fabato → Actor → Prop) (h : Fabato → Actor → Fabato × Response) : Prop :=
  ∀ f a, FbAccepts s e q f a → ok f a → exec i s = .next { s with fb := (Fabato.answered (h f a) e a q).settle s.fb }

/-- A command that is a one-item write at the Ovtan: whenever the dictionary grants it and `ok` holds, it makes the unit `h`'s and answers with `h`'s status. -/
def OvWrites (i : Instr) (s : State) (e : Envelope) (obj : Nat) (v : Bytes) (ok : Ovtan → Actor → Prop) (h : Ovtan → Actor → Ovtan × Nat) : Prop :=
  ∀ o a, OvGrants s e .wo obj v o a → ok o a →
    exec i s = .next { s with ov := Ovtan.wrote (h o a) e a (s.oneWrite .ovtan obj v) obj (s.objTy .ovtan obj) }

/-- The same for a register: it is written, not commanded. -/
def OvSets (i : Instr) (s : State) (e : Envelope) (obj : Nat) (v : Bytes) (ok : Ovtan → Actor → Prop) (h : Ovtan → Actor → Ovtan × Nat) : Prop :=
  ∀ o a, OvGrants s e .rw obj v o a → ok o a →
    exec i s = .next { s with ov := Ovtan.wrote (h o a) e a (s.oneWrite .ovtan obj v) obj (s.objTy .ovtan obj) }

/-- A register at the Fabato. -/
def FbSets (i : Instr) (s : State) (e : Envelope) (obj : Nat) (v : Bytes) (ok : Fabato → Actor → Prop) (h : Fabato → Actor → Fabato × Nat) : Prop :=
  ∀ f a, FbGrants s e .rw obj v f a → ok f a →
    exec i s = .next { s with fb := (Fabato.wrote (h f a) e a (s.oneWrite .fabato obj v) obj (s.objTy .fabato obj)).settle s.fb }

/-- The same at the Fabato. -/
def FbWrites (i : Instr) (s : State) (e : Envelope) (obj : Nat) (v : Bytes) (ok : Fabato → Actor → Prop) (h : Fabato → Actor → Fabato × Nat) : Prop :=
  ∀ f a, FbGrants s e .wo obj v f a → ok f a →
    exec i s = .next { s with fb := (Fabato.wrote (h f a) e a (s.oneWrite .fabato obj v) obj (s.objTy .fabato obj)).settle s.fb }

/-! ### A lane end (R263–R281) -/

/-- The Ovtan with its lane, and what the lane's event did to the rest, replaced. -/
def Ovtan.withLane (o : Ovtan) (x : Core × Lane) : Ovtan := { o with core := x.1, link := { o.link with lane := x.2 } }
/-- The tray with lane `n` replaced. -/
def Fabato.withLane (f : Fabato) (n : Nat) (k : FabLane) (x : Core × Lane) : Fabato :=
  f.onG (fun g => { g with core := x.1, lanes := g.lanes.set n { k with lane := x.2 } })
/-- A tray in Ready whose lane `n` is `k`. -/
def Tray (s : State) (n : Nat) (k : FabLane) : Prop := FbReady s ∧ s.fb.core.kind = 1 ∧ s.fb.g.lanes[n]? = some k

/-- An event at a lane end that completes at either unit: where `ok` holds of the unit's core and lane, `h` (given the lane's port number) makes them. -/
def LaneSteps (i : UnitSel → Instr) (s : State) (n : Nat) (ok : Core → Lane → Prop) (h : Nat → Core → Lane → Core × Lane) : Prop :=
  (OvReady s → ok s.ov.core s.ov.link.lane → OvAnswers (i .ovtan) s (fun o => o = s.ov.withLane (h 0 s.ov.core s.ov.link.lane))) ∧
  (∀ k, Tray s n k → ok s.fb.core k.lane → FbAnswers (i .fabato) s (fun f => f = s.fb.withLane n k (h n s.fb.core k.lane)))

/-! ### A capture program's run (R188–R191) -/

/-- A run with the stamp of its fire time taken, where that time has come (R169). -/
def Run.stamped (r : Run) (c : Core) : Run := { r with fir := r.fir.stampAt c.angle c.ns }

/-- The run `r` is in progress in Ready, has the word `w` at hand and may execute it now. -/
def State.atWord (s : State) (r : Run) (w : PWord) : Prop :=
  OvReady s ∧ s.ov.buf.alarmed = false ∧ s.ov.cap.run = some r ∧ wordAt r.words r.pc = w ∧ r.ready? s.ov.core.ns w = true

/-! ### The machine as a whole -/

/-- Commands that act whatever boot state their unit is in: pins, supplies, clocks, the frames of bring-up and the power-domain lines. Every other command takes effect in Ready alone. -/
def Instr.always : Instr → Bool
  | .hoursTick | .porRelease .. | .dieTempConversion .. | .thermalTripComparator .. | .lpddrTrainRetry .. | .modulePresentChange .. | .porAssert | .brownoutDetect
  | .alertRelease | .mailboxFrame .. | .fuseImageFrame .. | .statusFrame .. | .ovtanSelfTestDone .. | .aonResetRelease | .aonResetAssert | .fuseLoadTimeout
  | .pllLock | .refclkLost | .refclkRestored | .irqPulseEnd .. | .flashImageReadDone .. | .recoveryImageReceived .. | .fabatoSelfTestDone .. | .recoverySourceTimeout
  | .recoveryRoundWait | .pdReqRise .. | .flushComplete .. | .pdReqFall .. | .domainWakeEdge .. | .pdReqWithdrawn .. | .pdEdgeTimeout .. | .cgNoteChange ..
  | .rackRefLost | .rackRefReturn => true
  | _ => false

/-- The invariant of the Ovtan's boundary (Table 9.5, R245, R249): four IRQ lines and six self-managed blocks; no fuse image before one is loaded; an image
that is loaded passed its check. -/
def BndPart.Inv (b : BndPart) : Prop :=
  b.irq.length = 4 ∧ b.blocks.length = 6 ∧ (b.boot = .reset → b.aon = false) ∧ (b.boot = .reset ∨ b.boot = .fuseLoad → b.fuse = []) ∧
  (b.fuse ≠ [] → fuseGood b.fuse = true ∧ b.fuseStatus = 0)

/-- Sequence numbers presented one after the other to a session's window (R110): the highest taken, the window, and the numbers taken, newest first. -/
def seqRun (l : List Nat) : Nat × Nat × List Nat :=
  l.foldl (fun x n => match seqAccept x.1 x.2.1 n with
    | some w => (w.1, w.2, n :: x.2.2)
    | none => x) (0, 1, [])

/-- A request whose fields fit the widths of their encodings (Table 2.11). -/
def Request.Fits : Request → Prop
  | .read l => ∀ i ∈ l, i.obj < 2 ^ 32 ∧ i.count < 256 ∧ i.flags < 256
  | .write l => ∀ w ∈ l, w.obj < 2 ^ 32 ∧ w.ty < 256 ∧ w.flags < 256 ∧ w.value.length < 65536
  | .commit _ => True
  | .list area start => area < 256 ∧ start < 65536
  | .other opcode _ => opcode ≠ 1 ∧ opcode ≠ 2 ∧ opcode ≠ 3 ∧ opcode ≠ 4

/-- Values that a histogram counts in bucket `i`. -/
def Hist.inBucket (h : Hist) (i : Nat) : Nat := ((h.buckets.filter (fun b => b.1 == i)).map (fun b => b.2)).sum

end Sys2Proof.Machine
end

