-- ==== Sys2Proof/Certificates/Slice0/Obligations.lean ====
section
/-! DEFINITION. The statements for the provers. -/
open Sys2Proof Sys2Proof.Machine

/-! ### The queue and the families' commands: each completes with its own effect -/

/-- A step takes the command at the front of the queue and runs it with the queue's rest. -/
def Obligations.StepRunsFront : Prop :=
  ∀ (i : Instr) (s : State) (rest : List Instr), s.pending = i :: rest → step s = exec i { s with pending := rest }

/-- Almanac's commands (R488, R492): a granted clear of the current count starts a clear whose payload is Table 20.3's; its completion leaves the log headed
by ALMANAC_CLEARED; 360 s of powered time are one hour unit, in every boot state. -/
def Obligations.AlmanacCommandsComplete : Prop :=
  ∀ (s : State) (e : Envelope) (n : Nat),
    (n < 2 ^ 32 → FbWrites (.almanacClear .fabato e n) s e oAlmanacClear (s.objBytes .fabato oAlmanacClear n)
      (fun f _ => n = f.alm.log.length ∧ f.alm.clearing = none)
      (fun f a => ({ f with alm := { f.alm with
          clearing := some (clearedPayload n f.alm.refused a.session
            (if (f.core.sessions.find? (fun x => x.id == a.session)).map (fun x => x.link) = some true then f.portFrom a.port else f.core.path)
            (f.portSub a.port) a.role.rank a.tenant),
          queue := [], dropped := 0 } }, stOk))) ∧
    (∀ p, FbReady s → s.fb.alm.clearing = some p → s.fb.board.mramHeld = none → s.fb.alm.stopped = false →
      FbAnswers .almanacClearDone s (fun f => f.alm.clearing = none ∧ f.alm.queue = [] ∧ f.alm.seen = f.core.events.length ∧
        ∃ flags rest, f.alm.log = almanacEntry p s.fb.ns 0 flags 0x74 0x1A01 s.fb.alm.cycles s.fb.alm.hours :: rest)) ∧
    (s.fb.up ≥ s.fb.alm.hoursAt + 360 * 10 ^ 9 →
      FbAnswers .hoursTick s (fun f => f = { s.fb with alm := { s.fb.alm with hours := s.fb.alm.hours + 1, hoursAt := s.fb.alm.hoursAt + 360 * 10 ^ 9 } }))

/-- The Fabato's board commands (R508–R523): what the pins, the sensors and the supplies do. -/
def Obligations.BoardCommandsComplete : Prop :=
  ∀ (s : State) (mode port sensor temp : Nat) (power ref present : Bool) (failing margins temps rails : List Nat),
    -- POR_N rises with a valid mode and the flash the chip's own: the mode is the strap's, the power cycles count, and a clean training leaves boot state 1
    (s.fb.board.por = false → s.fb.board.trip = false → s.fb.board.clean = true → s.fb.cel.lpddr.1 = 0xFF → mode < 3 → failing.filter (fun d => decide (d < 24)) = [] →
      FbAnswers (.porRelease mode false power ref failing margins) s (fun f => f.core.kind = mode + 1 ∧ f.board.por = true ∧ f.board.straps = mode + 4 ∧
        f.board.boot = 1 ∧ f.board.hold = 0 ∧ f.board.restarts = 0 ∧ f.board.reference = ref ∧
        f.alm.cycles = (if power then s.fb.alm.cycles + 1 else s.fb.alm.cycles))) ∧
    -- with an external programmer holding the flash the chip waits in boot state 0
    (s.fb.board.por = false → s.fb.board.clean = true → mode < 3 →
      FbAnswers (.porRelease mode true power ref failing margins) s (fun f => f.board.por = true ∧ f.board.straps = mode ∧ f.board.boot = 0 ∧ f.board.hold = 2)) ∧
    (s.fb.board.por = true →
      FbAnswers .porAssert s (fun f => f.board.por = false ∧ f.board.boot = 0 ∧ f.board.alert = false ∧ f.board.clean = s.fb.board.mramHeld.isNone)) ∧
    (s.fb.board.hold = 3 → s.fb.up ≥ s.fb.board.trainAt + 60 * 10 ^ 9 → s.fb.cel.lpddr.1 = 0xFF → failing.filter (fun d => decide (d < 24)) = [] →
      FbAnswers (.lpddrTrainRetry failing margins) s (fun f => f.board.boot = 1 ∧ f.board.hold = 0 ∧ f.board.alert = false ∧ f.board.margins = margins)) ∧
    (s.fb.board.mramHeld = none → FbAnswers .brownoutDetect s (fun f => f.board.mramHeld.isSome = true ∧ f.board.clean = false)) ∧
    FbAnswers (.modulePresentChange port present) s (fun f =>
      f = { s.fb with board := { s.fb.board with modules := s.fb.board.modules.set port present } }) ∧
    (∀ t, s.fb.board.belowAt = some t → s.fb.board.alert = true → s.fb.board.hold = 0 → s.fb.up ≥ t + 10 ^ 9 →
      FbAnswers .alertRelease s (fun f => f = ({ s.fb with board := { s.fb.board with alert := false } } : Fabato).onCore (fun c => c.send (.pin pinAlert true)))) ∧
    (s.fb.board.trip = false → s.fb.board.por = true → fle (fofInt 115) (f32Val temp) = true →
      FbAnswers (.thermalTripComparator sensor temp) s (fun f => f.board.trip = true ∧ f.board.boot = 0 ∧ f.board.hold = 4)) ∧
    (FbReady s → FbAnswers (.dieTempConversion temps rails) s (fun f => f.board.convAt = some s.fb.ns ∧
      f.board.temps = (List.range 16).map (fun n => toF32 (calibratedBy s.fb.core (0x0B070000 + n * 256) (f32Val (temps.getD n 0)))) ∧
      f.board.rails = (List.range 12).map (fun n => toF32 (calibratedBy s.fb.core (0x0B071000 + n * 256) (f32Val (rails.getD n 0))))))

/-- The Ovtan's boundary commands (Table 9.5, R245–R258): bring-up from reset to Ready, the fuse image, the reference, the frames of the CFG port. -/
def Obligations.BoundaryCommandsComplete : Prop :=
  ∀ (s : State) (tag : Nat) (image msg : Bytes) (counters : List Nat) (cols : List (Nat × Nat)),
    OvAnswers .aonResetAssert s (fun o => o.bnd.boot = .reset ∧ o.bnd.aon = false ∧ o.core.store = [] ∧ o.core.sessions = [] ∧ o.buf = RecBuf.fresh ∧
      o.trace.gates = [] ∧ o.trace.pdReq = s.ov.trace.pdReq ∧ o.cap.cgNote = s.ov.cap.cgNote) ∧
    (s.ov.bnd.boot = .reset →
      OvAnswers .aonResetRelease s (fun o => o.bnd.boot = .fuseLoad ∧ o.bnd.aon = true ∧ o.bnd.risenAt = s.ov.core.up ∧ o.core = s.ov.core)) ∧
    (s.ov.bnd.boot = .fuseLoad → image.length = 1024 → fuseGood image = true →
      OvAnswers (.fuseImageFrame tag image) s (fun o => o.bnd.boot = .selfTest ∧ o.bnd.fuse = image ∧ o.bnd.fuseStatus = 0 ∧
        storeGet o.core.made oIdentUid = some (slice image 0 16) ∧ o.core.keys.roles[3]? = some (slice image 32 32))) ∧
    (s.ov.bnd.boot = .fuseLoad → s.ov.core.up ≥ s.ov.bnd.risenAt + 10000000 →
      OvAnswers .fuseLoadTimeout s (fun o => o.bnd.boot = .selfTest ∧ o.bnd.fuse = [] ∧ o.bnd.fuseStatus = 3 ∧ o.core.made = [])) ∧
    (s.ov.bnd.boot ≠ .reset → ¬(s.ov.bnd.boot = .selfTest ∧ s.ov.bnd.cause = 1 ∧ s.ov.core.flag oPowerBistOnRestart = false) →
      OvAnswers .pllLock s (fun o => o = { s.ov with bnd := { s.ov.bnd with pll := true } })) ∧
    (s.ov.bnd.boot = .selfTest → s.ov.bnd.cause = 1 → s.ov.core.flag oPowerBistOnRestart = false →
      OvAnswers .pllLock s (fun o => o.bnd.boot = .ready ∧ o.bnd.pll = true ∧ o.core.time.ns = 0)) ∧
    (s.ov.bnd.boot = .selfTest → s.ov.bnd.pll = true →
      OvAnswers (.ovtanSelfTestDone counters cols) s (fun o => o.bnd.boot = .ready ∧ o.bnd.blocks = blocksIdle ∧ o.core.time.ns = 0 ∧
        o.cap.repaired = ((counters.filter (fun i => decide (i < 576))).eraseDups).take (32 - ((counters.filter (fun i => decide (576 ≤ i ∧ i < 608))).eraseDups).length))) ∧
    (OvReady s → msg.length ≤ 4156 →
      OvAnswers (.mailboxFrame tag msg) s (fun o => ∃ p reply,
        p = ({ s.ov with bnd := { s.ov.bnd with blocks := s.ov.bnd.blocks.set 5 0 } } : Ovtan).receiveBytes .mailbox msg ∧ o = p.cfgAnswer 1 tag 0 reply)) ∧
    (s.ov.bnd.boot ≠ .reset → OvAnswers (.statusFrame tag 0) s (fun o => o = s.ov.cfgAnswer 3 tag 0 (leBytes 8 s.ov.bnd.statusWord))) ∧
    (s.ov.bnd.boot ≠ .reset → s.ov.core.time.refPresent = true →
      OvAnswers .refclkLost s (fun o => o.core.time.refPresent = false ∧ o.bnd.refLost = some s.ov.core.up ∧ o.bnd.pll = false)) ∧
    (∀ t, s.ov.bnd.refLost = some t → s.ov.bnd.boot = .ready →
      OvAnswers .refclkRestored s (fun o => o.core.time.refPresent = true ∧ o.bnd.refLost = none ∧ o.bnd.pll = true ∧
        ⟨0x0902, 0x08, [s.ov.core.up - t]⟩ ∈ o.core.events)) ∧
    OvAnswers .irqPulseEnd s (fun o => ∀ i < 4, ∀ t, s.ov.bnd.irq.getD i none = some t → t ≤ s.ov.core.up → o.bnd.irq.getD i none = none)

/-- Commands of reduction, features, Anvil and Drift (R346–R390): the oldest waiting contribution is applied, the Cells of a model take 64 queued vectors in order,
an image is staged, checked, discarded, unloaded and reloaded, a member's Drift is reset, and the time-outs, waits, windows and holds that have run out end. -/
def Obligations.AnalyticsCommandsComplete : Prop :=
  ∀ (s : State) (e : Envelope) (n m cell member : Nat) (chunk : Bytes),
    (FbReady s → n < 4096 → (s.fb.served (hReduce n)).isSome = true → s.fb.cel.units.any (fun u => u.handle == hReduce n) = false →
      ∀ i recs rest, s.fb.waitingInputs (hReduce n) = .chain i recs :: rest →
        FbAnswers (.reductionContribution n) s (fun f => f = (s.fb.takeInputs (hReduce n) 1).1.redChain n i recs)) ∧
    (FbReady s → (s.fb.model m).active.isSome = true → (∀ k < 8, (s.fb.cel.place (hGang m k)).isSome = true → (s.fb.served (hGang m k)).isSome = true) →
      FbAnswers (.anvilWalk m) s (fun f => f = ((s.fb.model m).queue.take 64).foldl (fun f v => f.walkVector m v (f.hosted m))
        (s.fb.onModel m (fun x => { x with queue := x.queue.drop 64 })))) ∧
    (m < 64 → FbWrites (.modelLoad .fabato e m chunk) s e (oModel m 1) chunk
      (fun f _ => (f.model m).switch = none ∧ 4 ≤ chunk.length ∧ leAt chunk 0 4 + (chunk.length - 4) ≤ 2163272)
      (fun f _ => (f.onModel m (fun x => { x with staging := overlay x.staging (leAt chunk 0 4) (chunk.drop 4) }), stOk))) ∧
    (m < 64 → ∀ l, FbWrites (.modelInstall .fabato e m) s e (oModel m 3) (s.objBytes .fabato (oModel m 3) 1)
      (fun f _ => sha256 (f.model m).staging = f.core.get (oModel m 2) ∧ imageFault (f.model m).staging = 0 ∧
        f.reserveCells m (splitTrees (f.model m).staging (modelHdr (f.model m).staging)) = some l)
      (fun f _ => ((f.onModel m (fun x => { x with staging := [], shadow := some (f.model m).staging, reserve := l, fault := 0 })).raise
        0x1201 0x73 [hModel m, (modelHdr (f.model m).staging).version, l.length], stOk))) ∧
    (m < 64 → FbWrites (.modelDiscardShadow .fabato e m) s e (oModel m 3) (s.objBytes .fabato (oModel m 3) 2)
      (fun f _ => (f.model m).switch = none)
      (fun f _ => (f.onModel m (fun x => { x with shadow := none, reserve := [] }), stOk))) ∧
    (m < 64 → FbWrites (.modelUnload .fabato e m) s e (oModel m 3) (s.objBytes .fabato (oModel m 3) 3)
      (fun f _ => (f.model m).switch = none)
      (fun f _ => ((f.onModel m (fun x => { x with staging := [], shadow := none, active := none, reserve := [], force := none, queue := [], held := [] })).dropGang m, stOk))) ∧
    -- the last Cell to hold the new version's nodes makes the switch (R378)
    (∀ b t v, FbReady s → (s.fb.model m).switch = some (b, t, v, [cell]) → (s.fb.model m).queue = [] →
      FbAnswers (.modelReloadDone m cell) s (fun f => f = (s.fb.onModel m (fun x => { x with switch := some (b, t, v, []) })).modelSwitched m)) ∧
    (member < 128 → FbWrites (.driftReset .fabato e member) s e oDriftReset (s.objBytes .fabato oDriftReset member)
      (fun _ _ => True)
      (fun f _ => (({ f with an := { f.an with
          sets := f.an.sets.map (fun d => { d with streams := d.streams.filter (fun x => x.member != member) }),
          dv := f.an.dv.set member (0, 0), shat := f.an.shat.filter (fun x => x.2.1 != member), ra := f.an.ra.set member 0 } } : Fabato).recompute member, stOk))) ∧
    -- the only epoch past its time-out closes with status 2, the only one whose quorum wait has passed with status 0 (R353)
    (∀ c x, FbReady s → s.fb.an.reds = [c] → c.opens = [x] → x.quorumAt = none → s.fb.ns ≥ x.opened + 1000 * (redDesc x.desc).timeout →
      x.expected &&& s.fb.upMembers &&& (2 ^ 128 - 1 - (x.included ||| x.lost)) ≠ 0 →
      FbAnswers .epochTimeout s (fun f => f = s.fb.closeEpoch c.idx x 2 false)) ∧
    (∀ c x q, FbReady s → s.fb.an.reds = [c] → c.opens = [x] → x.quorumAt = some q → s.fb.ns ≥ q + 1000 * (redDesc x.desc).wait →
      FbAnswers .quorumWaitExpire s (fun f => f = s.fb.closeEpoch c.idx x 0 false)) ∧
    (FbReady s → FbAnswers .lateWindowEnd s (fun f => f.an.reds.length = s.fb.an.reds.length ∧
      ∀ k < s.fb.an.reds.length, ∀ c d, s.fb.an.reds[k]? = some c → f.an.reds[k]? = some d →
        (∀ x ∈ d.closed, x ∈ c.closed ∧ ∀ t, x.closedAt = some t → s.fb.ns < t + 1000000 * (redDesc x.desc).late) ∧
        (∀ x ∈ c.closed, ∀ t, x.closedAt = some t → s.fb.ns ≥ t + 1000000 * (redDesc x.desc).late → (x.key, false) ∈ d.forgotten))) ∧
    (∀ c, FbReady s → s.fb.an.feats = [c] →
      FbAnswers .featureHoldExpire s (fun f => f = s.fb.afterFeat { c with keys := c.keys.map (fun k =>
        k.complete s.fb.core.level true (fun v => decide (s.fb.ns ≥ v.at_ + 1000 * (featDesc k.desc).hold))) }))

/-- Capture outside the sequencer's words (R176–R189, R192–R195, R535): a bus cycle counts, a conversion is kept, windows and stretches end, a bank latches, a queued
run starts, the alarm bucket refills and the record buffer takes what waited. The last field of each is what the unit keeps. -/
def Obligations.CaptureCommandsComplete : Prop :=
  ∀ (s : State) (bus ch code m cycles b cycle len : Nat) (bits : U128) (valid stretch : Bool) (cls : RClass), OvReady s → s.ov.buf.alarmed = false →
    (bus < 16 → s.ov.cap.cgNote.testBit (bankDomain s.ov.core bus) = false → s.ov.cap.gated.testBit (bankDomain s.ov.core bus) = false →
      (∀ l, s.ov.cap.latch = some l → l.waits bus = false) →
      OvAnswers (.eventInput bus bits none) s (fun o => o.cap.prev = s.ov.cap.prev.set bus bits ∧ ∀ i < 576, o.cap.ctr.getD i 0 =
        if bitsOf (counterConfig s.ov.core i) 10 7 = bus ∧ i ∉ s.ov.cap.dead
        then s.ov.cap.ctr.getD i 0 + BitVec.ofNat 64 (countStep (counterConfig s.ov.core i) bits (s.ov.cap.prev.getD bus 0)) else s.ov.cap.ctr.getD i 0)) ∧
    (ch < 88 → OvAnswers (.sensorConversion ch code valid) s (fun o => o.cap.ctr = s.ov.cap.ctr ∧ o.cap.chans = s.ov.cap.chans.set ch
      { raw := toF32 (fofInt (signedOf 16 code)), value := toF32 (calibrated s.ov.core ch (fofInt (signedOf 16 code))), time := s.ov.core.ns, valid := valid, stretch := false, seen := true })) ∧
    (88 ≤ ch → ch < 128 → OvAnswers (.sensorConversion ch code valid) s (fun o => o = { s.ov with core := s.ov.core.bump oPowerSnsBadCh })) ∧
    (m < 8 → s.ov.core.num oSenseFmonWindow ≠ 0 → s.ov.core.ns ≥ s.ov.cap.fmonAt.getD m 0 + s.ov.core.num oSenseFmonWindow →
      OvAnswers (.fmonWindowEnd m cycles stretch) s (fun o => o.core = s.ov.core ∧ o.buf = s.ov.buf ∧ o.cap.ctr = s.ov.cap.ctr ∧
        o.cap.fmonAt = s.ov.cap.fmonAt.set m s.ov.core.ns ∧ m ∉ o.cap.stretched ∧
        ∃ v : Chan, o.cap.chans = s.ov.cap.chans.set (88 + m) v ∧ v.raw = toF32 (r32 (fofRat (cycles * 1000 : Nat) (s.ov.core.num oSenseFmonWindow))) ∧
          v.time = s.ov.core.ns ∧ v.valid = true ∧ v.stretch = (stretch || s.ov.cap.stretched.contains m))) ∧
    (m < 8 → OvAnswers (.stretchIntervalEnd m len) s (fun o =>
      o = { s.ov with core := (s.ov.core.count (oSenseStretchNs + m + 1) len).bump (oSenseStretchCount + m + 1), cap := { s.ov.cap with stretched := m :: s.ov.cap.stretched.filter (· != m) } })) ∧
    (∀ l, s.ov.cap.latch = some l → l.waits b = true → s.ov.core.ns ≥ l.lt →
      OvAnswers (.bankLatch b cycle none) s (fun o => o.core = s.ov.core ∧ o.buf = s.ov.buf ∧ o.cap.ctr = s.ov.cap.ctr ∧
        (∀ i < 576, o.cap.snap.getD i 0 = if counterBank s.ov.core i = b then s.ov.cap.ctr.getD i 0 else s.ov.cap.snap.getD i 0) ∧
        ∃ k, o.cap.latch = some k ∧ k.latched = l.latched ||| 2 ^ b ∧ k.armed = l.armed ∧ k.lt = l.lt)) ∧
    (∀ f rest, s.ov.bnd.bist.deadMacros.any (fun d => d == 8 || d == 9) = false → s.ov.cap.run = none → s.ov.cap.queue = f :: rest → f.cut = none →
      s.ov.cap.latch.any (fun l => l.fire == f.fire) = false →
      (f.optional = false ∨ f.lateLimit = 0 ∨ Nat.max f.fire s.ov.core.ns - f.fire ≤ f.lateLimit * 1000) →
      OvAnswers .runStart s (fun o => o.buf = s.ov.buf ∧ o.cap.queue = rest ∧ o.cap.ctr = s.ov.cap.ctr ∧
        o.core = (if Nat.max f.fire s.ov.core.ns > f.fire then s.ov.core.bump oAngleLateFirings else s.ov.core) ∧
        o.cap.run = some { fir := f, start := s.ov.core.ns, lt := Nat.max f.fire s.ov.core.ns, lateness := Nat.max f.fire s.ov.core.ns - f.fire, words := s.ov.cap.prog, pc := f.program, flag := false, count := 0, staging := [], head := true, snapped := false, ready := s.ov.core.ns, waited := false, alarm := false, trunc := false })) ∧
    (∀ r l, s.ov.cap.run = some r → s.ov.cap.latch = some l → r.snapped = true → r.waited = false →
      s.ov.core.ns ≥ r.lt + s.ov.core.num oCountLatchWait →
      OvAnswers .latchWaitEnd s (fun o => o.cap.ctr = s.ov.cap.ctr ∧
        o.cap.run = some { r with waited := true, ready := Nat.max r.ready (r.lt + s.ov.core.num oCountLatchWait) } ∧
        ∀ k < 16, l.waits k = true → ⟨0x0607, 0x00, [k, r.fir.entry]⟩ ∈ o.core.events)) ∧
    (s.ov.buf.pend.find? (fun g => g.cls == .a && g.reason == 0x05) = none →
      OvAnswers .alarmTokenRefill s (fun o => o = { s.ov with buf := { s.ov.buf with
        tokens := Nat.min (s.ov.core.num oRecordAlarmBurst * 1000000000)
          (s.ov.buf.tokens + s.ov.core.num oRecordAlarmRate * (s.ov.core.ns - s.ov.buf.tokensAt)), tokensAt := s.ov.core.ns } })) ∧
    (s.ov.buf.linkRing cls = false → (cls = .s → s.ov.buf.s.length < Nat.min (s.ov.core.num oRecordSpillLevel) (shareS s.ov.core s.ov.buf)) →
      (cls = .a → s.ov.buf.a.length < 256) →
      OvAnswers (.pendingGapEmit cls) s (fun o => o.core = s.ov.core ∧ o.cap = s.ov.cap ∧ (∀ g ∈ o.buf.pend, ¬(g.cls = cls ∧ g.reason ≠ 0x05)) ∧
        (o.buf.held cls).length = (s.ov.buf.held cls).length + (s.ov.buf.pend.filter (fun g => g.cls == cls && g.reason != 0x05)).length)) ∧
    (∀ h rest, s.ov.buf.waitC = h :: rest → s.ov.buf.linkRing .c = false → s.ov.buf.c.length < 256 →
      OvAnswers .classCSlotFree s (fun o => o = { s.ov with buf := { s.ov.buf with waitC := rest, c := s.ov.buf.c ++ [h] } }))

/-- The words of Table 6.4 (R189–R191): with the word at hand in a run that may execute it and fewer than 4,095 words done, each word does its own effect and the run goes
on; HALT and a program error end the run. -/
def Obligations.ProgramWordsComplete : Prop :=
  ∀ (s : State) (r : Run),
    (∀ m l, s.atWord r (.snap m) → r.head = true → r.count + 1 < 4096 → s.ov.cap.latch = some l →
      OvAnswers .snap s (fun o => o = { s.ov with cap := { s.ov.cap with latch := some { l with armed := l.armed ||| m }, run := some { r.stamped s.ov.core with pc := r.pc + 1, count := r.count + 1, ready := r.ready + 1, snapped := true } } })) ∧
    (∀ n f, s.atWord r (.read n f) → r.count + 1 < 4096 →
      OvAnswers .read s (fun o => o.core = s.ov.core ∧ o.buf = s.ov.buf ∧ o.cap.ctr = s.ov.cap.ctr ∧ o.cap.run = some ((r.stamped s.ov.core).next (r.pc + 1) n) ∧
        ∀ i < 96, o.cap.r.getD i Chan.none = if f ≤ i ∧ i < f + n then s.ov.cap.readable i s.ov.core.ns else s.ov.cap.r.getD i Chan.none)) ∧
    (∀ k n f, s.atWord r (.delta k n f) → r.count + 1 < 4096 → k < s.ov.cap.base.length →
      OvAnswers .delta s (fun o => o.core = s.ov.core ∧ o.buf = s.ov.buf ∧ o.cap.ctr = s.ov.cap.ctr ∧ o.cap.snap = s.ov.cap.snap ∧
        o.cap.run = some ((r.stamped s.ov.core).next (r.pc + 1) ((n + 3) / 4)) ∧
        ∀ i < 576, (o.cap.delta.getD i 0 = if f ≤ i ∧ i < f + n then s.ov.cap.snap.getD i 0 - (s.ov.cap.base.getD k []).getD i 0 else s.ov.cap.delta.getD i 0) ∧
          ((o.cap.base.getD k []).getD i 0 = if f ≤ i ∧ i < f + n then s.ov.cap.snap.getD i 0 else (s.ov.cap.base.getD k []).getD i 0))) ∧
    (∀ al code rel thr kind idx, s.atWord r (.cmp al code rel thr kind idx) → r.count + 1 < 4096 →
      OvAnswers .cmp s (fun o => ∃ hit : Bool,
        hit = (if kind = 0 then relNat rel (s.ov.cap.snap.getD idx 0).toNat (s.ov.core.num (oCountThreshold + thr))
          else if kind = 1 then relNat rel (s.ov.cap.delta.getD idx 0).toNat (s.ov.core.num (oCountThreshold + thr))
          else if kind = 2 then (s.ov.cap.r.getD idx Chan.none).seen && (s.ov.cap.r.getD idx Chan.none).valid &&
            relF32 rel (f32Val (s.ov.cap.r.getD idx Chan.none).value) (f32Val (s.ov.core.num (oCountThreshold + thr) % 2 ^ 32))
          else relNat rel ((s.ov.cap.r.getD idx Chan.none).value % 2 ^ 32) (s.ov.core.num (oCountThreshold + thr))) ∧
        o.cap = { s.ov.cap with run := some { (r.stamped s.ov.core).next (r.pc + 1) 1 with flag := hit, alarm := r.alarm || (hit && al) } } ∧
        ((hit && al) = false → o.core = s.ov.core ∧ o.buf = s.ov.buf))) ∧
    (∀ c t, s.atWord r (.br c t) → r.count + 1 < 4096 →
      OvAnswers .br s (fun o => o = { s.ov with cap := { s.ov.cap with
        run := some ((r.stamped s.ov.core).next (if c = 0 ∨ (c = 1 ∧ r.flag = true) ∨ (c = 2 ∧ r.flag = false) then t else r.pc + 1) 1) } })) ∧
    (∀ k n f, s.atWord r (.emit k n f) → r.count + 1 < 4096 →
      OvAnswers .emit s (fun o => ∃ recs : List Record, recs.length = (n + 1) / 2 ∧ (∀ q ∈ recs, q.type = (if k = 2 then 0x03 else 0x02) ∧ q.tns = BitVec.ofNat 32 r.lt) ∧
        o = { s.ov with cap := { s.ov.cap with run := some { (r.stamped s.ov.core).next (r.pc + 1) ((n + 1) / 2) with staging := r.staging ++ recs.take (255 - r.staging.length), trunc := r.trunc || decide (recs.length > 255 - r.staging.length) } } })) ∧
    (s.atWord r .halt → s.ov.buf.linkRing .s = false → s.ov.buf.s.length < s.ov.core.num oRecordSpillLevel →
      s.ov.buf.s.length + r.staging.length + 1 ≤ shareS s.ov.core s.ov.buf → s.ov.buf.pend = [] →
      OvAnswers .halt s (fun o => o.cap = { s.ov.cap with run := none } ∧ ∃ hs, o.buf.s = s.ov.buf.s ++ hs ∧ hs.length = r.staging.length + 1 ∧
        ∀ h ∈ hs, h.time = r.lt)) ∧
    (s.atWord r .bad → OvAnswers (.programErrorWord false) s (fun o => o.cap = { s.ov.cap with run := none } ∧
      ⟨0x0601, 0x00, [r.fir.entry, r.pc, (r.words.getD r.pc 0).toNat]⟩ ∈ o.core.events)) ∧
    (∀ w, s.atWord r w → OvAnswers (.programErrorWord true) s (fun o => o.cap = { s.ov.cap with run := none } ∧
      ⟨0x0906, 0x00, [0, r.pc]⟩ ∈ o.core.events ∧ ⟨0x0601, 0x00, [r.fir.entry, r.pc, (r.words.getD r.pc 0).toNat]⟩ ∈ o.core.events))

/-- Work units and self-managed blocks (R256, R297, R298, R306, R311, R394–R402): a ready context's inputs become a unit, a unit that ends clean is released, one that
fails its first check runs again, two equal digests release a shadowed unit, an idle block gates and a woken one is awake, and a saturation window closes. -/
def Obligations.WorkUnitCommandsComplete : Prop :=
  ∀ (s : State) (e : Envelope) (cell handle busy shadow third again againShadow element value : Nat) (devices : List Nat),
    (∀ p, FbReady s → s.fb.cel.places.filter (fun p => p.cell == some cell && !(s.fb.waitingInputs p.handle).isEmpty && !s.fb.cel.units.any (fun u => u.handle == p.handle)) = [p] →
      s.fb.shadowed p.handle p.seq = false →
      FbAnswers (.workUnitDispatch cell) s (fun f => ∃ g : Fabato, f = g.assignSpares ∧ g.cel.turn = s.fb.cel.turn.set cell p.handle ∧
        g.cel.places = modWhere (fun x => x.handle == p.handle) (fun x => { x with seq := (x.seq + 1) % 2 ^ 32 }) s.fb.cel.places ∧
        g.cel.units = s.fb.cel.units ++ [{ handle := p.handle, seq := p.seq, cell := cell, items := (s.fb.waitingInputs p.handle).take 64, rerun := false, shadow := none }])) ∧
    (∀ u, FbReady s → s.fb.cel.units.find? (fun u => u.handle == handle) = some u → u.rerun = false → u.shadow = none → (s.fb.cell u.cell).inject = none →
      FbAnswers (.workUnitDone handle 0 busy) s (fun f =>
        f = ((s.fb.onCell u.cell (fun x => { x with busy := x.busy + busy, lastWork := s.fb.up })).touch u.cell).releaseUnit u)) ∧
    (∀ u, FbReady s → s.fb.cel.units.find? (fun u => u.handle == handle) = some u → u.rerun = false → (s.fb.cell u.cell).inject = none →
      FbAnswers (.workUnitDone handle 1 busy) s (fun f => ⟨0x1401, u.cell, [u.cell, 0, handle % 65536]⟩ ∈ f.core.events ∧
        f.cel.units = modWhere (fun x => x.handle == handle && x.seq == u.seq) (fun x => { x with rerun := true }) s.fb.cel.units)) ∧
    (∀ u k, FbReady s → s.fb.cel.units.find? (fun u => u.handle == handle) = some u → u.shadow = some (.running k) → s.fb.injected u.cell 7 = false →
      FbAnswers (.shadowDigestsReady handle shadow shadow third again againShadow devices) s (fun f => f = s.fb.releaseUnit u)) ∧
    (FbReady s → FbAnswers .shadowSpareTimeout s (fun f => f.an = s.fb.an ∧ f.cel.places = s.fb.cel.places ∧
      f.cel.units = s.fb.cel.units.map (fun u => match u.shadow with | some (.waiting t) => if s.fb.up ≥ t + 10000 then { u with shadow := none } else u | _ => u))) ∧
    -- the Ovtan's six blocks and the group's hundred
    (OvReady s → 1 ≤ element → element ≤ 6 → s.ov.blockBusy element = false → s.ov.core.flag (oPowerHoldAwake + element) = false →
      OvAnswers (.blockIdleTimeout .ovtan element) s (fun o =>
        o = { s.ov with bnd := { s.ov.bnd with blocks := s.ov.bnd.blocks.set (element - 1) (blockIdleState element) } })) ∧
    (OvReady s → 1 ≤ element → element ≤ 6 → s.ov.blockBusy element = true →
      OvAnswers (.blockWakeDone .ovtan element) s (fun o => o = { s.ov with bnd := { s.ov.bnd with blocks := s.ov.bnd.blocks.set (element - 1) 0 } })) ∧
    (∀ k, FbReady s → s.fb.blockIdle element = some k →
      FbAnswers (.blockIdleTimeout .fabato element) s (fun f =>
        f = { s.fb with cel := { s.fb.cel with blockState := s.fb.cel.blockState.modify element (fun old => if old = 3 then 3 else Nat.max old k) } })) ∧
    (FbReady s → FbAnswers (.blockWakeDone .fabato element) s (fun f => f = { s.fb with cel := { s.fb.cel with
      blockAt := s.fb.cel.blockAt.set element s.fb.up, blockState := s.fb.cel.blockState.modify element (fun k => if k = 3 then 0 else k) } })) ∧
    (value % 256 < 52 → value / 256 < 8 → FbWrites (.ftInject .fabato e value) s e oFtInject (s.objBytes .fabato oFtInject value)
      (fun _ _ => True) (fun f _ => (f.onCell (value % 256) (fun c => { c with inject := some (value / 256) }), stOk))) ∧
    (FbReady s → s.fb.up ≥ s.fb.cel.satStart + 1000 * s.fb.core.num oCellSatWindow →
      FbAnswers .satWindowEnd s (fun f => f.cel.satFlags = s.fb.satRows (s.fb.up - s.fb.cel.satStart) ∧ f.cel.satSeen = 0 ∧ f.cel.satStart = s.fb.up ∧
        f.cel.units = s.fb.cel.units ∧ f.cel.places = s.fb.cel.places ∧
        f.cel.cells = s.fb.cel.cells.map (fun c => { c with load := Nat.min 1000000 (c.busy * 1000000 / (s.fb.up - s.fb.cel.satStart)), busy := 0 })))

/-- In-field tests, fills and spares (R403, R418–R425): tests fall due, begin, are deferred and end; a failed Cell is read out and its contexts move; a readmitted Cell is
a spare or warm; a lane taken out is restored. -/
def Obligations.SpareCommandsComplete : Prop :=
  ∀ (s : State) (e : Envelope) (cell value : Nat) (readable : Bool),
    (cell < 52 → FbWrites (.ftRun .fabato e cell) s e oFtRun (s.objBytes .fabato oFtRun cell) (fun _ _ => True)
      (fun f _ => ((f.onCell cell (fun c => { c with dueSince := some (match c.dueSince with | some t => Nat.min t f.up | none => f.up) })).schedule, stOk))) ∧
    (FbReady s → FbAnswers .ftDue s (fun f => f = ({ s.fb with cel := { s.fb.cel with cells := s.fb.cel.cells.map (fun c =>
      if c.dueSince = none ∧ s.fb.up ≥ c.lastTest + hourNs * s.fb.core.num oFtInterval then { c with dueSince := some s.fb.up } else c) } } : Fabato).schedule)) ∧
    (∀ t, FbReady s → s.fb.cel.test = some t → t.path = 3 → s.fb.cel.fill = none →
      s.fb.up ≥ (s.fb.cell t.cell).dueSince.getD s.fb.up + 1000000000 * s.fb.core.num oFtMaxDefer →
      FbAnswers .ftDeferExpire s (fun f => f = ({ s.fb with cel := { s.fb.cel with test := none } } : Fabato).beginTest t.cell true)) ∧
    (∀ t, FbReady s → s.fb.cel.test = some t → t.readmit = false → t.path = 0 → s.fb.cel.fill = none → t.cell < s.fb.cel.cells.length →
      s.fb.up ≥ t.startAt + 40000000 →
      FbAnswers (.ftTestDone 0) s (fun f => ∃ g : Fabato, f = g.tryFill.assignSpares.schedule ∧ g.cel.test = none ∧
        (g.cell t.cell).lastTest = s.fb.up ∧ (g.cell t.cell).result = (time80 s.fb.ns, 0) ∧ (g.cell t.cell).dueSince = none ∧
        (∀ i, i ≠ t.cell → g.cell i = s.fb.cell i) ∧ ⟨0x1404, t.cell, [t.cell, 0, 0]⟩ ∈ g.core.events)) ∧
    (∀ h, FbReady s → (s.fb.homed cell).filter (fun h => (s.fb.cel.place h).any (fun p => p.mode == 4)) = [h] →
      FbAnswers (.contextReadoutDone cell readable) s (fun f => f = ((if readable then s.fb else s.fb.rebuild h).placeFailed h).tryFill.schedule)) ∧
    (cell < 52 → FbWrites (.cellReadmit .fabato e cell) s e oSpareCellReadmit (s.objBytes .fabato oSpareCellReadmit cell)
      (fun f _ => (f.cell cell).role = .failed ∧ cell ∉ f.cel.readmit)
      (fun f _ => (({ f with cel := { f.cel with readmit := f.cel.readmit ++ [cell] } } : Fabato).schedule, stOk))) ∧
    (∀ t, FbReady s → s.fb.cel.test = some t → t.readmit = true → s.fb.cel.fillQueue = [] → s.fb.roleCount .spare < 4 → t.cell < s.fb.cel.cells.length →
      FbAnswers (.readmitTestDone true) s (fun f => ∃ g : Fabato, f = g.tryFill.assignSpares.schedule ∧ g.cel.test = none ∧ (g.cell t.cell).role = .spare ∧
        (∀ i, i ≠ t.cell → g.cell i = s.fb.cell i) ∧ ⟨0x0D07, t.cell, [t.cell, 1]⟩ ∈ g.core.events)) ∧
    (value < 32 → FbWrites (.laneRestore .fabato e (256 + value)) s e oSpareLaneRestore (s.objBytes .fabato oSpareLaneRestore (256 + value)) (fun _ _ => True)
      (fun f _ => ({ f with alm := { f.alm with histories := f.alm.histories.filter (fun h => h.slot != slotSky value) },
                            cel := { f.cel with skyOut := if f.cel.skyOut.testBit value then f.cel.skyOut ^^^ 2 ^ value else f.cel.skyOut } }, stOk))) ∧
    (value < 136 → FbWrites (.laneRestore .fabato e value) s e oSpareLaneRestore (s.objBytes .fabato oSpareLaneRestore value)
      (fun f _ => f.core.kind = 1)
      (fun f _ => (({ f with alm := { f.alm with histories := f.alm.histories.filter (fun h => h.slot != slotDz value) },
                             cel := { f.cel with dzOut := f.cel.dzOut.set value false } } : Fabato).onG (fun g => g.onLane value (fun l =>
        if f.cel.dzOut.getD value false = true ∧ l.lane.phy.state = .disabled then { l with lane := { l.lane with phy := { l.lane.phy with state := .train, since := f.up } } } else l)), stOk))) ∧
    (∀ x h k rest, FbReady s → s.fb.cel.fill = some x → x.todo = h :: k :: rest →
      FbAnswers .contextMoveDone s (fun f => f.cel.fill = some { x with todo := k :: rest, moved := x.moved + 1 } ∧ f.cel.cells = s.fb.cel.cells ∧
        f.cel.places = s.fb.cel.places.map (fun p => if p.handle = h then { p with cell := some x.target, home := x.target, mode := 0 } else p))) ∧
    (∀ c t rest, FbReady s → s.fb.cel.fillQueue = (c, t) :: rest → s.fb.cel.fill = none → s.fb.freeSpares = [] → s.fb.up ≥ t + 1000000 * s.fb.core.num oSpareReplaceWait →
      FbAnswers .replaceWaitExpire s (fun f => f = s.fb.replace.tryFill)) ∧
    (s.fb.cel.cells.any (fun c => c.role == .warm && decide (s.fb.up ≥ c.warmSince + hourNs * s.fb.core.num oSpareWarmHold)) = true → FbReady s →
      FbAnswers .warmHoldExpire s (fun f => f = ({ s.fb with cel := { s.fb.cel with cells := s.fb.cel.cells.map (fun c =>
        if c.role = .warm ∧ s.fb.up ≥ c.warmSince + hourNs * s.fb.core.num oSpareWarmHold then { c with role := .active } else c) } } : Fabato).replace))

/-- Dew and Dewpoint (R218–R223, R233–R237): a feed write is queued under its length, the oldest queued write passes through the polynomial, a read of the result answers
with every queued write in, a reset restarts the channel, a sweep starts by register or by event, and a finished sweep is committed. -/
def Obligations.DewCommandsComplete : Prop :=
  ∀ (s : State) (e : Envelope) (ch value : Nat), ch < 8 →
    (∀ d, value < 2 ^ 8 → OvWrites (.dewFeedByte .ovtan e ch value) s e (dewObj ch 0x10) (s.objBytes .ovtan (dewObj ch 0x10) value)
      (fun o _ => o.dew[ch]? = some d ∧ d.feeder = none) (fun o _ => ({ o with dew := o.dew.set ch (d.accept { n := 1, v := value, addr := none }) }, stOk))) ∧
    (∀ d, value < 2 ^ 16 → OvWrites (.dewFeedHalfWord .ovtan e ch value) s e (dewObj ch 0x11) (s.objBytes .ovtan (dewObj ch 0x11) value)
      (fun o _ => o.dew[ch]? = some d ∧ d.feeder = none) (fun o _ => ({ o with dew := o.dew.set ch (d.accept { n := 2, v := value, addr := none }) }, stOk))) ∧
    (∀ d, value < 2 ^ 32 → OvWrites (.dewFeedWord .ovtan e ch value) s e (dewObj ch 0x12) (s.objBytes .ovtan (dewObj ch 0x12) value)
      (fun o _ => o.dew[ch]? = some d ∧ d.feeder = none) (fun o _ => ({ o with dew := o.dew.set ch (d.accept { n := 4, v := value, addr := none }) }, stOk))) ∧
    (∀ d w rest, OvReady s → s.ov.dew[ch]? = some d → d.queue = w :: rest →
      OvAnswers (.dewByteProcess ch) s (fun o =>
        o = { s.ov with dew := s.ov.dew.set ch ((DewCh.write { d with queue := rest } (s.ov.core.dewCfg ch) w).refill d.held.length) })) ∧
    (∀ d, OvActs (.dewResultRead .ovtan e ch) s e (.read [{ obj := dewObj ch 6 }]) (fun o a => o.dew[ch]? = some d ∧ Reads ovOps o a (dewObj ch 6))
      (fun o _ => ({ o with dew := o.dew.set ch (d.drain (o.core.dewCfg ch)) },
        readResponse 0 (dewObj ch 6) (leBytes 8 ((d.drain (o.core.dewCfg ch)).result (o.core.dewCfg ch)))))) ∧
    (∀ d, OvWrites (.dewReset .ovtan e ch) s e (dewObj ch 8) (s.objBytes .ovtan (dewObj ch 8) 1) (fun o _ => o.dew[ch]? = some d)
      (fun o _ => ({ o with dew := o.dew.set ch { d with reg := (o.core.dewCfg ch).init % 2 ^ (o.core.dewCfg ch).w,
                                                         addr := BitVec.ofNat 64 (o.core.dewCfg ch).foldStart, seq := 0, queue := [], held := [], fed := 0 } }, stOk))) ∧
    (OvWrites (.dpGo .ovtan e) s e oDewDpGo (s.objBytes .ovtan oDewDpGo 1)
      (fun o _ => o.dma.dp = none ∧ o.core.flag oDewDpEnable = true ∧ o.bnd.blocks.getD 3 0 = 0)
      (fun o _ => (({ o with core := o.core.usePair oDewDpLines (oDewDpSegment + 1) } : Ovtan).onMem (fun x => x.dpStart x.core.ns), stOk))) ∧
    (OvReady s → s.ov.core.num oDewDpStartEvent ≤ 2047 → s.ov.dma.dp = none → s.ov.core.flag oDewDpEnable = true → s.ov.bnd.blocks.getD 3 0 = 0 →
      OvAnswers .dpStartEvent s (fun o => o.buf = s.ov.buf ∧ o.cap = s.ov.cap ∧ o.dma.ch = s.ov.dma.ch ∧ ∃ r, o.dma.dp = some r ∧
        r.a = 0 ∧ r.b = 0 ∧ r.sampled = 0 ∧ r.seg = 0 ∧ r.line = 0 ∧ r.todo = [] ∧ r.reading = none ∧ r.start = s.ov.core.ns ∧ r.step = s.ov.core.angle.step % 2 ^ 32)) ∧
    (∀ r, OvReady s → s.ov.core.num oDewDpStartEvent ≤ 2047 → s.ov.dma.dp = some r → r.overran = false →
      OvAnswers .dpStartEvent s (fun o => o.dma.dp = some { r with overran := true } ∧ o.core = (s.ov.core.bump oDewDpOverruns).raise 0x0805 0x05 [r.id, r.step])) ∧
    (∀ r, OvReady s → s.ov.dma.dp = some r → r.complete = true →
      OvAnswers .digestComplete s (fun o => o.dma.dp = none ∧ o.cap = s.ov.cap ∧ o.dma.ch = s.ov.dma.ch ∧
        o.dma.dpLast.take 16 = leBytes 16 (r.b.toNat * 2 ^ 64 + r.a.toNat) ∧ ∃ st, ⟨0x0804, 0x05, [r.id, r.step, r.sampled, st]⟩ ∈ o.core.events))

/-- Contrail and the MEM port (R224–R231, R254, R255): a descriptor in order starts its channel, a stop ends it, the port grants one burst, a response moves its burst on
and an unanswered request is dead. -/
def Obligations.ContrailCommandsComplete : Prop :=
  ∀ (s : State) (e : Envelope) (ch : Nat) (data : Bytes), ch < 8 →
    (∀ d, OvWrites (.dmaGo .ovtan e ch) s e oDmaGo (s.objBytes .ovtan oDmaGo ch)
      (fun o _ => (o.dma.ch.getD ch DmaCh.idle).run = none ∧ o.memSide.dpHolds ch = false ∧ d = dmaDesc (o.core.get (0x08010000 + ch * 256 + 1)) ∧
        dmaCheck d ((o.dew.getD d.dew { reg := 0, addr := 0, seq := 0, queue := [], held := [], fed := 0, feeder := none }).feeder.isSome) = 0)
      (fun o _ => ({ o with
        dma := { o.dma with ch := o.dma.ch.set ch { run := some { desc := o.core.get (0x08010000 + ch * 256 + 1), done := 0, stopping := false, burst := .idle },
                                                    state := 1, code := 0, bytes := 0, mismatch := 2 ^ 64 - 1, mismatches := 0 } },
        dew := if d.mode = 4 then o.dew.modify d.dew (fun w => { w with feeder := some ch }) else o.dew }, stOk))) ∧
    (∀ h r, r.burst ≠ .idle → OvWrites (.dmaStop .ovtan e ch) s e oDmaStop (s.objBytes .ovtan oDmaStop ch)
      (fun o _ => o.dma.ch[ch]? = some h ∧ h.run = some r)
      (fun o _ => ({ o with dma := { o.dma with ch := o.dma.ch.set ch { h with run := some { r with stopping := true } } } }, stOk))) ∧
    (∀ h r, r.burst = .idle → OvWrites (.dmaStop .ovtan e ch) s e oDmaStop (s.objBytes .ovtan oDmaStop ch)
      (fun o _ => o.dma.ch[ch]? = some h ∧ h.run = some r) (fun o _ => (o.onMem (fun x => x.endDma ch 7), stOk))) ∧
    (∀ r, OvReady s → s.ov.memSide.grantSpill (s.ov.link.lane.phy.state == .up) = none → s.ov.memSide.refill.pick = some ch →
      (s.ov.dma.ch.getD ch DmaCh.idle).run = some r → OvAnswers .memBurstGrant s (fun o => o = s.ov.onMem (fun x => x.refill.issue ch r))) ∧
    -- the spill ring goes first
    (OvReady s → s.ov.buf.ringWriting = 0 → s.ov.buf.ringAcked < s.ov.buf.ring.length →
      OvAnswers .memBurstGrant s (fun o => o.dma.ch = s.ov.dma.ch ∧ o.buf.ring = s.ov.buf.ring ∧
        o.buf.ringWriting = ringBurst s.ov.memSide s.ov.buf.ringAcked (s.ov.buf.ring.length - s.ov.buf.ringAcked) ∧
        o.dma.mem = s.ov.dma.mem ++ [{ id := 8, write := true, addr := ringAddr s.ov.memSide s.ov.buf.ringAcked, len := 32 * o.buf.ringWriting,
                                       at_ := s.ov.core.up, dead := false }])) ∧
    -- a copy: the burst read is the burst written
    (∀ q rest h r off len, OvReady s → s.ov.dma.mem = q :: rest → q.id = ch → q.write = false → q.dead = false → s.ov.dma.ch[ch]? = some h → h.run = some r →
      r.burst = .reading off len → (dmaDesc r.desc).mode = 1 →
      OvAnswers (.memReadResponse ch data false) s (fun o => o.buf = s.ov.buf ∧ o.dew = s.ov.dew ∧
        o.core = s.ov.core.send (.mem ch true (sideAddr (dmaDesc r.desc).dst (dmaDesc r.desc).dstWrap off) len (slice data 0 len)) ∧
        o.dma.ch = s.ov.dma.ch.set ch { h with run := some { r with burst := .writing off len } } ∧
        o.dma.mem = rest ++ [{ id := ch, write := true, addr := sideAddr (dmaDesc r.desc).dst (dmaDesc r.desc).dstWrap off, len := len, at_ := s.ov.core.up, dead := false }])) ∧
    (∀ q rest h r off len, OvReady s → s.ov.dma.mem = q :: rest → q.id = ch → q.write = true → q.dead = false → s.ov.dma.ch[ch]? = some h → h.run = some r →
      r.burst = .writing off len → r.done + len < (dmaDesc r.desc).len → r.stopping = false →
      OvAnswers (.memWriteResponse ch false) s (fun o => o.buf = s.ov.buf ∧ o.dew = s.ov.dew ∧ o.dma.mem = rest ∧
        o.core = s.ov.core.count (0x08010000 + ch * 256 + 5) len ∧
        o.dma.ch = s.ov.dma.ch.set ch { h with run := some { r with done := r.done + len, burst := .idle }, bytes := r.done + len })) ∧
    (∀ q, OvReady s → s.ov.dma.mem.find? (fun q => q.id == ch && !q.dead) = some q → s.ov.core.up ≥ q.at_ + s.ov.core.num oPowerMemTimeout * 1000 →
      OvAnswers (.memTimeout ch) s (fun o => ⟨0x0903, 0x06, [q.id, q.addr]⟩ ∈ o.core.events ∧
        o.dma.mem = s.ov.dma.mem.map (fun r => if r == q then { r with dead := true } else r)))

/-- Contexts of the Condenser (R474, R479, R483): a gather that has run out closes its frame, a granted reset or an idle bound context falls due for reset, an idle decode
context is let go. -/
def Obligations.CondenserCommandsComplete : Prop :=
  ∀ (s : State) (e : Envelope) (idx : Nat),
    (∀ x, FbReady s → s.fb.g.cond.ctxs.find? (fun x => x.idx == idx) = some x → x.gather ≠ [] → s.fb.up ≥ x.gatherAt + 1000 * s.fb.core.num oCondenseGather →
      FbAnswers (.condenseGatherExpire idx) s (fun f => f = s.fb.onG (fun g => g.closeFrame idx))) ∧
    (idx < 4096 → FbWrites (.condenseCtxReset .fabato e idx) s e (condObj idx 3) (s.objBytes .fabato (condObj idx 3) 1) (fun _ _ => True)
      (fun f _ => (f.onG (fun g => { g with cond := { g.cond with ctxs := g.cond.ctxs.map (fun x =>
        if x.idx = idx ∧ x.bound.isSome = true then { x with resetDue := true } else x) } }), stOk))) ∧
    (∀ x, FbReady s → s.fb.g.cond.ctxs.find? (fun x => x.idx == idx) = some x → x.bound.isSome = true → storeGet s.fb.core.pairGood oCondenseIdleReset = none →
      s.fb.up ≥ x.lastUse + 1000000 * s.fb.core.used oCondenseIdleReset →
      FbAnswers (.condenseIdleReset idx) s (fun f => f = s.fb.onG (fun g => { g with cond := { g.cond with ctxs := g.cond.ctxs.map (fun x =>
        if x.idx = idx ∧ x.bound.isSome = true then { x with resetDue := true } else x) } }))) ∧
    (∀ x, FbReady s → s.fb.g.cond.ctxs.find? (fun x => x.idx == idx) = some x → x.key.isSome = true → storeGet s.fb.core.pairGood oCondenseIdleReset = none →
      s.fb.up ≥ x.lastUse + 1000000 * s.fb.core.used oCondenseDecodeIdle →
      FbAnswers (.condenseDecodeIdle idx) s (fun f => f = s.fb.onG (fun g => { g with cond := { g.cond with ctxs := g.cond.ctxs.filter (fun y => y.idx != idx) } })))

/-- Cuts (R454–R461): a granted arm with its lead is an armed cut at either kind of unit, a granted request fans its arm out, a cancel takes an armed cut away, and a cut
fires at its time and closes at its time-out. -/
def Obligations.CutCommandsComplete : Prop :=
  ∀ (s : State) (e : Envelope) (desc : Bytes) (id t : Nat),
    (OvWrites (.cutArm .ovtan e desc) s e oCutArm desc
      (fun o _ => cutFields desc = stOk ∧ o.core.angle.isLocked = true ∧ o.core.cuts.length < 4 ∧ o.core.cuts.any (fun k => k.id == cutId desc) = false ∧
        o.core.cutPredict (cutStep desc) (cutAngle desc) = some t ∧ t ≥ o.core.ns + 2000000)
      (fun o _ => ({ o with core := ({ o.core with cuts := o.core.cuts ++ [{ id := cutId desc, step := cutStep desc, angle := cutAngle desc, flags := cutKind desc, desc := desc, armedAt := o.core.ns }] } : Core).raise 0x0F01 o.core.cutSub [cutId desc, cutStep desc, cutAngle desc] }, stOk))) ∧
    (FbWrites (.cutArm .fabato e desc) s e oCutArm desc
      (fun f _ => cutFields desc = stOk ∧ f.core.angle.isLocked = true ∧ f.core.cuts.length < 4 ∧ f.core.cuts.any (fun k => k.id == cutId desc) = false ∧
        f.cast.cuts.any (fun k => cutId k.desc == cutId desc) = false ∧
        f.core.cutPredict (cutStep desc) (cutAngle desc) = some t ∧ t ≥ f.core.ns + 2000000)
      (fun f _ => ({ f.onCore (fun c => ({ c with cuts := c.cuts ++ [{ id := cutId desc, step := cutStep desc, angle := cutAngle desc, flags := cutKind desc, desc := desc, armedAt := c.ns }] } : Core).raise 0x0F01 c.cutSub [cutId desc, cutStep desc, cutAngle desc]) with
        cast := { f.cast with cuts := f.cast.cuts ++ [{ desc := desc, self := true, initiator := false, latched := none, members := f.cutMembers, channel := [], snaps := [] }] } }, stOk))) ∧
    (∀ f a g, FbGrants s e .wo oCutRequest desc f a → f.castRequest desc = stOk →
      g = (f.castArm desc true).1.cutFan a oCutArm .blob desc (some (cutId desc)) (f.castArm desc true).2 → g.fwd.nextFan ≠ f.fwd.nextFan →
      exec (.cutRequest .fabato e desc) s = .next { s with fb := (g.fanned f.fwd.nextFan e a (s.oneWrite .fabato oCutRequest desc)).settle s.fb }) ∧
    (id < 2 ^ 32 → OvWrites (.cutCancel .ovtan e id) s e oCutCancel (s.objBytes .ovtan oCutCancel id) (fun o _ => o.core.cuts.any (fun k => k.id == id) = true)
      (fun o _ => ({ o with core := { o.core with cuts := o.core.cuts.filter (fun k => k.id != id) } }, stOk))) ∧
    (id < 2 ^ 32 → ∀ k, FbWrites (.cutCancel .fabato e id) s e oCutCancel (s.objBytes .fabato oCutCancel id)
      (fun f _ => f.cast.cuts.find? (fun k => cutId k.desc == id) = some k ∧ k.latched = none ∧ f.cast.cuts.any (fun k => cutId k.desc == id && k.initiator) = false)
      (fun f _ => ({ f.onCore (fun c => { c with cuts := c.cuts.filter (fun x => x.id != id) }) with
        cast := { f.cast with cuts := f.cast.cuts.filter (fun x => cutId x.desc != id) } }, stOk))) ∧
    (∀ k, OvReady s → s.ov.core.cuts = [k] → s.ov.core.cutDue k = some t → t ≤ s.ov.core.ns →
      OvAnswers .cutFire s (fun o => o = s.ov.fireCut k t false false)) ∧
    (∀ k, FbReady s → s.fb.cast.cuts = [k] → k.latched = some t → s.fb.up ≥ t + 1000 * s.fb.core.num oCutCloseTimeout →
      FbAnswers .cutCloseTimeout s (fun f => f = s.fb.castClose (cutId k.desc) true)) ∧
    (∀ k, FbReady s → s.fb.cast.waiting = [k] → s.fb.core.angle.isLocked = true → cutStep k.desc = s.fb.core.angle.step →
      fireTime s.fb.core.angle.tm s.fb.core.angle.lq (cutAngle k.desc) ≤ s.fb.ns →
      FbAnswers .groupCutAngleFire s (fun f => f = s.fb.castLatch k (fireTime s.fb.core.angle.tm s.fb.core.angle.lq (cutAngle k.desc)) false false))

/-- Wait-for graphs and Cadence (R465–R471): a granted build opens a graph, a child's summary is kept under its member until the last merges them, holds and waits that have
run out finish it; an interrupt, a checkpoint and an acknowledgement do their own effect on their job. -/
def Obligations.CadenceCommandsComplete : Prop :=
  ∀ (s : State) (e : Envelope) (value : Bytes) (member tenant num : Nat),
    (FbWrites (.wfBuild .fabato e value) s e oCutWfBuild value (fun _ _ => True)
      (fun f _ => ({ f with cast := { f.cast with wf := f.cast.wf.filter (fun x => x.graph != leAt value 0 4) ++ [{ graph := leAt value 0 4, t := ofTime80 (leAt value 4 10), at_ := f.up, merging := f.core.kind != 1, edges := [], flags := 0, kids := [] }] } }, stOk))) ∧
    (member < 16 → ∀ b k, FbWrites (.wfMergeWrite .fabato e member value) s e (oCutWfMerge + member + 1) value
      (fun f _ => checkSummary value = stOk ∧ f.cast.wf.find? (fun b => b.graph == wfHeadId value && b.merging) = some b ∧
        k < 16 ∧ k ≠ member ∧ f.memberState k = 1 ∧ b.kids.any (fun x => x.1 == k) = false)
      (fun f _ => ({ f with cast := { f.cast with wf := f.cast.wf.map (fun x =>
        if x.graph = b.graph then { b with kids := b.kids.filter (fun k => k.1 != member) ++ [(member, value)] } else x) } }, stOk))) ∧
    (∀ b, FbReady s → s.fb.cast.wf = [b] → b.merging = false → s.fb.ns ≥ b.t + 1000000 * s.fb.core.num oCutWfHold →
      FbAnswers .wfHoldExpire s (fun f => f = s.fb.wfFinish b (openEdges s.fb.fwd.trace b.t) (if wfIncomplete s.fb.fwd.trace b.t then 1 else 0))) ∧
    (∀ b, FbReady s → s.fb.cast.wf = [b] → b.merging = true → s.fb.up ≥ b.at_ + 1000000 * s.fb.core.num oCutWfWait →
      FbAnswers .wfWaitExpire s (fun f => f = s.fb.wfMerge b)) ∧
    (tenant < 2 ^ 32 → ∀ j, FbWrites (.cadenceInterrupt .fabato e tenant) s e oCadenceInterrupt (s.objBytes .fabato oCadenceInterrupt tenant)
      (fun f _ => f.cast.jobs.filter (fun j => j.tenant == tenant) = [j] ∧ j.lastInt = none)
      (fun f _ =>
        let d := j.decay f.core f.ns
        let n := { d with n := toF64 (fadd (f64Val d.n) (fofInt 1)), count := (j.count + 1) % 2 ^ 64, lastInt := some f.ns }
        ((({ f with cast := f.cast.setJob n } : Fabato).raise 0x1803 0x73 [tenant, 2, toF64 n.mtbi]).cadUpdate n, stOk))) ∧
    (FbWrites (.cadenceCkptDone .fabato e value) s e oCadenceCkptDone value (fun f _ => f.cast.jobs.any (fun j => j.tenant == leAt value 0 4) = true)
      (fun f _ => ({ f with cast := { f.cast with jobs := f.cast.jobs.map (fun j => if j.tenant = leAt value 0 4 then { j with ckpt := leAt value 4 8 } else j) } }, stOk))) ∧
    (num < 2 ^ 32 → FbWrites (.cadenceAck .fabato e num) s e oCadenceAck (s.objBytes .fabato oCadenceAck num)
      (fun f _ => f.cast.reqs.any (fun r => r.num == num && r.kind != 2) = true)
      (fun f _ => ({ f with cast := { f.cast with reqs := f.cast.reqs.filter (fun r => !(r.num == num && r.kind != 2)) } }, stOk))) ∧
    (∀ j, FbReady s → s.fb.cast.jobs = [j] → FbAnswers .cadenceUpdateTick s (fun f => f = s.fb.cadUpdate j))

/-- What a unit's dictionary makes of a request (R62–R69, R76–R82), at either kind of unit: a read of one element answers its value; an immediate register takes a granted
value and has its effect; a commit discards the stage, sets it aside for a step or a time still to come, or is cancelled. -/
def Obligations.RequestEffects : Prop :=
  ∀ {σ : Type} (u : UnitOps σ) (x : σ) (a : Actor) (flags obj id step time : Nat) (v : Bytes),
    (Reads u x a obj → act u x a flags (.read [{ obj := obj }]) = (u.didRead x obj, readResponse (u.get x).kind obj (readValue u x a obj))) ∧
    (Permits u x a .rw obj v → flagStage flags = false →
      act u x a flags (.write [{ obj := obj, ty := tyOf (u.get x).kind obj, value := v }]) =
        (u.done (u.effect (u.set (u.before x obj) ((u.get (u.before x obj)).put obj v)) obj v) [obj], writeResponse obj (tyOf (u.get x).kind obj) stOk)) ∧
    (1 ≤ a.role.rank → act u x a flags (.commit (commitBytes 0 0 0 0)) = (u.set x ((u.get x).setStage a []), ⟨stOk, []⟩)) ∧
    (1 ≤ a.role.rank → id ≠ 0 → id < 2 ^ 32 → step < 2 ^ 64 → (u.get x).commits.any (fun k => k.id == id) = false →
      stepInFuture (u.get x).angle ((u.get x).kind = 0) step = true →
      (u.pairs x (((u.get x).stageOf a).map Prod.fst)).any (fun p => !p.2 (viewWith (u.get x) ((u.get x).stageOf a))) = false → (u.get x).commits.length < 16 →
      act u x a flags (.commit (commitBytes 1 id step 0)) =
        (u.set x { (u.get x).setStage a [] with commits := (u.get x).commits ++ [{ id := id, step := some step, time := none, values := (u.get x).stageOf a, session := a.session }] },
          ⟨stCommitPending, []⟩)) ∧
    (1 ≤ a.role.rank → id ≠ 0 → id < 2 ^ 32 → time / 10 ^ 9 < 2 ^ 48 → (u.get x).commits.any (fun k => k.id == id) = false → time ≥ (u.get x).ns + 10000 →
      (u.pairs x (((u.get x).stageOf a).map Prod.fst)).any (fun p => !p.2 (viewWith (u.get x) ((u.get x).stageOf a))) = false → (u.get x).commits.length < 16 →
      act u x a flags (.commit (commitBytes 2 id 0 time)) =
        (u.set x { (u.get x).setStage a [] with commits := (u.get x).commits ++ [{ id := id, step := none, time := some time, values := (u.get x).stageOf a, session := a.session }] },
          ⟨stCommitPending, []⟩)) ∧
    (1 ≤ a.role.rank → id ≠ 0 → id < 2 ^ 32 → (u.get x).commits.any (fun k => k.id == id) = true →
      act u x a flags (.commit (commitBytes 3 id 0 0)) =
        (u.set x (({ u.get x with commits := (u.get x).commits.filter (fun k => k.id != id) } : Core).raise 0x0205 (if (u.get x).kind = 0 then 0x09 else 0x76) [id, a.session]), ⟨stOk, []⟩))

/-- Dictionary messages at both units (R90–R99, R109, R260): an accepted request is acted on (by `Obligations.RequestEffects`), its response kept and sent; a commit whose
time has come takes effect; kept responses and forwards that have run out end; a restart clears the unit. -/
def Obligations.DictCommandsComplete : Prop :=
  ∀ (s : State) (e : Envelope) (reads : List ReadItem) (writes : List WriteItem) (area start id step time opcode summary : Nat) (body : Bytes),
    OvActs (.dictRead .ovtan e reads) s e (.read reads) (fun _ _ => True) (fun o a => act ovOps o a e.flags (.read reads)) ∧
    FbActs (.dictRead .fabato e reads) s e (.read reads) (fun _ _ => True) (fun f a => act fbOps f a e.flags (.read reads)) ∧
    OvActs (.objectWrite .ovtan e writes) s e (.write writes) (fun _ _ => True) (fun o a => act ovOps o a e.flags (.write writes)) ∧
    FbActs (.objectWrite .fabato e writes) s e (.write writes) (fun _ _ => cutWrite (.write writes) = false) (fun f a => act fbOps f a e.flags (.write writes)) ∧
    OvActs (.dictList .ovtan e area start) s e (.list area start) (fun _ a => loftBarred a area = false) (fun o a => (o, ⟨stOk, listBody (listOf ovOps o a area start)⟩)) ∧
    FbActs (.dictList .fabato e area start) s e (.list area start) (fun _ a => loftBarred a area = false) (fun f a => (f, ⟨stOk, listBody (listOf fbOps f a area start)⟩)) ∧
    OvActs (.commitDiscard .ovtan e) s e (.commit (commitBytes 0 0 0 0)) (fun _ _ => True) (fun o a => act ovOps o a e.flags (.commit (commitBytes 0 0 0 0))) ∧
    FbActs (.commitDiscard .fabato e) s e (.commit (commitBytes 0 0 0 0)) (fun _ _ => True) (fun f a => act fbOps f a e.flags (.commit (commitBytes 0 0 0 0))) ∧
    OvActs (.commitAtStep .ovtan e id step) s e (.commit (commitBytes 1 id step 0)) (fun _ _ => True) (fun o a => act ovOps o a e.flags (.commit (commitBytes 1 id step 0))) ∧
    FbActs (.commitAtStep .fabato e id step) s e (.commit (commitBytes 1 id step 0)) (fun _ _ => True) (fun f a => act fbOps f a e.flags (.commit (commitBytes 1 id step 0))) ∧
    OvActs (.commitAtTime .ovtan e id time) s e (.commit (commitBytes 2 id 0 time)) (fun _ _ => True) (fun o a => act ovOps o a e.flags (.commit (commitBytes 2 id 0 time))) ∧
    FbActs (.commitAtTime .fabato e id time) s e (.commit (commitBytes 2 id 0 time)) (fun _ _ => True) (fun f a => act fbOps f a e.flags (.commit (commitBytes 2 id 0 time))) ∧
    OvActs (.commitCancel .ovtan e id) s e (.commit (commitBytes 3 id 0 0)) (fun _ _ => True) (fun o a => act ovOps o a e.flags (.commit (commitBytes 3 id 0 0))) ∧
    FbActs (.commitCancel .fabato e id) s e (.commit (commitBytes 3 id 0 0)) (fun _ _ => True) (fun f a => act fbOps f a e.flags (.commit (commitBytes 3 id 0 0))) ∧
    (∀ k t, OvReady s → s.ov.core.commits = [k] → k.time = some t → t ≤ s.ov.core.ns → OvAnswers (.timeCommitInstant .ovtan) s (fun o => o = commitOne ovOps s.ov k)) ∧
    (∀ k t, FbReady s → s.fb.core.commits = [k] → k.time = some t → t ≤ s.fb.core.ns → FbAnswers (.timeCommitInstant .fabato) s (fun f => f = commitOne fbOps s.fb k)) ∧
    (OvReady s → OvAnswers (.keptResponseExpire .ovtan) s (fun o =>
      o = { s.ov with core := { s.ov.core with kept := s.ov.core.kept.filter (fun k => decide (s.ov.core.up - k.at_ < 86400 * secNs)) } })) ∧
    (FbReady s → FbAnswers (.keptResponseExpire .fabato) s (fun f =>
      f = s.fb.onCore (fun c => { c with kept := c.kept.filter (fun k => decide (s.fb.core.up - k.at_ < 86400 * secNs)) }))) ∧
    OvWrites (.identRestart .ovtan e) s e oIdentRestart (s.objBytes .ovtan oIdentRestart 1) (fun _ _ => True) (fun o _ => (o.restart, stOk)) ∧
    FbWrites (.identRestart .fabato e) s e oIdentRestart (s.objBytes .fabato oIdentRestart 1) (fun _ _ => True) (fun f _ => (f.restart false, stOk)) ∧
    (∀ c w, FbReady s → s.fb.fwd.clients.find? (fun c => c.port == e.port && c.stage == 2 && c.session == e.session) = some c →
      e.mac = (hmac c.key (messageBytes e opcode summary body)).take 16 →
      s.fb.fwd.pending.find? (fun w => w.out == e.port && w.msgId == e.msgId && w.opcode + 0x80 == opcode) = some w → w.env.session ≠ 0 →
      FbAnswers (.forwardResponse e opcode summary body) s (fun f => f = s.fb.forwardEnd w ⟨summary, body⟩)) ∧
    (∀ w, FbReady s → s.fb.fwd.pending = [w] → s.fb.up ≥ w.deadline → FbAnswers .forwardTimeout s (fun f => f = s.fb.forwardEnd w (.error eTimeout)))

/-- Sessions (R102–R122): a hello that names an open role leaves a handshake of 10 s, a proof that agrees makes it a session under the derived key, sessions close by message,
by write, when idle and at the end of their life, a lock ends with its time, and the trace grant is given, counted down and ended. -/
def Obligations.SessionCommandsComplete : Prop :=
  ∀ (s : State) (e : Envelope) (body : Bytes) (id seconds : Nat) (port : Port) (role : Role),
    (OvReady s → sessionError e body.length 32 = stOk → leAt body 0 1 ≤ 3 →
      s.ov.core.helloResult e.port (Role.ofCode (leAt body 0 1)) ((leAt body 1 1).testBit 0) (leAt body 12 4) = 0 →
      OvAnswers (.sessionHello .ovtan e body) s (fun o => o = s.ov.onCoreSend (fun c => c.hello e body) ∧
        ∃ h : Handshake, (s.ov.core.hello e body).handshakes = s.ov.core.liveHandshakes ++ [h] ∧ h.role = Role.ofCode (leAt body 0 1) ∧ h.tenant = leAt body 12 4 ∧
          h.port = e.port ∧ h.expires = s.ov.core.up + 10 * secNs)) ∧
    (FbReady s → sessionError e body.length 32 = stOk → leAt body 0 1 ≤ 3 →
      s.fb.core.helloResult e.port (Role.ofCode (leAt body 0 1)) ((leAt body 1 1).testBit 0) (leAt body 12 4) = 0 →
      FbAnswers (.sessionHello .fabato e body) s (fun f => f = s.fb.sending (fun c => c.hello e body) ∧
        ∃ h : Handshake, (s.fb.core.hello e body).handshakes = s.fb.core.liveHandshakes ++ [h] ∧ h.role = Role.ofCode (leAt body 0 1) ∧ h.tenant = leAt body 12 4 ∧
          h.port = e.port ∧ h.expires = s.fb.core.up + 10 * secNs)) ∧
    (∀ (c : Core) (h : Handshake), OvReady s → c = s.ov.core.expireSessions → sessionError e body.length 64 = stOk →
      c.liveHandshakes.find? (fun h => h.id == e.session && h.port == e.port && decide (h.id ≠ 0)) = some h →
      Core.proofResult { c with handshakes := c.liveHandshakes.filter (fun g => g.id != h.id) } h body = 0 →
      OvAnswers (.sessionProof .ovtan e body) s (fun o => o = s.ov.onCoreSend (fun c => c.proof e body) ∧
        ∃ n : Session, (s.ov.core.proof e body).sessions = c.sessions ++ [n] ∧ n.id = h.id ∧ n.role = h.role ∧ n.tenant = h.tenant ∧ n.port = h.port ∧
          n.key = sessionKey (c.openKey h.link h.role) h.transcript ∧ n.openedAt = c.up ∧ n.stage = [])) ∧
    (∀ (c : Core) (h : Handshake), FbReady s → c = s.fb.core.expireSessions → sessionError e body.length 64 = stOk →
      c.liveHandshakes.find? (fun h => h.id == e.session && h.port == e.port && decide (h.id ≠ 0)) = some h →
      Core.proofResult { c with handshakes := c.liveHandshakes.filter (fun g => g.id != h.id) } h body = 0 →
      FbAnswers (.sessionProof .fabato e body) s (fun f => f = s.fb.sending (fun c => c.proof e body) ∧
        ∃ n : Session, (s.fb.core.proof e body).sessions = c.sessions ++ [n] ∧ n.id = h.id ∧ n.role = h.role ∧ n.tenant = h.tenant ∧ n.port = h.port ∧
          n.key = sessionKey (c.openKey h.link h.role) h.transcript ∧ n.openedAt = c.up ∧ n.stage = [])) ∧
    (∀ x : Session × Core, OvReady s → s.ov.core.expireSessions.authenticate e 0x12 [] = some x → sessionError e 0 0 = stOk →
      OvAnswers (.sessionClose .ovtan e) s (fun o => o = s.ov.onCoreSend (fun c => c.closeMessage e) ∧ ∀ n ∈ (s.ov.core.closeMessage e).sessions, n.id ≠ x.1.id)) ∧
    (∀ x : Session × Core, FbReady s → s.fb.core.expireSessions.authenticate e 0x12 [] = some x → sessionError e 0 0 = stOk →
      FbAnswers (.sessionClose .fabato e) s (fun f => f = s.fb.sending (fun c => c.closeMessage e) ∧ ∀ n ∈ (s.fb.core.closeMessage e).sessions, n.id ≠ x.1.id)) ∧
    (OvReady s → OvAnswers (.handshakeExpire .ovtan id) s (fun o =>
      o = { s.ov with core := { s.ov.core with handshakes := s.ov.core.handshakes.filter (fun h => !(h.id == id && decide (s.ov.core.up ≥ h.expires))) } })) ∧
    (FbReady s → FbAnswers (.handshakeExpire .fabato id) s (fun f =>
      f = s.fb.onCore (fun c => { c with handshakes := c.handshakes.filter (fun h => !(h.id == id && decide (s.fb.core.up ≥ h.expires))) }))) ∧
    (OvReady s → OvAnswers (.sessionIdleTimeout .ovtan id) s (fun o => o.bnd = s.ov.bnd ∧ o.cap = s.ov.cap ∧ o.core.store = s.ov.core.store ∧
      o.core.sessions = s.ov.core.sessions.filter (fun n => !(n.id == id && decide (s.ov.core.up ≥ n.lastAt + n.idle * secNs))))) ∧
    (FbReady s → FbAnswers (.sessionIdleTimeout .fabato id) s (fun f => f.board = s.fb.board ∧ f.cel = s.fb.cel ∧ f.core.store = s.fb.core.store ∧
      f.core.sessions = s.fb.core.sessions.filter (fun n => !(n.id == id && decide (s.fb.core.up ≥ n.lastAt + n.idle * secNs))))) ∧
    (OvReady s → OvAnswers (.sessionLifetimeEnd .ovtan id) s (fun o => o.bnd = s.ov.bnd ∧ o.cap = s.ov.cap ∧ o.core.store = s.ov.core.store ∧
      o.core.sessions = s.ov.core.sessions.filter (fun n => !(n.id == id && decide (s.ov.core.up ≥ n.openedAt + n.life * secNs))))) ∧
    (FbReady s → FbAnswers (.sessionLifetimeEnd .fabato id) s (fun f => f.board = s.fb.board ∧ f.cel = s.fb.cel ∧ f.core.store = s.fb.core.store ∧
      f.core.sessions = s.fb.core.sessions.filter (fun n => !(n.id == id && decide (s.fb.core.up ≥ n.openedAt + n.life * secNs))))) ∧
    (id < 2 ^ 32 → OvWrites (.closeSessionWrite .ovtan e id) s e oSessionCloseSession (s.objBytes .ovtan oSessionCloseSession id)
      (fun o _ => o.core.sessions.any (fun n => n.id == id) = true) (fun o _ => ({ o with core := o.core.closeSessions (fun n => n.id == id) 4 }, stOk))) ∧
    (id < 2 ^ 32 → FbWrites (.closeSessionWrite .fabato e id) s e oSessionCloseSession (s.objBytes .fabato oSessionCloseSession id)
      (fun f _ => f.core.sessions.any (fun n => n.id == id) = true) (fun f _ => (f.onCore (fun c => c.closeSessions (fun n => n.id == id) 4), stOk))) ∧
    (∀ t, OvReady s → (s.ov.core.lockOf port role).until? = some t → s.ov.core.up ≥ t →
      OvAnswers (.lockoutEnd .ovtan port role) s (fun o => (o.core.lockOf port role).until? = none ∧ o.core.sessions = s.ov.core.sessions ∧
        ⟨0x0303, s.ov.core.dictSub, [role.rank, port.code, (s.ov.core.lockOf port role).k, 0]⟩ ∈ o.core.events)) ∧
    (∀ t, FbReady s → (s.fb.core.lockOf port role).until? = some t → s.fb.core.up ≥ t →
      FbAnswers (.lockoutEnd .fabato port role) s (fun f => (f.core.lockOf port role).until? = none ∧ f.core.sessions = s.fb.core.sessions ∧
        ⟨0x0303, s.fb.core.dictSub, [role.rank, port.code, (s.fb.core.lockOf port role).k, 0]⟩ ∈ f.core.events)) ∧
    (∀ c : LinkClient, FbReady s → s.fb.fwd.clients.find? (fun c => c.port == port && c.stage == 0 && c.role.rank == leAt body 0 1) = some c → body.length = 64 → leAt body 1 1 = 0 →
      FbAnswers (.linkHandshakeReply port id 0x90 body) s (fun f => ∃ w : ForwardPart, w = s.fb.fwd.setClient { c with stage := 1, transcript := c.hello ++ body, session := leAt body 8 4 } ∧
        f = ({ s.fb with fwd := { w with nextMsg := s.fb.fwd.nextMsg + 1 } } : Fabato).sending (fun u => u.send (.message port 0x11 id (messageBytes { port := port, paths := [id], session := leAt body 8 4, msgId := s.fb.fwd.nextMsg, bodyLen := 64 } 0x11 0 (clientProof s.fb.core.keys.tree (c.hello ++ body) ++ zeros 32) ++ zeros 16))))) ∧
    (FbReady s → FbAnswers .linkAuthHoldoffEnd s (fun f => f = { s.fb with fwd := { s.fb.fwd with holdoff := s.fb.fwd.holdoff.filter (fun x => decide (s.fb.up < x.2)) } })) ∧
    -- SESSION.TRACE_GRANT is a register: the write is kept and the grant runs from now (R118)
    (seconds ≠ 0 → seconds ≤ 86400 → OvSets (.traceGrantWrite .ovtan e seconds) s e oSessionTraceGrant (s.objBytes .ovtan oSessionTraceGrant seconds) (fun _ _ => True)
      (fun o _ => ({ o with core := (o.core.put oSessionTraceGrant (s.objBytes .ovtan oSessionTraceGrant seconds)).raise 0x0306 0x09 [seconds],
                            trace := { o.trace with grantEnd := some (o.core.up + seconds * secNs) } }, stOk))) ∧
    (∀ t, OvReady s → s.ov.trace.grantEnd = some t → s.ov.core.up ≥ t →
      OvAnswers .traceGrantExpire s (fun o => o = { s.ov with core := s.ov.core.raise 0x0306 0x09 [0], trace := { s.ov.trace with grantEnd := none } }))

/-- A Drizzle lane's training, blocks, hellos and retries at either end (R264–R266, R271–R275): each event takes the lane out of the state it belongs to as Table 10.5 says. -/
def Obligations.DrizzleLaneCommandsComplete : Prop :=
  ∀ (s : State) (e : Envelope) (n item hdr symbols uncorr : Nat) (flits : List Bytes),
    LaneSteps (.dzTrainingComplete · n) s n (fun _ l => l.phy.state = .train) (fun _ c l => (c, l.align c.up)) ∧
    LaneSteps (.dzTrainTimeout · n) s n (fun c l => l.phy.state = .train ∧ c.up ≥ l.phy.since + 15000000) (fun p c l => (c.bump (oLinkDzRetrains + p + 1), l.train c.up)) ∧
    LaneSteps (.dzAlignTimeout · n) s n (fun c l => l.phy.state = .align ∧ c.up ≥ l.phy.since + 1000000) (fun _ c l => (c, l.train c.up)) ∧
    LaneSteps (.dzFastRetrainComplete · n) s n (fun _ l => l.phy.state = .retrain) (fun _ c l => (c, l.align c.up)) ∧
    LaneSteps (.dzRetrainTimeout · n) s n (fun c l => l.phy.state = .retrain ∧ c.up ≥ l.phy.since + 1000000) (fun _ c l => (c, l.train c.up)) ∧
    LaneSteps (.creditItem · n item) s n (fun _ _ => True) (fun _ c l => (c, l.credit (bitsOf item 127 104) (bitsOf item 103 80) (bitsOf item 79 56) (bitsOf item 55 32))) ∧
    LaneSteps (.helloUidItem · n item) s n (fun _ l => l.phy.state = .hello) (fun _ c l => (c, { l with phy := { l.phy with peerUid := leBytes 16 (item / 256 * 256 + 6) } })) ∧
    LaneSteps (.resumeItem · n item) s n (fun _ l => l.phy.state = .hello) (fun _ c l => (c, { l with phy := { l.phy with resume := some (bitsOf item 27 16) } })) ∧
    LaneSteps (.retryTimeout · n) s n (fun c l => l.phy.state = .up ∧ l.tx.retry ≠ [] ∧ c.up ≥ l.tx.progressAt + 2000)
      (fun _ c l => (c, { l with tx := { l.tx with resend := some 0, progressAt := c.up } })) ∧
    -- a block outside Up, or one that leaves an Up lane locked, counts and delivers its flits
    (∀ (l : Lane) (x : Ovtan), OvReady s → l = { s.ov.link.lane with phy := s.ov.link.lane.phy.block hdr (decide (uncorr > 0)) } →
      (s.ov.link.lane.phy.state = .hello ∨ (s.ov.link.lane.phy.state = .up ∧ l.phy.lock = true)) →
      x = s.ov.withLane ((s.ov.core.count (oLinkDzFecSymbols + 1) symbols).count (oLinkDzFecUncorr + 1) uncorr, l) →
      OvAnswers (.blockReceive .ovtan n hdr symbols uncorr flits) s (fun o => o = if laneDelivers l uncorr then (flits.take 5).foldl (fun o b => o.flit b) x else x)) ∧
    (∀ (k : FabLane) (l : Lane) (x : Fabato), Tray s n k → l = { k.lane with phy := k.lane.phy.block hdr (decide (uncorr > 0)) } →
      (k.lane.phy.state = .hello ∨ (k.lane.phy.state = .up ∧ l.phy.lock = true)) →
      x = s.fb.withLane n k ((s.fb.core.count (oLinkDzFecSymbols + n + 1) symbols).count (oLinkDzFecUncorr + n + 1) uncorr, l) →
      FbAnswers (.blockReceive .fabato n hdr symbols uncorr flits) s (fun f => f = if laneDelivers l uncorr then (flits.take 5).foldl (fun f b => f.flit n b) x else x)) ∧
    -- a lane in Up leaves it
    (n < 2 ^ 32 → OvWrites (.dzForceRetrain .ovtan e n) s e oLinkDzForceRetrain (s.objBytes .ovtan oLinkDzForceRetrain n) (fun o _ => o.link.lane.phy.state = .up)
      (fun o _ => (o.withLane (o.core.raise 0x0A02 0x08 [0, 3], (o.link.lane.down o.core.up o.core.ns).enter .retrain o.core.up), stOk))) ∧
    (n < 136 → ∀ k : FabLane, FbWrites (.dzForceRetrain .fabato e n) s e oLinkDzForceRetrain (s.objBytes .fabato oLinkDzForceRetrain n)
      (fun f _ => f.g.lanes[n]? = some k ∧ k.lane.phy.state = .up)
      (fun f _ => (f.onG (fun g => (g.dzDown n 3).onLane n (fun l => { l with lane := l.lane.enter .retrain f.up })), stOk))) ∧
    (OvReady s → s.ov.link.lane.phy.state = .up → OvAnswers (.peerTrainingSeen .ovtan n) s (fun o =>
      o = s.ov.withLane (s.ov.core.raise 0x0A02 0x08 [0, 2], s.ov.link.lane.down s.ov.core.up s.ov.core.ns))) ∧
    (∀ k : FabLane, Tray s n k → k.lane.phy.state = .up → (k.lane.down s.fb.core.up s.fb.core.ns).phy.state ≠ .up → FbAnswers (.peerTrainingSeen .fabato n) s (fun f =>
      f = (s.fb.withLane n k (s.fb.core.raise 0x0A02 0xFF [n, 2], k.lane.down s.fb.core.up s.fb.core.ns)).onG (fun g => g.laneLeft n)))

/-- What crosses a Drizzle lane in Up, and the spill of a lane that stays down (R267–R281): a good data flit is acknowledged and taken in order, a time request is owed its
reply, HELLO_INFO with ECHO takes the lane up and gives the Ovtan its path, and a flit is sent as its turn says. -/
def Obligations.DrizzleFlitCommandsComplete : Prop :=
  ∀ (s : State) (n item : Nat) (b : Bytes) (slot0 : Bool),
    (∀ l : Lane, OvReady s → s.ov.link.lane.phy.state = .up → flitGood b = true → (flitHead b).kind = 0 →
      l = (if (flitHead b).ackValid then { s.ov.link.lane with tx := s.ov.link.lane.tx.acked (flitHead b).ack (flitHead b).nak s.ov.core.up } else s.ov.link.lane).acceptData
        (flitHead b).seq (flitHead b).old (slice b 4 248) s.ov.core.ns →
      OvAnswers (.dataFlitReceive .ovtan n b) s (fun o =>
        o = ({ s.ov with link := { s.ov.link with lane := l }, buf := s.ov.buf.anchorAcked l } : Ovtan).takeReceived s.ov.link.lane.rx.queue.length)) ∧
    (∀ (k : FabLane) (l : Lane), Tray s n k → k.lane.phy.state = .up → flitGood b = true → (flitHead b).kind = 0 →
      l = (if (flitHead b).ackValid then { k.lane with tx := k.lane.tx.acked (flitHead b).ack (flitHead b).nak s.fb.core.up } else k.lane).acceptData
        (flitHead b).seq (flitHead b).old (slice b 4 248) s.fb.core.ns →
      FbAnswers (.dataFlitReceive .fabato n b) s (fun f => f = s.fb.withLane n k (s.fb.core, l))) ∧
    -- a flit whose check fails is counted and dropped
    (OvReady s → s.ov.link.lane.phy.state = .up → flitGood b = false →
      OvAnswers (.dataFlitReceive .ovtan n b) s (fun o => o.core = s.ov.core.bump (oLinkDzCrcErrors + 1) ∧ o.link = s.ov.link ∧ o.cap = s.ov.cap)) ∧
    (OvReady s → s.ov.link.lane.phy.state = .up → OvAnswers (.timeReqItem item) s (fun o =>
      o = { s.ov with link := { s.ov.link with lane := { s.ov.link.lane with tx := { s.ov.link.lane.tx with
        rsp := some (bitsOf item 63 40, wrapInt 64 (correctStamp s.ov.core 0x0B040100 s.ov.core.ns)) } } } })) ∧
    (OvReady s → s.ov.link.lane.phy.state = .hello → item.testBit 16 = false → OvAnswers (.helloInfoItem .ovtan n item) s (fun o =>
      o = s.ov.withLane (s.ov.core, { s.ov.link.lane with phy := { s.ov.link.lane.phy with peerInfo := leBytes 16 (item / 256 * 256 + 7), echo := true } }))) ∧
    (∀ l : Lane, OvReady s → s.ov.link.lane.phy.state = .hello → item.testBit 16 = true →
      l = { s.ov.link.lane with phy := { s.ov.link.lane.phy with peerInfo := leBytes 16 (item / 256 * 256 + 7), echo := true } } →
      OvAnswers (.helloInfoItem .ovtan n item) s (fun o => o.link.lane = (l.goUp s.ov.core.up (bitsOf item 127 96)).1 ∧ o.link.spillRaised = false ∧ o.cap = s.ov.cap ∧
        o.core.path = if bitsOf item 47 40 = 0xFF then 0xFFFFFFFF else bitsOf item 95 64 / 65536 * 65536 + bitsOf item 47 40 * 256 + 0xFF)) ∧
    (∀ k : FabLane, Tray s n k → k.lane.phy.state = .hello → item.testBit 16 = false → FbAnswers (.helloInfoItem .fabato n item) s (fun f =>
      ∃ l : Lane, l = { k.lane with phy := { k.lane.phy with peerInfo := leBytes 16 (item / 256 * 256 + 7), echo := true } } ∧
        f = ((s.fb.withLane n k (s.fb.core, l)).laneIndex n ({ k with lane := l } : FabLane).peer).1)) ∧
    (OvReady s → (s.ov.link.lane.phy.state = .align ∨ s.ov.link.lane.phy.state = .hello ∨
        (s.ov.link.lane.phy.state = .up ∧ s.ov.link.lane.controlDue (s.ov.core.num oLinkACredits) slot0 = true)) →
      OvAnswers (.flitTransmit .ovtan n slot0) s (fun o => o = s.ov.sendControl slot0)) ∧
    (OvReady s → s.ov.link.lane.phy.state = .up → s.ov.link.lane.controlDue (s.ov.core.num oLinkACredits) slot0 = false → s.ov.link.lane.resendOne = none →
      OvAnswers (.flitTransmit .ovtan n slot0) s (fun o => o = s.ov.sendNew slot0)) ∧
    (∀ (x : Flit) (l : Lane), OvReady s → s.ov.link.lane.phy.state = .up → s.ov.link.lane.controlDue (s.ov.core.num oLinkACredits) slot0 = false →
      s.ov.link.lane.resendOne = some (x, l) → x.sends ≤ s.ov.core.num oLinkDzRetryLimit →
      OvAnswers (.flitTransmit .ovtan n slot0) s (fun o =>
        o = s.ov.withLane ((s.ov.core.bump (oLinkDzResent + 1)).send (.flit 0 x.seq x.old (x.ends.map (fun h => h.base))), l))) ∧
    (∀ k : FabLane, Tray s n k → (k.lane.phy.state = .align ∨ k.lane.phy.state = .hello ∨
        (k.lane.phy.state = .up ∧ k.lane.controlDue (s.fb.core.num oLinkACredits) slot0 = true)) →
      FbAnswers (.flitTransmit .fabato n slot0) s (fun f => f = s.fb.onG (fun g => g.sendControl n k slot0))) ∧
    (∀ (k : FabLane) (x : Flit) (l : Lane), Tray s n k → k.lane.phy.state = .up → k.lane.controlDue (s.fb.core.num oLinkACredits) slot0 = false →
      k.lane.resendOne = some (x, l) → x.sends ≤ s.fb.core.num oLinkDzRetryLimit →
      FbAnswers (.flitTransmit .fabato n slot0) s (fun f =>
        f = s.fb.withLane n k ((s.fb.core.bump (oLinkDzResent + n + 1)).send (.flit n x.seq x.old (x.ends.map (fun h => h.base))), l))) ∧
    (∀ (t : Nat) (r : Ovtan × Nat), OvReady s → s.ov.link.lane.phy.downAt = some t → s.ov.link.spillRaised = false → s.ov.core.up ≥ t + 1000 * s.ov.core.num oLinkSpillAfter →
      r = ({ s.ov with link := { s.ov.link with spillRaised := true } } : Ovtan).spillAll →
      OvAnswers .spillAfterExpire s (fun o => o = { r.1 with core := r.1.core.raise 0x0A03 0x08 [r.2] }))

/-- Tokens, exchanges, votes, known-answer tests and the lockstep pair (R404–R417): a request is answered by the bucket, a granted token fences, a verdict sets its member's
risk, an operator forces and releases, tests and votes end by result or by time, and a divergence halts the pair until it restarts. -/
def Obligations.FenceCommandsComplete : Prop :=
  ∀ (s : State) (e : Envelope) (path num sender member value : Nat) (first second : Record) (p : Nat),
    (FbReady s → 2 ≤ s.fb.core.kind → s.fb.core.hasBucket = true → s.fb.fen.suspicion = 0 → s.fb.takeToken.2 = true → s.fb.core.isRoot = true →
      FbAnswers (.tokenRequest path num) s (fun f => f = s.fb.takeToken.1.answerToken path num 0)) ∧
    (FbReady s → 2 ≤ s.fb.core.kind → s.fb.core.hasBucket = true → s.fb.fen.suspicion = 0 → s.fb.takeToken.2 = true → s.fb.core.isRoot = false →
      FbAnswers (.tokenRequest path num) s (fun f => f.fen.reqs = s.fb.takeToken.1.fen.reqs ++
        [{ num := num, path := path, member := 255, kinds := 0, minority := false, at_ := s.fb.up }])) ∧
    (FbReady s → 2 ≤ s.fb.core.kind → s.fb.core.hasBucket = true → s.fb.fen.suspicion = 0 → s.fb.takeToken.2 = false →
      FbAnswers (.tokenRequest path num) s (fun f => f = s.fb.takeToken.1.answerToken path num 1)) ∧
    (FbReady s → 2 ≤ s.fb.core.kind → s.fb.core.hasBucket = true → s.fb.fen.suspicion ≠ 0 →
      FbAnswers (.tokenRequest path num) s (fun f => f = s.fb.answerToken path num 2)) ∧
    -- exchanges that authenticate
    (∀ r : TokenReq, FbReady s → s.fb.core.kind = 1 → p = first.payload.toNat → s.fb.core.fenceMac first sender = second.payload.toNat → bitsOf p 63 56 = 0x52 → bitsOf p 47 40 = 0 →
      s.fb.fen.reqs.find? (fun r => r.path == bitsOf p 127 96 && r.num == bitsOf p 95 64) = some r →
      FbAnswers (.tokenAnswer sender first second) s (fun f =>
        f = ({ s.fb with fen := { s.fb.fen with reqs := s.fb.fen.reqs.filter (fun x => x != r) } } : Fabato).fence r.member 1 r.kinds)) ∧
    (∀ m : Nat, FbReady s → s.fb.core.kind = 1 → p = first.payload.toNat → s.fb.core.fenceMac first sender = second.payload.toNat → bitsOf p 63 56 = 0x53 → bitsOf p 47 40 = 1 →
      memberOf s.fb.core.path (bitsOf p 127 96) = some m →
      FbAnswers (.verdictExchange sender first second) s (fun f => f = s.fb.setRv m f64One true)) ∧
    (FbReady s → p = first.payload.toNat → s.fb.core.fenceMac first sender = second.payload.toNat → bitsOf p 63 56 = 0x55 →
      FbAnswers (.suspicionNotice sender first second) s (fun f => ∃ v, v = (if bitsOf p 95 64 = 1 then 2 else 0) ∧
        f = (({ s.fb with fen := { s.fb.fen with suspicion := v } } : Fabato).raise 0x140C 0x75 [bitsOf p 47 40, v]).noticeAll p)) ∧
    FbSets (.suspicionClear .fabato e) s e oFenceSuspicion (s.objBytes .fabato oFenceSuspicion 0) (fun _ _ => True)
      (fun f _ => (((f.onCore (fun c => c.put oFenceSuspicion (s.objBytes .fabato oFenceSuspicion 0))).unstore oFenceSuspicion).clearSuspicion, stOk)) ∧
    (member < 128 → FbWrites (.fenceRelease .fabato e member) s e oFenceRelease (s.objBytes .fabato oFenceRelease member)
      (fun f _ => f.fen.fenced.testBit member = true ∧ f.entryOf member = none)
      (fun f _ => ({ f with fen := { f.fen with fenced := f.fen.fenced ^^^ 2 ^ member } }, stOk))) ∧
    (member < 128 → ∀ x, FbWrites (.fenceRelease .fabato e member) s e oFenceRelease (s.objBytes .fabato oFenceRelease member)
      (fun f _ => f.fen.fenced.testBit member = true ∧ ({ f with fen := { f.fen with fenced := f.fen.fenced ^^^ 2 ^ member } } : Fabato).entryOf member = some x ∧ x.state = 1)
      (fun f _ => ((({ f with fen := { f.fen with fenced := f.fen.fenced ^^^ 2 ^ member } } : Fabato).startProbation x).checkQuorum, stOk))) ∧
    (member < 128 → FbWrites (.fenceForce .fabato e member) s e oFenceForce (s.objBytes .fabato oFenceForce member)
      (fun f _ => (f.entryOf member).isSome = true ∧ f.fen.fenced.testBit member = false) (fun f _ => (f.fence member 4 (f.kinds member), stOk))) ∧
    (value < 2 ^ 64 → FbWrites (.katPass .fabato e value) s e (oFenceKatResult + 2) (s.objBytes .fabato (oFenceKatResult + 2) value)
      (fun f _ => f.fen.kats.any (fun k => k.num == value / 2 ^ 32 && k.path == value % 2 ^ 32 && k.result.isNone) = true) (fun f _ => ((f.katResult value true).1, stOk))) ∧
    (value < 2 ^ 64 → FbWrites (.katFail .fabato e value) s e (oFenceKatResult + 1) (s.objBytes .fabato (oFenceKatResult + 1) value)
      (fun f _ => f.fen.kats.any (fun k => k.num == value / 2 ^ 32 && k.path == value % 2 ^ 32 && k.result.isNone) = true) (fun f _ => ((f.katResult value false).1, stOk))) ∧
    (∀ k : VoteKey, FbReady s → s.fb.fen.votes = [k] → s.fb.up ≥ k.at_ + s.fb.core.voteTimeout k.id → FbAnswers .voteTimeout s (fun f => f = s.fb.voteClose k)) ∧
    (FbReady s → FbAnswers .fenceEvalTick s (fun f => f = ((List.range 128).filter (fun i => (s.fb.entryOf i).isSome)).foldl (fun f i => f.recompute i) s.fb)) ∧
    (∀ r : TokenReq, FbReady s → s.fb.core.kind = 1 → s.fb.fen.reqs = [r] → s.fb.up ≥ r.at_ + 1000 * s.fb.core.num oFenceGrantTimeout →
      FbAnswers .grantTimeout s (fun f => f = (({ s.fb with fen := { s.fb.fen with reqs := [] } } : Fabato).refund).conclude r.member r.kinds r.minority false)) ∧
    (∀ k : Kat, FbReady s → s.fb.fen.kats = [k] → k.result = none → k.timedOut = false → s.fb.up ≥ k.at_ + 1000000000 * s.fb.core.num oFenceKatTimeout →
      FbAnswers .katTimeout s (fun f => f = ({ s.fb with fen := { s.fb.fen with kats := [{ k with timedOut := true }] } } : Fabato).raise 0x1408 0x75 [k.path, k.num])) ∧
    (FbReady s → s.fb.fen.failed = false → s.fb.fen.halted = none → s.fb.fen.reqs = [] → s.fb.divergedNow = [] →
      FbAnswers .lockstepDivergence s (fun f => f.fen.halted = some s.fb.up ∧ f.fen.failed = false ∧ f.fen.diverged = [s.fb.alm.hours] ∧
        f.fen.fenced = s.fb.fen.fenced ∧ ⟨0x140D, 0x40, [1]⟩ ∈ f.core.events)) ∧
    (FbReady s → s.fb.fen.halted.isSome = true → FbAnswers .lockstepRestartDone s (fun f =>
      f = ({ s.fb with fen := { s.fb.fen with halted := none } } : Fabato).alarm (withSub s.fb.core.path 0x40) 0 0x58 0x05 0 0 0))

/-- Firmware and the start of the Fabato (R494–R507): a chunk is staged, a checked image is written when told and read back, an image in order goes on to the self-test,
which goes on to Ready, and recovery tries its sources in turn. -/
def Obligations.FirmwareCommandsComplete : Prop :=
  ∀ (s : State) (e : Envelope) (image chunk : Bytes) (source : Nat) (cells : List Nat) (loft : Bool),
    (s.fb.board.boot = 1 → s.fb.fw.recovering = false → s.fb.fw.open_ = false → s.fb.fw.torn = false → s.fb.imageCheck false s.fb.fw.flash = 0 →
      FbAnswers (.flashImageReadDone false image) s (fun f => f = { s.fb with
        fw := { s.fb.fw with running := s.fb.fw.flash, recovering := false, waiting := false, open_ := false, torn := false }, board := { s.fb.board with boot := 2 } })) ∧
    (s.fb.board.boot = 1 → s.fb.fw.recovering = false → s.fb.fw.open_ = true → s.fb.imageCheck false image ≠ 0 →
      FbAnswers (.flashImageReadDone false image) s (fun f => f =
        (({ s.fb with fw := { s.fb.fw with flash := image, torn := false, open_ := false } } : Fabato).romEntry 0x1B02 0x74 [s.fb.imageCheck false image]).recoverFrom 0)) ∧
    (s.fb.board.boot = 1 → s.fb.fw.recovering = true → s.fb.fw.waiting = false → s.fb.fw.source = source → s.fb.imageCheck false image = 0 →
      FbAnswers (.recoveryImageReceived source false image) s (fun f => f.board.boot = 2 ∧ f.fw.running = image ∧ f.fw.flash = image ∧ f.fw.recovering = false ∧
        f.fw.recoveries = s.fb.fw.recoveries + 1 ∧ ⟨0x1B03, 0x74, [source, (imageHead image).release]⟩ ∈ f.core.events)) ∧
    (s.fb.board.boot = 2 → FbAnswers (.fabatoSelfTestDone cells loft) s (fun f =>
      f = ({ s.fb with board := { s.fb.board with cellPass := cells.isEmpty, loftPass := loft, bist := cells.map (BitVec.ofNat 8) } } : Fabato).enterReady)) ∧
    FbWrites (.fwLoad .fabato e chunk) s e oFwLoad chunk (fun f _ => f.fw.stage ≠ 4 ∧ 4 ≤ chunk.length ∧ leAt chunk 0 4 + (chunk.length - 4) ≤ imageLimit)
      (fun f _ => ({ f with fw := { f.fw with staging := overlay f.fw.staging (leAt chunk 0 4) (chunk.drop 4), stage := 1, fault := 0, fetching := false } }, stOk)) ∧
    FbWrites (.fwCheck .fabato e) s e oFwCtrl (s.objBytes .fabato oFwCtrl 1) (fun f _ => f.fw.stage ≠ 4 ∧ f.imageCheck false f.fw.staging = 0)
      (fun f _ => (({ f with fw := { f.fw with stage := 2, fault := 0, fetching := false } } : Fabato).raise 0x1B05 0x74 [(imageHead f.fw.staging).release], stOk)) ∧
    FbWrites (.fwWriteFlash .fabato e) s e oFwCtrl (s.objBytes .fabato oFwCtrl 2) (fun f _ => f.fw.stage = 2)
      (fun f _ => ({ f with fw := { f.fw with stage := 4 } }, stOk)) ∧
    FbWrites (.fwFetchParent .fabato e) s e oFwCtrl (s.objBytes .fabato oFwCtrl 3) (fun f _ => f.fw.stage ≠ 4 ∧ f.core.isRoot = false)
      (fun f _ => ({ f with fw := { f.fw with staging := [], stage := 1, fault := 0, fetching := true } }, stOk)) ∧
    FbWrites (.fwDiscardStaging .fabato e) s e oFwCtrl (s.objBytes .fabato oFwCtrl 4) (fun f _ => f.fw.stage ≠ 4)
      (fun f _ => ({ f with fw := { f.fw with staging := [], stage := 0, fault := 0, fetching := false } }, stOk)) ∧
    (FbReady s → s.fb.fw.fetching = true → s.fb.imageCheck false (image.take imageLimit) = 0 →
      FbAnswers (.fwFetchDone false image) s (fun f => f = ({ s.fb with fw := { s.fb.fw with staging := image.take imageLimit, stage := 2, fault := 0, fetching := false } } : Fabato).raise
        0x1B05 0x74 [(imageHead (image.take imageLimit)).release])) ∧
    (FbReady s → s.fb.fw.stage = 4 → image.length ≥ 256 → slice image 0 256 = slice s.fb.fw.staging 0 256 →
      sha384 (imageBody image) = (imageHead s.fb.fw.staging).digest →
      FbAnswers (.fwFlashWriteDone image) s (fun f => f = ({ s.fb with fw := { s.fb.fw with flash := image, stage := 5 } } : Fabato).raise 0x1B06 0x74 [(imageHead image).release])) ∧
    FbWrites (.fwKeyRevoke .fabato e) s e oFwKeyRevoke (s.objBytes .fabato oFwKeyRevoke 1) (fun _ _ => True) (fun f _ => ({ f with fw := { f.fw with revoked := true } }, stOk)) ∧
    (s.fb.board.boot = 1 → s.fb.fw.recovering = true → s.fb.fw.waiting = false → s.fb.up ≥ s.fb.fw.since + 5 * secNs →
      FbAnswers .recoverySourceTimeout s (fun f => f = (s.fb.romEntry 0x1B04 0x74 [s.fb.fw.source, 1]).recoverFrom (s.fb.fw.source + 1))) ∧
    (s.fb.board.boot = 1 → s.fb.fw.recovering = true → s.fb.fw.waiting = true → s.fb.up ≥ s.fb.fw.since + 10 * secNs →
      FbAnswers .recoveryRoundWait s (fun f => f = s.fb.recoverFrom 0)) ∧
    (∀ t : Nat, FbReady s → s.fb.fw.activate = some t → s.fb.up ≥ t + 100000000 → s.fb.core.flag oFwActivateForce = false →
      FbAnswers .fwActivateLagTimeout s (fun f => f = ({ s.fb with fw := { s.fb.fw with activate := none } } : Fabato).raise 0x1B08 0x74 [3])) ∧
    (∀ t : Nat, FbReady s → s.fb.fw.activate = some t → s.fb.up ≥ t + 100000000 → s.fb.core.flag oFwActivateForce = true →
      FbAnswers .fwActivateLagTimeout s (fun f => f = (s.fb.raise 0x1B07 0x74 [(imageHead s.fb.fw.running).release, (imageHead s.fb.fw.flash).release]).restart true))

/-- Horizon's roster (R441–R451): an adopted entry takes the plan's place on probation, a probation asked to end ends at the next step, and entries whose waits have run
out are absent or Present. -/
def Obligations.HorizonCommandsComplete : Prop :=
  ∀ (s : State) (e : Envelope) (i : Nat),
    (i < 2 ^ 32 → ∀ (x : RosterEntry) (b : Bytes), FbWrites (.horizonAdopt .fabato e i) s e oHorizonAdopt (s.objBytes .fabato oHorizonAdopt i)
      (fun f _ => f.entryOf i = some x ∧ x.state = 4 ∧ i < memberLimit f.core.kind ∧
        b = overlay (overlay (slice (f.core.get (oHorizonPlanMember + i + 1)) 0 32) 16 (leBytes 16 x.uid)) 0 (leBytes 1 (leAt (f.core.get (oHorizonPlanMember + i + 1)) 0 1 ||| 1)))
      (fun f _ => ((({ f.onCore (fun c => c.put (oHorizonPlanMember + i + 1) (overlay b 10 (leBytes 1 i))) with
        hor := { f.hor with roster := f.hor.roster.map (fun y => if y.member == some i && y.idx != x.idx && y.state != 4 then { y with state := 6, member := none, changed := f.secs } else y) },
        an := f.an.resetMember i,
        fen := { f.fen with fenced := if f.fen.fenced.testBit i then f.fen.fenced ^^^ 2 ^ i else f.fen.fenced, rv := f.fen.rv.set i { value := 0, at_ := f.ns, majority := false } } }
          : Fabato).startProbation { x with causes := 0 }).checkQuorum, stOk))) ∧
    (i < 2 ^ 32 → ∀ x : RosterEntry, FbWrites (.endProbation .fabato e i) s e oHorizonEndProbation (s.objBytes .fabato oHorizonEndProbation i)
      (fun f _ => f.entryOf i = some x ∧ x.state = 2) (fun f _ => ({ f with hor := f.hor.set { x with endNow := true } }, stOk))) ∧
    (FbReady s → s.fb.up ≥ s.fb.hor.startAt + 1000000 * s.fb.core.num oHorizonDiscoveryWait →
      FbAnswers .discoveryWaitExpire s (fun f => f = (s.fb.hor.roster.filter (fun x => x.state == 0 && x.member.isSome)).foldl (fun f x =>
        ((f.setEntry x 3).raise 0x1602 0x71 [x.member.getD 0xFF, (f.core.planAt (x.member.getD 0xFF)).uid]).checkQuorum) s.fb)) ∧
    (∀ (x : RosterEntry) (t : Nat), FbReady s → s.fb.hor.roster = [x] → x.downAt = some t → s.fb.up ≥ t + 1000000 * s.fb.core.num oHorizonAbsentAfter → (x.state = 1 ∨ x.state = 2) →
      FbAnswers .absentAfterExpire s (fun f => f = ((s.fb.setEntry x 3).raise 0x1602 0x71 [x.member.getD 0xFF, (s.fb.core.planAt (x.member.getD 0xFF)).uid]).checkQuorum)) ∧
    (∀ (x : RosterEntry) (t : Nat), FbReady s → s.fb.hor.roster = [x] → x.downAt = some t → s.fb.up ≥ t + 1000000 * s.fb.core.num oHorizonAbsentAfter → x.state = 4 → x.member.isSome = true →
      FbAnswers .absentAfterExpire s (fun f => f = { s.fb with hor := s.fb.hor.set { x with member := none } })) ∧
    (∀ x : RosterEntry, FbReady s → s.fb.core.num oAngleLockMode = 0 → s.fb.hor.roster = [x] → x.state = 2 → s.fb.up ≥ x.since + 1000000000 * s.fb.core.num oHorizonProbationTime →
      FbAnswers .probationTimeExpire s (fun f => f = (s.fb.setEntry { x with left := 0, endNow := false } 1).raise 0x1603 0x71 [x.member.getD 0xFF, x.idx]))

/-- Jetstream (R316–R334): an ingest engine takes what its turn names, a port sends its frame or its alarms, a gate list takes over and goes on, a shaper, a policer, a
stalled queue and an idle subscription are served, and the merge releases its oldest record. -/
def Obligations.JetCommandsComplete : Prop :=
  ∀ (s : State) (engine port idx n : Nat) (cls : RClass),
    (∀ (w : Waiting) (x : RxRec) (f0 : Fabato), FbReady s → s.fb.g.engineNext engine = some w → w.lane < 1000 →
      (s.fb.g.lanes[w.lane]?).bind (fun l => l.lane.rx.queue[w.place]?) = some x →
      f0 = ({ s.fb.onG (fun g => { g with core := g.core.bump (oJetIngestRecords + engine + 1), jet := { g.jet with engines := g.jet.engines.modify engine (fun y => y.served w) } }) with
          cel := { s.fb.cel with ingestBusy := s.fb.cel.ingestBusy.modify engine (fun n => n + 1) } } : Fabato).onG (fun g => g.onLane w.lane (fun l =>
        { l with lane := { l.lane with rx := { l.lane.rx with queue := l.lane.rx.queue.eraseIdx w.place, taken := l.lane.rx.taken.modify w.cls.code (fun n => slotAdd n 1) } } })) →
      FbAnswers (.ingestTake engine) s (fun f => f = match s.fb.g.laneMap.findIdx? (fun n => n == w.lane) with
        | none => f0.onCore (fun c => c.bump oHorizonExcessRecords)
        | some i => (f0.formDrizzle i w.lane x).1.ingest (0x50 + engine) (some i) (some (.drizzle i)) (f0.formDrizzle i w.lane x).2)) ∧
    (FbReady s → s.fb.g.resendAny port [2, 1, 0] = none → FbAnswers (.portFrameStart port) s (fun f => f = s.fb.onG (fun g => (g.refreshPort port).drr port 65536))) ∧
    (∀ g : Group, FbReady s → s.fb.g.resendAny port [2, 1, 0] = some g → FbAnswers (.portFrameStart port) s (fun f => f = s.fb.onG (fun _ => g))) ∧
    (∀ (q : JPort) (items : List JItem), FbReady s → s.fb.g.resendAny port [3] = none → s.fb.g.jet.ports[port]? = some q → q.alarms ≠ [] →
      items = frontItems (s.fb.core.num oJetAFrameRecords) (q.alarms.map (fun x => x.2)) → s.fb.g.linkTakes port 3 (frameOf items) = true → s.fb.g.outPort port 3 = none →
      FbAnswers (.portAlarmSend port) s (fun f => f = s.fb.onG (fun g => { g with
        core := (g.core.send (.frame port (frameOf items).1 (frameOf items).2.2)).count (oJetPortBytes + port + 1) (frameBytes (frameOf items)),
        jet := { g.jet with ports := g.jet.ports.modify port (fun p => { p with alarms := p.alarms.drop items.length }) } }))) ∧
    (∀ l : Gcl, FbReady s → (s.fb.g.jet.ports[port]?).bind (fun p => p.pending) = some l → l.base ≤ s.fb.ns →
      FbAnswers (.gclTakeover port) s (fun f => f = s.fb.onG (fun g => { g with core := g.core.raise 0x0C02 0x58 [port, l.base, gclCycle l.list],
                                                                                jet := { g.jet with ports := g.jet.ports.modify port (fun p => { p with oper := l, pending := none }) } }))) ∧
    (∀ q : JPort, FbReady s → s.fb.g.jet.ports[port]? = some q → gclCount q.oper.list > 0 → q.oper.start + (gclEntry q.oper.list q.oper.entry).1 ≤ s.fb.ns →
      FbAnswers (.gclEntryExpire port) s (fun f => f = s.fb.onG (fun g => { g with jet := { g.jet with ports := g.jet.ports.set port { q with oper := { q.oper with
        entry := (q.oper.entry + 1) % gclCount q.oper.list, start := q.oper.start + (gclEntry q.oper.list q.oper.entry).1 } } } }))) ∧
    (∀ (x : JSub) (t : Nat), FbReady s → s.fb.g.jet.sub idx port = some x → (x.queue cls.code).eligibleAt = some t → s.fb.ns ≥ roundUp t 64 →
      FbAnswers (.shaperEligible idx port cls) s (fun f => f = s.fb.onG (fun g => { g with jet := g.jet.setSub (x.setQueue cls.code
        { ((x.queue cls.code).refill (g.core.profile (x.profiles.getD cls.code 0)) g.core.ns) with eligibleAt := none, coarse := false }) }))) ∧
    (∀ x : JSub, FbReady s → s.fb.g.jet.sub idx port = some x →
      FbAnswers (.aPolicerRefill idx port) s (fun f => f = s.fb.onG (fun g => { g with jet := (g.jet.policeGap (x.refill g.core)).1 }))) ∧
    (∀ x : JSub, FbReady s → idx ≠ 0 → s.fb.g.jet.sub idx port = some x → x.queues.any (fun q => !q.items.isEmpty || q.gap.isSome) = false → x.gap = none →
      s.fb.g.jet.ports.any (fun p => p.alarms.any (fun a => a.1 == idx && p.subs.contains idx)) = false → s.fb.g.cond.ctxs = [] →
      s.fb.up ≥ x.idleSince + 1000000 * s.fb.core.num oJetSubIdle →
      FbAnswers (.subIdleExpire idx port) s (fun f => (∀ y ∈ f.g.jet.subs, y.is idx port = false) ∧ f.g.core = s.fb.g.core ∧
        f.g.jet.ports = s.fb.g.jet.ports.modify port (fun p => { p with subs := p.subs.filter (fun i => i != idx) }))) ∧
    (∀ (x : JSub) (it : JItem), FbReady s → s.fb.g.jet.sub idx port = some x → s.fb.g.jet.stalled = [(x.path, port, it)] →
      FbAnswers (.classCQueueDrain idx port) s (fun f => ∃ g : Group, g = { s.fb.g with jet := { s.fb.g.jet with stalled := [] } } ∧ f = s.fb.onG (fun _ => g.put x it))) ∧
    LaneSteps (.creditWithheldStart · n) s n (fun c l => ∃ t, l.tx.lowSince = some t ∧ c.up ≥ t + 1000) (fun _ c l => (c, { l with tx := { l.tx with withheld := true } })) ∧
    (∀ m rest, FbReady s → sortBy (mergeHeads s.fb.g.jet.merge []) mergeLe = m :: rest → s.fb.ns ≥ m.at_ + 1000 * s.fb.core.num oVantageMergeWindow → s.fb.g.jet.mergeLast = none →
      FbAnswers .vantageMergeRelease s (fun f => f = s.fb.onG (fun g => ({ g with jet := { g.jet with merge := g.jet.merge.erase m, mergeLast := some (m.r.time.toNat, m.r.path.toNat) } } : Group).vantagePut { m.r with lateMerge := m.r.lateMerge || false })))

/-- The Loft (R299–R305): a chunk is staged, a slot is installed, started, stopped and unloaded as its state allows, its calls are answered, a sleep ends, a fault leaves the
slot faulted, and each second gives a slot its time anew. -/
def Obligations.LoftCommandsComplete : Prop :=
  ∀ (s : State) (e : Envelope) (slot t element value pc code : Nat) (chunk b : Bytes), slot < 16 →
    FbWrites (.loftSlotLoad .fabato e slot chunk) s e (oLoftSlotLoad + slot + 1) chunk
      (fun f _ => (f.slot slot).state < 2 ∧ 4 ≤ chunk.length ∧ leAt chunk 0 4 + (chunk.length - 4) ≤ loftLimit)
      (fun f _ => (f.onSlot slot (fun x => { x with state := 1, staged := overlay x.staged (leAt chunk 0 4) (chunk.drop 4) }), stOk)) ∧
    FbWrites (.loftInstall .fabato e slot) s e (oLoftSlotCtrl + slot + 1) (s.objBytes .fabato (oLoftSlotCtrl + slot + 1) 1)
      (fun f _ => (f.slot slot).state = 1 ∧ sha256 (f.slot slot).staged = f.core.get (oLoftSlotDigest + slot + 1) ∧ elfOk (f.slot slot).staged = true)
      (fun f _ => (f.onSlot slot (fun x => { x with state := 2, image := x.staged, staged := [] }), stOk)) ∧
    (∀ k, FbWrites (.loftStart .fabato e slot) s e (oLoftSlotCtrl + slot + 1) (s.objBytes .fabato (oLoftSlotCtrl + slot + 1) 2)
      (fun f _ => ((f.slot slot).state = 2 ∨ (f.slot slot).state = 4) ∧ f.freeCore = some k)
      (fun f _ => ((f.onSlot slot (fun x => { x with state := 3, core := some k, used := 0, second := f.up, paused := false, sleep := none })).touch (52 + k), stOk))) ∧
    FbWrites (.loftStop .fabato e slot) s e (oLoftSlotCtrl + slot + 1) (s.objBytes .fabato (oLoftSlotCtrl + slot + 1) 3) (fun f _ => (f.slot slot).state = 3)
      (fun f _ => (f.onSlot slot (fun x => { x with state := 4, core := none, paused := false, sleep := none }), stOk)) ∧
    FbWrites (.loftUnload .fabato e slot) s e (oLoftSlotCtrl + slot + 1) (s.objBytes .fabato (oLoftSlotCtrl + slot + 1) 4)
      (fun f _ => (f.slot slot).state = 2 ∨ (f.slot slot).state = 4 ∨ (f.slot slot).state = 5)
      (fun f _ => (f.onSlot slot (fun x => { LoftSlot.fresh with fault := x.fault, out := x.out }), stOk)) ∧
    (∀ (o : Fabato × Session) (x : Envelope) (op summary : Nat) (body : Bytes), FbReady s → s.fb.loftRuns slot = true → o = s.fb.loftOpen slot → parseMessage (.loft slot) b = some (x, op, summary, body) →
      FbAnswers (.ecallDictionary slot b true) s (fun f => ∃ g : Fabato, g = o.1.onSlot slot (fun y => { y with seq := y.seq + 1 }) ∧
        f = g.accept { x with session := loftSession slot, seq := (g.slot slot).seq } o.2.actor (parseRequest op body))) ∧
    (FbReady s → s.fb.loftRuns slot = true → FbAnswers (.ecallDictionary slot b false) s (fun f => f = s.fb.onCore (fun c => c.send (.exchange slot 0x4C4D [loftMinus1])))) ∧
    (FbReady s → s.fb.loftRuns slot = true → element ≤ 63 → FbAnswers (.ecallSetOutput slot element value) s (fun f =>
      f = (s.fb.onSlot slot (fun x => { x with out := x.out.set element value })).onCore (fun c => c.send (.exchange slot 0x4C4F [0])))) ∧
    (FbReady s → s.fb.loftRuns slot = true → t > s.fb.ns → FbAnswers (.ecallSleep slot t) s (fun f => f = s.fb.onSlot slot (fun x => { x with sleep := some t }))) ∧
    (FbReady s → s.fb.loftRuns slot = true → t ≤ s.fb.ns → FbAnswers (.ecallSleep slot t) s (fun f => f = s.fb.onCore (fun c => c.send (.exchange slot 0x4C50 [0])))) ∧
    (FbReady s → s.fb.loftRuns slot = true → FbAnswers (.ecallExit slot 0 pc) s (fun f =>
      f = s.fb.onSlot slot (fun x => { x with state := 4, core := none, paused := false, sleep := none }))) ∧
    (FbReady s → s.fb.loftRuns slot = true → FbAnswers (.ecallReadTime slot) s (fun f => f = s.fb.onCore (fun c => c.send (.exchange slot 0x4C52 [s.fb.ns])))) ∧
    (FbReady s → (s.fb.slot slot).sleep = some t → t ≤ s.fb.ns → FbAnswers (.loftSleepWake slot) s (fun f =>
      f = (s.fb.onSlot slot (fun x => { x with sleep := none })).onCore (fun c => c.send (.exchange slot 0x4C50 [0])))) ∧
    (∀ k, FbReady s → slot < s.fb.loft.length → (s.fb.slot slot).core = some k → (s.fb.slot slot).state = 3 → FbAnswers (.loftFault slot code pc) s (fun f =>
      (f.slot slot).state = 5 ∧ (f.slot slot).core = none ∧ (f.slot slot).fault = code ∧ (∀ i, i ≠ slot → f.slot i = s.fb.slot i) ∧
        ⟨0x0B05, 0x40 + k, [slot, code, pc]⟩ ∈ f.core.events)) ∧
    (FbReady s → FbAnswers .loftCpuSecond s (fun f => f = { s.fb with loft := s.fb.loft.map (fun x =>
      if x.state = 3 ∧ s.fb.up ≥ x.second + 10 ^ 9 then { x with used := 0, second := x.second + 10 ^ 9, paused := false } else x) }))

/-- Sky ports (R282–R296): training, verification and hello take a port up, its frames are taken in sequence and answered with grants, time-outs resend, a dead or faulty port
goes down or narrower, and the classes move between the two parent ports. -/
def Obligations.SkyPortCommandsComplete : Prop :=
  ∀ (s : State) (p : Nat) (cls : RClass) (faulty : List Nat) (ok : Bool), FbReady s →
    ((s.fb.g.port p).state = .training → (s.fb.core.skyMap p).lanes ≠ 0 → FbAnswers (.skyTrainingComplete p) s (fun f => f = s.fb.onG (fun g => g.onPort p (fun x =>
      { x with state := .verifying, preempt := 1, lanes := if x.tryWidth = 0 then (s.fb.core.skyMap p).lanes else x.tryWidth,
               first := if x.tryWidth = 0 ∨ x.tryWidth = (s.fb.core.skyMap p).lanes then (s.fb.core.skyMap p).first else x.first })))) ∧
    (s.fb.g.portUp p = true → ((s.fb.g.port p).class cls.code).retry ≠ [] → s.fb.up ≥ ((s.fb.g.port p).class cls.code).progressAt + 1000 * s.fb.core.num oLinkSkyRto →
      FbAnswers (.skyRtoExpire p cls) s (fun f => f = s.fb.onG (fun g => g.onPort p (fun x => x.onCls cls.code (fun c => { c with resend := some 0, progressAt := s.fb.up }))))) ∧
    (s.fb.up ≥ (s.fb.g.port p).lastRx + 1000 * s.fb.core.num oLinkSkyDead → FbAnswers (.skyDeadExpire p) s (fun f => f = s.fb.onG (fun g => g.skyDown p 0))) ∧
    (s.fb.g.portUp p = true → FbAnswers (.skyLinkFault p) s (fun f => f = s.fb.onG (fun g => g.skyDown p 1))) ∧
    (s.fb.g.portUp p = false → (s.fb.g.port p).state ≠ .down → FbAnswers (.skyLinkFault p) s (fun f => f = s.fb.onG (fun g => g.onPort p (fun x =>
      { x with state := .training, preempt := 0, echo := false, tryWidth := (s.fb.core.skyMap p).lanes, tryAt := s.fb.up })))) ∧
    -- a port of four lanes whose first pair holds a fault goes on with the second
    (p < s.fb.g.sky.length → (s.fb.core.skyMap p).lanes = 4 → (s.fb.g.port p).state ≠ .down → (s.fb.g.port p).lanes = 4 → (s.fb.g.port p).faulty = [] →
      faulty = [(s.fb.core.skyMap p).first] → FbAnswers (.skyLaneFaultHold p faulty) s (fun f => (f.g.port p).state = .training ∧ (f.g.port p).lanes = 2 ∧
        (f.g.port p).first = (s.fb.core.skyMap p).first + 2 ∧ (f.g.port p).tryWidth = 2 ∧ (f.g.port p).faulty = faulty ∧
        ⟨0x0A08, 0xB0 + (s.fb.core.skyMap p).first, [p, 4, 2]⟩ ∈ f.core.events)) ∧
    ((s.fb.g.port p).state = .training → (s.fb.g.port p).tryWidth ≠ 0 → s.fb.up ≥ (s.fb.g.port p).tryAt + 50000000 → FbAnswers (.skyWidthTryExpire p) s (fun f =>
      f = s.fb.onG (fun g => g.onPort p (fun x => { x with tryWidth := if x.tryWidth ≤ 1 then (s.fb.core.skyMap p).lanes else x.tryWidth / 2, tryAt := s.fb.up })))) ∧
    ((s.fb.g.port p).preempt = 1 → (s.fb.g.port p).state = .verifying → FbAnswers (.preemptVerifyDone p true) s (fun f =>
      f = s.fb.onG (fun g => (g.onPort p (fun x => { x with preempt := 2, state := .hello })).sendHello p))) ∧
    ((s.fb.g.port p).preempt = 1 → (s.fb.g.port p).state ≠ .verifying → FbAnswers (.preemptVerifyDone p ok) s (fun f => (∀ x, f.g.port x = if x = p ∧ p < s.fb.g.sky.length then
        { s.fb.g.port p with preempt := if ok then 2 else 3 } else s.fb.g.port x) ∧ (ok = true → f.core = s.fb.core))) ∧
    (∀ q, s.fb.core.parentPort true = some q → s.fb.g.parent.drain.getD cls.code false = true → ((s.fb.g.port q).class cls.code).retry = [] →
      FbAnswers (.failbackDrainDone cls) s (fun f => f = s.fb.onG (fun g => { g with
        parent := { g.parent with onP1 := g.parent.onP1.set cls.code false, drain := g.parent.drain.set cls.code false },
        core := g.core.raise 0x0A06 (0xB0 + (s.fb.core.skyMap q).first) [2 ^ cls.code] }))) ∧
    ((s.fb.g.port p).state = .up → s.fb.up ≥ (s.fb.g.port p).lastTx + 2000 → FbAnswers (.skyIdleControl p) s (fun f => f = s.fb.onG (fun g => g.skyControl p))) ∧
    (∀ q r t cs, s.fb.core.parentPort false = some q → s.fb.core.parentPort true = some r → (s.fb.g.port q).state ≠ .up → (s.fb.g.port q).downAt = some t →
      cs = [2, 1, 0].filter (fun c => !s.fb.g.parent.onP1.getD c false) → cs ≠ [] → s.fb.g.portUp r = true → s.fb.up ≥ t + 1000 * s.fb.core.num oLinkFailoverHold →
      FbAnswers .failoverHoldExpire s (fun f => ∃ g : Group, g = cs.foldl (fun g c => g.moveClass q r c) s.fb.g ∧
        f = s.fb.onG (fun _ => { g with core := (g.core.bump oLinkFailovers).raise 0x0A05 (0xB0 + (g.core.skyMap q).first) [ofBits cs, 1] }))) ∧
    (∀ q t, s.fb.core.parentPort false = some q → (s.fb.g.port q).state = .up → (s.fb.g.port q).upAt = some t → s.fb.up ≥ t + 1000000 * s.fb.core.num oLinkFailbackHold →
      FbAnswers .failbackHoldExpire s (fun f => f = s.fb.onG (fun g => { g with parent := { g.parent with drain := g.parent.onP1 } })))

/-- Frames of a Sky port (R285–R291): in sequence, records, messages and Condenser frames are taken, a control frame gives its grants, a relay frame is taken toward its child,
and a hello in Up is noted. -/
def Obligations.SkyFrameCommandsComplete : Prop :=
  ∀ (s : State) (p child a cc ss t : Nat) (h : SkyHead) (l : List ExtRecord) (b : Bytes) (x : Fabato), FbReady s →
    (s.fb.relayHeld p h = false → s.fb.skyTake p h = (x, true) → x.relays p = false → ((x.core.skyMap p).role = 2 ∨ (x.core.skyMap p).role = 5) →
      FbAnswers (.skyRecordFrame p h l) s (fun f => f = x.queueRecords p false l.length l)) ∧
    -- a frame out of sequence is dropped, and a NAK is owed
    (s.fb.relayHeld p h = false → s.fb.skyTake p h = (x, false) → FbAnswers (.skyRecordFrame p h l) s (fun f => f = x)) ∧
    (s.fb.relayHeld p h = false → s.fb.skyTake p h = (x, true) → x.relays p = false →
      FbAnswers (.skyMessageFrame p h b) s (fun f => f = (x.onG (fun g => g.skyTaken p 2 (skySlots 2 0 b.length))).receiveBytes (.sky p) b)) ∧
    (s.fb.g.portUp p = true → FbAnswers (.skyControlFrame p h a cc ss t) s (fun f => f = s.fb.onG (fun g => ((g.skyHead p h false).1).onPort p (fun y =>
      (((y.onCls 3 (fun k => { k with granted := a % 2 ^ 32 })).onCls 2 (fun k => { k with granted := cc % 2 ^ 32 })).onCls 1
        (fun k => { k with granted := ss % 2 ^ 32 })).onCls 0 (fun k => { k with granted := t % 2 ^ 32 }))))) ∧
    (∀ d : Group × List ExtRecord, s.fb.relayHeld p h = false → s.fb.skyTake p h = (x, true) → x.relays p = false → d = x.g.condReceive (leAt (x.g.port p).peerHello 12 4) h.cls.code b → d.2 ≠ [] →
      FbAnswers (.skyCondenserFrame p h b) s (fun f => f = ({ x with g := d.1 } : Fabato).queueRecords p false (skySlots 4 0 b.length) d.2)) ∧
    ((s.fb.g.port p).state = .up → (leAt b 0 1).testBit 0 = true → s.fb.g.portUp p = true →
      FbAnswers (.skyHelloFrame p b) s (fun f => f = s.fb.onG (fun g => (g.onPort p (fun y => { y with lastRx := s.fb.up, peerHello := b })).parentScan p))) ∧
    (l ≠ [] → s.fb.skyTake p h = (x, true) → (x.core.skyMap p).role = 3 →
      FbAnswers (.skyRelayFrame p h child (.records l)) s (fun f => f = x.queueRecords p true (skySlots 7 0 (64 * l.length + 8)) l))

/-- Step markers and the angle (R145–R175): a marker is refused as Table 5.1 says or moves the step, windows close, entries fire at their time, and the lock stalls and is
overdue. -/
def Obligations.StepCommandsComplete : Prop :=
  ∀ (s : State) (e : Envelope) (num member time : Nat),
    (OvReady s → (s.ov.core.classify s.ov.core.ns (num % 2 ^ 32)).accepted = false →
      OvAnswers (.stepMarker num) s (fun o => o = { s.ov with core := s.ov.core.noteMarker (s.ov.core.classify s.ov.core.ns (num % 2 ^ 32)) s.ov.core.ns (num % 2 ^ 32) })) ∧
    (∀ x : Ovtan, OvReady s → (s.ov.core.classify s.ov.core.ns (num % 2 ^ 32)).accepted = true → s.ov.core.angle.mode = .off → x = s.ov.cutsAtMarker s.ov.core.ns (num % 2 ^ 32) →
      OvAnswers (.stepMarker num) s (fun o => ∃ c : Core, c = x.core.noteMarker (s.ov.core.classify s.ov.core.ns (num % 2 ^ 32)) s.ov.core.ns (num % 2 ^ 32) ∧
        o = commitsAtMarker ovOps0 { x with core := { c with angle := { c.angle with step := num % 2 ^ 32 } } })) ∧
    (∀ (k : MarkerKind) (x y z : Ovtan), OvReady s → k = s.ov.core.classify s.ov.core.ns (num % 2 ^ 32) → k.accepted = true → s.ov.core.angle.mode ≠ .off → s.ov.core.ns ≠ 0 →
      x = s.ov.handAngle (s.ov.core.ns - 1) →
      y = (({ x with cap := x.cap.stampDue x.core.angle (s.ov.core.ns - 1) } : Ovtan).cutsAtMarker s.ov.core.ns (num % 2 ^ 32)).cancelStep s.ov.core.ns →
      z = commitsAtMarker ovOps0 { y with core := ({ y.core.noteMarker k s.ov.core.ns (num % 2 ^ 32) with angle := { (y.core.noteMarker k s.ov.core.ns (num % 2 ^ 32)).angle with early := false, slow := false, jump := (match k with | .jump _ => true | .rewind => true | _ => false), overdue := false } } : Core).angleLock s.ov.core.ns (num % 2 ^ 32) k.k } → z.core.angle.mode ≠ .off →
      OvAnswers (.stepMarker num) s (fun o => ∃ w : Ovtan, w = z.markerReport s.ov.core.ns ∧ o = ({ w with core := w.core.armStep } : Ovtan).handAngle s.ov.core.ns)) ∧
    (num < 2 ^ 32 → OvWrites (.softMarker .ovtan e num) s e oAngleSoftMarker (s.objBytes .ovtan oAngleSoftMarker num) (fun _ _ => True) (fun o _ => (o.marker num true, stOk))) ∧
    (num < 2 ^ 32 → FbWrites (.softMarker .fabato e num) s e oAngleSoftMarker (s.objBytes .fabato oAngleSoftMarker num) (fun _ _ => True) (fun f _ => (f.groupMarker f.ns num 0 true, stOk))) ∧
    (OvReady s → OvAnswers (.angleStall .ovtan) s (fun o => o = { s.ov with core := { s.ov.core with angle := { s.ov.core.angle with mode := s.ov.core.angle.modeAt s.ov.core.ns } } })) ∧
    (FbReady s → FbAnswers (.angleStall .fabato) s (fun f => f = s.fb.onCore (fun c => { c with angle := { c.angle with mode := c.angle.modeAt c.ns } }))) ∧
    (OvReady s → s.ov.core.angle.mode = .stalled → s.ov.core.angle.overdue = false → s.ov.core.ns ≥ s.ov.core.angle.tm + 16 * (s.ov.core.angle.lq / 65536) → s.ov.core.kind = 0 →
      OvAnswers (.markerOverdue .ovtan) s (fun o => o = { s.ov with core :=
        ({ s.ov.core with angle := { s.ov.core.angle with overdue := true } } : Core).raise 0x0506 0x02 [s.ov.core.angle.step, s.ov.core.ns - s.ov.core.angle.tm] })) ∧
    (FbReady s → s.fb.core.angle.mode = .stalled → s.fb.core.angle.overdue = false → s.fb.core.ns ≥ s.fb.core.angle.tm + 16 * (s.fb.core.angle.lq / 65536) → s.fb.core.kind ≠ 0 →
      FbAnswers (.markerOverdue .fabato) s (fun f => f = s.fb.onCore (fun c =>
        ({ c with angle := { c.angle with overdue := true } } : Core).raise 0x0506 0x77 [c.angle.step, c.ns - c.angle.tm]))) ∧
    (FbReady s → s.fb.refMember member = true → s.fb.g.win.closed = [] → s.fb.g.win.opens = [] → (∃ m ∈ s.fb.refPresent, m ≠ member) →
      FbAnswers (.markerReportArrival member num time) s (fun f => f.g.win.opens = [{ step := num, at_ := s.fb.up, reports := [(member, time)] }] ∧ f.g.win.closed = [] ∧ f.core = s.fb.core)) ∧
    (OvReady s → s.ov.core.angle.isLocked = true → OvAnswers .angleEntryHandoff s (fun o => ∃ t, t = s.ov.core.ns + s.ov.core.num oAngleArmLead ∧
      o = (dueEntries s.ov.core.angle.armed t).foldl (fun o x => o.handFiring (o.core.entry x.entry) x.entry x.fire false)
        { s.ov with core := { s.ov.core with angle := { s.ov.core.angle with armed := s.ov.core.angle.armed.map (fun x => if x.fire ≤ t then { x with handed := true } else x) } } })) ∧
    (OvReady s → s.ov.core.angle.mode ≠ .off → OvAnswers .timeEntryHandoff s (fun o => ∃ (t : Nat) (x : Ovtan), t = s.ov.core.ns + s.ov.core.num oAngleArmLead ∧
      x = (dueEntries s.ov.core.angle.timed t).foldl (fun o x => o.handFiring (o.core.entry x.entry) x.entry x.fire true) s.ov ∧
      o = { x with core := { x.core with angle := { x.core.angle with timed := x.core.angle.timed.map (fun y =>
        if y.fire ≤ t then { y with fire := y.fire + Nat.max 1 (x.core.entry y.entry).period } else y) } } })) ∧
    (∀ w : MarkerWindow, FbReady s → s.fb.g.win.opens = [w] → s.fb.up ≥ w.at_ + 1000 * s.fb.core.num oAngleGroupWait → FbAnswers .groupWaitExpire s (fun f => f = s.fb.closeWindow w true)) ∧
    (∀ x : ArmedEntry, FbReady s → s.fb.core.angle.isLocked = true → dueEntries s.fb.core.angle.armed s.fb.ns = [x] → s.fb.core.angle.timed = [] →
      FbAnswers .groupEntryFire s (fun f => f = (s.fb.onCore (fun c => { c with angle := { c.angle with
        armed := c.angle.armed.map (fun y => if y.fire ≤ s.fb.ns then { y with handed := true } else y) } })).groupSample x.entry x.fire x.angle false))

/-- Sundog (R426–R440): journal items are mirrored and acknowledged, an image is refilled and completed, snapshots are kept, a hello pairs, a hosted group is handed back, and
a takeover is asked for, granted and done. -/
def Obligations.SundogCommandsComplete : Prop :=
  ∀ (s : State) (e : Envelope) (p path host : Nat) (h : SkyHead) (x : Transfer) (g : Fabato) (b : Bytes), FbReady s →
    (s.fb.sunOpen p h 1 x = (g, some b) → x.owner ≠ g.core.path → x.owner = g.sun.path → x.seq > g.sun.peerSeq →
      FbAnswers (.sundogJournalItem p h x) s (fun f => f = ({ g with sun := { g.sun with peerSeq := x.seq, mirror := mirrorPut g.sun.mirror b } } : Fabato).sunSend p 2 x.owner x.seq 0 [])) ∧
    (s.fb.sunOpen p h 2 x = (g, some b) → (g.core.skyMap p).role = 3 → x.owner = g.core.path →
      FbAnswers (.sundogJournalAck p h x) s (fun f => f = { g with sun := { g.sun with journal := g.sun.journal.filter (fun i => decide (i.seq > x.seq)) } })) ∧
    (s.fb.sunOpen p h 3 x = (g, some b) → g.sun.state = .refilling → x.owner = g.core.path → (imageItems (g.sun.chunk x.off b).load).any (fun i => decide (i.1 ≥ 9 * 2 ^ 32)) = false →
      FbAnswers (.sundogRefillChunk p h x) s (fun f => f = { g with sun := g.sun.chunk x.off b })) ∧
    (∀ y : Fabato, s.fb.sunOpen p h 4 x = (g, some b) → g.sun.state = .refilling → x.owner = g.core.path →
      y = g.sunLoadAll.sun.later.foldl (fun f i => f.loadItem (itemKey i.bytes) (itemValue i.bytes)) g.sunLoadAll →
      FbAnswers (.sundogRefillDone p h x) s (fun f => f = (({ y with sun := { y.sun with state := .paired, empty := false, seq := Nat.max y.sun.seq x.seq, later := [], load := [], refill := (3, y.sun.refill.2), handBack := y.core.kind != 1 } } : Fabato).sunSend p 2 y.core.path x.seq 0 []).raise 0x1704 0x72 [0, y.sun.refill.2.2.1])) ∧
    (s.fb.sunOpen p h 5 x = (g, some b) → (g.core.skyMap p).role = 2 → b ≠ [] → x.off = 0 →
      FbAnswers (.sundogSnapshotChunk p h x) s (fun f => f = { g with sun := { g.sun with snaps := g.sun.snaps.filter (fun y => !(y.path == x.owner && !y.complete)) ++ [{ path := x.owner, at_ := 0, image := overlay [] 0 b, complete := false }] } })) ∧
    (∀ y : Snapshot, s.fb.sunOpen p h 6 x = (g, some b) → (g.core.skyMap p).role = 2 → g.sun.snaps.find? (fun y => y.path == x.owner && !y.complete) = some y → y.image.length = x.off →
      FbAnswers (.sundogSnapshotDone p h x) s (fun f => ∃ old, old = g.sun.snaps.filter (fun y => y.path == x.owner && y.complete) ∧
        f = ({ g with sun := { g.sun with snaps := g.sun.snaps.filter (fun y => y.path != x.owner) ++ old.drop (old.length - 1) ++ [{ y with complete := true, at_ := ofTime80 (leAt b 0 10) }] } } : Fabato).sunSend p 2 x.owner 0 0 [])) ∧
    (s.fb.sunOpen p h 7 x = (g, some b) → (g.core.skyMap p).role = 3 → g.sunRefusal (leAt b 0 16) (leAt b 16 4) (leAt b 20 4) = none → g.sun.empty = false → g.sun.state = .alone →
      FbAnswers (.sundogHello p h x) s (fun f => f = ({ g with sun := { g.sun with path := leAt b 16 4, uid := leAt b 0 16, feed := leAt b 20 4, coFed := leAt b 20 4 == g.core.num oSundogFeed, lostAt := none, state := .paired } } : Fabato).sunResend p)) ∧
    (s.fb.sunOpen p h 8 x = (g, some b) → g.sun.hosting = some x.owner →
      FbAnswers (.sundogHandBack p h x) s (fun f => ∃ y : Fabato,
        y = g.sunSend p 1 x.owner (g.sun.peerSeq + 1) 0 (itemBytes (7 * 2 ^ 32) (some ((storeGet g.sun.mirror (7 * 2 ^ 32)).getD (zeros 8)))) ∧
        f = { y with sun := { y.sun with state := .paired, hosting := none, hostLog := [], peerSeq := y.sun.peerSeq + 1 }, g := { y.g with parent := { y.g.parent with hosting := false } } })) ∧
    (∀ i q t, memberOf s.fb.core.path path = some i → s.fb.core.memberPort i = some q → s.fb.g.portUp q = false → (s.fb.g.port q).downAt = some t →
      s.fb.up ≥ t + 1000 * s.fb.core.num oSundogTakeoverHold →
      FbAnswers (.takeoverRequest path host) s (fun f => f = ((s.fb.resetChecks path).raise 0x1703 0x72 [path, host]).onCore (fun c => c.send (.exchange host 0x81 [path, 1])))) ∧
    (∀ i q, memberOf s.fb.core.path path = some i → s.fb.core.memberPort i = some q → s.fb.g.portUp q = true →
      FbAnswers (.takeoverRequest path host) s (fun f => f = s.fb.onCore (fun c => c.send (.exchange host 0x81 [path, 0])))) ∧
    (s.fb.sun.state = .lost → path = s.fb.sun.path → FbAnswers (.takeoverGrant path true) s (fun f => f = s.fb.sunHost path)) ∧
    (path < 2 ^ 32 → FbWrites (.sundogTakeoverWrite .fabato e path) s e oSundogTakeover (s.objBytes .fabato oSundogTakeover path)
      (fun f _ => f.core.plan.root = true ∧ f.sun.state = .lost ∧ path = f.sun.path ∧ f.core.kind ≥ 2) (fun f _ => ((f.raise 0x1703 0x72 [path, f.core.path]).sunHost path, stOk))) ∧
    (s.fb.sun.state = .paired → (s.fb.core.parentPort false).isSome = true → s.fb.core.keys.tree ≠ zeros 32 → s.fb.up ≥ s.fb.sun.pushAt + secNs * s.fb.snapInterval → s.fb.sun.hosting = none →
      storeGet s.fb.core.pairGood oSundogSnapshotInterval = none →
      FbAnswers .snapshotPushTimer s (fun f => ∃ y : Fabato, y = ({ s.fb with sun := { s.fb.sun with pushAt := s.fb.up, pushTime := s.fb.ns } } : Fabato).sunPush s.fb.core.path s.fb.durable ∧
        (y.sun.hosting = none → f = y))) ∧
    (∀ t, s.fb.sun.state = .lost → s.fb.sun.lostAt = some t → s.fb.up ≥ t + 1000 * s.fb.core.num oSundogTakeoverHold → 2 ≤ s.fb.core.kind → (s.fb.core.parentPort false).isSome = true →
      (s.fb.core.portsOf 5).any (fun p => s.fb.g.portUp p) = true →
      FbAnswers .takeoverHoldExpire s (fun f => f = s.fb.onCore (fun c => c.send (.exchange c.plan.parentPath 0x80 [s.fb.sun.path, c.path]))))

/-- Halo time (R125–R153, R531): PTP, TIME and SERVO items, forced states, loss and return of references, the edges of 1PPS, TIME records that fall due, triggers and the
outputs of Vantage. -/
def Obligations.TimeCommandsComplete : Prop :=
  ∀ (s : State) (e : Envelope) (p n k item : Nat),
    -- PTP messages (R140, R128)
    (∀ seq, FbReady s → FbAnswers (.ptpEventMessage p (.pdelayReq seq)) s (fun f => f = s.fb.onCore (fun c =>
      c.send (.ptp p 3 [seq, (correctStamp c (c.ptpCal p + 0x100) c.ns).toNat, (correctStamp c (c.ptpCal p) c.ns).toNat])))) ∧
    (∀ seq t1 t2, FbReady s → (s.fb.g.ptpPort p).sync = some (seq, t2) → s.fb.g.core.time.useP1 = false → s.fb.g.slavePort = some p →
      FbAnswers (.ptpEventMessage p (.followUp seq t1)) s (fun f => f = s.fb.onG (fun g =>
        (g.setPtp { g.ptpPort p with sync := none, lastSync := some (t1, t2), heard := some g.core.up }).ownExchange (g.core.num oTimePhaseSrc)
          ((t2 : Int) - t1 - (g.ptpPort p).meanDelay) (g.ptpPort p).meanDelay))) ∧
    (∀ seq t1 t2 t3 t4, FbReady s → (s.fb.g.ptpPort p).req = some (seq, t1) → (s.fb.g.ptpPort p).resp = some (t2, t4) →
      FbAnswers (.ptpEventMessage p (.pdelayRespFollowUp seq t3)) s (fun f => f = s.fb.onG (fun g =>
        g.setPtp { g.ptpPort p with meanDelay := (((t4 : Int) - t1) - ((t3 : Int) - t2)).fdiv 2, req := none, resp := none }))) ∧
    -- the lane's exchange (R136, R137)
    (∀ (l : FabLane) (m : MemberServo) (t1 : Nat) (x : Int × Int), FbReady s → s.fb.g.lanes[n]? = some l → l.lane.phy.state = .up → l.waiting = true → l.step = none →
      bitsOf item 39 16 = l.exch → s.fb.g.halo.members[n]? = some m → m.t1 = some t1 →
      x = exchangeOf t1 (bitsOf item 127 64) (bitsOf item 127 64 + bitsOf item 63 40) (correctStamp s.fb.g.core (0x0B040100 + n * 0x200) s.fb.g.core.ns) →
      0 ≤ x.2 → x.2 ≤ 100 →
      FbAnswers (.timeRspItem n item) s (fun f => f = s.fb.onG (fun g => ({ g with lanes := g.lanes.set n { l with waiting := false } } : Group).memberExchange n x.1 x.2))) ∧
    (∀ l : FabLane, FbReady s → s.fb.g.lanes[n]? = some l → s.fb.up ≥ l.reqAt + 1000 * s.fb.core.num oTimeSyncInterval → l.lane.phy.state = .up → l.waiting = false →
      FbAnswers (.timeReqDue n) s (fun f => f = s.fb.onG (fun g => { g with lanes := g.lanes.set n { l with exch := (l.exch + 1) % 2 ^ 24, waiting := true, reqAt := g.core.up, lane := { l.lane with tx := { l.lane.tx with req := some ((l.exch + 1) % 2 ^ 24) } } } }))) ∧
    -- TIME.FORCE_STATE (R531)
    OvWrites (.forceHoldover .ovtan e) s e oTimeForceState (s.objBytes .ovtan oTimeForceState 1) (fun _ _ => True)
      (fun o _ => (({ o with core := o.core.enterHoldover true false o.core.up 2 } : Ovtan).qualityChange (o.core.quality true false o.core.up), stOk)) ∧
    FbWrites (.forceHoldover .fabato e) s e oTimeForceState (s.objBytes .fabato oTimeForceState 1) (fun _ _ => True)
      (fun f _ => (f.onG (fun g => ({ g with core := g.core.enterHoldover false g.core.noSrc g.core.up 2 } : Group).qualityChange g.quality), stOk)) ∧
    OvWrites (.forceAcquire .ovtan e) s e oTimeForceState (s.objBytes .ovtan oTimeForceState 2) (fun _ _ => True)
      (fun o _ => (({ o with core := { o.core with time := { o.core.time with forced := false, mode := .acquiring } } } : Ovtan).qualityChange (o.core.quality true false o.core.up), stOk)) ∧
    FbWrites (.forceAcquire .fabato e) s e oTimeForceState (s.objBytes .fabato oTimeForceState 2) (fun f _ => f.core.noSrc = false)
      (fun f _ => (f.onG (fun g => ({ g with core := { g.core with time := { g.core.time with forced := false, sourceLost := false, mode := .acquiring, holdSince := none } } } : Group).qualityChange
        g.quality), stOk)) ∧
    -- the items the Ovtan takes (R134, R138, R143)
    (OvReady s → s.ov.link.lane.phy.state = .up → s.ov.core.time.forced = false → s.ov.core.time.mode = .locked → bitsOf item 31 29 ≠ 7 →
      OvAnswers (.servoItem item) s (fun o => o = ({ s.ov with core := { s.ov.core with time := { s.ov.core.time with adj := signedOf 64 (bitsOf item 127 64), bound := bitsOf item 63 32, byte := BitVec.ofNat 8 (bitsOf item 31 24), missed := 0, lastSync := s.ov.core.up } } } : Ovtan).qualityChange
        (s.ov.core.quality true false s.ov.core.up))) ∧
    (∀ c : Core, OvReady s → s.ov.link.lane.phy.state = .up → s.ov.core.time.forced = false → bitsOf item 23 16 ≠ s.ov.link.stepId → bitsOf item 23 16 ≠ 0 →
      c = (({ s.ov.core with time := { s.ov.core.time with byte := BitVec.ofNat 8 (bitsOf item 31 24) } } : Core).stepClock true false s.ov.core.up (signedOf 64 (bitsOf item 127 64))).bump oTimeSteps →
      OvAnswers (.stepItem item) s (fun o => o = (({ s.ov with core := c, link := { s.ov.link with stepId := bitsOf item 23 16 } } : Ovtan).onBuf (fun c b =>
        emitTime c b (timePayload (wrapInt 64 (signedOf 64 (bitsOf item 127 64))) 0 0 false 0 (bitsOf item 31 24) 0x02))).fullTime)) ∧
    (OvReady s → s.ov.link.lane.phy.state = .up → s.ov.core.up ≥ s.ov.core.time.lastFull + 1000000 * s.ov.core.num oTimeFullInterval →
      OvAnswers .fullTimeDue s (fun o => o = s.ov.fullTime)) ∧
    (∀ t, OvReady s → s.ov.link.lane.phy.downAt = some t → s.ov.core.time.mode = .locked → s.ov.core.up ≥ t + 3000 * s.ov.core.num oTimeSyncInterval →
      OvAnswers .ovtanLaneHoldover s (fun o => o = ({ s.ov with core := s.ov.core.enterHoldover true false s.ov.core.up 0 } : Ovtan).qualityChange (s.ov.core.quality true false s.ov.core.up))) ∧
    -- 24 h in holdover (R130)
    (OvReady s → s.ov.core.heldDay s.ov.core.up = true → s.ov.core.time.dayNoted = false →
      OvAnswers (.holdoverLimit .ovtan) s (fun o => o = ({ s.ov with core := { s.ov.core with time := { s.ov.core.time with dayNoted := true } } } : Ovtan).qualityChange
        (qualityByte (s.ov.core.qState true false) (steppedAtTime s.ov.core.time s.ov.core.ns) (uClass (s.ov.core.bound true false s.ov.core.up))))) ∧
    (FbReady s → s.fb.core.heldDay s.fb.up = true → s.fb.core.time.dayNoted = false →
      FbAnswers (.holdoverLimit .fabato) s (fun f => f = s.fb.onG (fun g => ({ g with core := { g.core with time := { g.core.time with dayNoted := true } } } : Group).qualityChange
        (qualityByte (g.core.qState false g.core.noSrc) (steppedAtTime g.core.time g.core.ns) (uClass (g.core.bound false g.core.noSrc g.core.up)))))) ∧
    -- references (R125, R128)
    (FbReady s → s.fb.core.noSrc = false → s.fb.up ≥ s.fb.core.time.lastSync + 3 * s.fb.core.srcNs → s.fb.core.time.useP1 = true → s.fb.core.time.mode = .locked →
      FbAnswers .phaseSourceLoss s (fun f => f = s.fb.onG (fun g => ({ g with core := g.core.enterHoldover false false g.core.up 0 } : Group).qualityChange g.quality))) ∧
    (∀ x : Fabato, x = ({ s.fb with board := { s.fb.board with reference := false } } : Fabato).settle s.fb → x.board.boot = 3 → x.core.time.refPresent = true → x.core.time.mode ≠ .locked →
      exec .rackRefLost s = .next { s with fb := (x.onG (fun g => ({ g with core := { g.core with time := { g.core.time with refPresent := false } } } : Group).qualityChange g.quality)).settle x }) ∧
    (∀ x : Fabato, x = ({ s.fb with board := { s.fb.board with reference := true } } : Fabato).settle s.fb → x.board.boot = 3 → x.core.time.refPresent = false → x.core.num oTimeFreqSrc = 0 →
      x.core.time.mode ≠ .holdover →
      exec .rackRefReturn s = .next { s with fb := (x.onG (fun g => ({ g with core := { g.core with time := { g.core.time with refPresent := true } } } : Group).qualityChange g.quality)).settle x }) ∧
    (∀ v t c b at_, FbReady s → s.fb.core.num oTimePhaseSrc = 4 → s.fb.core.isRoot = true → s.fb.core.time.tod = some (v, t) → at_ = correctStamp s.fb.core 0x0B065000 s.fb.ns →
      b = 20 + (ftoInt (-(2 ^ 31)) (2 ^ 31) (f32Val (ofLe (s.fb.core.effective 0x0B065080)))).natAbs → c = { s.fb.core with time := { s.fb.core.time with srcState := 0, bParent := b, tod := none } } →
      FbAnswers .ppsInEdge s (fun f => f = s.fb.onG (fun g => (({ g with core := c } : Group).stepOwn ((v : Int) - at_)).ownExchange 4 0 0))) ∧
    (∀ v t, FbReady s → s.fb.core.time.tod = some (v, t) → s.fb.up ≥ t + 2000000000 → s.fb.core.time.mode = .locked →
      FbAnswers .todSetTimeout s (fun f => ∃ g : Group, g = ({ s.fb.g with core := { s.fb.core with time := { s.fb.core.time with tod := none } } } : Group).stepOwn ((v : Int) - s.fb.ns) ∧
        (g.core.time.mode = .locked → f = s.fb.onG (fun g0 => ({ g with core := { g.core with time := { g.core.time with srcState := 1 } } } : Group).qualityChange g0.quality)))) ∧
    -- PTP's own interval
    (FbReady s → s.fb.up ≥ (s.fb.g.ptpPort p).lastDue + s.fb.core.syncNs → s.fb.g.slavePort = some p → p < 24 →
      FbAnswers (.ptpSyncDue p) s (fun f => f = s.fb.onG (fun g =>
        ({ g with core := g.core.send (.ptp p 2 [((g.ptpPort p).seq + 1) % 65536, (correctStamp g.core (g.core.ptpCal p) g.core.ns).toNat]) } : Group).setPtp
          { g.ptpPort p with seq := ((g.ptpPort p).seq + 1) % 65536, req := some (((g.ptpPort p).seq + 1) % 65536, (correctStamp g.core (g.core.ptpCal p) g.core.ns).toNat), resp := none, lastDue := g.core.up }))) ∧
    -- the outputs (R150–R153)
    (∀ x, FbReady s → s.fb.g.halo.trig[k]? = some x → (s.fb.core.trig k).mode = 1 → x.done = false → x.next ≤ s.fb.ns → s.fb.core.time.steppedAt = none →
      FbAnswers (.triggerFire k) s (fun f => f = s.fb.onG (fun g => g.trigFire k x.next x.next false))) ∧
    (∀ x t, FbReady s → s.fb.g.halo.trig[k]? = some x → (s.fb.core.trig k).mode = 2 → x.done = false → s.fb.core.angle.isLocked = true → (s.fb.core.trig k).selects s.fb.core.angle.step = true →
      x.next ≤ s.fb.core.angle.step → t = fireTime s.fb.core.angle.tm s.fb.core.angle.lq (s.fb.core.trig k).angle → t ≤ s.fb.ns → s.fb.core.time.steppedAt = none →
      FbAnswers (.triggerAngleFire k) s (fun f => f = s.fb.onG (fun g =>
        ({ g with halo := { g.halo with trig := g.halo.trig.set k { x with next := g.core.angle.step } } } : Group).trigFire k t t false))) ∧
    (∀ x t, FbReady s → s.fb.g.halo.trig[k]? = some x → x.pulseEnd = some t → t ≤ s.fb.ns →
      FbAnswers (.triggerPulseEnd k) s (fun f => f = s.fb.onG (fun g => { g with halo := { g.halo with trig := g.halo.trig.set k { x with level := !x.level, pulseEnd := none } }, core := g.core.send (.pin (pinTrig k) (!x.level)) }))) ∧
    (FbReady s → s.fb.g.outputsRun = true → s.fb.ns / 1000000000 > s.fb.g.halo.ppsSecond → s.fb.core.flag oVantagePpsOutEn = true → s.fb.core.flag oVantageTenmhzOutEn = false →
      FbAnswers .ppsOutPulse s (fun f => f = s.fb.onG (fun g => { g with halo := { g.halo with ppsSecond := s.fb.ns / 1000000000, pps := true, ppsFall := some (s.fb.ns / 1000000000 * 1000000000 + g.core.num oVantagePpsOutWidth) }, core := g.core.send (.pin pinPps true) }))) ∧
    (∀ t, FbReady s → s.fb.g.halo.ppsFall = some t → t ≤ s.fb.ns →
      FbAnswers .ppsOutWidthEnd s (fun f => f = s.fb.onG (fun g => { g with halo := { g.halo with pps := false, ppsFall := none }, core := g.core.send (.pin pinPps false) })))

/-- Trace (R201–R217, R251–R253): a descriptor is refused, queued or trips the trigger, the capture is armed, forced and stopped, domains flush, gate and wake, the Funnel
takes entries, and an export starts, is cancelled and is done. -/
def Obligations.TraceCommandsComplete : Prop :=
  ∀ (s : State) (e : Envelope) (tap d : Nat) (desc : U128) (value : Bytes) (auth stretch level : Bool),
    -- a descriptor at a live tap of a running capture that no filter stops is queued with the time, step and angle of its presentation (R201–R208)
    (∀ index trig, OvReady s → tap < 16 → s.ov.core.flag oTraceEnable = true → s.ov.core.num (oTraceTapMode + tap + 1) ≠ 0 → s.ov.trace.mode = .continuous → descSecurity desc = 0 →
      s.ov.trace.flushing (tapDomain s.ov.core tap) = false → filterVerdict s.ov.core.filters (s.ov.core.num (oTraceTapMode + tap + 1)) tap desc = .keep index trig →
      (s.ov.trace.queue.filter (fun x => x.tap == tap)).length < 64 →
      OvAnswers (.tapDescriptor tap desc auth stretch) s (fun o => o = { s.ov with bnd := { s.ov.bnd with auth := auth }, trace := { s.ov.trace with presented := modAt s.ov.trace.presented tap (· + 1), queue := insertEntry { tap := tap, desc := desc, time := s.ov.core.ns, step := s.ov.core.angle.step % 2 ^ 32, angle := angleAt s.ov.core.angle s.ov.core.ns / 65536, index := index, trig := false, stretch := stretch } s.ov.trace.queue } })) ∧
    -- a secure descriptor without the grant and `TRACE_AUTH` is dropped and counted (R204)
    (OvReady s → tap < 16 → s.ov.core.flag oTraceEnable = true → s.ov.core.num (oTraceTapMode + tap + 1) ≠ 0 → s.ov.trace.mode = .continuous → descSecurity desc ≠ 0 →
      (auth = false ∨ s.ov.trace.grantEnd = none) →
      OvAnswers (.tapDescriptor tap desc auth stretch) s (fun o => o = { s.ov with bnd := { s.ov.bnd with auth := auth }, core := s.ov.core.bump (oTraceSecureDrops + tap + 1) })) ∧
    OvWrites (.traceArm .ovtan e) s e oTraceArm (s.objBytes .ovtan oTraceArm 1) (fun o _ => o.trace.mode = .done)
      (fun o _ => ({ o with trace := { o.trace with mode := .armed, pre := [], n := 0 } }, stOk)) ∧
    OvWrites (.traceForceTrigger .ovtan e) s e oTraceArm (s.objBytes .ovtan oTraceArm 2) (fun o _ => o.trace.mode = .armed)
      (fun o _ => (o.onTrace (fun x => x.trigger 2 0 x.core.ns), stOk)) ∧
    OvWrites (.traceStop .ovtan e) s e oTraceArm (s.objBytes .ovtan oTraceArm 3) (fun o _ => o.trace.mode = .capturing)
      (fun o _ => (o.onTrace (fun x => x.finish true), stOk)) ∧
    -- arming where there is no capture to arm
    OvWrites (.traceArm .ovtan e) s e oTraceArm (s.objBytes .ovtan oTraceArm 1) (fun o _ => o.trace.mode ≠ .done) (fun o _ => (o, stOk)) ∧
    FbWrites (.traceArm .fabato e) s e oTraceArm (s.objBytes .fabato oTraceArm 1) (fun _ _ => True) (fun f _ => (f, stOk)) ∧
    FbWrites (.traceForceTrigger .fabato e) s e oTraceArm (s.objBytes .fabato oTraceArm 2) (fun _ _ => True) (fun f _ => (f, stOk)) ∧
    FbWrites (.traceStop .fabato e) s e oTraceArm (s.objBytes .fabato oTraceArm 3) (fun _ _ => True) (fun f _ => (f, stOk)) ∧
    (OvReady s → tap < 16 → s.ov.trace.sinceSync.getD tap 0 ≥ s.ov.core.num oTraceSyncInterval →
      OvAnswers (.tracePeriodicSync tap) s (fun o => o = s.ov.onTrace (fun x => x.sync 0x06 tap))) ∧
    -- a domain's request rises, is flushed, falls and wakes; a request withdrawn and a clock that does not come (R212–R214, R253)
    (OvReady s → d < 32 → s.ov.trace.pdReq.testBit d = false → s.ov.cap.gated.testBit d = false →
      OvAnswers (.pdReqRise d) s (fun o => o = { s.ov with trace := { s.ov.trace with pdReq := s.ov.trace.pdReq ||| 2 ^ d, flushes := s.ov.trace.flushes ++ [{ domain := d, since := s.ov.core.up, refused := 0, withdrawn := false }] } })) ∧
    (∀ x, OvReady s → s.ov.trace.flushes = [x] → x.domain = d → x.withdrawn = false →
      OvAnswers (.flushComplete d) s (fun o => o.trace.flushes = [] ∧ o.trace.pdReq = s.ov.trace.pdReq ∧ o.dma = s.ov.dma ∧ o.dew = s.ov.dew ∧
        { domain := d, gate := s.ov.core.ns, waking := false, prior := false } ∈ o.trace.gates ∧ ⟨0x0704, 0x0B, [d, s.ov.core.ns, s.ov.core.up - x.since]⟩ ∈ o.core.events)) ∧
    (OvReady s → s.ov.trace.pdReq.testBit d = true → s.ov.cap.gated.testBit d = true →
      OvAnswers (.pdReqFall d) s (fun o => o = { s.ov with trace := { s.ov.trace with pdReq := s.ov.trace.pdReq - 2 ^ d, gates := modWhere (fun g => g.domain == d) (fun g => { g with waking := true }) s.ov.trace.gates } })) ∧
    (∀ g, OvReady s → s.ov.trace.gates = [g] → g.domain = d → g.waking = true →
      OvAnswers (.domainWakeEdge d) s (fun o => o.trace.gates = [] ∧ o.dma = s.ov.dma ∧ o.dew = s.ov.dew ∧ ⟨0x0705, 0x0B, [d, s.ov.core.ns - g.gate]⟩ ∈ o.core.events)) ∧
    (OvReady s → s.ov.trace.pdReq.testBit d = true → s.ov.cap.gated.testBit d = false →
      OvAnswers (.pdReqWithdrawn d) s (fun o => o = { s.ov with trace := { s.ov.trace with pdReq := s.ov.trace.pdReq - 2 ^ d, flushes := modWhere (fun x => x.domain == d) (fun x => { x with withdrawn := true }) s.ov.trace.flushes } })) ∧
    (∀ x, OvReady s → s.ov.trace.flushes.find? (fun x => x.domain == d) = some x → s.ov.core.up ≥ x.since + 1500 → s.ov.cap.cgNote.testBit d = false →
      OvAnswers (.pdEdgeTimeout d) s (fun o => o = s.ov.onTrace (fun y => ({ y with core := y.core.raise 0x0907 0x0B [d] } : TraceSide).pdComplete d))) ∧
    (OvReady s → d < 32 → s.ov.cap.latch = none → s.ov.buf.alarmed = false →
      OvAnswers (.cgNoteChange d level) s (fun o => o = { s.ov with cap := { s.ov.cap with cgNote := (if s.ov.cap.cgNote.testBit d = level then s.ov.cap.cgNote else if level then s.ov.cap.cgNote + 2 ^ d else s.ov.cap.cgNote - 2 ^ d) } })) ∧
    (d < 32 → s.ov.bnd.boot ≠ .ready →
      OvAnswers (.cgNoteChange d level) s (fun o => (∀ i, o.cap.cgNote.testBit i = (if i = d then level else s.ov.cap.cgNote.testBit i)) ∧ o.core = s.ov.core ∧ o.trace = s.ov.trace)) ∧
    -- export (R217)
    FbWrites (.traceExportStart .fabato e value) s e oTraceExport value
      (fun f _ => leAt value 0 1 ≠ 0 ∧ f.fwd.exporting = none ∧ f.fwd.overwritten = none)
      (fun f _ => (({ f with fwd := { f.fwd with exporting := some { desc := value, dest := leAt value 0 1, todo := sortBy (f.fwd.trace.filter (traceHit value)) traceLe } } } : Fabato).exportStatus 1 0, stOk)) ∧
    (∀ x, FbWrites (.traceExportCancel .fabato e) s e oTraceExport (zeros 32) (fun f _ => f.fwd.exporting = some x)
      (fun f _ => (({ f with fwd := { f.fwd with exporting := none } } : Fabato).exportStatus 3 (f.core.num oTraceExportStatus % 2 ^ 62), stOk))) ∧
    FbWrites (.traceExportCancel .fabato e) s e oTraceExport (zeros 32) (fun f _ => f.fwd.exporting = none) (fun f _ => (f, stOk)) ∧
    (∀ x, FbReady s → s.fb.fwd.exporting = some x → x.dest = 1 →
      FbAnswers .traceExportDone s (fun f => f = (({ s.fb with g := x.todo.foldl (fun (g : Group) (r : ExtRecord) => g.enqueue r.path.toNat 31 r) s.fb.g, fwd := { s.fb.fwd with exporting := none } } : Fabato)).exportStatus 2 x.todo.length)) ∧
    -- an injected descriptor passes the tap its last byte names, with the level of `TRACE_AUTH` (R201)
    (∀ o a, OvGrants { s with ov := { s.ov with bnd := { s.ov.bnd with auth := auth } } } e .wo oTraceInject value o a →
      exec (.traceInject .ovtan e value auth) s = .next { s with ov := Ovtan.wrote (o.onTrace (fun x => x.present (leAt value 16 1 % 16) (BitVec.ofNat 128 (leAt value 0 16)) auth false), stOk) e a (s.oneWrite .ovtan oTraceInject value) oTraceInject (s.objTy .ovtan oTraceInject) }) ∧
    (∀ x, OvReady s → s.ov.trace.queue.head? = some x → (∀ y ∈ s.ov.trace.queue, s.ov.trace.flushing (tapDomain s.ov.core y.tap) = false) →
      OvAnswers .funnelTake s (fun o => o = s.ov.onTrace (fun y => ({ y with trace := { y.trace with queue := y.trace.queue.erase x } } : TraceSide).record x))) ∧
    (OvReady s → s.ov.core.up ≥ s.ov.trace.accountAt + 1000 * s.ov.core.num oTraceAccountInterval →
      OvAnswers .traceAccountInterval s (fun o => o = s.ov.onTrace (fun y => ({ y with trace := { y.trace with accountAt := y.core.up } } : TraceSide).account (fun _ => true))))

/-! ### The machine as a whole -/

/-- Every command of the table completes, whatever its operands and the state, and leaves the queue to the step. -/
def Obligations.EveryCommandCompletes : Prop :=
  ∀ (i : Instr) (s : State), ∃ t, exec i s = .next t ∧ t.pending = s.pending

/-- A command changes one unit of the pair: the other is its frame. -/
def Obligations.CommandsActOnOneUnit : Prop :=
  ∀ (i : Instr) (s t : State), exec i s = .next t → t.ov = s.ov ∨ t.fb = s.fb

/-- R18 for the states of Tables 9.5 and 20.8: but for the commands of pins, supplies, clocks and bring-up, a command takes no action at a unit that is not in Ready. -/
def Obligations.OutsideReadyNothingHappens : Prop :=
  ∀ (i : Instr) (s t : State), Instr.always i = false → exec i s = .next t →
    (¬ OvReady s → t.ov = s.ov) ∧ (¬ FbReady s → t.fb = s.fb)

/-- A step on an empty queue is a nanosecond of time (the model's choice, log entry 2): powered time goes on at both units, in Ready their time counters too, and nothing
else of a unit that is not in Ready changes. -/
def Obligations.IdleStepIsANanosecond : Prop :=
  ∀ s : State, s.pending = [] → ∃ t, step s = .next t ∧ t.pending = [] ∧
    t.ov.core.up = s.ov.core.up + 1 ∧ t.fb.core.up = s.fb.core.up + 1 ∧
    (OvReady s → t.ov.core.time = s.ov.core.time.tick ∧ t.ov.bnd = s.ov.bnd ∧ t.ov.buf = s.ov.buf ∧ t.ov.cap = s.ov.cap ∧ t.ov.trace = s.ov.trace ∧ t.ov.link = s.ov.link) ∧
    (FbReady s → t.fb.core.time = s.fb.core.time.tick ∧ t.fb.board = s.fb.board ∧ t.fb.cel = s.fb.cel ∧ t.fb.hor = s.fb.hor ∧ t.fb.alm = s.fb.alm ∧ t.fb.fwd = s.fb.fwd) ∧
    (¬ OvReady s → t.ov = { s.ov with core := { s.ov.core with up := s.ov.core.up + 1 } }) ∧
    (¬ FbReady s → t.fb = s.fb.onCore (fun c => { c with up := c.up + 1 }))

/-- The command table gives no bits: no word spells a command. -/
def Obligations.NoWordSpellsACommand : Prop :=
  ∀ (s : State) (nbits w : Nat), decodeTableWord nbits w = none ∧ s.withFetchWord nbits w = s

/-- The state after reset (Table 9.5, Table 20.8, R71, R72, R139): the Ovtan held in Reset, the Fabato in boot state 0 in the hold of `POR_N`; every object at its
Default; time at 0 and Unlocked in state 7; no session, commit or record; no command waits. -/
def Obligations.ResetHoldsBothUnits : Prop :=
  State.reset.ov.bnd.boot = .reset ∧ State.reset.ov.bnd.aon = false ∧ State.reset.ov.bnd.irq = [none, none, none, none] ∧
  State.reset.ov.core.store = [] ∧ State.reset.ov.core.sessions = [] ∧ State.reset.ov.core.commits = [] ∧ State.reset.ov.core.waitX = [] ∧
  State.reset.ov.core.time.ns = 0 ∧ State.reset.ov.core.time.mode = .unlocked ∧ State.reset.ov.core.time.srcState = 7 ∧
  State.reset.ov.core.kind = 0 ∧ State.reset.ov.buf.s = [] ∧ State.reset.ov.cap.run = none ∧
  State.reset.fb.board.boot = 0 ∧ State.reset.fb.board.por = false ∧ State.reset.fb.core.store = [] ∧ State.reset.fb.core.sessions = [] ∧
  State.reset.pending = []

/-- The boundary's invariant holds after reset. -/
def Obligations.ResetMeetsBoundaryInvariant : Prop := State.reset.ov.bnd.Inv

/-- Every step keeps the boundary's invariant (Table 9.5, R245, R249, R250, R256): whatever command is run, the Ovtan has its four IRQ lines and six blocks, holds no fuse
image before Self-test, and any image it holds passed the check of R249. -/
def Obligations.EveryStepKeepsBoundaryInvariant : Prop :=
  ∀ s t : State, s.ov.bnd.Inv → step s = .next t → t.ov.bnd.Inv

/-- A good fuse image is locked until `AON_RST_N` falls; a warm restart, and every other command, keeps it (R249, R250, R251). -/
def Obligations.FuseImageStaysLocked : Prop :=
  ∀ s t : State, s.ov.bnd.Inv → s.ov.bnd.fuse ≠ [] → s.pending.head? ≠ some .aonResetAssert → step s = .next t → t.ov.bnd.fuse = s.ov.bnd.fuse

/-! ### Rules of the dictionary and of sessions -/

/-- R57: the fields of an object number, and SESSION.COMMIT's. -/
def Obligations.ObjectNumberFields : Prop :=
  (∀ a i k : Nat, i < 65536 → k < 256 →
    objArea (a * 2 ^ 24 + i * 2 ^ 8 + k) = a ∧ (a * 2 ^ 24 + i * 2 ^ 8 + k) / 256 % 65536 = i ∧ objElem (a * 2 ^ 24 + i * 2 ^ 8 + k) = k) ∧
  (∀ r : ReadItem, (readItemBytes r).take 4 = leBytes 4 r.obj) ∧ oSessionCommit = 0x01001000

/-- R67: the order of the roles, and that a role meets every minimum that a lower one meets, at any object that is not a tenant's and not barred to a Loft program. -/
def Obligations.RolesAreOrdered : Prop :=
  Role.observer.rank < Role.operator.rank ∧ Role.operator.rank < Role.engineer.rank ∧ Role.engineer.rank < Role.custodian.rank ∧
  ∀ {σ : Type} (u : UnitOps σ) (x : σ) (a b : Actor) (obj : Nat) (need : Role) (w : Bool), u.tenant x obj = none → loftBarred b (objArea obj) = false →
    a.role.rank ≤ b.role.rank → access u x a obj need w = stOk → access u x b obj need w = stOk

/-- R88: elements 0x00–0x3F of a calibration object refuse every write with E_READ_ONLY, whoever asks, and the unit is as it was. -/
def Obligations.FactoryCalibrationIsReadOnly : Prop :=
  ∀ {σ : Type} (u : UnitOps σ) (x : σ) (a : Actor) (flags : Nat) (w : WriteItem), objArea w.obj = 0x0B → objElem w.obj < 0x40 →
    (findRow (u.get x).kind w.obj).isSome = true → writeItem u x a flags w = (x, eReadOnly)

/-- Refused writes (R58, R61, R62, R69, R70): no object, a role below the minimum, a read-only object, another type or a value outside the row's range leave the unit as it
was and answer their own status. -/
def Obligations.RefusedWritesChangeNothing : Prop :=
  ∀ {σ : Type} (u : UnitOps σ) (x : σ) (a : Actor) (flags : Nat) (w : WriteItem),
    (objExpert w.obj = true → a.role.rank < 2 → writeItem u x a flags w = (x, eNoObject)) ∧
    (lookupFor u x a w.obj = .noObject → writeItem u x a flags w = (x, eNoObject)) ∧
    (lookupFor u x a w.obj = .noElement → writeItem u x a flags w = (x, eNoElement)) ∧
    (∀ r, lookupFor u x a w.obj = .value r →
      (r.access = .ro → writeItem u x a flags w = (x, eReadOnly)) ∧
      (r.access = .rw ∨ r.access = .wo →
        (u.tenant x w.obj = none → a.role.rank < needRole w.obj r.wrRole → writeItem u x a flags w = (x, eRole)) ∧
        (access u x a w.obj r.wrRole true = stOk → w.flags % 2 = 0 →
          (w.ty ≠ r.ty.code → writeItem u x a flags w = (x, eType)) ∧
          (w.ty = r.ty.code → checkType r w.value ≠ stOk → writeItem u x a flags w = (x, eRange)))))

/-- A request without a valid MAC or with a sequence that is not acceptable is discarded (R90, R109, R110): it only counts in SESSION.MAC_FAILS, at either unit and whatever
the request. -/
def Obligations.UnauthenticatedRequestsOnlyCount : Prop :=
  ∀ (s : State) (e : Envelope) (q : Request),
    (OvReady s → s.ov.core.expireSessions.authenticate e q.opcode q.body = none →
      s.request .ovtan e q = { s with ov := { s.ov with core := s.ov.core.expireSessions.bump oSessionMacFails } }) ∧
    (FbReady s → s.fb.core.expireSessions.authenticate e q.opcode q.body = none →
      s.request .fabato e q = { s with fb := (s.fb.onCore (fun _ => s.fb.core.expireSessions.bump oSessionMacFails)).settle s.fb }) ∧
    (∀ items, exec (.dictRead .ovtan e items) s = .next (s.request .ovtan e (.read items)) ∧ exec (.dictRead .fabato e items) s = .next (s.request .fabato e (.read items))) ∧
    (∀ items, exec (.objectWrite .ovtan e items) s = .next (s.request .ovtan e (.write items)) ∧ exec (.objectWrite .fabato e items) s = .next (s.request .fabato e (.write items)))

/-- R110's window: over any run of sequence numbers from a new session, a number is acceptable exactly when it exceeds the highest taken, or lies up to 63 below it and was not
taken; so none is taken twice. -/
def Obligations.NoSequenceIsTakenTwice : Prop :=
  ∀ l : List Nat, (seqRun l).2.2.Nodup ∧
    ∀ n : Nat, (seqAccept (seqRun l).1 (seqRun l).2.1 n).isSome = true ↔ (seqRun l).1 < n ∨ ((seqRun l).1 ≤ n + 63 ∧ n ≠ 0 ∧ n ∉ (seqRun l).2.2)

/-- A write that is repeated gets the kept response and does nothing more (R96). -/
def Obligations.RepeatedRequestsGetTheKeptResponse : Prop :=
  ∀ (s : State) (e : Envelope) (items : List WriteItem) (x : Session × Core) (k : Kept), OvReady s → Plain e (.write items) x.2.path →
    s.ov.core.expireSessions.authenticate e 0x02 (items.flatMap writeItemBytes) = some x →
    x.2.keptFor x.1.actor e.msgId (requestDigest e 0x02 (items.flatMap writeItemBytes)) = some k →
    exec (.objectWrite .ovtan e items) s =
      .next { s with ov := ({ s.ov with core := x.2.respond e 0x02 ⟨k.summary, k.body⟩ true } : Ovtan).placeMessages x.2.sent.length }

/-- Authentication failures lock the role on their own port alone (R120, R121): no other port's or role's count or lock changes, a link session's failure counts towards none,
and the failure that reaches SESSION.LOCKOUT_LIMIT starts a lock of SESSION.LOCKOUT_TIME, doubled with each lock in a row and at most eight times it. -/
def Obligations.FailuresLockTheirOwnPort : Prop :=
  ∀ (c : Core) (p p' : Port) (r r' : Role) (tenant : Nat),
    (p' ≠ p ∨ r' ≠ r → (c.authFail p r tenant false).lockOf p' r' = c.lockOf p' r') ∧
    (c.authFail p r tenant true).lockOf p' r' = c.lockOf p' r' ∧
    ((c.lockOf p r).fails + 1 < (c.bump oSessionAuthFails).num oSessionLockoutLimit →
      (c.authFail p r tenant false).lockOf p r = { c.lockOf p r with port := p, role := r, fails := (c.lockOf p r).fails + 1 }) ∧
    ((c.lockOf p r).fails + 1 ≥ (c.bump oSessionAuthFails).num oSessionLockoutLimit →
      (c.authFail p r tenant false).lockOf p r = { port := p, role := r, fails := 0, k := (c.lockOf p r).k + 1, until? := some (c.up + Nat.min ((c.bump oSessionAuthFails).num oSessionLockoutTime * 2 ^ (c.lockOf p r).k) (8 * (c.bump oSessionAuthFails).num oSessionLockoutTime) * 10 ^ 9) })

/-- A role whose key is unset cannot be opened, and the Custodian's key cannot be unset by a write (R100). -/
def Obligations.UnsetKeysOpenNothing : Prop :=
  ∀ (c : Core) (p : Port) (r : Role) (link : Bool) (tenant : Nat) (h : Handshake) (proof : Bytes),
    (c.openKey link r = zeros 32 → c.helloResult p r link tenant ≠ 0) ∧
    (c.openKey h.link h.role = zeros 32 → c.proofResult h proof ≠ 0) ∧
    c.checkKey (oSessionRoleKey + 4) (zeros 32) = eRange

/-- The store of a unit: values read back, others stay, and its canonical form is kept (R71, R75). -/
def Obligations.StoreReadsBackWhatWasPut : Prop :=
  (∀ (st : Store) (o o' : Nat) (v : Bytes), storeWf st = true →
    storeWf (storeInsert st o v) = true ∧ storeWf (storeErase st o) = true ∧
    storeGet (storeInsert st o v) o' = (if o' = o then some v else storeGet st o') ∧
    storeGet (storeErase st o) o' = (if o' = o then none else storeGet st o')) ∧
  ∀ (c : Core) (o o' : Nat) (v : Bytes), storeWf c.store = true →
    storeWf (c.put o v).store = true ∧ (c.put o v).get o' = if o' = o then v else c.get o'

/-! ### Encodings -/

/-- Records of 32 bytes and extended records of 64 bytes (Tables 1.11, 12.1) say all their fields: what was written reads back. -/
def Obligations.RecordsReadBack : Prop :=
  (∀ r : Record, (recordBytes r).length = 32 ∧ recordOfBytes (recordBytes r) = r) ∧
  (∀ e : ExtRecord, (extBytes e).length = 64 ∧ extOfBytes (extBytes e) = e)

/-- Requests (Tables 2.8, 2.11, R91): what a client encodes as the body of a request, of any opcode and with any items whose fields fit their widths, the unit reads as that request. -/
def Obligations.RequestsReadBack : Prop := ∀ q : Request, q.Fits → parseRequest q.opcode q.body = q

/-! ### Time, angle and arithmetic -/

/-- R132: one cycle of the 1.0 GHz clock, and the time80 form. -/
def Obligations.TimeCountsByRateAndFraction : Prop :=
  (∀ t : TimePart, 0 ≤ (2 ^ 48 : Int) + (t.adj * 2 ^ 32).tdiv 1000000000 →
    (t.tick.ns.toNat : Int) = (t.ns.toNat + (t.frac.toNat + ((2 ^ 48 : Int) + (t.adj * 2 ^ 32).tdiv 1000000000)) / 2 ^ 48) % 2 ^ 64 ∧
    (t.tick.frac.toNat : Int) = (t.frac.toNat + ((2 ^ 48 : Int) + (t.adj * 2 ^ 32).tdiv 1000000000)) % 2 ^ 48 ∧
    t.tick = { t with ns := t.tick.ns, frac := t.tick.frac }) ∧
  ∀ ns : Nat, time80 ns / 2 ^ 32 = ns / 1000000000 ∧ time80 ns % 2 ^ 32 = ns % 1000000000

/-- R160: the angle at a time in Locked or Stalled, held just short of a turn, where the state is Stalled. -/
def Obligations.AngleOfATime : Prop :=
  ∀ (a : AnglePart) (t e : Nat), a.mode = .locked ∨ a.mode = .stalled → a.tm < 2 ^ 64 → t < 2 ^ 64 → e = (t + 2 ^ 64 - a.tm) % 2 ^ 64 →
    angleAt a t = (if e * 2 ^ 32 / (a.lq / 2 ^ 16) > 0xFFFFFFFF then 0xFFFFFFFF else e * 2 ^ 32 / (a.lq / 2 ^ 16)) ∧
    (a.mode = .locked → a.modeAt t = if e * 2 ^ 32 / (a.lq / 2 ^ 16) > 0xFFFFFFFF then .stalled else .locked)

/-- R161: an angle entry's fire time is the first nanosecond at which the angle of R160 reaches the entry's. -/
def Obligations.FireTimeIsTheFirstInstant : Prop :=
  ∀ (a : AnglePart) (x t : Nat), a.mode = .locked ∨ a.mode = .stalled → 0 < a.lq / 2 ^ 16 → x < 2 ^ 32 →
    fireTime a.tm a.lq x = a.tm + (x * (a.lq / 2 ^ 16) + 0xFFFFFFFF) / 2 ^ 32 ∧
    (a.tm ≤ t → t < 2 ^ 64 → (x ≤ angleAt a t ↔ fireTime a.tm a.lq x ≤ t))

/-- R371: the key of a feature, and that it preserves the order of the numbers and the total order of IEEE 754. -/
def Obligations.FeatureKeysKeepTheOrder : Prop :=
  (∀ x : Nat, x < 2 ^ 32 → anvilKey x = if x / 2 ^ 31 = 1 then 2 ^ 32 - 1 - x else x + 2 ^ 31) ∧
  ∀ x y : Nat, x < 2 ^ 32 → y < 2 ^ 32 → f32Val x ≠ .nan → f32Val y ≠ .nan →
    (fle (f32Val y) (f32Val x) = false → anvilKey x < anvilKey y) ∧
    (anvilKey x < anvilKey y ↔ fmtKey 0x0C x < fmtKey 0x0C y)

/-- R343: merging two histograms adds their buckets and their three extra counts. -/
def Obligations.MergedHistogramsAdd : Prop :=
  ∀ (x y : Hist) (i : Nat), (x.add y).inBucket i = x.inBucket i + y.inBucket i ∧
    (x.add y).under = x.under + y.under ∧ (x.add y).above = x.above + y.above ∧ (x.add y).nan = x.nan + y.nan

/-- R46 for a Sum and a Histogram (R336–R339, R342, R343): any arrival order of the same contributions gives the same accumulator, bit for bit. -/
def Obligations.ArrivalOrderDoesNotMatter : Prop :=
  (∀ (k : Nat) (l l' : List Acc), l.Perm l' → l.foldl Acc.add (Acc.zero k) = l'.foldl Acc.add (Acc.zero k)) ∧
  (∀ l l' : List Hist, l.Perm l' → l.foldl Hist.add Hist.zero = l'.foldl Hist.add Hist.zero)

/-- R245: a request starts a pulse of 64 ns on its line, one within a pulse merges into it, and no other line changes. -/
def Obligations.InterruptRequestsMerge : Prop :=
  ∀ (x : MemSide) (line : Nat), line < x.irq.length →
    (∀ t, x.irq.getD line none = some t → x.pulse line = x) ∧
    (x.irq.getD line none = none → (x.pulse line).irq.getD line none = some (x.core.up + 64) ∧ (x.pulse line).core = x.core.send (.pin line true) ∧
      ∀ l, l ≠ line → (x.pulse line).irq.getD l none = x.irq.getD l none)
end

