-- ==== Sys2Proof/Laws/Fields.lean ====
section
/-! SUPPORT. What the shared updates of a unit leave as it was: one lemma for each field and update, so that no proof unfolds a record update. -/
namespace Sys2Proof.Machine

/-! An event raised -/

@[simp] theorem Core.raise_kind (c : Core) (code sub : Nat) (l : List Nat) : (c.raise code sub l).kind = c.kind := rfl
@[simp] theorem Core.raise_path (c : Core) (code sub : Nat) (l : List Nat) : (c.raise code sub l).path = c.path := rfl
@[simp] theorem Core.raise_up (c : Core) (code sub : Nat) (l : List Nat) : (c.raise code sub l).up = c.up := rfl
@[simp] theorem Core.raise_store (c : Core) (code sub : Nat) (l : List Nat) : (c.raise code sub l).store = c.store := rfl
@[simp] theorem Core.raise_waitX (c : Core) (code sub : Nat) (l : List Nat) : (c.raise code sub l).waitX = c.waitX := rfl
@[simp] theorem Core.raise_waitB (c : Core) (code sub : Nat) (l : List Nat) : (c.raise code sub l).waitB = c.waitB := rfl
@[simp] theorem Core.raise_made (c : Core) (code sub : Nat) (l : List Nat) : (c.raise code sub l).made = c.made := rfl
@[simp] theorem Core.raise_keys (c : Core) (code sub : Nat) (l : List Nat) : (c.raise code sub l).keys = c.keys := rfl
@[simp] theorem Core.raise_sessions (c : Core) (code sub : Nat) (l : List Nat) : (c.raise code sub l).sessions = c.sessions := rfl
@[simp] theorem Core.raise_handshakes (c : Core) (code sub : Nat) (l : List Nat) : (c.raise code sub l).handshakes = c.handshakes := rfl
@[simp] theorem Core.raise_locks (c : Core) (code sub : Nat) (l : List Nat) : (c.raise code sub l).locks = c.locks := rfl
@[simp] theorem Core.raise_commits (c : Core) (code sub : Nat) (l : List Nat) : (c.raise code sub l).commits = c.commits := rfl
@[simp] theorem Core.raise_kept (c : Core) (code sub : Nat) (l : List Nat) : (c.raise code sub l).kept = c.kept := rfl
@[simp] theorem Core.raise_pairGood (c : Core) (code sub : Nat) (l : List Nat) : (c.raise code sub l).pairGood = c.pairGood := rfl
@[simp] theorem Core.raise_pairBad (c : Core) (code sub : Nat) (l : List Nat) : (c.raise code sub l).pairBad = c.pairBad := rfl
@[simp] theorem Core.raise_time (c : Core) (code sub : Nat) (l : List Nat) : (c.raise code sub l).time = c.time := rfl
@[simp] theorem Core.raise_angle (c : Core) (code sub : Nat) (l : List Nat) : (c.raise code sub l).angle = c.angle := rfl
@[simp] theorem Core.raise_cuts (c : Core) (code sub : Nat) (l : List Nat) : (c.raise code sub l).cuts = c.cuts := rfl
@[simp] theorem Core.raise_cutLast (c : Core) (code sub : Nat) (l : List Nat) : (c.raise code sub l).cutLast = c.cutLast := rfl
@[simp] theorem Core.raise_events (c : Core) (code sub : Nat) (l : List Nat) : (c.raise code sub l).events = c.events ++ [{ code := code, sub := sub, payload := l }] := rfl
@[simp] theorem Core.raise_sent (c : Core) (code sub : Nat) (l : List Nat) : (c.raise code sub l).sent = c.sent := rfl
@[simp] theorem Core.raise_free (c : Core) (code sub : Nat) (l : List Nat) : (c.raise code sub l).free = c.free := rfl
@[simp] theorem Core.raise_commitLost (c : Core) (code sub : Nat) (l : List Nat) : (c.raise code sub l).commitLost = c.commitLost := rfl

/-! Something sent -/

@[simp] theorem Core.send_kind (c : Core) (x : Sent) : (c.send x).kind = c.kind := rfl
@[simp] theorem Core.send_path (c : Core) (x : Sent) : (c.send x).path = c.path := rfl
@[simp] theorem Core.send_up (c : Core) (x : Sent) : (c.send x).up = c.up := rfl
@[simp] theorem Core.send_store (c : Core) (x : Sent) : (c.send x).store = c.store := rfl
@[simp] theorem Core.send_waitX (c : Core) (x : Sent) : (c.send x).waitX = c.waitX := rfl
@[simp] theorem Core.send_waitB (c : Core) (x : Sent) : (c.send x).waitB = c.waitB := rfl
@[simp] theorem Core.send_made (c : Core) (x : Sent) : (c.send x).made = c.made := rfl
@[simp] theorem Core.send_keys (c : Core) (x : Sent) : (c.send x).keys = c.keys := rfl
@[simp] theorem Core.send_sessions (c : Core) (x : Sent) : (c.send x).sessions = c.sessions := rfl
@[simp] theorem Core.send_handshakes (c : Core) (x : Sent) : (c.send x).handshakes = c.handshakes := rfl
@[simp] theorem Core.send_locks (c : Core) (x : Sent) : (c.send x).locks = c.locks := rfl
@[simp] theorem Core.send_commits (c : Core) (x : Sent) : (c.send x).commits = c.commits := rfl
@[simp] theorem Core.send_kept (c : Core) (x : Sent) : (c.send x).kept = c.kept := rfl
@[simp] theorem Core.send_pairGood (c : Core) (x : Sent) : (c.send x).pairGood = c.pairGood := rfl
@[simp] theorem Core.send_pairBad (c : Core) (x : Sent) : (c.send x).pairBad = c.pairBad := rfl
@[simp] theorem Core.send_time (c : Core) (x : Sent) : (c.send x).time = c.time := rfl
@[simp] theorem Core.send_angle (c : Core) (x : Sent) : (c.send x).angle = c.angle := rfl
@[simp] theorem Core.send_cuts (c : Core) (x : Sent) : (c.send x).cuts = c.cuts := rfl
@[simp] theorem Core.send_cutLast (c : Core) (x : Sent) : (c.send x).cutLast = c.cutLast := rfl
@[simp] theorem Core.send_events (c : Core) (x : Sent) : (c.send x).events = c.events := rfl
@[simp] theorem Core.send_sent (c : Core) (x : Sent) : (c.send x).sent = c.sent ++ [x] := rfl
@[simp] theorem Core.send_free (c : Core) (x : Sent) : (c.send x).free = c.free := rfl
@[simp] theorem Core.send_commitLost (c : Core) (x : Sent) : (c.send x).commitLost = c.commitLost := rfl

/-! A value put -/

@[simp] theorem Core.put_kind (c : Core) (o : Nat) (v : Bytes) : (c.put o v).kind = c.kind := rfl
@[simp] theorem Core.put_path (c : Core) (o : Nat) (v : Bytes) : (c.put o v).path = c.path := rfl
@[simp] theorem Core.put_up (c : Core) (o : Nat) (v : Bytes) : (c.put o v).up = c.up := rfl
@[simp] theorem Core.put_waitX (c : Core) (o : Nat) (v : Bytes) : (c.put o v).waitX = c.waitX := rfl
@[simp] theorem Core.put_waitB (c : Core) (o : Nat) (v : Bytes) : (c.put o v).waitB = c.waitB := rfl
@[simp] theorem Core.put_made (c : Core) (o : Nat) (v : Bytes) : (c.put o v).made = c.made := rfl
@[simp] theorem Core.put_keys (c : Core) (o : Nat) (v : Bytes) : (c.put o v).keys = c.keys := rfl
@[simp] theorem Core.put_sessions (c : Core) (o : Nat) (v : Bytes) : (c.put o v).sessions = c.sessions := rfl
@[simp] theorem Core.put_handshakes (c : Core) (o : Nat) (v : Bytes) : (c.put o v).handshakes = c.handshakes := rfl
@[simp] theorem Core.put_locks (c : Core) (o : Nat) (v : Bytes) : (c.put o v).locks = c.locks := rfl
@[simp] theorem Core.put_commits (c : Core) (o : Nat) (v : Bytes) : (c.put o v).commits = c.commits := rfl
@[simp] theorem Core.put_kept (c : Core) (o : Nat) (v : Bytes) : (c.put o v).kept = c.kept := rfl
@[simp] theorem Core.put_pairGood (c : Core) (o : Nat) (v : Bytes) : (c.put o v).pairGood = c.pairGood := rfl
@[simp] theorem Core.put_pairBad (c : Core) (o : Nat) (v : Bytes) : (c.put o v).pairBad = c.pairBad := rfl
@[simp] theorem Core.put_time (c : Core) (o : Nat) (v : Bytes) : (c.put o v).time = c.time := rfl
@[simp] theorem Core.put_angle (c : Core) (o : Nat) (v : Bytes) : (c.put o v).angle = c.angle := rfl
@[simp] theorem Core.put_cuts (c : Core) (o : Nat) (v : Bytes) : (c.put o v).cuts = c.cuts := rfl
@[simp] theorem Core.put_cutLast (c : Core) (o : Nat) (v : Bytes) : (c.put o v).cutLast = c.cutLast := rfl
@[simp] theorem Core.put_events (c : Core) (o : Nat) (v : Bytes) : (c.put o v).events = c.events := rfl
@[simp] theorem Core.put_sent (c : Core) (o : Nat) (v : Bytes) : (c.put o v).sent = c.sent := rfl
@[simp] theorem Core.put_free (c : Core) (o : Nat) (v : Bytes) : (c.put o v).free = c.free := rfl
@[simp] theorem Core.put_commitLost (c : Core) (o : Nat) (v : Bytes) : (c.put o v).commitLost = c.commitLost := rfl

/-! A counter -/

@[simp] theorem Core.bump_kind (c : Core) (o : Nat) : (c.bump o).kind = c.kind := rfl
@[simp] theorem Core.bump_path (c : Core) (o : Nat) : (c.bump o).path = c.path := rfl
@[simp] theorem Core.bump_up (c : Core) (o : Nat) : (c.bump o).up = c.up := rfl
@[simp] theorem Core.bump_waitX (c : Core) (o : Nat) : (c.bump o).waitX = c.waitX := rfl
@[simp] theorem Core.bump_waitB (c : Core) (o : Nat) : (c.bump o).waitB = c.waitB := rfl
@[simp] theorem Core.bump_made (c : Core) (o : Nat) : (c.bump o).made = c.made := rfl
@[simp] theorem Core.bump_keys (c : Core) (o : Nat) : (c.bump o).keys = c.keys := rfl
@[simp] theorem Core.bump_sessions (c : Core) (o : Nat) : (c.bump o).sessions = c.sessions := rfl
@[simp] theorem Core.bump_handshakes (c : Core) (o : Nat) : (c.bump o).handshakes = c.handshakes := rfl
@[simp] theorem Core.bump_locks (c : Core) (o : Nat) : (c.bump o).locks = c.locks := rfl
@[simp] theorem Core.bump_commits (c : Core) (o : Nat) : (c.bump o).commits = c.commits := rfl
@[simp] theorem Core.bump_kept (c : Core) (o : Nat) : (c.bump o).kept = c.kept := rfl
@[simp] theorem Core.bump_pairGood (c : Core) (o : Nat) : (c.bump o).pairGood = c.pairGood := rfl
@[simp] theorem Core.bump_pairBad (c : Core) (o : Nat) : (c.bump o).pairBad = c.pairBad := rfl
@[simp] theorem Core.bump_time (c : Core) (o : Nat) : (c.bump o).time = c.time := rfl
@[simp] theorem Core.bump_angle (c : Core) (o : Nat) : (c.bump o).angle = c.angle := rfl
@[simp] theorem Core.bump_cuts (c : Core) (o : Nat) : (c.bump o).cuts = c.cuts := rfl
@[simp] theorem Core.bump_cutLast (c : Core) (o : Nat) : (c.bump o).cutLast = c.cutLast := rfl
@[simp] theorem Core.bump_events (c : Core) (o : Nat) : (c.bump o).events = c.events := rfl
@[simp] theorem Core.bump_sent (c : Core) (o : Nat) : (c.bump o).sent = c.sent := rfl
@[simp] theorem Core.bump_free (c : Core) (o : Nat) : (c.bump o).free = c.free := rfl
@[simp] theorem Core.bump_commitLost (c : Core) (o : Nat) : (c.bump o).commitLost = c.commitLost := rfl

/-! The core of an Ovtan -/

@[simp] theorem Ovtan.onCore_core (o : Ovtan) (h : Core → Core) : (o.onCore h).core = h o.core := rfl
@[simp] theorem Ovtan.onCore_buf (o : Ovtan) (h : Core → Core) : (o.onCore h).buf = o.buf := rfl
@[simp] theorem Ovtan.onCore_cap (o : Ovtan) (h : Core → Core) : (o.onCore h).cap = o.cap := rfl
@[simp] theorem Ovtan.onCore_trace (o : Ovtan) (h : Core → Core) : (o.onCore h).trace = o.trace := rfl
@[simp] theorem Ovtan.onCore_dew (o : Ovtan) (h : Core → Core) : (o.onCore h).dew = o.dew := rfl
@[simp] theorem Ovtan.onCore_dma (o : Ovtan) (h : Core → Core) : (o.onCore h).dma = o.dma := rfl
@[simp] theorem Ovtan.onCore_link (o : Ovtan) (h : Core → Core) : (o.onCore h).link = o.link := rfl
@[simp] theorem Ovtan.onCore_bnd (o : Ovtan) (h : Core → Core) : (o.onCore h).bnd = o.bnd := rfl

/-! The core of a group -/

@[simp] theorem Group.onCore_core (g : Group) (h : Core → Core) : (g.onCore h).core = h g.core := rfl
@[simp] theorem Group.onCore_halo (g : Group) (h : Core → Core) : (g.onCore h).halo = g.halo := rfl
@[simp] theorem Group.onCore_win (g : Group) (h : Core → Core) : (g.onCore h).win = g.win := rfl
@[simp] theorem Group.onCore_lanes (g : Group) (h : Core → Core) : (g.onCore h).lanes = g.lanes := rfl
@[simp] theorem Group.onCore_laneMap (g : Group) (h : Core → Core) : (g.onCore h).laneMap = g.laneMap := rfl
@[simp] theorem Group.onCore_sky (g : Group) (h : Core → Core) : (g.onCore h).sky = g.sky := rfl
@[simp] theorem Group.onCore_parent (g : Group) (h : Core → Core) : (g.onCore h).parent = g.parent := rfl
@[simp] theorem Group.onCore_jet (g : Group) (h : Core → Core) : (g.onCore h).jet = g.jet := rfl
@[simp] theorem Group.onCore_cond (g : Group) (h : Core → Core) : (g.onCore h).cond = g.cond := rfl

/-! The group of a Fabato -/

@[simp] theorem Fabato.onG_g (f : Fabato) (h : Group → Group) : (f.onG h).g = h f.g := rfl
@[simp] theorem Fabato.onG_an (f : Fabato) (h : Group → Group) : (f.onG h).an = f.an := rfl
@[simp] theorem Fabato.onG_cel (f : Fabato) (h : Group → Group) : (f.onG h).cel = f.cel := rfl
@[simp] theorem Fabato.onG_fen (f : Fabato) (h : Group → Group) : (f.onG h).fen = f.fen := rfl
@[simp] theorem Fabato.onG_sun (f : Fabato) (h : Group → Group) : (f.onG h).sun = f.sun := rfl
@[simp] theorem Fabato.onG_hor (f : Fabato) (h : Group → Group) : (f.onG h).hor = f.hor := rfl
@[simp] theorem Fabato.onG_cast (f : Fabato) (h : Group → Group) : (f.onG h).cast = f.cast := rfl
@[simp] theorem Fabato.onG_loft (f : Fabato) (h : Group → Group) : (f.onG h).loft = f.loft := rfl
@[simp] theorem Fabato.onG_alm (f : Fabato) (h : Group → Group) : (f.onG h).alm = f.alm := rfl
@[simp] theorem Fabato.onG_fw (f : Fabato) (h : Group → Group) : (f.onG h).fw = f.fw := rfl
@[simp] theorem Fabato.onG_board (f : Fabato) (h : Group → Group) : (f.onG h).board = f.board := rfl
@[simp] theorem Fabato.onG_fwd (f : Fabato) (h : Group → Group) : (f.onG h).fwd = f.fwd := rfl

/-! The core of a Fabato -/

@[simp] theorem Fabato.onCore_g (f : Fabato) (h : Core → Core) : (f.onCore h).g = f.g.onCore h := rfl
@[simp] theorem Fabato.onCore_an (f : Fabato) (h : Core → Core) : (f.onCore h).an = f.an := rfl
@[simp] theorem Fabato.onCore_cel (f : Fabato) (h : Core → Core) : (f.onCore h).cel = f.cel := rfl
@[simp] theorem Fabato.onCore_fen (f : Fabato) (h : Core → Core) : (f.onCore h).fen = f.fen := rfl
@[simp] theorem Fabato.onCore_sun (f : Fabato) (h : Core → Core) : (f.onCore h).sun = f.sun := rfl
@[simp] theorem Fabato.onCore_hor (f : Fabato) (h : Core → Core) : (f.onCore h).hor = f.hor := rfl
@[simp] theorem Fabato.onCore_cast (f : Fabato) (h : Core → Core) : (f.onCore h).cast = f.cast := rfl
@[simp] theorem Fabato.onCore_loft (f : Fabato) (h : Core → Core) : (f.onCore h).loft = f.loft := rfl
@[simp] theorem Fabato.onCore_alm (f : Fabato) (h : Core → Core) : (f.onCore h).alm = f.alm := rfl
@[simp] theorem Fabato.onCore_fw (f : Fabato) (h : Core → Core) : (f.onCore h).fw = f.fw := rfl
@[simp] theorem Fabato.onCore_board (f : Fabato) (h : Core → Core) : (f.onCore h).board = f.board := rfl
@[simp] theorem Fabato.onCore_fwd (f : Fabato) (h : Core → Core) : (f.onCore h).fwd = f.fwd := rfl

/-! An event of a Fabato -/

@[simp] theorem Fabato.raise_g (f : Fabato) (code sub : Nat) (l : List Nat) : (f.raise code sub l).g = f.g.onCore (fun c => c.raise code sub l) := rfl
@[simp] theorem Fabato.raise_an (f : Fabato) (code sub : Nat) (l : List Nat) : (f.raise code sub l).an = f.an := rfl
@[simp] theorem Fabato.raise_cel (f : Fabato) (code sub : Nat) (l : List Nat) : (f.raise code sub l).cel = f.cel := rfl
@[simp] theorem Fabato.raise_fen (f : Fabato) (code sub : Nat) (l : List Nat) : (f.raise code sub l).fen = f.fen := rfl
@[simp] theorem Fabato.raise_sun (f : Fabato) (code sub : Nat) (l : List Nat) : (f.raise code sub l).sun = f.sun := rfl
@[simp] theorem Fabato.raise_hor (f : Fabato) (code sub : Nat) (l : List Nat) : (f.raise code sub l).hor = f.hor := rfl
@[simp] theorem Fabato.raise_cast (f : Fabato) (code sub : Nat) (l : List Nat) : (f.raise code sub l).cast = f.cast := rfl
@[simp] theorem Fabato.raise_loft (f : Fabato) (code sub : Nat) (l : List Nat) : (f.raise code sub l).loft = f.loft := rfl
@[simp] theorem Fabato.raise_alm (f : Fabato) (code sub : Nat) (l : List Nat) : (f.raise code sub l).alm = f.alm := rfl
@[simp] theorem Fabato.raise_fw (f : Fabato) (code sub : Nat) (l : List Nat) : (f.raise code sub l).fw = f.fw := rfl
@[simp] theorem Fabato.raise_board (f : Fabato) (code sub : Nat) (l : List Nat) : (f.raise code sub l).board = f.board := rfl
@[simp] theorem Fabato.raise_fwd (f : Fabato) (code sub : Nat) (l : List Nat) : (f.raise code sub l).fwd = f.fwd := rfl

end Sys2Proof.Machine
end

