-- ==== Sys2Proof/Laws/Write.lean ====
section
/-! SUPPORT. What a granted write does (R66, R68, R69, R92, R96): the request's checks pass, the command object acts, the response is kept and sent. -/
namespace Sys2Proof.Machine
theorem closeSessions_kind (c : Core) (p : Session → Bool) (n : Nat) : (c.closeSessions p n).kind = c.kind := by
  unfold Core.closeSessions
  generalize c.sessions.filter p = l
  suffices h : ∀ (l : List Session) (d : Core), d.kind = c.kind → (l.foldl (fun c s => if s.link || s.isLocal then c else c.raise 0x0304 (if c.kind = 0 then 0x09 else 0x76) [s.id, n]) d).kind = c.kind by
    exact h l _ rfl
  intro l
  induction l with
  | nil => intro d h; exact h
  | cons x l ih =>
    intro d h
    apply ih
    show (if (x.link || x.isLocal) = true then d else d.raise _ _ _).kind = c.kind
    split
    · exact h
    · exact h

theorem expireSessions_kind (c : Core) : c.expireSessions.kind = c.kind := by
  simp [Core.expireSessions, closeSessions_kind]

theorem authenticate_kind {c : Core} {e : Envelope} {n : Nat} {b : Bytes} {x : Session × Core} (h : c.authenticate e n b = some x) : x.2.kind = c.kind := by
  unfold Core.authenticate at h
  split at h
  · cases h
  · split at h
    · cases h
    · split at h
      · cases h
      · cases h; rfl

theorem writeItem_command {σ : Type} {u : UnitOps σ} {x : σ} {a : Actor} {obj flags : Nat} {v : Bytes} (h : Permits u x a .wo obj v) (hf : flagStage flags = false) (ty : Nat)
    (hk : ∀ r, findRow (u.get x).kind obj = some r → ty = r.ty.code) :
    writeItem u x a flags { obj := obj, ty := ty, value := v } = (u.done (u.command x a obj v).1 [obj], (u.command x a obj v).2) := by
  obtain ⟨r, hl, hr, ha, hap, hacc, hty, hkey, hc, hp, hch⟩ := h
  have ht := hk r hr
  simp [writeItem, hl, ha, hacc, ht, hty, hkey, hch, writeChecked, hap, hf, hp, applyValue, hc, hr]

/-- A request that the Ovtan acts on: what the dictionary makes of it, the response kept and sent. -/
theorem ov_act {s : State} {e : Envelope} {q : Request} {o : Ovtan} {a : Actor} (h : OvAccepts s e q o a) :
    s.request .ovtan e q = { s with ov := Ovtan.answered (act ovOps o a e.flags q) e a q } := by
  obtain ⟨hr, hk, ⟨hv, hq, hh, hl, hfan, hst⟩, ⟨x, hx, ho, haa⟩, hkept⟩ := h
  have hadr : ¬ (flagLocal e.flags = false ∧ ¬ e.paths = [o.core.path]) := by
    rintro ⟨h1, h2⟩; cases hl with
    | inl h => simp [h] at h1
    | inr h => exact h2 h
  have hr' : s.ov.bnd.boot = .ready := hr
  unfold State.request State.on State.onOv
  simp only [hr', if_true]
  unfold State.onOvAny Ovtan.request
  simp only [hx]
  subst ho haa
  have hans : Ovtan.answer { s.ov with core := x.2 } x.1.actor e q = actKept ovOps { s.ov with core := x.2 } x.1.actor e q := by
    unfold Ovtan.answer
    simp [hv, hq, hh, hfan]
    intro h1 h2; exact absurd ⟨h1, h2⟩ hadr
  rw [hans]
  unfold actKept
  have : (ovOps.get { s.ov with core := x.2 }).keptFor x.1.actor e.msgId (requestDigest e q.opcode q.body) = none := hkept
  simp only [this]
  rfl

/-- The same at the Fabato, but for writes that a cut's fan-out takes over. -/
theorem fb_act {s : State} {e : Envelope} {q : Request} {f : Fabato} {a : Actor} (h : FbAccepts s e q f a)
    (hn : cutWrite q = false ∨ (act fbOps f a e.flags q).1.fwd.nextFan = f.fwd.nextFan) :
    s.request .fabato e q = { s with fb := (Fabato.answered (act fbOps f a e.flags q) e a q).settle s.fb } := by
  obtain ⟨hr, _, ⟨hv, hq, hh, hl, hfan, hst⟩, ⟨x, hx, hf, haa⟩, hkept⟩ := h
  have hr' : s.fb.board.boot = 3 := hr
  unfold State.request State.on State.onFb
  simp only [hr', if_true]
  unfold State.onFbAny Fabato.request
  simp only [hx]
  rw [← hf, ← haa]
  have hacc : f.accept e a q = f.actSelf e a q := by
    unfold Fabato.accept
    simp only [hv, hq, hh]
    simp only [ne_eq, not_true_eq_false, if_false, Bool.not_true, Bool.false_eq_true]
    unfold Fabato.onward
    rcases hl with h | h
    · simp [h]
    · simp [h, popOwn]
  rw [hacc]
  have hcut : ¬ (cutWrite q = true ∧ (act fbOps f a e.flags q).1.fwd.nextFan ≠ f.fwd.nextFan) := by
    rintro ⟨h1, h2⟩
    rcases hn with h3 | h3
    · rw [h3] at h1; cases h1
    · exact h2 h3
  unfold Fabato.actSelf
  simp only [hkept]
  rw [if_neg (by simp [hfan]), if_neg hcut]
  rfl

/-- What the dictionary makes of a granted write of one command object. -/
theorem act_command {σ : Type} {u : UnitOps σ} {x : σ} {a : Actor} {obj flags ty : Nat} {v : Bytes} (h : Permits u x a .wo obj v) (hf : flagStage flags = false)
    (hk : ∀ r, findRow (u.get x).kind obj = some r → ty = r.ty.code) :
    act u x a flags (.write [{ obj := obj, ty := ty, value := v }]) =
      (u.done (u.command x a obj v).1 [obj], writeResponse obj ty (u.command x a obj v).2) := by
  have hw := writeItem_command h hf ty hk
  simp only [act, List.foldl_cons, List.foldl_nil, hw]
  simp [writeResponse]

theorem ov_write {s : State} {e : Envelope} {obj : Nat} {v : Bytes} {o : Ovtan} {a : Actor} (h : OvGrants s e .wo obj v o a) :
    s.write .ovtan e obj v = { s with ov := Ovtan.wrote (ovOps.done (ovOps.command o a obj v).1 [obj], (ovOps.command o a obj v).2) e a (s.oneWrite .ovtan obj v) obj (s.objTy .ovtan obj) } := by
  obtain ⟨hacc, hp⟩ := h
  have := ov_act hacc
  obtain ⟨hr, hk, ⟨hv, hq, hh, hl, hfan, hst⟩, ⟨x, hx, ho, haa⟩, hkept⟩ := hacc
  have hkind : x.2.kind = s.ov.core.kind := by rw [authenticate_kind hx, expireSessions_kind]
  rw [show s.write .ovtan e obj v = s.request .ovtan e (s.oneWrite .ovtan obj v) from rfl, this]
  unfold State.oneWrite
  rw [act_command hp hst (by
    intro r hr; simp only [State.objTy, tyOf, State.kind]; rw [ho] at hr; simp only [ovOps, ovOps0, hkind] at hr; simp [hr])]
  rfl

theorem fb_write {s : State} {e : Envelope} {obj : Nat} {v : Bytes} {f : Fabato} {a : Actor} (h : FbGrants s e .wo obj v f a)
    (hn : (obj ≠ oCutRequest ∧ obj ≠ oCutCancel) ∨ (fbOps.done (fbOps.command f a obj v).1 [obj]).fwd.nextFan = f.fwd.nextFan) :
    s.write .fabato e obj v =
      { s with fb := (Fabato.wrote (fbOps.done (fbOps.command f a obj v).1 [obj], (fbOps.command f a obj v).2) e a (s.oneWrite .fabato obj v) obj (s.objTy .fabato obj)).settle s.fb } := by
  obtain ⟨hacc, hp⟩ := h
  have h2 := hacc
  obtain ⟨hr, _, ⟨hv, hq, hh, hl, hfan, hst⟩, ⟨x, hx, hf, haa⟩, hkept⟩ := h2
  have hkind : x.2.kind = s.fb.core.kind := by rw [authenticate_kind hx, expireSessions_kind]
  have hc := act_command (ty := s.objTy .fabato obj) hp hst (by
    intro r hr; simp only [State.objTy, tyOf, State.kind]; rw [hf] at hr
    have : (fbOps.get (s.fb.onCore fun _ => x.2)).kind = s.fb.core.kind := hkind
    rw [this] at hr; simp [hr])
  have := fb_act hacc (by
    rcases hn with ⟨h3, h4⟩ | h3
    · exact .inl (by simp [cutWrite, State.oneWrite, h3, h4])
    · right; unfold State.oneWrite; rw [hc]; exact h3)
  rw [show s.write .fabato e obj v = s.request .fabato e (s.oneWrite .fabato obj v) from rfl, this]
  unfold State.oneWrite
  rw [hc]
  rfl

theorem ofLe_leBytes (k n : Nat) : ofLe (leBytes k n) = n % 256 ^ k := by
  induction k generalizing n with
  | zero => simp [leBytes, ofLe, Nat.mod_one]
  | succ k ih =>
    simp only [leBytes, ofLe, ih, BitVec.toNat_ofNat]
    rw [show (2 : Nat) ^ 8 = 256 from rfl, Nat.pow_succ, Nat.mul_comm (256 ^ k) 256, Nat.mod_mul]

theorem objBytes_fabato {s : State} {obj n k : Nat} (h : lenOf 1 obj = k ∧ lenOf 2 obj = k ∧ lenOf 3 obj = k)
    (hk : s.fb.core.kind = 1 ∨ s.fb.core.kind = 2 ∨ s.fb.core.kind = 3) : s.objBytes .fabato obj n = leBytes k n := by
  unfold State.objBytes
  rw [show s.kind .fabato = s.fb.core.kind from rfl]
  rcases hk with e | e | e <;> rw [e] <;> simp [h]

theorem objBytes_ovtan {s : State} {obj n k : Nat} (h : lenOf 0 obj = k) (hk : s.ov.core.kind = 0) : s.objBytes .ovtan obj n = leBytes k n := by
  unfold State.objBytes
  rw [show s.kind .ovtan = s.ov.core.kind from rfl, hk, h]

/-- Values of other areas than a reduction's, a feature context's and the plan's entail nothing once they are in. -/
theorem valuesIn_plain {f : Fabato} {obj : Nat} (h : objArea obj ≠ 0x11 ∧ objArea obj ≠ 0x12 ∧ objArea obj ≠ 0x16) : f.valuesIn [obj] = f := by
  obtain ⟨h1, h2, h3⟩ := h
  have hp : obj ≠ oHorizonPlanHeader := by rintro rfl; exact h3 (by decide)
  have hm : obj / 256 ≠ oHorizonPlanMember / 256 := by
    intro h; apply h3
    unfold objArea
    rw [show (2 : Nat) ^ 24 = 256 * 65536 from rfl, ← Nat.div_div_eq_div_mul, h]; decide
  unfold Fabato.valuesIn
  have a1 : (objArea obj == 0x11) = false := by simpa using h1
  have a2 : (objArea obj == 0x12) = false := by simpa using h2
  simp [a1, a2, hp, hm]

/-- Values of other areas than the counters', the sensors' and the trace's entail nothing once they are in. -/
theorem done_plain {o : Ovtan} {obj : Nat} (h : objArea obj ≠ 0x04 ∧ objArea obj ≠ 0x05 ∧ objArea obj ≠ 0x06) : o.done [obj] = o := by
  obtain ⟨h1, h2, h3⟩ := h
  have a : oCountStdRange ≠ obj := by rintro rfl; exact h1 (by decide)
  have b : oSenseStdRange ≠ obj := by rintro rfl; exact h2 (by decide)
  have c : oTraceEnable ≠ obj := by rintro rfl; exact h3 (by decide)
  have d : oTraceCaptureMode ≠ obj := by rintro rfl; exact h3 (by decide)
  have e : obj / 256 ≠ oTraceFilter / 256 := by
    intro h; apply h3
    unfold objArea
    rw [show (2 : Nat) ^ 24 = 256 * 65536 from rfl, ← Nat.div_div_eq_div_mul, h]; decide
  unfold Ovtan.done
  simp [a, b, c, d, e]

/-! ### Commands that are one-item writes -/

/-- A command that writes one command object of the Fabato has the effect of the object's command. -/
theorem fb_writes {i : Instr} {s : State} {e : Envelope} {obj : Nat} {v : Bytes} {ok : Fabato → Actor → Prop} {h : Fabato → Actor → Fabato × Nat}
    (hx : exec i s = .next (s.write .fabato e obj v)) (hd : ∀ f, fbOps.done f [obj] = f) (hc : obj ≠ oCutRequest ∧ obj ≠ oCutCancel)
    (hh : ∀ f a, FbGrants s e .wo obj v f a → ok f a → fbOps.command f a obj v = h f a) : FbWrites i s e obj v ok h := by
  intro f a hg hok
  rw [hx, fb_write hg (.inl hc)]
  rw [hd, Prod.mk.eta, hh f a hg hok]

/-- A command that writes one command object of the Ovtan has the effect of the object's command. -/
theorem ov_writes {i : Instr} {s : State} {e : Envelope} {obj : Nat} {v : Bytes} {ok : Ovtan → Actor → Prop} {h : Ovtan → Actor → Ovtan × Nat}
    (hx : exec i s = .next (s.write .ovtan e obj v)) (hd : ∀ o, ovOps.done o [obj] = o)
    (hh : ∀ o a, OvGrants s e .wo obj v o a → ok o a → ovOps.command o a obj v = h o a) : OvWrites i s e obj v ok h := by
  intro o a hg hok
  rw [hx, ov_write hg, hd, Prod.mk.eta, hh o a hg hok]

end Sys2Proof.Machine
end

