-- ==== Sys2Proof/Laws/Lists.lean ====
section
/-! SUPPORT. The byte and list helpers of Machine/Bits.lean: lengths, numbers that read back, and a sort that keeps its elements. -/
namespace Sys2Proof.Machine
open Sys2Proof

@[simp] theorem zeros_length (n : Nat) : (zeros n).length = n := List.length_replicate ..

@[simp] theorem leBytes_length (k n : Nat) : (leBytes k n).length = k := by
  induction k generalizing n with
  | zero => rfl
  | succ k ih => simp [leBytes, ih]

@[simp] theorem slice_length (b : Bytes) (i k : Nat) : (slice b i k).length = k := by
  simp only [slice, List.length_append, List.length_take, zeros_length]
  omega

/-- Bytes followed by a little-endian number of `k` bytes: the number reads back. -/
theorem leAt_append {b : Bytes} {i k n : Nat} (hb : b.length = i) (hn : n < 256 ^ k) : leAt (b ++ leBytes k n) i k = n := by
  have hd : (b ++ leBytes k n).drop i = leBytes k n := by rw [← hb]; exact List.drop_left ..
  have ht : (leBytes k n).take k = leBytes k n := List.take_of_length_le (le_of_eq (leBytes_length ..))
  simp only [leAt, slice, hd, ht, leBytes_length, Nat.sub_self, zeros, List.replicate_zero, List.append_nil, ofLe_leBytes, Nat.mod_eq_of_lt hn]

/-- A number of `k` bytes lies below 256 to the `k`. -/
theorem ofLe_lt (l : Bytes) : ofLe l < 256 ^ l.length := by
  induction l with
  | nil => exact Nat.one_pos
  | cons b l ih =>
    have hb : b.toNat < 256 := b.isLt
    simp only [ofLe, List.length_cons, Nat.pow_succ]
    omega

theorem insertBy_perm {α : Type} (le : α → α → Bool) (x : α) (l : List α) : (insertBy le x l).Perm (x :: l) := by
  induction l with
  | nil => exact .refl _
  | cons y l ih =>
    unfold insertBy
    split
    · exact .refl _
    · exact (ih.cons y).trans (.swap x y l)

/-- Sorting keeps every element. -/
theorem sortBy_perm {α : Type} (le : α → α → Bool) (l : List α) : (sortBy l le).Perm l := by
  induction l with
  | nil => exact .refl _
  | cons x l ih => exact (insertBy_perm le x _).trans (ih.cons x)

@[simp] theorem sortBy_length {α : Type} (le : α → α → Bool) (l : List α) : (sortBy l le).length = l.length := (sortBy_perm le l).length_eq

@[simp] theorem mem_sortBy {α : Type} {le : α → α → Bool} {l : List α} {x : α} : x ∈ sortBy l le ↔ x ∈ l := (sortBy_perm le l).mem_iff

@[simp] theorem sortBy_single {α : Type} (le : α → α → Bool) (x : α) : sortBy [x] le = [x] := rfl

end Sys2Proof.Machine
end

