-- ==== Sys2Proof/Laws/State.lean ====
section
/-! SUPPORT. How a command reaches a unit, said once: the field of `State` it changes, the fields it leaves, and what it does outside Ready. -/
namespace Sys2Proof.Machine
variable {s : State}

@[simp] theorem onOvAny_ov (h : Ovtan → Ovtan) : (s.onOvAny h).ov = h s.ov := rfl
@[simp] theorem onOvAny_fb (h : Ovtan → Ovtan) : (s.onOvAny h).fb = s.fb := rfl
@[simp] theorem onOvAny_pending (h : Ovtan → Ovtan) : (s.onOvAny h).pending = s.pending := rfl
@[simp] theorem onFbAny_ov (h : Fabato → Fabato) : (s.onFbAny h).ov = s.ov := rfl
@[simp] theorem onFbAny_fb (h : Fabato → Fabato) : (s.onFbAny h).fb = (h s.fb).settle s.fb := rfl
@[simp] theorem onFbAny_pending (h : Fabato → Fabato) : (s.onFbAny h).pending = s.pending := rfl

theorem onOv_ready (hr : OvReady s) (h : Ovtan → Ovtan) : s.onOv h = { s with ov := h s.ov } := by
  have : s.ov.bnd.boot = .ready := hr
  simp [State.onOv, this, State.onOvAny]

theorem onOv_not (hr : ¬ OvReady s) (h : Ovtan → Ovtan) : s.onOv h = s := by
  have : ¬ s.ov.bnd.boot = .ready := hr
  simp [State.onOv, this]

theorem onFb_ready (hr : FbReady s) (h : Fabato → Fabato) : s.onFb h = { s with fb := (h s.fb).settle s.fb } := by
  have : s.fb.board.boot = 3 := hr
  simp [State.onFb, this, State.onFbAny]

theorem onFb_not (hr : ¬ FbReady s) (h : Fabato → Fabato) : s.onFb h = s := by
  have : ¬ s.fb.board.boot = 3 := hr
  simp [State.onFb, this]

@[simp] theorem onOv_fb (h : Ovtan → Ovtan) : (s.onOv h).fb = s.fb := by unfold State.onOv; split <;> rfl
@[simp] theorem onOv_pending (h : Ovtan → Ovtan) : (s.onOv h).pending = s.pending := by unfold State.onOv; split <;> rfl
@[simp] theorem onFb_ov (h : Fabato → Fabato) : (s.onFb h).ov = s.ov := by unfold State.onFb; split <;> rfl
@[simp] theorem onFb_pending (h : Fabato → Fabato) : (s.onFb h).pending = s.pending := by unfold State.onFb; split <;> rfl
@[simp] theorem on_pending (u : UnitSel) (ho : Ovtan → Ovtan) (hf : Fabato → Fabato) : (s.on u ho hf).pending = s.pending := by
  cases u <;> simp [State.on]
@[simp] theorem on_ovtan_fb (ho : Ovtan → Ovtan) (hf : Fabato → Fabato) : (s.on .ovtan ho hf).fb = s.fb := by simp [State.on]
@[simp] theorem on_fabato_ov (ho : Ovtan → Ovtan) (hf : Fabato → Fabato) : (s.on .fabato ho hf).ov = s.ov := by simp [State.on]

/-- A command of the Ovtan in Ready answers the Ovtan that its meaning makes. -/
theorem ov_answers {i : Instr} {h : Ovtan → Ovtan} {P : Ovtan → Prop} (hx : exec i s = .next (s.onOv h)) (hr : OvReady s) (hp : P (h s.ov)) : OvAnswers i s P :=
  ⟨_, by rw [hx, onOv_ready hr], hp⟩

/-- The same of a command that acts in every state of Table 9.5. -/
theorem ov_answers_any {i : Instr} {h : Ovtan → Ovtan} {P : Ovtan → Prop} (hx : exec i s = .next (s.onOvAny h)) (hp : P (h s.ov)) : OvAnswers i s P :=
  ⟨_, hx, hp⟩

/-- A command of the Fabato in Ready answers the group that its meaning makes, settled. -/
theorem fb_answers {i : Instr} {h : Fabato → Fabato} {P : Fabato → Prop} (hx : exec i s = .next (s.onFb h)) (hr : FbReady s) (hp : P (h s.fb)) : FbAnswers i s P :=
  ⟨_, by rw [hx, onFb_ready hr], hp⟩

/-- The same of a command that acts in every boot state. -/
theorem fb_answers_any {i : Instr} {h : Fabato → Fabato} {P : Fabato → Prop} (hx : exec i s = .next (s.onFbAny h)) (hp : P (h s.fb)) : FbAnswers i s P :=
  ⟨_, hx, hp⟩

end Sys2Proof.Machine
end

