-- ==== Sys2Proof/WellFormed.lean ====
section
/-! DEFINITION. Which commands name things that exist: ports, lanes, taps, domains, channels, slots and contexts within the ranges the manual gives
them. A command that is not well formed names nothing the manual has. -/
namespace Sys2Proof

/-- Whether a command's numbers lie within their ranges. -/
def Instr.wf : Instr → Bool
  | .dictRead _ _ _ => true
  | .objectWrite _ _ _ => true
  | .dictList _ _ area start => decide (area < 256) && decide (start < 65536)
  | .commitDiscard _ _ => true
  | .commitAtStep _ _ _ _ => true
  | .commitAtTime _ _ _ _ => true
  | .commitCancel _ _ _ => true
  | .timeCommitInstant _ => true
  | .forwardResponse _ opcode summary _ => decide (opcode < 256) && decide (summary < 256)
  | .keptResponseExpire _ => true
  | .identRestart _ _ => true
  | .sessionHello _ _ _ => true
  | .sessionProof _ _ _ => true
  | .sessionClose _ _ => true
  | .handshakeExpire _ _ => true
  | .sessionIdleTimeout _ _ => true
  | .sessionLifetimeEnd _ _ => true
  | .closeSessionWrite _ _ _ => true
  | .linkHandshakeReply _ _ opcode _ => decide (opcode < 256)
  | .lockoutEnd _ _ _ => true
  | .traceGrantWrite _ _ _ => true
  | .ptpEventMessage p _ => decide (p < 26)
  | .timeRspItem n _ => decide (n < 136)
  | .timeReqDue n => decide (n < 136)
  | .forceHoldover _ _ => true
  | .forceAcquire _ _ => true
  | .servoItem _ => true
  | .stepItem _ => true
  | .holdoverLimit _ => true
  | .triggerFire k => decide (k < 4)
  | .triggerAngleFire k => decide (k < 4)
  | .triggerPulseEnd k => decide (k < 4)
  | .stepMarker num => decide (num < 4294967296)
  | .softMarker _ _ _ => true
  | .angleStall _ => true
  | .markerOverdue _ => true
  | .markerReportArrival member _ _ => decide (member < 128)
  | .eventInput bus _ _ => decide (bus < 16)
  | .sensorConversion ch _ _ => decide (ch < 128)
  | .fmonWindowEnd m _ _ => decide (m < 8)
  | .programErrorWord _ => true
  | .pendingGapEmit _ => true
  | .tapDescriptor tap _ _ _ => decide (tap < 16)
  | .traceArm _ _ => true
  | .traceForceTrigger _ _ => true
  | .traceStop _ _ => true
  | .tracePeriodicSync tap => decide (tap < 16)
  | .pdReqRise d => decide (d < 32)
  | .flushComplete d => decide (d < 32)
  | .pdReqFall d => decide (d < 32)
  | .domainWakeEdge d => decide (d < 32)
  | .pdReqWithdrawn d => decide (d < 32)
  | .pdEdgeTimeout d => decide (d < 32)
  | .cgNoteChange d _ => decide (d < 32)
  | .traceExportStart _ _ _ => true
  | .traceExportCancel _ _ => true
  | .traceInject _ _ _ _ => true
  | .dewFeedByte _ _ ch value => decide (ch < 8) && decide (value < 256)
  | .dewFeedHalfWord _ _ ch value => decide (ch < 8) && decide (value < 65536)
  | .dewFeedWord _ _ ch value => decide (ch < 8) && decide (value < 4294967296)
  | .dewByteProcess ch => decide (ch < 8)
  | .dewResultRead _ _ ch => decide (ch < 8)
  | .dewReset _ _ ch => decide (ch < 8)
  | .dmaGo _ _ ch => decide (ch < 8)
  | .dmaStop _ _ ch => decide (ch < 8)
  | .memReadResponse id _ _ => decide (id < 16)
  | .memWriteResponse id _ => decide (id < 16)
  | .memTimeout id => decide (id < 16)
  | .dpGo _ _ => true
  | .mailboxFrame tag _ => decide (tag < 256)
  | .fuseImageFrame tag _ => decide (tag < 256)
  | .statusFrame tag len => decide (tag < 256) && decide (len < 65536)
  | .ovtanSelfTestDone _ _ => true
  | .dzTrainingComplete _ n => decide (n < 136)
  | .dzTrainTimeout _ n => decide (n < 136)
  | .blockReceive _ n hdr _ _ _ => decide (n < 136) && decide (hdr < 1099511627776)
  | .dzAlignTimeout _ n => decide (n < 136)
  | .dzFastRetrainComplete _ n => decide (n < 136)
  | .dzRetrainTimeout _ n => decide (n < 136)
  | .dzForceRetrain _ _ n => decide (n < 136)
  | .peerTrainingSeen _ n => decide (n < 136)
  | .dataFlitReceive _ n _ => decide (n < 136)
  | .creditItem _ n _ => decide (n < 136)
  | .timeReqItem _ => true
  | .helloUidItem _ n _ => decide (n < 136)
  | .helloInfoItem _ n _ => decide (n < 136)
  | .resumeItem _ n _ => decide (n < 136)
  | .flitTransmit _ n _ => decide (n < 136)
  | .retryTimeout _ n => decide (n < 136)
  | .skyTrainingComplete p => decide (p < 24)
  | .skyRecordFrame p _ _ => decide (p < 24)
  | .skyMessageFrame p _ _ => decide (p < 24)
  | .skyControlFrame p _ _ _ _ _ => decide (p < 24)
  | .skyCondenserFrame p _ _ => decide (p < 24)
  | .skyHelloFrame p _ => decide (p < 24)
  | .skyRelayFrame p _ _ _ => decide (p < 24)
  | .skyRtoExpire p _ => decide (p < 24)
  | .skyDeadExpire p => decide (p < 24)
  | .skyLinkFault p => decide (p < 24)
  | .skyLaneFaultHold p _ => decide (p < 24)
  | .skyWidthTryExpire p => decide (p < 24)
  | .preemptVerifyDone p _ => decide (p < 24)
  | .failbackDrainDone _ => true
  | .skyIdleControl p => decide (p < 24)
  | .workUnitDispatch cell => decide (cell < 52)
  | .workUnitDone _ _ _ => true
  | .blockIdleTimeout _ element => decide (element < 256)
  | .blockWakeDone _ element => decide (element < 256)
  | .loftSlotLoad _ _ slot _ => decide (slot < 16)
  | .loftInstall _ _ slot => decide (slot < 16)
  | .loftStart _ _ slot => decide (slot < 16)
  | .loftStop _ _ slot => decide (slot < 16)
  | .loftUnload _ _ slot => decide (slot < 16)
  | .ecallDictionary slot _ _ => decide (slot < 16)
  | .ecallSetOutput slot _ _ => decide (slot < 16)
  | .ecallSleep slot _ => decide (slot < 16)
  | .ecallExit slot _ _ => decide (slot < 16)
  | .ecallReadTime slot => decide (slot < 16)
  | .loftSleepWake slot => decide (slot < 16)
  | .loftFault slot _ _ => decide (slot < 16)
  | .ingestTake engine => decide (engine < 8)
  | .portFrameStart port => decide (port < 32)
  | .portAlarmSend port => decide (port < 32)
  | .gclTakeover port => decide (port < 32)
  | .gclEntryExpire port => decide (port < 32)
  | .shaperEligible idx port _ => decide (idx < 2048) && decide (port < 32)
  | .aPolicerRefill idx port => decide (idx < 2048) && decide (port < 32)
  | .subIdleExpire idx port => decide (idx < 2048) && decide (port < 32)
  | .classCQueueDrain idx port => decide (idx < 2048) && decide (port < 32)
  | .creditWithheldStart _ n => decide (n < 136)
  | .reductionContribution n => decide (n < 256)
  | .anvilWalk m => decide (m < 64)
  | .modelLoad _ _ m _ => decide (m < 64)
  | .modelInstall _ _ m => decide (m < 64)
  | .modelDiscardShadow _ _ m => decide (m < 64)
  | .modelUnload _ _ m => decide (m < 64)
  | .modelReloadDone m cell => decide (m < 64) && decide (cell < 52)
  | .driftReset _ _ _ => true
  | .shadowDigestsReady _ _ _ _ _ _ _ => true
  | .ftRun _ _ _ => true
  | .ftTestDone _ => true
  | .ftInject _ _ _ => true
  | .tokenRequest _ _ => true
  | .tokenAnswer _ _ _ => true
  | .verdictExchange _ _ _ => true
  | .suspicionNotice _ _ _ => true
  | .suspicionClear _ _ => true
  | .fenceRelease _ _ _ => true
  | .fenceForce _ _ _ => true
  | .katFail _ _ _ => true
  | .katPass _ _ _ => true
  | .contextReadoutDone cell _ => decide (cell < 52)
  | .cellReadmit _ _ _ => true
  | .readmitTestDone _ => true
  | .laneRestore _ _ _ => true
  | .sundogJournalItem p _ _ => decide (p < 24)
  | .sundogJournalAck p _ _ => decide (p < 24)
  | .sundogRefillChunk p _ _ => decide (p < 24)
  | .sundogRefillDone p _ _ => decide (p < 24)
  | .sundogSnapshotChunk p _ _ => decide (p < 24)
  | .sundogSnapshotDone p _ _ => decide (p < 24)
  | .sundogHello p _ _ => decide (p < 24)
  | .sundogHandBack p _ _ => decide (p < 24)
  | .takeoverRequest _ _ => true
  | .takeoverGrant _ _ => true
  | .sundogTakeoverWrite _ _ _ => true
  | .horizonAdopt _ _ _ => true
  | .endProbation _ _ _ => true
  | .cutRequest _ _ _ => true
  | .cutArm _ _ _ => true
  | .cutCancel _ _ _ => true
  | .wfBuild _ _ _ => true
  | .wfMergeWrite _ _ member _ => decide (member < 16)
  | .cadenceInterrupt _ _ _ => true
  | .cadenceCkptDone _ _ _ => true
  | .cadenceAck _ _ _ => true
  | .condenseGatherExpire idx => decide (idx < 4096)
  | .condenseCtxReset _ _ idx => decide (idx < 4096)
  | .condenseIdleReset idx => decide (idx < 4096)
  | .condenseDecodeIdle idx => decide (idx < 4096)
  | .almanacClear _ _ _ => true
  | .porRelease mode _ _ _ _ _ => decide (mode < 4)
  | .flashImageReadDone _ _ => true
  | .recoveryImageReceived _ _ _ => true
  | .fabatoSelfTestDone _ _ => true
  | .fwLoad _ _ _ => true
  | .fwCheck _ _ => true
  | .fwWriteFlash _ _ => true
  | .fwFetchParent _ _ => true
  | .fwDiscardStaging _ _ => true
  | .fwFetchDone _ _ => true
  | .fwFlashWriteDone _ => true
  | .fwKeyRevoke _ _ => true
  | .dieTempConversion _ _ => true
  | .thermalTripComparator _ _ => true
  | .lpddrTrainRetry _ _ => true
  | .bankLatch b _ _ => decide (b < 16)
  | .ptpSyncDue p => decide (p < 26)
  | .stretchIntervalEnd m _ => decide (m < 8)
  | .modulePresentChange port _ => decide (port < 2)
  | .forwardTimeout => true
  | .linkAuthHoldoffEnd => true
  | .traceGrantExpire => true
  | .phaseSourceLoss => true
  | .rackRefLost => true
  | .rackRefReturn => true
  | .ppsInEdge => true
  | .todSetTimeout => true
  | .fullTimeDue => true
  | .ovtanLaneHoldover => true
  | .ppsOutPulse => true
  | .angleEntryHandoff => true
  | .timeEntryHandoff => true
  | .groupWaitExpire => true
  | .groupEntryFire => true
  | .runStart => true
  | .snap => true
  | .latchWaitEnd => true
  | .read => true
  | .delta => true
  | .cmp => true
  | .br => true
  | .emit => true
  | .halt => true
  | .alarmTokenRefill => true
  | .classCSlotFree => true
  | .funnelTake => true
  | .traceAccountInterval => true
  | .traceExportDone => true
  | .memBurstGrant => true
  | .dpStartEvent => true
  | .digestComplete => true
  | .aonResetRelease => true
  | .aonResetAssert => true
  | .fuseLoadTimeout => true
  | .pllLock => true
  | .refclkLost => true
  | .refclkRestored => true
  | .spillAfterExpire => true
  | .failoverHoldExpire => true
  | .failbackHoldExpire => true
  | .loftCpuSecond => true
  | .satWindowEnd => true
  | .vantageMergeRelease => true
  | .epochTimeout => true
  | .quorumWaitExpire => true
  | .lateWindowEnd => true
  | .featureHoldExpire => true
  | .ftDue => true
  | .ftDeferExpire => true
  | .voteTimeout => true
  | .fenceEvalTick => true
  | .grantTimeout => true
  | .katTimeout => true
  | .lockstepDivergence => true
  | .lockstepRestartDone => true
  | .contextMoveDone => true
  | .replaceWaitExpire => true
  | .warmHoldExpire => true
  | .snapshotPushTimer => true
  | .takeoverHoldExpire => true
  | .discoveryWaitExpire => true
  | .absentAfterExpire => true
  | .probationTimeExpire => true
  | .cutFire => true
  | .cutCloseTimeout => true
  | .wfHoldExpire => true
  | .wfWaitExpire => true
  | .cadenceUpdateTick => true
  | .almanacClearDone => true
  | .hoursTick => true
  | .porAssert => true
  | .recoverySourceTimeout => true
  | .recoveryRoundWait => true
  | .fwActivateLagTimeout => true
  | .brownoutDetect => true
  | .alertRelease => true
  | .groupCutAngleFire => true
  | .shadowSpareTimeout => true
  | .ppsOutWidthEnd => true
  | .irqPulseEnd => true

end Sys2Proof
end

