-- ==== Sys2Proof/Tests/Slice0.lean ====
section
/-! SUPPORT. The model's own tests: words of the manual's worked examples, ill-formed commands, and for each statement states and operands that meet its hypotheses. -/
namespace Sys2Proof.Tests
open Sys2Proof Sys2Proof.Machine

-- The proofs of this file are kernel evaluations; one after the other they need one stack.
set_option Elab.async false

/-! ### States in Ready with one Custodian session on the mailbox -/

/-- A Custodian session on the mailbox, at its first message; its key is no concern of a witness. -/
def sess : Session :=
  { id := 1, role := .custodian, tenant := 0, port := .mailbox, link := false, key := [], high := 0, window := 1, own := 0, openedAt := 0, lastAt := 0,
    idle := 1000000000, life := 1000000000, stage := [] }

/-- The session's actor. -/
def custodian : Actor := { role := .custodian, tenant := 0, port := .mailbox, session := 1 }

/-- The session with its first message taken at powered time `t`. -/
def used (t : Nat) : Session := { sess with high := 1, window := 3, lastAt := t }

/-- Both units in Ready, each with the session, all else as after reset. -/
def ready : State :=
  { State.reset with
    ov := { State.reset.ov with bnd := { State.reset.ov.bnd with boot := .ready }, core := { State.reset.ov.core with sessions := [sess] } }
    fb := { State.reset.fb with board := { State.reset.fb.board with boot := 3 }, g := { State.reset.fb.g with core := { State.reset.fb.g.core with sessions := [sess] } } } }

/-- `ready` with its Ovtan, its Fabato changed. -/
def readyOv (h : Ovtan → Ovtan) : State := { ready with ov := h ready.ov }
def readyFb (h : Fabato → Fabato) : State := { ready with fb := h ready.fb }

/-- The header of the session's first message, with its MAC. -/
def header (opcode : Nat) (body : Bytes) : Envelope :=
  { port := .mailbox, flags := 16, msgId := 1, session := 1, seq := 1, paths := [0xFFFFFFFF], bodyLen := body.length,
    mac := macOf [] { port := .mailbox, flags := 16, msgId := 1, session := 1, seq := 1, paths := [0xFFFFFFFF], bodyLen := body.length } opcode 0 body }

/-- The header that carries a request. -/
def headerOf (q : Request) : Envelope := header q.opcode q.body

/-- A unit's core with the first message taken. -/
def taken (c : Core) : Core := { c with sessions := [used c.up] }

/-- A core that has the session, and time left for it. -/
def HasSession (c : Core) : Prop := c.sessions = [sess] ∧ c.up < 10 ^ 18 ∧ c.kept = []

theorem expire_taken {c : Core} (hs : c.sessions = [sess]) (hu : c.up < 10 ^ 18) : c.expireSessions = c := by
  have e1 : ∀ (d : Core), d = c → ∀ p n, p sess = false → d.closeSessions p n = d := by
    rintro d rfl p n hp
    simp only [Core.closeSessions, hs]
    simp only [List.filter, hp, Bool.not_false, List.foldl]
    rw [← hs]
  unfold Core.expireSessions
  have a : c.closeSessions (fun s => decide (c.up ≥ s.lastAt + s.idle * secNs)) 1 = c := by
    exact e1 _ rfl _ _ (decide_eq_false (by show ¬ c.up ≥ 0 + 1000000000 * 1000000000; omega))
  simp only [a]
  exact e1 _ rfl _ _ (decide_eq_false (by show ¬ c.up ≥ 0 + 1000000000 * 1000000000; omega))

theorem header_mac (opcode : Nat) (body : Bytes) : (header opcode body).mac = macOf [] (header opcode body) opcode 0 body := by
  simp only [header, macOf, messageBytes]

/-- The session's message is accepted. -/
theorem authentic {c : Core} (hs : c.sessions = [sess]) (hu : c.up < 10 ^ 18) (opcode : Nat) (body : Bytes) :
    c.expireSessions.authenticate (header opcode body) opcode body = some (used c.up, taken c) := by
  rw [expire_taken hs hu]
  have hm := header_mac opcode body
  unfold Core.authenticate
  rw [hs]
  have hf : [sess].find? (fun s => s.id == (header opcode body).session && !s.isLocal) = some sess := rfl
  rw [hf]
  have hk : macOf sess.key (header opcode body) opcode 0 body = (header opcode body).mac := hm.symm
  have hw : seqAccept sess.high sess.window (header opcode body).seq = some (1, 3) := by
    show seqAccept 0 1 1 = some (1, 3); decide
  simp only [hk, hw, ne_eq, not_true_eq_false, if_false]
  rfl

theorem local16 : flagLocal 16 = true ∧ flagFanout 16 = false ∧ flagStage 16 = false := by decide

theorem ov_accepts {s : State} {q : Request} (hr : OvReady s) (hk : s.ov.core.kind = 0) (hs : HasSession s.ov.core) (hq : requestOk (headerOf q) q = true) :
    OvAccepts s (headerOf q) q { s.ov with core := taken s.ov.core } custodian :=
  ⟨hr, hk, ⟨rfl, hq, Nat.succ_ne_zero 14, .inl local16.1, local16.2.1, local16.2.2⟩, ⟨_, authentic hs.1 hs.2.1 q.opcode q.body, rfl, rfl⟩, by
    show (s.ov.core.kept.find? _) = none
    rw [hs.2.2]; rfl⟩

theorem fb_accepts {s : State} {q : Request} (hr : FbReady s) (hk : s.fb.core.kind = 1 ∨ s.fb.core.kind = 2 ∨ s.fb.core.kind = 3) (hs : HasSession s.fb.core)
    (hq : requestOk (headerOf q) q = true) : FbAccepts s (headerOf q) q (s.fb.onCore (fun _ => taken s.fb.core)) custodian :=
  ⟨hr, hk, ⟨rfl, hq, Nat.succ_ne_zero 14, .inl local16.1, local16.2.1, local16.2.2⟩, ⟨_, authentic hs.1 hs.2.1 q.opcode q.body, rfl, rfl⟩, by
    show (s.fb.core.kept.find? _) = none
    rw [hs.2.2]; rfl⟩

/-- `Permits` as a check. -/
def permits {σ : Type} (u : UnitOps σ) (x : σ) (acc : Access) (obj : Nat) (v : Bytes) : Bool :=
  match lookupFor u x custodian obj with
  | .value r => findRow (u.get x).kind obj == some r && r.access == acc && r.apply == .immediate && access u x custodian obj r.wrRole true == stOk && checkType r v == stOk &&
      !isKeyObj obj && obj != oSessionCommit && (u.pairs x [obj]).isEmpty && u.check x custodian obj v == stOk
  | _ => false

theorem permits_sound {σ : Type} {u : UnitOps σ} {x : σ} {acc : Access} {obj : Nat} {v : Bytes} (h : permits u x acc obj v = true) : Permits u x custodian acc obj v := by
  unfold permits at h
  split at h
  · rename_i r hr
    simp only [Bool.and_eq_true, beq_iff_eq, bne_iff_ne, Bool.not_eq_true', ne_eq] at h
    obtain ⟨⟨⟨⟨⟨⟨⟨⟨h1, h2⟩, h3⟩, h4⟩, h5⟩, h6⟩, h7⟩, h8⟩, h9⟩ := h
    exact ⟨r, hr, h1, h2, h3, h4, h5, h6, h7, h8, h9⟩
  · cases h

/-- The Ovtan takes a write of `v` to `obj` in state `s`. -/
def takesOv (s : State) (acc : Access) (obj : Nat) (v : Bytes) : Bool :=
  requestOk (headerOf (s.oneWrite .ovtan obj v)) (s.oneWrite .ovtan obj v) && permits ovOps { s.ov with core := taken s.ov.core } acc obj v
def takesFb (s : State) (acc : Access) (obj : Nat) (v : Bytes) : Bool :=
  requestOk (headerOf (s.oneWrite .fabato obj v)) (s.oneWrite .fabato obj v) && permits fbOps (s.fb.onCore (fun _ => taken s.fb.core)) acc obj v

theorem ov_grants {s : State} {acc : Access} {obj : Nat} {v : Bytes} (hr : OvReady s) (hk : s.ov.core.kind = 0) (hs : HasSession s.ov.core) (h : takesOv s acc obj v = true) :
    OvGrants s (headerOf (s.oneWrite .ovtan obj v)) acc obj v { s.ov with core := taken s.ov.core } custodian := by
  simp only [takesOv, Bool.and_eq_true] at h
  exact ⟨ov_accepts hr hk hs h.1, permits_sound h.2⟩

theorem fb_grants {s : State} {acc : Access} {obj : Nat} {v : Bytes} (hr : FbReady s) (hk : s.fb.core.kind = 1 ∨ s.fb.core.kind = 2 ∨ s.fb.core.kind = 3)
    (hs : HasSession s.fb.core) (h : takesFb s acc obj v = true) :
    FbGrants s (headerOf (s.oneWrite .fabato obj v)) acc obj v (s.fb.onCore (fun _ => taken s.fb.core)) custodian := by
  simp only [takesFb, Bool.and_eq_true] at h
  exact ⟨fb_accepts hr hk hs h.1, permits_sound h.2⟩

/-- `Reads` as a check. -/
def reads {σ : Type} (u : UnitOps σ) (x : σ) (obj : Nat) : Bool :=
  match lookupFor u x custodian obj with
  | .value r => findRow (u.get x).kind obj == some r && r.access != .wo && r.access != .rc && access u x custodian obj r.rdRole false == stOk
  | _ => false

theorem reads_sound {σ : Type} {u : UnitOps σ} {x : σ} {obj : Nat} (h : reads u x obj = true) : Reads u x custodian obj := by
  unfold reads at h
  split at h
  · rename_i r hr
    simp only [Bool.and_eq_true, beq_iff_eq, bne_iff_ne, ne_eq] at h
    obtain ⟨⟨⟨h1, h2⟩, h3⟩, h4⟩ := h
    exact ⟨r, hr, h1, h2, h3, h4⟩
  · cases h

/-! ### States that the witnesses start from -/

/-- A change of the core of either unit of `ready`. -/
def ovCore (h : Core → Core) : State := readyOv (fun o => { o with core := h o.core })
def fbCore (h : Core → Core) : State := readyFb (fun f => f.onCore h)
/-- `ready` with powered time `t` at both units. -/
def readyAt (t : Nat) : State := { ready with ov := { ready.ov with core := { ready.ov.core with up := t } }, fb := ready.fb.onCore (fun c => { c with up := t }) }
/-- `ready` with both lane ends at one state and powered time `t`. -/
def atLanes (l : Lane) (t : Nat) : State :=
  { ready with
    ov := { ready.ov with core := { ready.ov.core with up := t }, link := { ready.ov.link with lane := l } }
    fb := ready.fb.onG (fun g => { g with core := { g.core with up := t }, lanes := g.lanes.map (fun k => { k with lane := l }) }) }

/-- Values in the stores of the two units. -/
def ovStore (l : Store) : State := ovCore (fun c => { c with store := l })
def fbStore (l : Store) : State := fbCore (fun c => { c with store := l })
/-- The Ovtan of `ready` in another boot state, at powered time `t`. -/
def ovBoot (b : BootState) (cause : Nat) (t : Nat) : State :=
  readyOv (fun o => { o with bnd := { o.bnd with boot := b, cause := cause, pll := true }, core := { o.core with up := t, store := [(oPowerBistOnRestart, [0])] } })
/-- The Fabato's board of `ready` changed, at powered time `t`. -/
def fbBoard (t : Nat) (h : BoardPart → BoardPart) : State := readyFb (fun f => ({ f with board := h f.board } : Fabato).onCore (fun c => { c with up := t }))
/-- A change of the Fabato of `readyAt t`. -/
def fbAt (t : Nat) (h : Fabato → Fabato) : State := readyFb (fun f => h (f.onCore (fun c => { c with up := t })))
/-- A change of the Ovtan of `readyAt t`. -/
def ovAt (t : Nat) (h : Ovtan → Ovtan) : State := readyOv (fun o => h { o with core := { o.core with up := t } })
def fbCel (h : CellPart → CellPart) : State := readyFb (fun f => { f with cel := h f.cel })
def fbAn (h : AnalyticsPart → AnalyticsPart) : State := readyFb (fun f => { f with an := h f.an })
def fbModel (h : Model → Model) : State := fbAn (fun a => { a with models := [h (Model.fresh 0)] })
def place0 : Place := { handle := hReduce 0, home := 0, cell := some 0, mode := 0, seq := 0, moving := none }
def unit0 : WorkUnit := { handle := hReduce 0, seq := 0, cell := 0, items := [], rerun := false, shadow := none }
def rec0 : Record := { type := 0, flags := 0, cont := false, cls := .s, seq := 0, tns := 0, step := 0, angle := 0, src := 0, payload := 0 }
def ext0 : ExtRecord :=
  { base := rec0, path := 0, roster := 0, quality := 0, old := false, anchored := false, relayed := false, quarantined := false, probation := false,
    lateMerge := false, time := 0, epoch := 0, step := 0 }
/-- A model image of one tree of one leaf (Table 14.4). -/
def image0 : Bytes := zeros 49 ++ [1, 0, 1] ++ leBytes 2 1 ++ leBytes 2 1 ++ leBytes 4 1 ++ leBytes 4 1 ++ zeros 4 ++ leBytes 8 (2 ^ 63)
def epoch0 : REpoch :=
  { key := (0, 0), desc := [], values := [], expected := 1, opened := 0, quorumAt := none, included := 0, lost := 0, leaves := 0, acc := [], inputs := [], bad := 0,
    shape := none, kids := [], step := 0, angle := 0, overflow := false, delayed := false, rewound := false, config := false, closedAt := none, status := 0, corr := 0 }
def red0 (x : REpoch) : RCtx := { idx := 0, opens := [x], closed := [], forgotten := [], rewound := [] }
def ovCap (h : Capture → Capture) : State := readyOv (fun o => { o with cap := h o.cap })
def ovBuf (h : RecBuf → RecBuf) : State := readyOv (fun o => { o with buf := h o.buf })
def latch0 : LatchPart := { fire := 0, lt := 0, armed := 1, latched := 0, frozen := 0, off := 0, uncertainty := 0 }
def firing0 : Firing :=
  { entry := 0, program := 0, tag := 0, lateLimit := 0, optional := false, timeEntry := false, fire := 0, angle := 0, stamp := none, cut := none }
/-- A run at the first of its words. -/
def run0 (words : List U64) : Run :=
  { fir := firing0, start := 0, lt := 0, lateness := 0, words := words, pc := 0, flag := false, count := 0, staging := [], head := true, snapped := true,
    ready := 0, waited := true, alarm := false, trunc := false }
def held0 : Held := { base := rec0, time := 0, ord := 0 }
/-- `ready` with a run at one word. -/
def ovRun (w : U64) : State := ovCap (fun c => { c with run := some (run0 [w]), latch := some latch0 })

def member0 : RosterEntry :=
  { idx := 0, uid := 1, path := 0, changed := 0, left := 0, member := some 0, port := 0, causes := 0, state := 1, counting := true, endNow := false, since := 0, downAt := none }
/-- A fuse image of zeros with its check value. -/
def fuse0 : Bytes := zeros 1020 ++ leBytes 4 (crc32 (zeros 1020))
theorem fuse_good {b : Bytes} (hb : b.length = 1020) : (b ++ leBytes 4 (crc32 b)).length = 1024 ∧ fuseGood (b ++ leBytes 4 (crc32 b)) = true := by
  have hl : (b ++ leBytes 4 (crc32 b)).length = 1024 := by rw [List.length_append, hb, leBytes_length]
  have ht : (b ++ leBytes 4 (crc32 b)).take 1020 = b := by rw [← hb]; exact List.take_left ..
  have hc : leAt (b ++ leBytes 4 (crc32 b)) 1020 4 = crc32 b := leAt_append hb (Nat.mod_lt _ (by decide))
  refine ⟨hl, ?_⟩
  simp only [fuseGood, hl, ht, hc, beq_self_eq_true, Bool.and_self]
theorem fuse0_good : fuse0.length = 1024 ∧ fuseGood fuse0 = true := fuse_good (List.length_replicate ..)
/-- Drizzle lane 0 of the tray in Up, with a planned member behind it. -/
def withMember (f : Fabato) : Fabato :=
  { f.onG (fun g => { g with laneMap := [0], lanes := g.lanes.map (fun k => { k with lane := { k.lane with phy := { k.lane.phy with state := .up } } }) }) with
    hor := { f.hor with roster := [member0] } }
/-- The tray with `image0` staged at model 0 and `d` as its digest. -/
def staged0 (d : Bytes) : State := readyFb (fun f => ({ f with an := { f.an with models := [{ Model.fresh 0 with staging := image0 }] } } : Fabato).onCore (fun c => { c with store := [(oModel 0 2, d)] }))
theorem image0_good : imageFault image0 = 0 := by decide +kernel
def dew0 : DewCh := { reg := 0, addr := 0, seq := 0, queue := [], held := [], fed := 0, feeder := none }
/-- `ready` with its eight Dew channels `d`, and values in its store. -/
def ovDew (d : DewCh) (l : Store) : State := readyOv (fun o => { o with dew := List.replicate 8 d, core := { o.core with store := l }, bnd := { o.bnd with blocks := List.replicate 6 0 } })
def dp0 : DpRun :=
  { seed := 0, a := 0, b := 0, sampled := 0, segs := [], lines := 0, shift := 0, id := 0, replica := 0, start := 0, step := 0, angle := 0, seg := 0, line := 0, todo := [],
    reading := none, overran := false, ch := 0 }
/-- A copy of 64 bytes from 0 to 4,096 (Table 8.6). -/
def copy0 : Bytes := leBytes 32 (4096 * 2 ^ 160 + 64 * 2 ^ 120 + 1)
def dma0 (b : BurstAt) : DmaCh := { DmaCh.idle with run := some { desc := copy0, done := 0, stopping := false, burst := b } }
def ovDma (h : DmaPart → DmaPart) : State := readyOv (fun o => { o with dma := h o.dma })
def mem0 (write : Bool) : MemReq := { id := 7, write := write, addr := 0, len := 32, at_ := 0, dead := false }
def cond0 : CondCtx := { CondCtx.fresh 0 0 with bound := some (1, 1, 0, 0), key := some (0, 0, 0), gather := [ext0] }
def fbCond (t : Nat) : State := fbAt t (fun f => f.onG (fun g => { g with cond := { g.cond with ctxs := [cond0] } }))
/-- Locked at step 1, one million nanoseconds a step. -/
def lockedAt (c : Core) : Core := { c with angle := { c.angle with mode := .locked, lq := 65536000000, step := 1, seen := true } }
/-- A cut of step 100 (Table 18.1). -/
def cut0 (step : Nat) : Bytes := [1] ++ zeros 11 ++ leBytes 4 0xFFFFFFFF ++ zeros 4 ++ leBytes 8 step ++ leBytes 4 7
def gcut0 (step : Nat) (latched : Option Nat) : GCut := { desc := cut0 step, self := true, initiator := false, latched := latched, members := [], channel := [], snaps := [] }
def armed0 : ArmedCut := { id := 7, step := 1, angle := 0, flags := 1, desc := cut0 1, armedAt := 0 }
def fbCast (h : CastPart → CastPart) : State := fbAt (10 ^ 17) (fun f => { (f.onCore (fun c => lockedAt { c with time := { c.time with ns := 1000000000000000000 } })) with cast := h f.cast })
def build0 (merging : Bool) : WfBuild := { graph := 0, t := 0, at_ := 0, merging := merging, edges := [], flags := 0, kids := [] }
def job0 (tenant : Nat) : Job :=
  { idx := 1, tenant := tenant, n := 0, e := 0, t := 0, interval := 0, steps := 0, risk := 0, ckpt := 0, count := 0, armed := false, clamped := false, lastInt := none, lastReq := none }
def test0 (path : Nat) (readmit : Bool) : CellTest := { cell := 0, path := path, readmit := readmit, startAt := 0, saved := [] }
/-- Every Cell of `c` in one role. -/
def allCells (r : CellRole) (c : CellPart) : CellPart := { c with cells := c.cells.map (fun x => { x with role := r, dueSince := some 0 }) }
def fbCelAt (t : Nat) (h : CellPart → CellPart) : State := fbAt t (fun f => { f with cel := h f.cel })
def commit0 : Commit := { id := 1, step := none, time := some 0, values := [], session := 1 }
def client0 (stage : Nat) : LinkClient :=
  { port := .sky 0, role := .observer, tenant := 0, stage := stage, hello := [], transcript := [], session := 5, key := [], seq := 0, openedAt := 0, lastAt := 0, life := 1000, idle := 1000, held := [] }
/-- A read that the tray has forwarded by port 0, and the header of its response. -/
def forward0 : Forwarded := { out := .sky 0, msgId := 3, session := 5, env := header 0x01 [], opcode := 0x01, path := 0, deadline := 0, fanout := none }
def answer0 : Envelope :=
  { port := .sky 0, session := 5, msgId := 3, paths := [0], mac := (hmac [] (messageBytes { port := .sky 0, session := 5, msgId := 3, paths := [0] } 0x81 0 [])).take 16 }
theorem answer0_mac : answer0.mac = (hmac (client0 2).key (messageBytes answer0 0x81 0 [])).take 16 := by simp only [answer0, client0, messageBytes]
def shake0 : Handshake := { id := 9, transcript := [], role := .observer, tenant := 0, link := false, port := .mailbox, expires := 1 }
def laneIn (st : DzState) : Lane := { Lane.fresh 0 with phy := { (Lane.fresh 0).phy with state := st, lock := true } }
def flit0 : Flit := { seq := 0, old := false, payload := zeros 248, ends := [], sends := 0 }
def laneK (l : Lane) : FabLane := { lane := l, out := [], seqC := 0, step := none, stepId := 0, exch := 0, servo := false, waiting := false, reqAt := 0 }
/-- A data flit of zeros with its CRC (R268). -/
def flitBody : Bytes := [0, 0, 0, 0] ++ zeros 248
def goodFlit : Bytes := flitBody ++ leBytes 4 (crc32c flitBody)
theorem flitBody_length : flitBody.length = 252 := by
  have : (zeros 248).length = 248 := List.length_replicate ..
  simp only [flitBody, List.length_append, List.length_cons, List.length_nil, this]
theorem flit_head (t : Bytes) : (flitHead ([0, 0, 0, 0] ++ t)).kind = 0 := by
  have ht : ([0, 0, 0, 0] ++ t).take 4 = [0, 0, 0, 0] := rfl
  simp only [flitHead, leAt, slice, List.drop_zero, ht]
  decide
theorem goodFlit_kind : (flitHead goodFlit).kind = 0 := by
  unfold goodFlit flitBody
  rw [List.append_assoc]
  exact flit_head _
theorem flit_good {b : Bytes} (hb : b.length = 252) : flitGood (b ++ leBytes 4 (crc32c b)) = true := by
  have hl : (b ++ leBytes 4 (crc32c b)).length = 256 := by rw [List.length_append, hb, leBytes_length]
  have ht : (b ++ leBytes 4 (crc32c b)).take 252 = b := by rw [← hb]; exact List.take_left ..
  have hc : leAt (b ++ leBytes 4 (crc32c b)) 252 4 = crc32c b := leAt_append hb (Nat.mod_lt _ (by decide))
  simp only [flitGood, hl, ht, hc, beq_self_eq_true, Bool.and_self]
theorem goodFlit_good : flitGood goodFlit = true := flit_good flitBody_length
/-! Fencing, firmware and Horizon. -/

/-- `ready` with a Fabato of another kind (2 rack, 3 row), its port 0 a member port of 1 lane. -/
def fbKind (k : Nat) (h : Fabato → Fabato) : State := fbAt (10 ^ 17) (fun f => h (f.onCore (fun c => { c with kind := k })))
/-- A port map that gives port 0 the role P0: no root. -/
def child : Store := [(oLinkSkyPortMap + 1, [0, 1, 0, 0, 0, 0, 0, 0])]
def fbFen (h : FencePart → FencePart) : State := fbAt (10 ^ 17) (fun f => { f with fen := h f.fen })
def tokens (n : Nat) (p : FencePart) : FencePart := { p with bucket := { tokens := n, t := 0, runs := [] } }
/-- A fence exchange of one payload and its second record, with the MAC of `c`. -/
def exch1 (payload : Nat) : Record := { rec0 with payload := BitVec.ofNat 128 payload }
def exch2 (c : Core) (payload : Nat) : Record := { rec0 with payload := BitVec.ofNat 128 (c.fenceMac (exch1 payload) 0) }
theorem exch_mac (c : Core) (payload : Nat) : c.fenceMac (exch1 payload) 0 = (exch2 c payload).payload.toNat := by
  have h : c.fenceMac (exch1 payload) 0 < 2 ^ 128 :=
    Nat.lt_of_lt_of_le (ofLe_lt _) (Nat.pow_le_pow_right (n := 256) (by decide) (List.length_take_le 16 _))
  exact (Nat.mod_eq_of_lt h).symm
def req0 : TokenReq := { num := 1, path := 0, member := 0, kinds := 1, minority := false, at_ := 0 }
def kat0 : Kat := { num := 4294967295, path := 4294967295, step := 0, digest := 0, at_ := 0, result := none, timedOut := false }
def vote0 : VoteKey := { id := 0, step := 0, at_ := 0, angle := 0, time := 0, entries := [] }
/-- A firmware image of one byte (Table 20.10), its signature all zeros. -/
def fwImage : Bytes := imageMagic ++ [1, 0] ++ zeros 52 ++ leBytes 4 1 ++ zeros 48 ++ sha384 [0] ++ zeros 97
theorem fwImage_length : fwImage.length = 257 := by decide +kernel
/-- The image passes where the signature of R500 does (`Config.imageVerifies` answers that for no one: log entry). -/
def Verifies : Prop := Config.imageVerifies 0 (sha384 (slice fwImage 0 160)) 0 0 = true
theorem fwImage_good (hv : Verifies) : flashFault 0 false false fwImage = 0 := by
  have h1 : (imageHead fwImage).magic = imageMagic ∧ (imageHead fwImage).version = 1 ∧ (imageHead fwImage).reserved = false ∧ (imageHead fwImage).key = 0 ∧
      (imageHead fwImage).length = 1 ∧ (imageHead fwImage).svn = 0 ∧ (imageHead fwImage).r = 0 ∧ (imageHead fwImage).s = 0 := by decide +kernel
  have h2 : sha384 (imageBody fwImage) = (imageHead fwImage).digest := by decide +kernel
  obtain ⟨a, b, c, d, e, f, g, h⟩ := h1
  unfold Verifies at hv
  unfold flashFault
  simp [a, b, c, d, e, f, g, h, hv, h2]
def fbFw (boot : Nat) (h : FwPart → FwPart) : State := fbAt (10 ^ 17) (fun f => { f with board := { f.board with boot := boot }, fw := h f.fw })
def fbHor (l : List RosterEntry) : State := fbAt (10 ^ 17) (fun f => { f with hor := { f.hor with roster := l } })
/-! Jetstream, Skybridge and Loft. -/

/-- A change of the group of a Fabato at a late time. -/
def fbGroup (h : Group → Group) : State := fbAt (10 ^ 17) (fun f => (f.onCore (fun c => { c with time := { c.time with ns := 1000000000000000000 } })).onG h)
def fbJet (h : JetPart → JetPart) : State := fbGroup (fun g => { g with jet := h g.jet })
def queue0 : JQueue :=
  { items := [], deficit := 0, fresh := true, gap := none, episode := false, tokens := 0, tokensAt := 0, eligibleAt := some 0, coarse := false }
def sub0 : JSub :=
  { idx := 1, path := 0, port := 0, quantum := 0, profiles := [0, 0, 0], deficit := 0, fresh := true, queues := [queue0, queue0, queue0], order := [], tokens := 0, tokensAt := 0,
    gap := none, episode := false, idleSince := 0 }
def gcl0 (list : Bytes) : Gcl := { list := list, base := 0, entry := 0, start := 0 }
def jport0 : JPort := { subs := [], oper := gcl0 (1 :: zeros 31), pending := some (gcl0 []), alarms := [(0, .record ext0)] }
def fbPorts : State := fbJet (fun j => { j with ports := List.replicate 26 jport0 })
def frame0 : SkyFrame := { seq := 0, kind := 1, count := 0, bytes := [], slots := 0 }
/-- Sky ports 0 and 1 in states of choice, and their entries of the port map: first lane, lanes, role. -/
def fbSky (m0 m1 : Bytes) (h0 h1 : SkyPort → SkyPort) : State :=
  fbGroup (fun g => { g with core := { g.core with store := [(oLinkSkyPortMap + 1, m0 ++ zeros 5), (oLinkSkyPortMap + 2, m1 ++ zeros 5)] },
                             sky := h0 (SkyPort.fresh 0) :: h1 (SkyPort.fresh 0) :: g.sky.drop 2 })
/-- Port 0 alone. -/
def fbPort (role : Nat) (h : SkyPort → SkyPort) : State := fbSky (0 :: 4 :: leBytes 1 role) [0, 0, 0] h id
def up0 (x : SkyPort) : SkyPort := { x with state := .up, lanes := 4, upAt := some 0 }
def head0 : SkyHead := { acks := [0, 0, 0, 0], seq := 0, nak := 0, cls := .s }
/-- A raw condensed frame of one record (Table 13.12). -/
def condFrame : Bytes := leBytes 8 3 ++ [0, 1] ++ zeros 6 ++ leBytes 4 (crc32c (extBytes ext0)) ++ zeros 4 ++ extBytes ext0
def elf0 : Bytes := [0x7F, 0x45, 0x4C, 0x46, 2, 1, 1] ++ zeros 9 ++ [2, 0, 243, 0, 1, 0, 0, 0] ++ zeros 28 ++ [64, 0] ++ zeros 10
def fbLoft (l : Store) (h : LoftSlot → LoftSlot) : State := readyFb (fun f => { f.onCore (fun c => { c with store := l }) with loft := List.replicate 16 (h LoftSlot.fresh) })
def running (x : LoftSlot) : LoftSlot := { x with state := 3, core := some 6, paused := false, sleep := none }
/-- A message of one path and no body (Table 2.8). -/
def message0 : Bytes := zeros 22 ++ [1] ++ zeros 9 ++ zeros 16
/-- P1 in Up, every class draining from it. -/
def drained : State := { fbPort 1 up0 with fb := (fbPort 1 up0).fb.onG (fun g => { g with parent := { g.parent with drain := List.replicate 4 true } }) }
/-! Sundog, time, steps and trace. -/

def keyed (c : Core) : Core := { c with keys := { c.keys with tree := List.replicate 32 1 } }
/-- Port 0 in Up in a role, the tree key set, Sundog changed. -/
def fbSun (m0 m1 : Bytes) (h : SundogPart → SundogPart) : State :=
  { fbSky m0 m1 up0 up0 with fb := { (fbSky m0 m1 up0 up0).fb.onCore keyed with sun := h (fbSky m0 m1 up0 up0).fb.sun } }
def role (r : Nat) : Bytes := [0, 1] ++ leBytes 1 r
/-- A transfer to port 0 of `s` of ciphertext `c`, with its tag under the key of its owner (R428). -/
def sealed (s : State) (kind owner off seq : Nat) (c : Bytes) : Transfer :=
  { seq := seq, off := off, owner := owner, gen := 0, count := 0, body := c,
    tag := gcmTag (aesSchedule (s.fb.core.mirrorKey owner 0 0)) (transferNonce 0 0) (transferHead kind c.length 0 0 owner off seq) c }
/-- The group once it has taken the transfer's frame, the Fabato once it has opened it, and the plaintext. -/
def framed (s : State) (c : Bytes) : Fabato := { s.fb with g := (s.fb.g.skyHead 0 head0 true).1.skyTaken 0 head0.cls.code ((c.length + 48 + 63) / 64) }
def opened (s : State) (c : Bytes) : Fabato := { framed s c with sun := { (framed s c).sun with noKey := false } }
def plain (s : State) (owner : Nat) (c : Bytes) : Bytes := gcmStream (aesSchedule (s.fb.core.mirrorKey owner 0 0)) (transferNonce 0 0) c
theorem skyHead_core (g : Group) (p : Nat) (h : SkyHead) (b : Bool) : (g.skyHead p h b).1.core = g.core := by
  unfold Group.skyHead
  split <;> rfl
theorem opens {s : State} (kind owner off seq : Nat) (c : Bytes) (hu : (s.fb.g.skyHead 0 head0 true).2 = true) (hk : s.fb.core.keys.tree ≠ zeros 32)
    (he : ((framed s c).g.port 0).peerEpoch.getD 0 = 0) :
    s.fb.sunOpen 0 head0 kind (sealed s kind owner off seq c) = (opened s c, some (plain s owner c)) := by
  have hc : (framed s c).core = s.fb.core := skyHead_core ..
  unfold Fabato.sunOpen
  show (if _ then _ else if (framed s c).core.keys.tree = zeros 32 then _ else
    match gcmOpen ((framed s c).core.mirrorKey owner (((framed s c).g.port 0).peerEpoch.getD 0) 0) (transferNonce 0 0) (transferHead kind c.length 0 0 owner off seq) c
      (sealed s kind owner off seq c).tag with
    | some b => _
    | none => _) = _
  rw [hc, he, if_neg hk, hu]
  have hg : gcmOpen (s.fb.core.mirrorKey owner 0 0) (transferNonce 0 0) (transferHead kind c.length 0 0 owner off seq) c (sealed s kind owner off seq c).tag =
      some (plain s owner c) := if_pos rfl
  rw [hg]
  rfl
/-- The time part, the Halo part and the store of a Fabato. -/
def fbTime (l : Store) (k : TimePart → TimePart) (h : HaloPart → HaloPart) : State :=
  fbGroup (fun g => { g with core := { g.core with store := l, time := k g.core.time }, halo := h g.halo })
def ptp0 (p : Nat) : PtpPort := { PtpPort.fresh p with sync := some (1, 5), req := some (1, 5), resp := some (7, 9) }
def trigger0 : Trigger := { level := false, pulseEnd := some 0, fired := 0, next := 0, done := false }
/-- An Ovtan whose lane is in Up, its time part changed. -/
def ovTime (k : TimePart → TimePart) : State :=
  ovAt (10 ^ 17) (fun o => { o with core := { o.core with time := k o.core.time }, link := { o.link with lane := { laneIn .up with phy := { (laneIn .up).phy with downAt := some 0 } } } })
/-- Lane `n` ready for an exchange, its member's t1 at 0. -/
def exchanging (waiting : Bool) : State :=
  fbAt (10 ^ 17) (fun f => f.onG (fun g => { g with lanes := List.replicate 136 { laneK (laneIn .up) with waiting := waiting }, halo := { g.halo with members := g.halo.members.map (fun m => { m with t1 := some 0 }) } }))
def ovAngle (h : AnglePart → AnglePart) : State :=
  ovCore (fun c => { c with angle := h c.angle, time := { c.time with ns := 1000000000000000000 } })
def two : State :=
  fbAt 0 (fun f => { f.onCore (fun c => { c with store := [(oAngleGroupRef, leBytes 16 3)] }) with hor := { f.hor with roster := [member0, { member0 with idx := 1, member := some 1 }] } })
def ovTrace (l : Store) (h : TracePart → TracePart) : State :=
  ovAt (10 ^ 17) (fun o => { o with core := { o.core with store := l }, trace := h o.trace })
def flush0 : Flush := { domain := 31, since := 0, refused := 0, withdrawn := false }
def gate0 : Gate := { domain := 31, gate := 0, waking := true, prior := false }
def tapped : TapEntry := { tap := 0, desc := 0, time := 0, step := 0, angle := 0, index := 0, trig := false, stretch := false }
def export0 : Export := { desc := 1 :: zeros 31, dest := 1, todo := [] }
/-- `ready` acquiring, its rack reference `r` at the time part and the PLL already reported in state `pll`. -/
def acquiring (r : Bool) (pll : Nat) : State :=
  readyFb (fun f => { f.onCore (fun c => { c with time := { c.time with mode := .acquiring, refPresent := r } }) with board := { f.board with refPll := pll } })
def withRef (s : State) (r : Bool) : Fabato := { s.fb with board := { s.fb.board with reference := r } }
/-- Port 0 to the partner in Up, alone, and a plan of no partner that may be fed from one feed. -/
def partner : State :=
  { fbSun (role 3) [0, 0, 0] (fun x => { x with empty := false, state := .alone }) with fb := (fbSun (role 3) [0, 0, 0] (fun x => { x with empty := false, state := .alone })).fb.onCore (fun c => { c with store := c.store ++ [(oHorizonPlanHeader, 3 :: zeros 63)] }) }

/-! ### Witnesses of the statements about the families of commands -/

/-- Both units of `ready` are in Ready. -/
theorem ready_is_ready : OvReady ready ∧ FbReady ready := ⟨rfl, rfl⟩

/-- Each clause of `Obligations.AlmanacCommandsComplete` has a state and operands that meet its hypotheses; a clause whose only hypothesis is Ready is met by `ready`. -/
theorem witness_almanacCommandsComplete :
    (∃ (s : State) (e : Envelope) (n : Nat) (f : Fabato) (a : Actor), n < 2 ^ 32 ∧ FbGrants s e .wo oAlmanacClear (s.objBytes .fabato oAlmanacClear n) f a ∧ (n = f.alm.log.length ∧ f.alm.clearing = none)) ∧
    (∃ (s : State) (p : _), FbReady s ∧ s.fb.alm.clearing = some p ∧ s.fb.board.mramHeld = none ∧ s.fb.alm.stopped = false) ∧
    (∃ (s : State), s.fb.up ≥ s.fb.alm.hoursAt + 360 * 10 ^ 9) :=
  ⟨⟨ready, headerOf (State.oneWrite (ready) .fabato (oAlmanacClear) (((ready).objBytes .fabato oAlmanacClear (0)))), 0, _, _, by decide +kernel, fb_grants rfl (.inl rfl) ⟨rfl, by decide, rfl⟩ (by decide +kernel), by decide +kernel⟩,
   ⟨readyFb (fun f => { f with alm := { f.alm with clearing := some [] } }), _, rfl, rfl, by decide +kernel, by decide +kernel⟩,
   ⟨readyAt 360000000000, by decide +kernel⟩⟩

/-- Each clause of `Obligations.BoardCommandsComplete` has a state and operands that meet its hypotheses; a clause whose only hypothesis is Ready is met by `ready`. -/
theorem witness_boardCommandsComplete :
    (∃ (s : State) (mode : Nat) (failing : List Nat), s.fb.board.por = false ∧ s.fb.board.trip = false ∧ s.fb.board.clean = true ∧ s.fb.cel.lpddr.1 = 0xFF ∧ mode < 3 ∧ failing.filter (fun d => decide (d < 24)) = []) ∧
    (∃ (s : State) (mode : Nat), s.fb.board.por = false ∧ s.fb.board.clean = true ∧ mode < 3) ∧
    (∃ (s : State), s.fb.board.por = true) ∧
    (∃ (s : State) (failing : List Nat), s.fb.board.hold = 3 ∧ s.fb.up ≥ s.fb.board.trainAt + 60 * 10 ^ 9 ∧ s.fb.cel.lpddr.1 = 0xFF ∧ failing.filter (fun d => decide (d < 24)) = []) ∧
    (∃ (s : State), s.fb.board.mramHeld = none) ∧
    (∃ (s : State) (t : _), s.fb.board.belowAt = some t ∧ s.fb.board.alert = true ∧ s.fb.board.hold = 0 ∧ s.fb.up ≥ t + 10 ^ 9) ∧
    (∃ (s : State) (temp : Nat), s.fb.board.trip = false ∧ s.fb.board.por = true ∧ fle (fofInt 115) (f32Val temp) = true) :=
  ⟨⟨State.reset, 2, [], by decide +kernel, by decide +kernel, by decide +kernel, by decide +kernel, by decide +kernel, by decide +kernel⟩,
   ⟨State.reset, 2, by decide +kernel, by decide +kernel, by decide +kernel⟩,
   ⟨fbBoard 0 (fun b => { b with por := true }), by decide +kernel⟩,
   ⟨fbBoard 60000000000 (fun b => { b with hold := 3, trainAt := 0 }), [], by decide +kernel, by decide +kernel, by decide +kernel, by decide +kernel⟩,
   ⟨ready, by decide +kernel⟩,
   ⟨fbBoard 1000000000 (fun b => { b with belowAt := some 0, alert := true, hold := 0 }), _, rfl, by decide +kernel, by decide +kernel, by decide +kernel⟩,
   ⟨fbBoard 0 (fun b => { b with por := true }), 0x42E60000, by decide +kernel, by decide +kernel, by decide +kernel⟩⟩

/-- Each clause of `Obligations.BoundaryCommandsComplete` has a state and operands that meet its hypotheses; a clause whose only hypothesis is Ready is met by `ready`. -/
theorem witness_boundaryCommandsComplete :
    (∃ (s : State), s.ov.bnd.boot = .reset) ∧
    (∃ (s : State) (image : Bytes), s.ov.bnd.boot = .fuseLoad ∧ image.length = 1024 ∧ fuseGood image = true) ∧
    (∃ (s : State), s.ov.bnd.boot = .fuseLoad ∧ s.ov.core.up ≥ s.ov.bnd.risenAt + 10000000) ∧
    (∃ (s : State), s.ov.bnd.boot ≠ .reset ∧ (¬(s.ov.bnd.boot = .selfTest ∧ s.ov.bnd.cause = 1 ∧ s.ov.core.flag oPowerBistOnRestart = false))) ∧
    (∃ (s : State), s.ov.bnd.boot = .selfTest ∧ s.ov.bnd.cause = 1 ∧ s.ov.core.flag oPowerBistOnRestart = false) ∧
    (∃ (s : State), s.ov.bnd.boot = .selfTest ∧ s.ov.bnd.pll = true) ∧
    (∃ (s : State) (msg : Bytes), OvReady s ∧ msg.length ≤ 4156) ∧
    (∃ (s : State), s.ov.bnd.boot ≠ .reset) ∧
    (∃ (s : State), s.ov.bnd.boot ≠ .reset ∧ s.ov.core.time.refPresent = true) ∧
    (∃ (s : State) (t : _), s.ov.bnd.refLost = some t ∧ s.ov.bnd.boot = .ready) :=
  ⟨⟨State.reset, by decide +kernel⟩,
   ⟨ovBoot .fuseLoad 0 0, fuse0, by decide +kernel, fuse0_good.1, fuse0_good.2⟩,
   ⟨ovBoot .fuseLoad 0 10000000, by decide +kernel, by decide +kernel⟩,
   ⟨ready, by decide +kernel, by decide +kernel⟩,
   ⟨ovBoot .selfTest 1 0, by decide +kernel, by decide +kernel, by decide +kernel⟩,
   ⟨ovBoot .selfTest 0 0, by decide +kernel, by decide +kernel⟩,
   ⟨ready, [], rfl, by decide +kernel⟩,
   ⟨ready, by decide +kernel⟩,
   ⟨ready, by decide +kernel, by decide +kernel⟩,
   ⟨readyOv (fun o => { o with bnd := { o.bnd with refLost := some 0 } }), _, rfl, by decide +kernel⟩⟩

/-- Each clause of `Obligations.AnalyticsCommandsComplete` has a state and operands that meet its hypotheses; a clause whose only hypothesis is Ready is met by `ready`. -/
theorem witness_analyticsCommandsComplete :
    (∃ (s : State) (n : Nat) (i : _) (recs : _) (rest : _), FbReady s ∧ n < 4096 ∧ (s.fb.served (hReduce n)).isSome = true ∧ s.fb.cel.units.any (fun u => u.handle == hReduce n) = false ∧ s.fb.waitingInputs (hReduce n) = .chain i recs :: rest) ∧
    (∃ (s : State) (m : Nat), FbReady s ∧ (s.fb.model m).active.isSome = true ∧ (∀ k < 8, (s.fb.cel.place (hGang m k)).isSome = true → (s.fb.served (hGang m k)).isSome = true)) ∧
    (∃ (s : State) (e : Envelope) (m : Nat) (chunk : Bytes) (f : Fabato) (a : Actor), m < 64 ∧ FbGrants s e .wo (oModel m 1) chunk f a ∧ ((f.model m).switch = none ∧ 4 ≤ chunk.length ∧ leAt chunk 0 4 + (chunk.length - 4) ≤ 2163272)) ∧
    (∃ (s : State) (e : Envelope) (m : Nat) (l : _) (f : Fabato) (a : Actor), m < 64 ∧ FbGrants s e .wo (oModel m 3) (s.objBytes .fabato (oModel m 3) 1) f a ∧ (sha256 (f.model m).staging = f.core.get (oModel m 2) ∧ imageFault (f.model m).staging = 0 ∧ f.reserveCells m (splitTrees (f.model m).staging (modelHdr (f.model m).staging)) = some l)) ∧
    (∃ (s : State) (e : Envelope) (m : Nat) (f : Fabato) (a : Actor), m < 64 ∧ FbGrants s e .wo (oModel m 3) (s.objBytes .fabato (oModel m 3) 2) f a ∧ (f.model m).switch = none) ∧
    (∃ (s : State) (e : Envelope) (m : Nat) (f : Fabato) (a : Actor), m < 64 ∧ FbGrants s e .wo (oModel m 3) (s.objBytes .fabato (oModel m 3) 3) f a ∧ (f.model m).switch = none) ∧
    (∃ (s : State) (m : Nat) (cell : Nat) (b : _) (t : _) (v : _), FbReady s ∧ (s.fb.model m).switch = some (b, t, v, [cell]) ∧ (s.fb.model m).queue = []) ∧
    (∃ (s : State) (e : Envelope) (member : Nat) (f : Fabato) (a : Actor), member < 128 ∧ FbGrants s e .wo oDriftReset (s.objBytes .fabato oDriftReset member) f a) ∧
    (∃ (s : State) (c : _) (x : _), FbReady s ∧ s.fb.an.reds = [c] ∧ c.opens = [x] ∧ x.quorumAt = none ∧ s.fb.ns ≥ x.opened + 1000 * (redDesc x.desc).timeout ∧ x.expected &&& s.fb.upMembers &&& (2 ^ 128 - 1 - (x.included ||| x.lost)) ≠ 0) ∧
    (∃ (s : State) (c : _) (x : _) (q : _), FbReady s ∧ s.fb.an.reds = [c] ∧ c.opens = [x] ∧ x.quorumAt = some q ∧ s.fb.ns ≥ q + 1000 * (redDesc x.desc).wait) ∧
    (∃ (s : State) (c : _), FbReady s ∧ s.fb.an.feats = [c]) :=
  ⟨⟨fbCel (fun c => { c with places := [place0], inputs := [(hReduce 0, .chain 0 [])] }), 0, _, _, _, rfl, by decide +kernel, by decide +kernel, by decide +kernel, rfl⟩,
   ⟨fbModel (fun m => { m with active := some image0 }), 0, rfl, by decide +kernel, by decide +kernel⟩,
   ⟨ready, headerOf (State.oneWrite (ready) .fabato ((oModel (63) 1)) ((leBytes 4 0))), 63, leBytes 4 0, _, _, by decide +kernel, fb_grants rfl (.inl rfl) ⟨rfl, by decide, rfl⟩ (by decide +kernel), by decide +kernel⟩,
   ⟨staged0 (sha256 image0), headerOf (State.oneWrite (staged0 (sha256 image0)) .fabato ((oModel (0) 3)) (((staged0 (sha256 image0)).objBytes .fabato (oModel (0) 3) 1))), 0, [0], _, _, by decide +kernel, fb_grants rfl (.inl rfl) ⟨rfl, by decide, rfl⟩ (by decide +kernel), ⟨by decide +kernel, image0_good, by decide +kernel⟩⟩,
   ⟨ready, headerOf (State.oneWrite (ready) .fabato ((oModel (63) 3)) (((ready).objBytes .fabato (oModel (63) 3) 2))), 63, _, _, by decide +kernel, fb_grants rfl (.inl rfl) ⟨rfl, by decide, rfl⟩ (by decide +kernel), by decide +kernel⟩,
   ⟨ready, headerOf (State.oneWrite (ready) .fabato ((oModel (63) 3)) (((ready).objBytes .fabato (oModel (63) 3) 3))), 63, _, _, by decide +kernel, fb_grants rfl (.inl rfl) ⟨rfl, by decide, rfl⟩ (by decide +kernel), by decide +kernel⟩,
   ⟨fbModel (fun m => { m with switch := some (false, 0, 0, [1]) }), 0, 1, _, _, _, rfl, rfl, by decide +kernel⟩,
   ⟨ready, headerOf (State.oneWrite (ready) .fabato (oDriftReset) (((ready).objBytes .fabato oDriftReset (127)))), 127, _, _, by decide +kernel, fb_grants rfl (.inl rfl) ⟨rfl, by decide, rfl⟩ (by decide +kernel)⟩,
   ⟨fbAt 0 (fun f => { (withMember f).onCore (fun c => { c with time := { c.time with ns := 1000 } }) with an := { f.an with reds := [red0 epoch0] } }), _, _, rfl, rfl, rfl, by decide +kernel, by decide +kernel, by decide +kernel⟩,
   ⟨fbAn (fun a => { a with reds := [red0 { epoch0 with quorumAt := some 0 }] }), _, _, _, rfl, rfl, rfl, rfl, by decide +kernel⟩,
   ⟨fbAn (fun a => { a with feats := [{ idx := 0, keys := [] }] }), _, rfl, rfl⟩⟩

/-- Each clause of `Obligations.CaptureCommandsComplete` has a state and operands that meet its hypotheses; a clause whose only hypothesis is Ready is met by `ready`. -/
theorem witness_captureCommandsComplete :
    (∃ (s : State) (bus : Nat), OvReady s ∧ s.ov.buf.alarmed = false ∧ bus < 16 ∧ s.ov.cap.cgNote.testBit (bankDomain s.ov.core bus) = false ∧ s.ov.cap.gated.testBit (bankDomain s.ov.core bus) = false ∧ (∀ l, s.ov.cap.latch = some l → l.waits bus = false)) ∧
    (∃ (s : State) (ch : Nat), OvReady s ∧ s.ov.buf.alarmed = false ∧ ch < 88) ∧
    (∃ (s : State) (ch : Nat), OvReady s ∧ s.ov.buf.alarmed = false ∧ 88 ≤ ch ∧ ch < 128) ∧
    (∃ (s : State) (m : Nat), OvReady s ∧ s.ov.buf.alarmed = false ∧ m < 8 ∧ s.ov.core.num oSenseFmonWindow ≠ 0 ∧ s.ov.core.ns ≥ s.ov.cap.fmonAt.getD m 0 + s.ov.core.num oSenseFmonWindow) ∧
    (∃ (s : State) (m : Nat), OvReady s ∧ s.ov.buf.alarmed = false ∧ m < 8) ∧
    (∃ (s : State) (b : Nat) (l : _), OvReady s ∧ s.ov.buf.alarmed = false ∧ s.ov.cap.latch = some l ∧ l.waits b = true ∧ s.ov.core.ns ≥ l.lt) ∧
    (∃ (s : State) (f : _) (rest : _), OvReady s ∧ s.ov.buf.alarmed = false ∧ s.ov.bnd.bist.deadMacros.any (fun d => d == 8 || d == 9) = false ∧ s.ov.cap.run = none ∧ s.ov.cap.queue = f :: rest ∧ f.cut = none ∧ s.ov.cap.latch.any (fun l => l.fire == f.fire) = false ∧ (f.optional = false ∨ f.lateLimit = 0 ∨ Nat.max f.fire s.ov.core.ns - f.fire ≤ f.lateLimit * 1000)) ∧
    (∃ (s : State) (r : _) (l : _), OvReady s ∧ s.ov.buf.alarmed = false ∧ s.ov.cap.run = some r ∧ s.ov.cap.latch = some l ∧ r.snapped = true ∧ r.waited = false ∧ s.ov.core.ns ≥ r.lt + s.ov.core.num oCountLatchWait) ∧
    (∃ (s : State), OvReady s ∧ s.ov.buf.alarmed = false ∧ s.ov.buf.pend.find? (fun g => g.cls == .a && g.reason == 0x05) = none) ∧
    (∃ (s : State) (cls : RClass), OvReady s ∧ s.ov.buf.alarmed = false ∧ s.ov.buf.linkRing cls = false ∧ (cls = .s → s.ov.buf.s.length < Nat.min (s.ov.core.num oRecordSpillLevel) (shareS s.ov.core s.ov.buf)) ∧ (cls = .a → s.ov.buf.a.length < 256)) ∧
    (∃ (s : State) (h : _) (rest : _), OvReady s ∧ s.ov.buf.alarmed = false ∧ s.ov.buf.waitC = h :: rest ∧ s.ov.buf.linkRing .c = false ∧ s.ov.buf.c.length < 256) :=
  ⟨⟨ready, 15, rfl, by decide +kernel, by decide +kernel, by decide +kernel, by decide +kernel, fun l h => by cases h⟩,
   ⟨ready, 87, rfl, by decide +kernel, by decide +kernel⟩,
   ⟨ready, 127, rfl, by decide +kernel, by decide +kernel, by decide +kernel⟩,
   ⟨ovCore (fun c => { c with time := { c.time with ns := 4000000000 }, store := [(oSenseFmonWindow, leBytes 4 100)] }), 7, rfl, by decide +kernel, by decide +kernel, by decide +kernel, by decide +kernel⟩,
   ⟨ready, 7, rfl, by decide +kernel, by decide +kernel⟩,
   ⟨ovCap (fun c => { c with latch := some latch0 }), 0, _, rfl, by decide +kernel, rfl, by decide +kernel, by decide +kernel⟩,
   ⟨ovCap (fun c => { c with queue := [firing0] }), _, _, rfl, by decide +kernel, by decide +kernel, by decide +kernel, rfl, by decide +kernel, by decide +kernel, by decide +kernel⟩,
   ⟨readyOv (fun o => { o with cap := { o.cap with run := some { run0 [] with waited := false }, latch := some latch0 }, core := { o.core with time := { o.core.time with ns := 4000000000 } } }), _, _, rfl, by decide +kernel, rfl, rfl, by decide +kernel, by decide +kernel, by decide +kernel⟩,
   ⟨ready, rfl, by decide +kernel, by decide +kernel⟩,
   ⟨ready, .s, rfl, by decide +kernel, by decide +kernel, fun _ => by decide, fun h => by cases h⟩,
   ⟨ovBuf (fun b => { b with waitC := [held0] }), _, _, rfl, by decide +kernel, rfl, by decide +kernel, by decide +kernel⟩⟩

/-- Each clause of `Obligations.ProgramWordsComplete` has a state and operands that meet its hypotheses; a clause whose only hypothesis is Ready is met by `ready`. -/
theorem witness_programWordsComplete :
    (∃ (s : State) (r : Run) (m : _) (l : _), s.atWord r (.snap m) ∧ r.head = true ∧ r.count + 1 < 4096 ∧ s.ov.cap.latch = some l) ∧
    (∃ (s : State) (r : Run) (n : _) (f : _), s.atWord r (.read n f) ∧ r.count + 1 < 4096) ∧
    (∃ (s : State) (r : Run) (k : _) (n : _) (f : _), s.atWord r (.delta k n f) ∧ r.count + 1 < 4096 ∧ k < s.ov.cap.base.length) ∧
    (∃ (s : State) (r : Run) (al : _) (code : _) (rel : _) (thr : _) (kind : _) (idx : _), s.atWord r (.cmp al code rel thr kind idx) ∧ r.count + 1 < 4096) ∧
    (∃ (s : State) (r : Run) (c : _) (t : _), s.atWord r (.br c t) ∧ r.count + 1 < 4096) ∧
    (∃ (s : State) (r : Run) (k : _) (n : _) (f : _), s.atWord r (.emit k n f) ∧ r.count + 1 < 4096) ∧
    (∃ (s : State) (r : Run), s.atWord r .halt ∧ s.ov.buf.linkRing .s = false ∧ s.ov.buf.s.length < s.ov.core.num oRecordSpillLevel ∧ s.ov.buf.s.length + r.staging.length + 1 ≤ shareS s.ov.core s.ov.buf ∧ s.ov.buf.pend = []) ∧
    (∃ (s : State) (r : Run), s.atWord r .bad) ∧
    (∃ (s : State) (r : Run) (w : _), s.atWord r w) :=
  ⟨⟨ovRun 0x0400000000000001, run0 [0x0400000000000001], _, _, ⟨rfl, rfl, rfl, rfl, by decide⟩, by decide +kernel, by decide +kernel, rfl⟩,
   ⟨ovRun 0x0800000000000100, run0 [0x0800000000000100], _, _, ⟨rfl, rfl, rfl, rfl, by decide⟩, by decide +kernel⟩,
   ⟨ovRun 0x0C00000000010000, run0 [0x0C00000000010000], _, _, _, ⟨rfl, rfl, rfl, rfl, by decide⟩, by decide +kernel, by decide +kernel⟩,
   ⟨ovRun 0x1000000001000000, run0 [0x1000000001000000], _, _, _, _, _, _, ⟨rfl, rfl, rfl, rfl, by decide⟩, by decide +kernel⟩,
   ⟨ovRun 0x1400000000000000, run0 [0x1400000000000000], _, _, ⟨rfl, rfl, rfl, rfl, by decide⟩, by decide +kernel⟩,
   ⟨ovRun 0x1800000000010000, run0 [0x1800000000010000], _, _, _, ⟨rfl, rfl, rfl, rfl, by decide⟩, by decide +kernel⟩,
   ⟨ovRun 0, run0 [0], ⟨rfl, rfl, rfl, rfl, by decide⟩, by decide +kernel, by decide +kernel, by decide +kernel, by decide +kernel⟩,
   ⟨ovRun 0xFFFFFFFFFFFFFFFF, run0 [0xFFFFFFFFFFFFFFFF], ⟨rfl, rfl, rfl, rfl, by decide⟩⟩,
   ⟨ovRun 0, run0 [0], _, ⟨rfl, rfl, rfl, rfl, by decide⟩⟩⟩

/-- Each clause of `Obligations.WorkUnitCommandsComplete` has a state and operands that meet its hypotheses; a clause whose only hypothesis is Ready is met by `ready`. -/
theorem witness_workUnitCommandsComplete :
    (∃ (s : State) (cell : Nat) (p : _), FbReady s ∧ s.fb.cel.places.filter (fun p => p.cell == some cell && !(s.fb.waitingInputs p.handle).isEmpty && !s.fb.cel.units.any (fun u => u.handle == p.handle)) = [p] ∧ s.fb.shadowed p.handle p.seq = false) ∧
    (∃ (s : State) (handle : Nat) (u : _), FbReady s ∧ s.fb.cel.units.find? (fun u => u.handle == handle) = some u ∧ u.rerun = false ∧ u.shadow = none ∧ (s.fb.cell u.cell).inject = none) ∧
    (∃ (s : State) (handle : Nat) (u : _), FbReady s ∧ s.fb.cel.units.find? (fun u => u.handle == handle) = some u ∧ u.rerun = false ∧ (s.fb.cell u.cell).inject = none) ∧
    (∃ (s : State) (handle : Nat) (u : _) (k : _), FbReady s ∧ s.fb.cel.units.find? (fun u => u.handle == handle) = some u ∧ u.shadow = some (.running k) ∧ s.fb.injected u.cell 7 = false) ∧
    (∃ (s : State) (element : Nat), OvReady s ∧ 1 ≤ element ∧ element ≤ 6 ∧ s.ov.blockBusy element = false ∧ s.ov.core.flag (oPowerHoldAwake + element) = false) ∧
    (∃ (s : State) (element : Nat), OvReady s ∧ 1 ≤ element ∧ element ≤ 6 ∧ s.ov.blockBusy element = true) ∧
    (∃ (s : State) (element : Nat) (k : _), FbReady s ∧ s.fb.blockIdle element = some k) ∧
    (∃ (s : State) (e : Envelope) (value : Nat) (f : Fabato) (a : Actor), value % 256 < 52 ∧ value / 256 < 8 ∧ FbGrants s e .wo oFtInject (s.objBytes .fabato oFtInject value) f a) ∧
    (∃ (s : State), FbReady s ∧ s.fb.up ≥ s.fb.cel.satStart + 1000 * s.fb.core.num oCellSatWindow) :=
  ⟨⟨fbCel (fun c => { c with places := [place0], inputs := [(hReduce 0, .chain 0 [])] }), 0, place0, rfl, by decide +kernel, by decide +kernel⟩,
   ⟨fbCel (fun c => { c with units := [unit0] }), hReduce 0, unit0, rfl, by decide +kernel, by decide +kernel, by decide +kernel, by decide +kernel⟩,
   ⟨fbCel (fun c => { c with units := [unit0] }), hReduce 0, unit0, rfl, by decide +kernel, by decide +kernel, by decide +kernel⟩,
   ⟨fbCel (fun c => { c with units := [{ unit0 with shadow := some (.running 1) }] }), hReduce 0, { unit0 with shadow := some (.running 1) }, 1, rfl, by decide +kernel, by decide +kernel, by decide +kernel⟩,
   ⟨ready, 6, rfl, by decide +kernel, by decide +kernel, by decide +kernel, by decide +kernel⟩,
   ⟨ovCap (fun c => { c with queue := [firing0] }), 1, rfl, by decide +kernel, by decide +kernel, by decide +kernel⟩,
   ⟨readyAt 10000000, 0, 2, rfl, by decide +kernel⟩,
   ⟨ready, headerOf (State.oneWrite (ready) .fabato (oFtInject) (((ready).objBytes .fabato oFtInject (1843)))), 1843, _, _, by decide +kernel, by decide +kernel, fb_grants rfl (.inl rfl) ⟨rfl, by decide, rfl⟩ (by decide +kernel)⟩,
   ⟨readyAt (10 ^ 17), rfl, by decide +kernel⟩⟩

/-- Each clause of `Obligations.SpareCommandsComplete` has a state and operands that meet its hypotheses; a clause whose only hypothesis is Ready is met by `ready`. -/
theorem witness_spareCommandsComplete :
    (∃ (s : State) (e : Envelope) (cell : Nat) (f : Fabato) (a : Actor), cell < 52 ∧ FbGrants s e .wo oFtRun (s.objBytes .fabato oFtRun cell) f a) ∧
    (∃ (s : State) (t : _), FbReady s ∧ s.fb.cel.test = some t ∧ t.path = 3 ∧ s.fb.cel.fill = none ∧ s.fb.up ≥ (s.fb.cell t.cell).dueSince.getD s.fb.up + 1000000000 * s.fb.core.num oFtMaxDefer) ∧
    (∃ (s : State) (t : _), FbReady s ∧ s.fb.cel.test = some t ∧ t.readmit = false ∧ t.path = 0 ∧ s.fb.cel.fill = none ∧ t.cell < s.fb.cel.cells.length ∧ s.fb.up ≥ t.startAt + 40000000) ∧
    (∃ (s : State) (cell : Nat) (h : _), FbReady s ∧ (s.fb.homed cell).filter (fun h => (s.fb.cel.place h).any (fun p => p.mode == 4)) = [h]) ∧
    (∃ (s : State) (e : Envelope) (cell : Nat) (f : Fabato) (a : Actor), cell < 52 ∧ FbGrants s e .wo oSpareCellReadmit (s.objBytes .fabato oSpareCellReadmit cell) f a ∧ ((f.cell cell).role = .failed ∧ cell ∉ f.cel.readmit)) ∧
    (∃ (s : State) (t : _), FbReady s ∧ s.fb.cel.test = some t ∧ t.readmit = true ∧ s.fb.cel.fillQueue = [] ∧ s.fb.roleCount .spare < 4 ∧ t.cell < s.fb.cel.cells.length) ∧
    (∃ (s : State) (e : Envelope) (value : Nat) (f : Fabato) (a : Actor), value < 32 ∧ FbGrants s e .wo oSpareLaneRestore (s.objBytes .fabato oSpareLaneRestore (256 + value)) f a) ∧
    (∃ (s : State) (e : Envelope) (value : Nat) (f : Fabato) (a : Actor), value < 136 ∧ FbGrants s e .wo oSpareLaneRestore (s.objBytes .fabato oSpareLaneRestore value) f a ∧ f.core.kind = 1) ∧
    (∃ (s : State) (x : _) (h : _) (k : _) (rest : _), FbReady s ∧ s.fb.cel.fill = some x ∧ x.todo = h :: k :: rest) ∧
    (∃ (s : State) (c : _) (t : _) (rest : _), FbReady s ∧ s.fb.cel.fillQueue = (c, t) :: rest ∧ s.fb.cel.fill = none ∧ s.fb.freeSpares = [] ∧ s.fb.up ≥ t + 1000000 * s.fb.core.num oSpareReplaceWait) ∧
    (∃ (s : State), s.fb.cel.cells.any (fun c => c.role == .warm && decide (s.fb.up ≥ c.warmSince + hourNs * s.fb.core.num oSpareWarmHold)) = true ∧ FbReady s) :=
  ⟨⟨ready, headerOf (State.oneWrite (ready) .fabato (oFtRun) (((ready).objBytes .fabato oFtRun (51)))), 51, _, _, by decide +kernel, fb_grants rfl (.inl rfl) ⟨rfl, by decide, rfl⟩ (by decide +kernel)⟩,
   ⟨fbCelAt (10 ^ 17) (fun c => { allCells .active c with test := some (test0 3 false) }), test0 3 false, rfl, by decide +kernel, by decide +kernel, by decide +kernel, by decide +kernel⟩,
   ⟨fbCelAt (10 ^ 17) (fun c => { allCells .active c with test := some (test0 0 false) }), test0 0 false, rfl, by decide +kernel, by decide +kernel, by decide +kernel, by decide +kernel, by decide +kernel, by decide +kernel⟩,
   ⟨fbCel (fun c => { c with places := [{ place0 with mode := 4 }] }), 0, hReduce 0, rfl, by decide +kernel⟩,
   ⟨fbCel (allCells .failed), headerOf (State.oneWrite (fbCel (allCells .failed)) .fabato (oSpareCellReadmit) (((fbCel (allCells .failed)).objBytes .fabato oSpareCellReadmit (51)))), 51, _, _, by decide +kernel, fb_grants rfl (.inl rfl) ⟨rfl, by decide, rfl⟩ (by decide +kernel), by decide +kernel⟩,
   ⟨fbCelAt (10 ^ 17) (fun c => { allCells .active c with test := some (test0 0 true) }), test0 0 true, rfl, by decide +kernel, by decide +kernel, by decide +kernel, by decide +kernel, by decide +kernel⟩,
   ⟨ready, headerOf (State.oneWrite (ready) .fabato (oSpareLaneRestore) (((ready).objBytes .fabato oSpareLaneRestore (256 + (31))))), 31, _, _, by decide +kernel, fb_grants rfl (.inl rfl) ⟨rfl, by decide, rfl⟩ (by decide +kernel)⟩,
   ⟨ready, headerOf (State.oneWrite (ready) .fabato (oSpareLaneRestore) (((ready).objBytes .fabato oSpareLaneRestore (135)))), 135, _, _, by decide +kernel, fb_grants rfl (.inl rfl) ⟨rfl, by decide, rfl⟩ (by decide +kernel), by decide +kernel⟩,
   ⟨fbCelAt (10 ^ 17) (fun c => { allCells .active c with fill := some { source := 0, target := 1, todo := [0, 1], moved := 0, startAt := 0 } }), _, _, _, _, rfl, rfl, rfl⟩,
   ⟨fbCelAt (10 ^ 17) (fun c => { allCells .active c with fillQueue := [(0, 0)] }), 0, 0, [], rfl, by decide +kernel, by decide +kernel, by decide +kernel, by decide +kernel⟩,
   ⟨fbCelAt (10 ^ 17) (allCells .warm), by decide +kernel, rfl⟩⟩

/-- Each clause of `Obligations.DewCommandsComplete` has a state and operands that meet its hypotheses; a clause whose only hypothesis is Ready is met by `ready`. -/
theorem witness_dewCommandsComplete :
    (∃ (s : State) (e : Envelope) (ch : Nat) (value : Nat) (d : _) (o : Ovtan) (a : Actor), ch < 8 ∧ value < 2 ^ 8 ∧ OvGrants s e .wo (dewObj ch 0x10) (s.objBytes .ovtan (dewObj ch 0x10) value) o a ∧ (o.dew[ch]? = some d ∧ d.feeder = none)) ∧
    (∃ (s : State) (e : Envelope) (ch : Nat) (value : Nat) (d : _) (o : Ovtan) (a : Actor), ch < 8 ∧ value < 2 ^ 16 ∧ OvGrants s e .wo (dewObj ch 0x11) (s.objBytes .ovtan (dewObj ch 0x11) value) o a ∧ (o.dew[ch]? = some d ∧ d.feeder = none)) ∧
    (∃ (s : State) (e : Envelope) (ch : Nat) (value : Nat) (d : _) (o : Ovtan) (a : Actor), ch < 8 ∧ value < 2 ^ 32 ∧ OvGrants s e .wo (dewObj ch 0x12) (s.objBytes .ovtan (dewObj ch 0x12) value) o a ∧ (o.dew[ch]? = some d ∧ d.feeder = none)) ∧
    (∃ (s : State) (ch : Nat) (d : _) (w : _) (rest : _), ch < 8 ∧ OvReady s ∧ s.ov.dew[ch]? = some d ∧ d.queue = w :: rest) ∧
    (∃ (s : State) (e : Envelope) (ch : Nat) (d : _) (o : Ovtan) (a : Actor), ch < 8 ∧ OvAccepts s e (.read [{ obj := dewObj ch 6 }]) o a ∧ (o.dew[ch]? = some d ∧ Reads ovOps o a (dewObj ch 6))) ∧
    (∃ (s : State) (e : Envelope) (ch : Nat) (d : _) (o : Ovtan) (a : Actor), ch < 8 ∧ OvGrants s e .wo (dewObj ch 8) (s.objBytes .ovtan (dewObj ch 8) 1) o a ∧ o.dew[ch]? = some d) ∧
    (∃ (s : State) (e : Envelope) (ch : Nat) (o : Ovtan) (a : Actor), ch < 8 ∧ OvGrants s e .wo oDewDpGo (s.objBytes .ovtan oDewDpGo 1) o a ∧ (o.dma.dp = none ∧ o.core.flag oDewDpEnable = true ∧ o.bnd.blocks.getD 3 0 = 0)) ∧
    (∃ (s : State) (ch : Nat), ch < 8 ∧ OvReady s ∧ s.ov.core.num oDewDpStartEvent ≤ 2047 ∧ s.ov.dma.dp = none ∧ s.ov.core.flag oDewDpEnable = true ∧ s.ov.bnd.blocks.getD 3 0 = 0) ∧
    (∃ (s : State) (ch : Nat) (r : _), ch < 8 ∧ OvReady s ∧ s.ov.core.num oDewDpStartEvent ≤ 2047 ∧ s.ov.dma.dp = some r ∧ r.overran = false) ∧
    (∃ (s : State) (ch : Nat) (r : _), ch < 8 ∧ OvReady s ∧ s.ov.dma.dp = some r ∧ r.complete = true) :=
  ⟨⟨ovDew dew0 [], headerOf (State.oneWrite (ovDew dew0 []) .ovtan ((dewObj (7) 0x10)) (((ovDew dew0 []).objBytes .ovtan (dewObj (7) 0x10) (255)))), 7, 255, dew0, _, _, by decide +kernel, by decide +kernel, ov_grants rfl rfl ⟨rfl, by decide, rfl⟩ (by decide +kernel), by decide +kernel⟩,
   ⟨ovDew dew0 [], headerOf (State.oneWrite (ovDew dew0 []) .ovtan ((dewObj (7) 0x11)) (((ovDew dew0 []).objBytes .ovtan (dewObj (7) 0x11) (65535)))), 7, 65535, dew0, _, _, by decide +kernel, by decide +kernel, ov_grants rfl rfl ⟨rfl, by decide, rfl⟩ (by decide +kernel), by decide +kernel⟩,
   ⟨ovDew dew0 [], headerOf (State.oneWrite (ovDew dew0 []) .ovtan ((dewObj (7) 0x12)) (((ovDew dew0 []).objBytes .ovtan (dewObj (7) 0x12) (4294967295)))), 7, 4294967295, dew0, _, _, by decide +kernel, by decide +kernel, ov_grants rfl rfl ⟨rfl, by decide, rfl⟩ (by decide +kernel), by decide +kernel⟩,
   ⟨ovDew { dew0 with queue := [{ n := 1, v := 0, addr := none }] } [], 7, _, _, _, by decide +kernel, rfl, rfl, rfl⟩,
   ⟨ovDew dew0 [], headerOf ((.read [{ obj := dewObj (7) 6 }])), 7, dew0, _, _, by decide +kernel, ov_accepts rfl rfl ⟨rfl, by decide, rfl⟩ (by decide +kernel), ⟨rfl, reads_sound (by decide +kernel)⟩⟩,
   ⟨ovDew dew0 [], headerOf (State.oneWrite (ovDew dew0 []) .ovtan ((dewObj (7) 8)) (((ovDew dew0 []).objBytes .ovtan (dewObj (7) 8) 1))), 7, dew0, _, _, by decide +kernel, ov_grants rfl rfl ⟨rfl, by decide, rfl⟩ (by decide +kernel), by decide +kernel⟩,
   ⟨ovDew dew0 [(oDewDpEnable, [1])], headerOf (State.oneWrite (ovDew dew0 [(oDewDpEnable, [1])]) .ovtan (oDewDpGo) (((ovDew dew0 [(oDewDpEnable, [1])]).objBytes .ovtan oDewDpGo 1))), 7, _, _, by decide +kernel, ov_grants rfl rfl ⟨rfl, by decide, rfl⟩ (by decide +kernel), by decide +kernel⟩,
   ⟨ovDew dew0 [(oDewDpEnable, [1]), (oDewDpStartEvent, leBytes 4 2047)], 7, by decide +kernel, rfl, by decide +kernel, by decide +kernel, by decide +kernel, by decide +kernel⟩,
   ⟨readyOv (fun o => { o with dma := { o.dma with dp := some dp0 }, core := { o.core with store := [(oDewDpStartEvent, leBytes 4 2047)] } }), 7, dp0, by decide +kernel, rfl, by decide +kernel, by decide +kernel, by decide +kernel⟩,
   ⟨readyOv (fun o => { o with dma := { o.dma with dp := some dp0 }, core := { o.core with store := [(oDewDpStartEvent, leBytes 4 2047)] } }), 7, dp0, by decide +kernel, rfl, by decide +kernel, by decide +kernel⟩⟩

/-- Each clause of `Obligations.ContrailCommandsComplete` has a state and operands that meet its hypotheses; a clause whose only hypothesis is Ready is met by `ready`. -/
theorem witness_contrailCommandsComplete :
    (∃ (s : State) (e : Envelope) (ch : Nat) (d : _) (o : Ovtan) (a : Actor), ch < 8 ∧ OvGrants s e .wo oDmaGo (s.objBytes .ovtan oDmaGo ch) o a ∧ ((o.dma.ch.getD ch DmaCh.idle).run = none ∧ o.memSide.dpHolds ch = false ∧ d = dmaDesc (o.core.get (0x08010000 + ch * 256 + 1)) ∧ dmaCheck d ((o.dew.getD d.dew { reg := 0, addr := 0, seq := 0, queue := [], held := [], fed := 0, feeder := none }).feeder.isSome) = 0)) ∧
    (∃ (s : State) (e : Envelope) (ch : Nat) (h : _) (r : _) (o : Ovtan) (a : Actor), ch < 8 ∧ r.burst ≠ .idle ∧ OvGrants s e .wo oDmaStop (s.objBytes .ovtan oDmaStop ch) o a ∧ (o.dma.ch[ch]? = some h ∧ h.run = some r)) ∧
    (∃ (s : State) (e : Envelope) (ch : Nat) (h : _) (r : _) (o : Ovtan) (a : Actor), ch < 8 ∧ r.burst = .idle ∧ OvGrants s e .wo oDmaStop (s.objBytes .ovtan oDmaStop ch) o a ∧ (o.dma.ch[ch]? = some h ∧ h.run = some r)) ∧
    (∃ (s : State) (ch : Nat) (r : _), ch < 8 ∧ OvReady s ∧ s.ov.memSide.grantSpill (s.ov.link.lane.phy.state == .up) = none ∧ s.ov.memSide.refill.pick = some ch ∧ (s.ov.dma.ch.getD ch DmaCh.idle).run = some r) ∧
    (∃ (s : State) (ch : Nat), ch < 8 ∧ OvReady s ∧ s.ov.buf.ringWriting = 0 ∧ s.ov.buf.ringAcked < s.ov.buf.ring.length) ∧
    (∃ (s : State) (ch : Nat) (q : _) (rest : _) (h : _) (r : _) (off : _) (len : _), ch < 8 ∧ OvReady s ∧ s.ov.dma.mem = q :: rest ∧ q.id = ch ∧ q.write = false ∧ q.dead = false ∧ s.ov.dma.ch[ch]? = some h ∧ h.run = some r ∧ r.burst = .reading off len ∧ (dmaDesc r.desc).mode = 1) ∧
    (∃ (s : State) (ch : Nat) (q : _) (rest : _) (h : _) (r : _) (off : _) (len : _), ch < 8 ∧ OvReady s ∧ s.ov.dma.mem = q :: rest ∧ q.id = ch ∧ q.write = true ∧ q.dead = false ∧ s.ov.dma.ch[ch]? = some h ∧ h.run = some r ∧ r.burst = .writing off len ∧ r.done + len < (dmaDesc r.desc).len ∧ r.stopping = false) ∧
    (∃ (s : State) (ch : Nat) (q : _), ch < 8 ∧ OvReady s ∧ s.ov.dma.mem.find? (fun q => q.id == ch && !q.dead) = some q ∧ s.ov.core.up ≥ q.at_ + s.ov.core.num oPowerMemTimeout * 1000) :=
  ⟨⟨ovStore [(0x08010000 + 7 * 256 + 1, copy0)], headerOf (State.oneWrite (ovStore [(0x08010000 + 7 * 256 + 1, copy0)]) .ovtan (oDmaGo) (((ovStore [(0x08010000 + 7 * 256 + 1, copy0)]).objBytes .ovtan oDmaGo (7)))), 7, dmaDesc copy0, _, _, by decide +kernel, ov_grants rfl rfl ⟨rfl, by decide, rfl⟩ (by decide +kernel), ⟨by decide +kernel, by decide +kernel, rfl, by decide +kernel⟩⟩,
   ⟨ovDma (fun d => { d with ch := List.replicate 8 (dma0 (.reading 0 32)) }), headerOf (State.oneWrite (ovDma (fun d => { d with ch := List.replicate 8 (dma0 (.reading 0 32)) })) .ovtan (oDmaStop) (((ovDma (fun d => { d with ch := List.replicate 8 (dma0 (.reading 0 32)) })).objBytes .ovtan oDmaStop (7)))), 7, dma0 (.reading 0 32), (DmaRun.mk copy0 0 false (.reading 0 32)), _, _, by decide +kernel, by decide +kernel, ov_grants rfl rfl ⟨rfl, by decide, rfl⟩ (by decide +kernel), by decide +kernel⟩,
   ⟨ovDma (fun d => { d with ch := List.replicate 8 (dma0 .idle) }), headerOf (State.oneWrite (ovDma (fun d => { d with ch := List.replicate 8 (dma0 .idle) })) .ovtan (oDmaStop) (((ovDma (fun d => { d with ch := List.replicate 8 (dma0 .idle) })).objBytes .ovtan oDmaStop (7)))), 7, dma0 .idle, (DmaRun.mk copy0 0 false .idle), _, _, by decide +kernel, by decide +kernel, ov_grants rfl rfl ⟨rfl, by decide, rfl⟩ (by decide +kernel), by decide +kernel⟩,
   ⟨ovDma (fun d => { d with ch := d.ch.set 7 (dma0 .idle), tokens := 10 ^ 9 }), 7, (DmaRun.mk copy0 0 false .idle), by decide +kernel, rfl, by decide +kernel, by decide +kernel, by decide +kernel⟩,
   ⟨ovBuf (fun b => { b with ring := [.mark 0] }), 7, by decide +kernel, rfl, by decide +kernel, by decide +kernel⟩,
   ⟨ovDma (fun d => { d with ch := d.ch.set 7 (dma0 (.reading 0 32)), mem := [mem0 false] }), 7, mem0 false, [], dma0 (.reading 0 32), (DmaRun.mk copy0 0 false (.reading 0 32)), 0, 32, by decide +kernel, rfl, by decide +kernel, by decide +kernel, by decide +kernel, by decide +kernel, by decide +kernel, by decide +kernel, by decide +kernel, by decide +kernel⟩,
   ⟨ovDma (fun d => { d with ch := d.ch.set 7 (dma0 (.writing 0 32)), mem := [mem0 true] }), 7, mem0 true, [], dma0 (.writing 0 32), (DmaRun.mk copy0 0 false (.writing 0 32)), 0, 32, by decide +kernel, rfl, by decide +kernel, by decide +kernel, by decide +kernel, by decide +kernel, by decide +kernel, by decide +kernel, by decide +kernel, by decide +kernel, by decide +kernel⟩,
   ⟨ovAt (10 ^ 17) (fun o => { o with dma := { o.dma with mem := [mem0 true] } }), 7, mem0 true, by decide +kernel, rfl, by decide +kernel, by decide +kernel⟩⟩

/-- Each clause of `Obligations.CondenserCommandsComplete` has a state and operands that meet its hypotheses; a clause whose only hypothesis is Ready is met by `ready`. -/
theorem witness_condenserCommandsComplete :
    (∃ (s : State) (idx : Nat) (x : _), FbReady s ∧ s.fb.g.cond.ctxs.find? (fun x => x.idx == idx) = some x ∧ x.gather ≠ [] ∧ s.fb.up ≥ x.gatherAt + 1000 * s.fb.core.num oCondenseGather) ∧
    (∃ (s : State) (e : Envelope) (idx : Nat) (f : Fabato) (a : Actor), idx < 4096 ∧ FbGrants s e .wo (condObj idx 3) (s.objBytes .fabato (condObj idx 3) 1) f a) ∧
    (∃ (s : State) (idx : Nat) (x : _), FbReady s ∧ s.fb.g.cond.ctxs.find? (fun x => x.idx == idx) = some x ∧ x.bound.isSome = true ∧ storeGet s.fb.core.pairGood oCondenseIdleReset = none ∧ s.fb.up ≥ x.lastUse + 1000000 * s.fb.core.used oCondenseIdleReset) ∧
    (∃ (s : State) (idx : Nat) (x : _), FbReady s ∧ s.fb.g.cond.ctxs.find? (fun x => x.idx == idx) = some x ∧ x.key.isSome = true ∧ storeGet s.fb.core.pairGood oCondenseIdleReset = none ∧ s.fb.up ≥ x.lastUse + 1000000 * s.fb.core.used oCondenseDecodeIdle) :=
  ⟨⟨fbCond (10 ^ 17), 0, cond0, rfl, by decide +kernel, by decide +kernel, by decide +kernel⟩,
   ⟨ready, headerOf (State.oneWrite (ready) .fabato ((condObj (4095) 3)) (((ready).objBytes .fabato (condObj (4095) 3) 1))), 4095, _, _, by decide +kernel, fb_grants rfl (.inl rfl) ⟨rfl, by decide, rfl⟩ (by decide +kernel)⟩,
   ⟨fbCond (10 ^ 17), 0, cond0, rfl, by decide +kernel, by decide +kernel, by decide +kernel, by decide +kernel⟩,
   ⟨fbCond (10 ^ 17), 0, cond0, rfl, by decide +kernel, by decide +kernel, by decide +kernel, by decide +kernel⟩⟩

/-- Each clause of `Obligations.CutCommandsComplete` has a state and operands that meet its hypotheses; a clause whose only hypothesis is Ready is met by `ready`. -/
theorem witness_cutCommandsComplete :
    (∃ (s : State) (e : Envelope) (desc : Bytes) (t : Nat) (o : Ovtan) (a : Actor), OvGrants s e .wo oCutArm desc o a ∧ (cutFields desc = stOk ∧ o.core.angle.isLocked = true ∧ o.core.cuts.length < 4 ∧ o.core.cuts.any (fun k => k.id == cutId desc) = false ∧ o.core.cutPredict (cutStep desc) (cutAngle desc) = some t ∧ t ≥ o.core.ns + 2000000)) ∧
    (∃ (s : State) (e : Envelope) (desc : Bytes) (t : Nat) (f : Fabato) (a : Actor), FbGrants s e .wo oCutArm desc f a ∧ (cutFields desc = stOk ∧ f.core.angle.isLocked = true ∧ f.core.cuts.length < 4 ∧ f.core.cuts.any (fun k => k.id == cutId desc) = false ∧ f.cast.cuts.any (fun k => cutId k.desc == cutId desc) = false ∧ f.core.cutPredict (cutStep desc) (cutAngle desc) = some t ∧ t ≥ f.core.ns + 2000000)) ∧
    (∃ (s : State) (e : Envelope) (desc : Bytes) (f : _) (a : _) (g : _), FbGrants s e .wo oCutRequest desc f a ∧ f.castRequest desc = stOk ∧ g = (f.castArm desc true).1.cutFan a oCutArm .blob desc (some (cutId desc)) (f.castArm desc true).2 ∧ g.fwd.nextFan ≠ f.fwd.nextFan) ∧
    (∃ (s : State) (e : Envelope) (id : Nat) (o : Ovtan) (a : Actor), id < 2 ^ 32 ∧ OvGrants s e .wo oCutCancel (s.objBytes .ovtan oCutCancel id) o a ∧ o.core.cuts.any (fun k => k.id == id) = true) ∧
    (∃ (s : State) (e : Envelope) (id : Nat) (k : _) (f : Fabato) (a : Actor), id < 2 ^ 32 ∧ FbGrants s e .wo oCutCancel (s.objBytes .fabato oCutCancel id) f a ∧ (f.cast.cuts.find? (fun k => cutId k.desc == id) = some k ∧ k.latched = none ∧ f.cast.cuts.any (fun k => cutId k.desc == id && k.initiator) = false)) ∧
    (∃ (s : State) (t : Nat) (k : _), OvReady s ∧ s.ov.core.cuts = [k] ∧ s.ov.core.cutDue k = some t ∧ t ≤ s.ov.core.ns) ∧
    (∃ (s : State) (t : Nat) (k : _), FbReady s ∧ s.fb.cast.cuts = [k] ∧ k.latched = some t ∧ s.fb.up ≥ t + 1000 * s.fb.core.num oCutCloseTimeout) ∧
    (∃ (s : State) (k : _), FbReady s ∧ s.fb.cast.waiting = [k] ∧ s.fb.core.angle.isLocked = true ∧ cutStep k.desc = s.fb.core.angle.step ∧ fireTime s.fb.core.angle.tm s.fb.core.angle.lq (cutAngle k.desc) ≤ s.fb.ns) :=
  ⟨⟨ovCore lockedAt, headerOf (State.oneWrite (ovCore lockedAt) .ovtan (oCutArm) ((cut0 100))), cut0 100, 99000000, _, _, ov_grants rfl rfl ⟨rfl, by decide, rfl⟩ (by decide +kernel), by decide +kernel⟩,
   ⟨fbCore lockedAt, headerOf (State.oneWrite (fbCore lockedAt) .fabato (oCutArm) ((cut0 100))), cut0 100, 99000000, _, _, fb_grants rfl (.inl rfl) ⟨rfl, by decide, rfl⟩ (by decide +kernel), by decide +kernel⟩,
   ⟨fbCore lockedAt, headerOf (State.oneWrite (fbCore lockedAt) .fabato oCutRequest (cut0 100)), cut0 100, _, _, _, fb_grants rfl (.inl rfl) ⟨rfl, by decide, rfl⟩ (by decide +kernel), by decide +kernel, rfl, by decide +kernel⟩,
   ⟨ovCore (fun c => { c with cuts := [armed0] }), headerOf (State.oneWrite (ovCore (fun c => { c with cuts := [armed0] })) .ovtan (oCutCancel) (((ovCore (fun c => { c with cuts := [armed0] })).objBytes .ovtan oCutCancel (7)))), 7, _, _, by decide +kernel, ov_grants rfl rfl ⟨rfl, by decide, rfl⟩ (by decide +kernel), by decide +kernel⟩,
   ⟨readyFb (fun f => { f with cast := { f.cast with cuts := [gcut0 1 none] } }), headerOf (State.oneWrite (readyFb (fun f => { f with cast := { f.cast with cuts := [gcut0 1 none] } })) .fabato (oCutCancel) (((readyFb (fun f => { f with cast := { f.cast with cuts := [gcut0 1 none] } })).objBytes .fabato oCutCancel (7)))), 7, gcut0 1 none, _, _, by decide +kernel, fb_grants rfl (.inl rfl) ⟨rfl, by decide, rfl⟩ (by decide +kernel), by decide +kernel⟩,
   ⟨ovCore (fun c => { lockedAt c with cuts := [armed0] }), 0, armed0, rfl, by decide +kernel, by decide +kernel, by decide +kernel⟩,
   ⟨fbCast (fun c => { c with cuts := [gcut0 1 (some 0)] }), 0, gcut0 1 (some 0), rfl, by decide +kernel, by decide +kernel, by decide +kernel⟩,
   ⟨fbCast (fun c => { c with cuts := [gcut0 1 none] }), gcut0 1 none, rfl, by decide +kernel, by decide +kernel, by decide +kernel, by decide +kernel⟩⟩

/-- Each clause of `Obligations.CadenceCommandsComplete` has a state and operands that meet its hypotheses; a clause whose only hypothesis is Ready is met by `ready`. -/
theorem witness_cadenceCommandsComplete :
    (∃ (s : State) (e : Envelope) (value : Bytes) (f : Fabato) (a : Actor), FbGrants s e .wo oCutWfBuild value f a) ∧
    (∃ (s : State) (e : Envelope) (value : Bytes) (member : Nat) (b : _) (k : _) (f : Fabato) (a : Actor), member < 16 ∧ FbGrants s e .wo (oCutWfMerge + member + 1) value f a ∧ (checkSummary value = stOk ∧ f.cast.wf.find? (fun b => b.graph == wfHeadId value && b.merging) = some b ∧ k < 16 ∧ k ≠ member ∧ f.memberState k = 1 ∧ b.kids.any (fun x => x.1 == k) = false)) ∧
    (∃ (s : State) (b : _), FbReady s ∧ s.fb.cast.wf = [b] ∧ b.merging = false ∧ s.fb.ns ≥ b.t + 1000000 * s.fb.core.num oCutWfHold) ∧
    (∃ (s : State) (b : _), FbReady s ∧ s.fb.cast.wf = [b] ∧ b.merging = true ∧ s.fb.up ≥ b.at_ + 1000000 * s.fb.core.num oCutWfWait) ∧
    (∃ (s : State) (e : Envelope) (tenant : Nat) (j : _) (f : Fabato) (a : Actor), tenant < 2 ^ 32 ∧ FbGrants s e .wo oCadenceInterrupt (s.objBytes .fabato oCadenceInterrupt tenant) f a ∧ (f.cast.jobs.filter (fun j => j.tenant == tenant) = [j] ∧ j.lastInt = none)) ∧
    (∃ (s : State) (e : Envelope) (value : Bytes) (f : Fabato) (a : Actor), FbGrants s e .wo oCadenceCkptDone value f a ∧ f.cast.jobs.any (fun j => j.tenant == leAt value 0 4) = true) ∧
    (∃ (s : State) (e : Envelope) (num : Nat) (f : Fabato) (a : Actor), num < 2 ^ 32 ∧ FbGrants s e .wo oCadenceAck (s.objBytes .fabato oCadenceAck num) f a ∧ f.cast.reqs.any (fun r => r.num == num && r.kind != 2) = true) ∧
    (∃ (s : State) (j : _), FbReady s ∧ s.fb.cast.jobs = [j]) :=
  ⟨⟨ready, headerOf (State.oneWrite (ready) .fabato (oCutWfBuild) ((leBytes 4 1 ++ leBytes 10 0))), leBytes 4 1 ++ leBytes 10 0, _, _, fb_grants rfl (.inl rfl) ⟨rfl, by decide, rfl⟩ (by decide +kernel)⟩,
   ⟨readyFb (fun f => { withMember f with cast := { f.cast with wf := [build0 true] } }), headerOf (State.oneWrite (readyFb (fun f => { withMember f with cast := { f.cast with wf := [build0 true] } })) .fabato ((oCutWfMerge + (15) + 1)) ((zeros 32))), zeros 32, 15, build0 true, 0, _, _, by decide +kernel, fb_grants rfl (.inl rfl) ⟨rfl, by decide, rfl⟩ (by decide +kernel), by decide +kernel⟩,
   ⟨fbCast (fun c => { c with wf := [build0 false] }), build0 false, rfl, by decide +kernel, by decide +kernel, by decide +kernel⟩,
   ⟨fbCast (fun c => { c with wf := [build0 true] }), build0 true, rfl, by decide +kernel, by decide +kernel, by decide +kernel⟩,
   ⟨readyFb (fun f => { f with cast := { f.cast with jobs := [job0 4294967295], reqs := [{ num := 4294967295, tenant := 0, member := 0, step := 0, kind := 1 }] } }), headerOf (State.oneWrite (readyFb (fun f => { f with cast := { f.cast with jobs := [job0 4294967295], reqs := [{ num := 4294967295, tenant := 0, member := 0, step := 0, kind := 1 }] } })) .fabato (oCadenceInterrupt) (((readyFb (fun f => { f with cast := { f.cast with jobs := [job0 4294967295], reqs := [{ num := 4294967295, tenant := 0, member := 0, step := 0, kind := 1 }] } })).objBytes .fabato oCadenceInterrupt (4294967295)))), 4294967295, job0 4294967295, _, _, by decide +kernel, fb_grants rfl (.inl rfl) ⟨rfl, by decide, rfl⟩ (by decide +kernel), by decide +kernel⟩,
   ⟨readyFb (fun f => { f with cast := { f.cast with jobs := [job0 4294967295], reqs := [{ num := 4294967295, tenant := 0, member := 0, step := 0, kind := 1 }] } }), headerOf (State.oneWrite (readyFb (fun f => { f with cast := { f.cast with jobs := [job0 4294967295], reqs := [{ num := 4294967295, tenant := 0, member := 0, step := 0, kind := 1 }] } })) .fabato (oCadenceCkptDone) ((leBytes 4 4294967295 ++ leBytes 8 1))), leBytes 4 4294967295 ++ leBytes 8 1, _, _, fb_grants rfl (.inl rfl) ⟨rfl, by decide, rfl⟩ (by decide +kernel), by decide +kernel⟩,
   ⟨readyFb (fun f => { f with cast := { f.cast with jobs := [job0 4294967295], reqs := [{ num := 4294967295, tenant := 0, member := 0, step := 0, kind := 1 }] } }), headerOf (State.oneWrite (readyFb (fun f => { f with cast := { f.cast with jobs := [job0 4294967295], reqs := [{ num := 4294967295, tenant := 0, member := 0, step := 0, kind := 1 }] } })) .fabato (oCadenceAck) (((readyFb (fun f => { f with cast := { f.cast with jobs := [job0 4294967295], reqs := [{ num := 4294967295, tenant := 0, member := 0, step := 0, kind := 1 }] } })).objBytes .fabato oCadenceAck (4294967295)))), 4294967295, _, _, by decide +kernel, fb_grants rfl (.inl rfl) ⟨rfl, by decide, rfl⟩ (by decide +kernel), by decide +kernel⟩,
   ⟨readyFb (fun f => { f with cast := { f.cast with jobs := [job0 4294967295], reqs := [{ num := 4294967295, tenant := 0, member := 0, step := 0, kind := 1 }] } }), job0 4294967295, rfl, by decide +kernel⟩⟩

/-- Each clause of `Obligations.RequestEffects` has a state and operands that meet its hypotheses; a clause whose only hypothesis is Ready is met by `ready`. -/
theorem witness_requestEffects :
    (∃ (u : UnitOps Ovtan) (x : Ovtan) (a : Actor) (obj : Nat), Reads u x a obj) ∧
    (∃ (u : UnitOps Ovtan) (x : Ovtan) (a : Actor) (flags : Nat) (obj : Nat) (v : Bytes), Permits u x a .rw obj v ∧ flagStage flags = false) ∧
    (∃ (a : Actor), 1 ≤ a.role.rank) ∧
    (∃ (u : UnitOps Ovtan) (x : Ovtan) (a : Actor) (id : Nat) (step : Nat), 1 ≤ a.role.rank ∧ id ≠ 0 ∧ id < 2 ^ 32 ∧ step < 2 ^ 64 ∧ (u.get x).commits.any (fun k => k.id == id) = false ∧ stepInFuture (u.get x).angle ((u.get x).kind = 0) step = true ∧ (u.pairs x (((u.get x).stageOf a).map Prod.fst)).any (fun p => !p.2 (viewWith (u.get x) ((u.get x).stageOf a))) = false ∧ (u.get x).commits.length < 16) ∧
    (∃ (u : UnitOps Ovtan) (x : Ovtan) (a : Actor) (id : Nat) (time : Nat), 1 ≤ a.role.rank ∧ id ≠ 0 ∧ id < 2 ^ 32 ∧ time / 10 ^ 9 < 2 ^ 48 ∧ (u.get x).commits.any (fun k => k.id == id) = false ∧ time ≥ (u.get x).ns + 10000 ∧ (u.pairs x (((u.get x).stageOf a).map Prod.fst)).any (fun p => !p.2 (viewWith (u.get x) ((u.get x).stageOf a))) = false ∧ (u.get x).commits.length < 16) ∧
    (∃ (u : UnitOps Ovtan) (x : Ovtan) (a : Actor) (id : Nat), 1 ≤ a.role.rank ∧ id ≠ 0 ∧ id < 2 ^ 32 ∧ (u.get x).commits.any (fun k => k.id == id) = true) :=
  ⟨⟨ovOps, ready.ov, custodian, oIdentUnitKind, reads_sound (by decide +kernel)⟩,
   ⟨ovOps, ready.ov, custodian, 0, oSessionTraceGrant, leBytes 4 86400, permits_sound (by decide +kernel), by decide +kernel⟩,
   ⟨custodian, by decide +kernel⟩,
   ⟨ovOps, (ovCore lockedAt).ov, custodian, 4294967295, 2, by decide +kernel, by decide +kernel, by decide +kernel, by decide +kernel, by decide +kernel, by decide +kernel, by decide +kernel, by decide +kernel⟩,
   ⟨ovOps, ready.ov, custodian, 4294967295, 10000, by decide +kernel, by decide +kernel, by decide +kernel, by decide +kernel, by decide +kernel, by decide +kernel, by decide +kernel, by decide +kernel⟩,
   ⟨ovOps, (ovCore (fun c => { c with commits := [commit0] })).ov, custodian, 1, by decide +kernel, by decide +kernel, by decide +kernel, by decide +kernel⟩⟩

/-- Each clause of `Obligations.DictCommandsComplete` has a state and operands that meet its hypotheses; a clause whose only hypothesis is Ready is met by `ready`. -/
theorem witness_dictCommandsComplete :
    (∃ (s : State) (e : Envelope) (reads : List ReadItem) (o : Ovtan) (a : Actor), OvAccepts s e (.read reads) o a) ∧
    (∃ (s : State) (e : Envelope) (reads : List ReadItem) (f : Fabato) (a : Actor), FbAccepts s e (.read reads) f a) ∧
    (∃ (s : State) (e : Envelope) (writes : List WriteItem) (o : Ovtan) (a : Actor), OvAccepts s e (.write writes) o a) ∧
    (∃ (s : State) (e : Envelope) (writes : List WriteItem) (f : Fabato) (a : Actor), FbAccepts s e (.write writes) f a ∧ cutWrite (.write writes) = false) ∧
    (∃ (s : State) (e : Envelope) (area : Nat) (start : Nat) (o : Ovtan) (a : Actor), OvAccepts s e (.list area start) o a ∧ loftBarred a area = false) ∧
    (∃ (s : State) (e : Envelope) (area : Nat) (start : Nat) (f : Fabato) (a : Actor), FbAccepts s e (.list area start) f a ∧ loftBarred a area = false) ∧
    (∃ (s : State) (e : Envelope) (o : Ovtan) (a : Actor), OvAccepts s e (.commit (commitBytes 0 0 0 0)) o a) ∧
    (∃ (s : State) (e : Envelope) (f : Fabato) (a : Actor), FbAccepts s e (.commit (commitBytes 0 0 0 0)) f a) ∧
    (∃ (s : State) (e : Envelope) (id : Nat) (step : Nat) (o : Ovtan) (a : Actor), OvAccepts s e (.commit (commitBytes 1 id step 0)) o a) ∧
    (∃ (s : State) (e : Envelope) (id : Nat) (step : Nat) (f : Fabato) (a : Actor), FbAccepts s e (.commit (commitBytes 1 id step 0)) f a) ∧
    (∃ (s : State) (e : Envelope) (id : Nat) (time : Nat) (o : Ovtan) (a : Actor), OvAccepts s e (.commit (commitBytes 2 id 0 time)) o a) ∧
    (∃ (s : State) (e : Envelope) (id : Nat) (time : Nat) (f : Fabato) (a : Actor), FbAccepts s e (.commit (commitBytes 2 id 0 time)) f a) ∧
    (∃ (s : State) (e : Envelope) (id : Nat) (o : Ovtan) (a : Actor), OvAccepts s e (.commit (commitBytes 3 id 0 0)) o a) ∧
    (∃ (s : State) (e : Envelope) (id : Nat) (f : Fabato) (a : Actor), FbAccepts s e (.commit (commitBytes 3 id 0 0)) f a) ∧
    (∃ (s : State) (k : _) (t : _), OvReady s ∧ s.ov.core.commits = [k] ∧ k.time = some t ∧ t ≤ s.ov.core.ns) ∧
    (∃ (s : State) (k : _) (t : _), FbReady s ∧ s.fb.core.commits = [k] ∧ k.time = some t ∧ t ≤ s.fb.core.ns) ∧
    (∃ (s : State) (e : Envelope) (o : Ovtan) (a : Actor), OvGrants s e .wo oIdentRestart (s.objBytes .ovtan oIdentRestart 1) o a) ∧
    (∃ (s : State) (e : Envelope) (f : Fabato) (a : Actor), FbGrants s e .wo oIdentRestart (s.objBytes .fabato oIdentRestart 1) f a) ∧
    (∃ (s : State) (e : Envelope) (opcode : Nat) (summary : Nat) (body : Bytes) (c : _) (w : _), FbReady s ∧ s.fb.fwd.clients.find? (fun c => c.port == e.port && c.stage == 2 && c.session == e.session) = some c ∧ e.mac = (hmac c.key (messageBytes e opcode summary body)).take 16 ∧ s.fb.fwd.pending.find? (fun w => w.out == e.port && w.msgId == e.msgId && w.opcode + 0x80 == opcode) = some w ∧ w.env.session ≠ 0) ∧
    (∃ (s : State) (w : _), FbReady s ∧ s.fb.fwd.pending = [w] ∧ s.fb.up ≥ w.deadline) :=
  ⟨⟨ready, headerOf ((.read ([{ obj := oIdentUnitKind }]))), [{ obj := oIdentUnitKind }], _, _, ov_accepts rfl rfl ⟨rfl, by decide, rfl⟩ (by decide +kernel)⟩,
   ⟨ready, headerOf ((.read ([{ obj := oIdentUnitKind }]))), [{ obj := oIdentUnitKind }], _, _, fb_accepts rfl (.inl rfl) ⟨rfl, by decide, rfl⟩ (by decide +kernel)⟩,
   ⟨ready, headerOf ((.write ([{ obj := oSessionTraceGrant, ty := 3, value := leBytes 4 1 }]))), [{ obj := oSessionTraceGrant, ty := 3, value := leBytes 4 1 }], _, _, ov_accepts rfl rfl ⟨rfl, by decide, rfl⟩ (by decide +kernel)⟩,
   ⟨ready, headerOf ((.write ([{ obj := oSessionTraceGrant, ty := 3, value := leBytes 4 1 }]))), [{ obj := oSessionTraceGrant, ty := 3, value := leBytes 4 1 }], _, _, fb_accepts rfl (.inl rfl) ⟨rfl, by decide, rfl⟩ (by decide +kernel), by decide +kernel⟩,
   ⟨ready, headerOf ((.list (1) (1))), 1, 1, _, _, ov_accepts rfl rfl ⟨rfl, by decide, rfl⟩ (by decide +kernel), by decide +kernel⟩,
   ⟨ready, headerOf ((.list (1) (1))), 1, 1, _, _, fb_accepts rfl (.inl rfl) ⟨rfl, by decide, rfl⟩ (by decide +kernel), by decide +kernel⟩,
   ⟨ready, headerOf ((.commit (commitBytes 0 0 0 0))), _, _, ov_accepts rfl rfl ⟨rfl, by decide, rfl⟩ (by decide +kernel)⟩,
   ⟨ready, headerOf ((.commit (commitBytes 0 0 0 0))), _, _, fb_accepts rfl (.inl rfl) ⟨rfl, by decide, rfl⟩ (by decide +kernel)⟩,
   ⟨ready, headerOf ((.commit (commitBytes 1 (1) (1) 0))), 1, 1, _, _, ov_accepts rfl rfl ⟨rfl, by decide, rfl⟩ (by decide +kernel)⟩,
   ⟨ready, headerOf ((.commit (commitBytes 1 (1) (1) 0))), 1, 1, _, _, fb_accepts rfl (.inl rfl) ⟨rfl, by decide, rfl⟩ (by decide +kernel)⟩,
   ⟨ready, headerOf ((.commit (commitBytes 2 (1) 0 (1)))), 1, 1, _, _, ov_accepts rfl rfl ⟨rfl, by decide, rfl⟩ (by decide +kernel)⟩,
   ⟨ready, headerOf ((.commit (commitBytes 2 (1) 0 (1)))), 1, 1, _, _, fb_accepts rfl (.inl rfl) ⟨rfl, by decide, rfl⟩ (by decide +kernel)⟩,
   ⟨ready, headerOf ((.commit (commitBytes 3 (1) 0 0))), 1, _, _, ov_accepts rfl rfl ⟨rfl, by decide, rfl⟩ (by decide +kernel)⟩,
   ⟨ready, headerOf ((.commit (commitBytes 3 (1) 0 0))), 1, _, _, fb_accepts rfl (.inl rfl) ⟨rfl, by decide, rfl⟩ (by decide +kernel)⟩,
   ⟨ovCore (fun c => { c with commits := [commit0] }), commit0, 0, rfl, by decide +kernel, by decide +kernel, by decide +kernel⟩,
   ⟨fbCore (fun c => { c with commits := [commit0] }), commit0, 0, rfl, by decide +kernel, by decide +kernel, by decide +kernel⟩,
   ⟨ready, headerOf (State.oneWrite (ready) .ovtan (oIdentRestart) (((ready).objBytes .ovtan oIdentRestart 1))), _, _, ov_grants rfl rfl ⟨rfl, by decide, rfl⟩ (by decide +kernel)⟩,
   ⟨ready, headerOf (State.oneWrite (ready) .fabato (oIdentRestart) (((ready).objBytes .fabato oIdentRestart 1))), _, _, fb_grants rfl (.inl rfl) ⟨rfl, by decide, rfl⟩ (by decide +kernel)⟩,
   ⟨readyFb (fun f => { f with fwd := { f.fwd with clients := [client0 2], pending := [forward0] } }), answer0, 0x81, 0, [], client0 2, forward0, rfl, by decide +kernel, answer0_mac, by decide +kernel, by decide +kernel⟩,
   ⟨readyFb (fun f => { f with fwd := { f.fwd with pending := [forward0] } }), forward0, rfl, by decide +kernel, by decide +kernel⟩⟩

/-- Each clause of `Obligations.SessionCommandsComplete` has a state and operands that meet its hypotheses; a clause whose only hypothesis is Ready is met by `ready`. -/
theorem witness_sessionCommandsComplete :
    (∃ (s : State) (e : Envelope) (body : Bytes), OvReady s ∧ sessionError e body.length 32 = stOk ∧ leAt body 0 1 ≤ 3 ∧ s.ov.core.helloResult e.port (Role.ofCode (leAt body 0 1)) ((leAt body 1 1).testBit 0) (leAt body 12 4) = 0) ∧
    (∃ (s : State) (e : Envelope) (body : Bytes), FbReady s ∧ sessionError e body.length 32 = stOk ∧ leAt body 0 1 ≤ 3 ∧ s.fb.core.helloResult e.port (Role.ofCode (leAt body 0 1)) ((leAt body 1 1).testBit 0) (leAt body 12 4) = 0) ∧
    (∃ (s : State) (e : Envelope) (body : Bytes) (c : Core) (h : Handshake), OvReady s ∧ c = s.ov.core.expireSessions ∧ sessionError e body.length 64 = stOk ∧ c.liveHandshakes.find? (fun h => h.id == e.session && h.port == e.port && decide (h.id ≠ 0)) = some h ∧ Core.proofResult { c with handshakes := c.liveHandshakes.filter (fun g => g.id != h.id) } h body = 0) ∧
    (∃ (s : State) (e : Envelope) (body : Bytes) (c : Core) (h : Handshake), FbReady s ∧ c = s.fb.core.expireSessions ∧ sessionError e body.length 64 = stOk ∧ c.liveHandshakes.find? (fun h => h.id == e.session && h.port == e.port && decide (h.id ≠ 0)) = some h ∧ Core.proofResult { c with handshakes := c.liveHandshakes.filter (fun g => g.id != h.id) } h body = 0) ∧
    (∃ (s : State) (e : Envelope) (x : Session × Core), OvReady s ∧ s.ov.core.expireSessions.authenticate e 0x12 [] = some x ∧ sessionError e 0 0 = stOk) ∧
    (∃ (s : State) (e : Envelope) (x : Session × Core), FbReady s ∧ s.fb.core.expireSessions.authenticate e 0x12 [] = some x ∧ sessionError e 0 0 = stOk) ∧
    (∃ (s : State) (e : Envelope) (id : Nat) (o : Ovtan) (a : Actor), id < 2 ^ 32 ∧ OvGrants s e .wo oSessionCloseSession (s.objBytes .ovtan oSessionCloseSession id) o a ∧ o.core.sessions.any (fun n => n.id == id) = true) ∧
    (∃ (s : State) (e : Envelope) (id : Nat) (f : Fabato) (a : Actor), id < 2 ^ 32 ∧ FbGrants s e .wo oSessionCloseSession (s.objBytes .fabato oSessionCloseSession id) f a ∧ f.core.sessions.any (fun n => n.id == id) = true) ∧
    (∃ (s : State) (port : Port) (role : Role) (t : _), OvReady s ∧ (s.ov.core.lockOf port role).until? = some t ∧ s.ov.core.up ≥ t) ∧
    (∃ (s : State) (port : Port) (role : Role) (t : _), FbReady s ∧ (s.fb.core.lockOf port role).until? = some t ∧ s.fb.core.up ≥ t) ∧
    (∃ (s : State) (body : Bytes) (port : Port) (c : LinkClient), FbReady s ∧ s.fb.fwd.clients.find? (fun c => c.port == port && c.stage == 0 && c.role.rank == leAt body 0 1) = some c ∧ body.length = 64 ∧ leAt body 1 1 = 0) ∧
    (∃ (s : State) (e : Envelope) (seconds : Nat) (o : Ovtan) (a : Actor), seconds ≠ 0 ∧ seconds ≤ 86400 ∧ OvGrants s e .rw oSessionTraceGrant (s.objBytes .ovtan oSessionTraceGrant seconds) o a) ∧
    (∃ (s : State) (t : _), OvReady s ∧ s.ov.trace.grantEnd = some t ∧ s.ov.core.up ≥ t) :=
  ⟨⟨ovCore (fun c => { c with keys := { c.keys with roles := List.replicate 4 (List.replicate 32 1) } }), { port := .mailbox, paths := [0xFFFFFFFF], bodyLen := 32 }, zeros 32, rfl, by decide +kernel, by decide +kernel, by decide +kernel⟩,
   ⟨fbCore (fun c => { c with keys := { c.keys with roles := List.replicate 4 (List.replicate 32 1) } }), { port := .mailbox, paths := [0xFFFFFFFF], bodyLen := 32 }, zeros 32, rfl, by decide +kernel, by decide +kernel, by decide +kernel⟩,
   ⟨ovCore (fun c => { c with keys := { c.keys with roles := List.replicate 4 (List.replicate 32 1) }, handshakes := [shake0] }), { port := .mailbox, paths := [0xFFFFFFFF], session := 9, bodyLen := 64 }, clientProof (List.replicate 32 1) [] ++ zeros 32, _, shake0, rfl, rfl, by decide +kernel, by decide +kernel, by decide +kernel⟩,
   ⟨fbCore (fun c => { c with keys := { c.keys with roles := List.replicate 4 (List.replicate 32 1) }, handshakes := [shake0] }), { port := .mailbox, paths := [0xFFFFFFFF], session := 9, bodyLen := 64 }, clientProof (List.replicate 32 1) [] ++ zeros 32, _, shake0, rfl, rfl, by decide +kernel, by decide +kernel, by decide +kernel⟩,
   ⟨ready, header 0x12 [], _, rfl, authentic rfl (by decide) 0x12 [], by decide +kernel⟩,
   ⟨ready, header 0x12 [], _, rfl, authentic rfl (by decide) 0x12 [], by decide +kernel⟩,
   ⟨ready, headerOf (State.oneWrite (ready) .ovtan (oSessionCloseSession) (((ready).objBytes .ovtan oSessionCloseSession (1)))), 1, _, _, by decide +kernel, ov_grants rfl rfl ⟨rfl, by decide, rfl⟩ (by decide +kernel), by decide +kernel⟩,
   ⟨ready, headerOf (State.oneWrite (ready) .fabato (oSessionCloseSession) (((ready).objBytes .fabato oSessionCloseSession (1)))), 1, _, _, by decide +kernel, fb_grants rfl (.inl rfl) ⟨rfl, by decide, rfl⟩ (by decide +kernel), by decide +kernel⟩,
   ⟨ovCore (fun c => { c with locks := [{ port := .mailbox, role := .custodian, fails := 0, k := 1, until? := some 0 }] }), .mailbox, .custodian, 0, rfl, by decide +kernel, by decide +kernel⟩,
   ⟨fbCore (fun c => { c with locks := [{ port := .mailbox, role := .custodian, fails := 0, k := 1, until? := some 0 }] }), .mailbox, .custodian, 0, rfl, by decide +kernel, by decide +kernel⟩,
   ⟨readyFb (fun f => { f with fwd := { f.fwd with clients := [client0 0] } }), zeros 64, .sky 0, client0 0, rfl, by decide +kernel, by decide +kernel, by decide +kernel⟩,
   ⟨ready, headerOf (State.oneWrite (ready) .ovtan (oSessionTraceGrant) (((ready).objBytes .ovtan oSessionTraceGrant (86400)))), 86400, _, _, by decide +kernel, by decide +kernel, ov_grants rfl rfl ⟨rfl, by decide, rfl⟩ (by decide +kernel)⟩,
   ⟨readyOv (fun o => { o with trace := { o.trace with grantEnd := some 0 } }), 0, rfl, by decide +kernel, by decide +kernel⟩⟩

/-- Each clause of `Obligations.DrizzleLaneCommandsComplete` has a state and operands that meet its hypotheses; a clause whose only hypothesis is Ready is met by `ready`. -/
theorem witness_drizzleLaneCommandsComplete :
    (∃ s : State, OvReady s ∧ s.ov.link.lane.phy.state = .train) ∧
    (∃ (s : State) (n : Nat) (k : FabLane), Tray s n k ∧ k.lane.phy.state = .train) ∧
    (∃ s : State, OvReady s ∧ s.ov.link.lane.phy.state = .train ∧ s.ov.core.up ≥ s.ov.link.lane.phy.since + 15000000) ∧
    (∃ (s : State) (n : Nat) (k : FabLane), Tray s n k ∧ k.lane.phy.state = .train ∧ s.fb.core.up ≥ k.lane.phy.since + 15000000) ∧
    (∃ s : State, OvReady s ∧ s.ov.link.lane.phy.state = .align ∧ s.ov.core.up ≥ s.ov.link.lane.phy.since + 1000000) ∧
    (∃ (s : State) (n : Nat) (k : FabLane), Tray s n k ∧ k.lane.phy.state = .align ∧ s.fb.core.up ≥ k.lane.phy.since + 1000000) ∧
    (∃ s : State, OvReady s ∧ s.ov.link.lane.phy.state = .retrain) ∧
    (∃ (s : State) (n : Nat) (k : FabLane), Tray s n k ∧ k.lane.phy.state = .retrain) ∧
    (∃ s : State, OvReady s ∧ s.ov.link.lane.phy.state = .retrain ∧ s.ov.core.up ≥ s.ov.link.lane.phy.since + 1000000) ∧
    (∃ (s : State) (n : Nat) (k : FabLane), Tray s n k ∧ k.lane.phy.state = .retrain ∧ s.fb.core.up ≥ k.lane.phy.since + 1000000) ∧
    (∃ s : State, OvReady s ∧ True) ∧
    (∃ (s : State) (n : Nat) (k : FabLane), Tray s n k ∧ True) ∧
    (∃ s : State, OvReady s ∧ s.ov.link.lane.phy.state = .hello) ∧
    (∃ (s : State) (n : Nat) (k : FabLane), Tray s n k ∧ k.lane.phy.state = .hello) ∧
    (∃ s : State, OvReady s ∧ s.ov.link.lane.phy.state = .hello) ∧
    (∃ (s : State) (n : Nat) (k : FabLane), Tray s n k ∧ k.lane.phy.state = .hello) ∧
    (∃ s : State, OvReady s ∧ s.ov.link.lane.phy.state = .up ∧ s.ov.link.lane.tx.retry ≠ [] ∧ s.ov.core.up ≥ s.ov.link.lane.tx.progressAt + 2000) ∧
    (∃ (s : State) (n : Nat) (k : FabLane), Tray s n k ∧ k.lane.phy.state = .up ∧ k.lane.tx.retry ≠ [] ∧ s.fb.core.up ≥ k.lane.tx.progressAt + 2000) ∧
    (∃ (s : State) (hdr : Nat) (symbols : Nat) (uncorr : Nat) (l : Lane) (x : Ovtan), OvReady s ∧ l = { s.ov.link.lane with phy := s.ov.link.lane.phy.block hdr (decide (uncorr > 0)) } ∧ (s.ov.link.lane.phy.state = .hello ∨ (s.ov.link.lane.phy.state = .up ∧ l.phy.lock = true)) ∧ x = s.ov.withLane ((s.ov.core.count (oLinkDzFecSymbols + 1) symbols).count (oLinkDzFecUncorr + 1) uncorr, l)) ∧
    (∃ (s : State) (n : Nat) (hdr : Nat) (symbols : Nat) (uncorr : Nat) (k : FabLane) (l : Lane) (x : Fabato), Tray s n k ∧ l = { k.lane with phy := k.lane.phy.block hdr (decide (uncorr > 0)) } ∧ (k.lane.phy.state = .hello ∨ (k.lane.phy.state = .up ∧ l.phy.lock = true)) ∧ x = s.fb.withLane n k ((s.fb.core.count (oLinkDzFecSymbols + n + 1) symbols).count (oLinkDzFecUncorr + n + 1) uncorr, l)) ∧
    (∃ (s : State) (e : Envelope) (n : Nat) (o : Ovtan) (a : Actor), n < 2 ^ 32 ∧ OvGrants s e .wo oLinkDzForceRetrain (s.objBytes .ovtan oLinkDzForceRetrain n) o a ∧ o.link.lane.phy.state = .up) ∧
    (∃ (s : State) (e : Envelope) (n : Nat) (k : FabLane) (f : Fabato) (a : Actor), n < 136 ∧ FbGrants s e .wo oLinkDzForceRetrain (s.objBytes .fabato oLinkDzForceRetrain n) f a ∧ (f.g.lanes[n]? = some k ∧ k.lane.phy.state = .up)) ∧
    (∃ (s : State), OvReady s ∧ s.ov.link.lane.phy.state = .up) ∧
    (∃ (s : State) (n : Nat) (k : FabLane), Tray s n k ∧ k.lane.phy.state = .up ∧ (k.lane.down s.fb.core.up s.fb.core.ns).phy.state ≠ .up) :=
  ⟨⟨atLanes (laneIn .train) (0), rfl, by decide +kernel⟩,
   ⟨atLanes (laneIn .train) (0), 0, _, ⟨rfl, rfl, rfl⟩, by decide +kernel⟩,
   ⟨atLanes (laneIn .train) (15000000), rfl, by decide +kernel⟩,
   ⟨atLanes (laneIn .train) (15000000), 0, _, ⟨rfl, rfl, rfl⟩, by decide +kernel⟩,
   ⟨atLanes (laneIn .align) (1000000), rfl, by decide +kernel⟩,
   ⟨atLanes (laneIn .align) (1000000), 0, _, ⟨rfl, rfl, rfl⟩, by decide +kernel⟩,
   ⟨atLanes (laneIn .retrain) (0), rfl, by decide +kernel⟩,
   ⟨atLanes (laneIn .retrain) (0), 0, _, ⟨rfl, rfl, rfl⟩, by decide +kernel⟩,
   ⟨atLanes (laneIn .retrain) (1000000), rfl, by decide +kernel⟩,
   ⟨atLanes (laneIn .retrain) (1000000), 0, _, ⟨rfl, rfl, rfl⟩, by decide +kernel⟩,
   ⟨atLanes (laneIn .up) (0), rfl, by decide +kernel⟩,
   ⟨atLanes (laneIn .up) (0), 0, _, ⟨rfl, rfl, rfl⟩, by decide +kernel⟩,
   ⟨atLanes (laneIn .hello) (0), rfl, by decide +kernel⟩,
   ⟨atLanes (laneIn .hello) (0), 0, _, ⟨rfl, rfl, rfl⟩, by decide +kernel⟩,
   ⟨atLanes (laneIn .hello) (0), rfl, by decide +kernel⟩,
   ⟨atLanes (laneIn .hello) (0), 0, _, ⟨rfl, rfl, rfl⟩, by decide +kernel⟩,
   ⟨atLanes ({ laneIn .up with tx := { (laneIn .up).tx with retry := [flit0] } }) (2000), rfl, by decide +kernel⟩,
   ⟨atLanes ({ laneIn .up with tx := { (laneIn .up).tx with retry := [flit0] } }) (2000), 0, _, ⟨rfl, rfl, rfl⟩, by decide +kernel⟩,
   ⟨atLanes (laneIn .hello) 0, 1, 1, 1, _, _, rfl, rfl, by decide +kernel, rfl⟩,
   ⟨atLanes (laneIn .hello) 0, 0, 1, 1, 1, laneK (laneIn .hello), _, _, ⟨rfl, rfl, rfl⟩, rfl, by decide +kernel, rfl⟩,
   ⟨atLanes (laneIn .up) 0, headerOf (State.oneWrite (atLanes (laneIn .up) 0) .ovtan (oLinkDzForceRetrain) (((atLanes (laneIn .up) 0).objBytes .ovtan oLinkDzForceRetrain (0)))), 0, _, _, by decide +kernel, ov_grants rfl rfl ⟨rfl, by decide, rfl⟩ (by decide +kernel), by decide +kernel⟩,
   ⟨atLanes (laneIn .up) 0, headerOf (State.oneWrite (atLanes (laneIn .up) 0) .fabato (oLinkDzForceRetrain) (((atLanes (laneIn .up) 0).objBytes .fabato oLinkDzForceRetrain (135)))), 135, _, _, _, by decide +kernel, fb_grants rfl (.inl rfl) ⟨rfl, by decide, rfl⟩ (by decide +kernel), ⟨rfl, rfl⟩⟩,
   ⟨atLanes (laneIn .up) 0, rfl, by decide +kernel⟩,
   ⟨atLanes (laneIn .up) 0, 0, laneK (laneIn .up), ⟨rfl, rfl, rfl⟩, by decide +kernel, by decide +kernel⟩⟩

/-- Each clause of `Obligations.DrizzleFlitCommandsComplete` has a state and operands that meet its hypotheses; a clause whose only hypothesis is Ready is met by `ready`. -/
theorem witness_drizzleFlitCommandsComplete :
    (∃ (s : State) (b : Bytes) (l : Lane), OvReady s ∧ s.ov.link.lane.phy.state = .up ∧ flitGood b = true ∧ (flitHead b).kind = 0 ∧ l = (if (flitHead b).ackValid then { s.ov.link.lane with tx := s.ov.link.lane.tx.acked (flitHead b).ack (flitHead b).nak s.ov.core.up } else s.ov.link.lane).acceptData (flitHead b).seq (flitHead b).old (slice b 4 248) s.ov.core.ns) ∧
    (∃ (s : State) (n : Nat) (b : Bytes) (k : FabLane) (l : Lane), Tray s n k ∧ k.lane.phy.state = .up ∧ flitGood b = true ∧ (flitHead b).kind = 0 ∧ l = (if (flitHead b).ackValid then { k.lane with tx := k.lane.tx.acked (flitHead b).ack (flitHead b).nak s.fb.core.up } else k.lane).acceptData (flitHead b).seq (flitHead b).old (slice b 4 248) s.fb.core.ns) ∧
    (∃ (s : State) (b : Bytes), OvReady s ∧ s.ov.link.lane.phy.state = .up ∧ flitGood b = false) ∧
    (∃ (s : State), OvReady s ∧ s.ov.link.lane.phy.state = .up) ∧
    (∃ (s : State) (item : Nat), OvReady s ∧ s.ov.link.lane.phy.state = .hello ∧ item.testBit 16 = false) ∧
    (∃ (s : State) (item : Nat) (l : Lane), OvReady s ∧ s.ov.link.lane.phy.state = .hello ∧ item.testBit 16 = true ∧ l = { s.ov.link.lane with phy := { s.ov.link.lane.phy with peerInfo := leBytes 16 (item / 256 * 256 + 7), echo := true } }) ∧
    (∃ (s : State) (n : Nat) (item : Nat) (k : FabLane), Tray s n k ∧ k.lane.phy.state = .hello ∧ item.testBit 16 = false) ∧
    (∃ (s : State) (slot0 : Bool), OvReady s ∧ (s.ov.link.lane.phy.state = .align ∨ s.ov.link.lane.phy.state = .hello ∨ (s.ov.link.lane.phy.state = .up ∧ s.ov.link.lane.controlDue (s.ov.core.num oLinkACredits) slot0 = true))) ∧
    (∃ (s : State) (slot0 : Bool), OvReady s ∧ s.ov.link.lane.phy.state = .up ∧ s.ov.link.lane.controlDue (s.ov.core.num oLinkACredits) slot0 = false ∧ s.ov.link.lane.resendOne = none) ∧
    (∃ (s : State) (slot0 : Bool) (x : Flit) (l : Lane), OvReady s ∧ s.ov.link.lane.phy.state = .up ∧ s.ov.link.lane.controlDue (s.ov.core.num oLinkACredits) slot0 = false ∧ s.ov.link.lane.resendOne = some (x, l) ∧ x.sends ≤ s.ov.core.num oLinkDzRetryLimit) ∧
    (∃ (s : State) (n : Nat) (slot0 : Bool) (k : FabLane), Tray s n k ∧ (k.lane.phy.state = .align ∨ k.lane.phy.state = .hello ∨ (k.lane.phy.state = .up ∧ k.lane.controlDue (s.fb.core.num oLinkACredits) slot0 = true))) ∧
    (∃ (s : State) (n : Nat) (slot0 : Bool) (k : FabLane) (x : Flit) (l : Lane), Tray s n k ∧ k.lane.phy.state = .up ∧ k.lane.controlDue (s.fb.core.num oLinkACredits) slot0 = false ∧ k.lane.resendOne = some (x, l) ∧ x.sends ≤ s.fb.core.num oLinkDzRetryLimit) ∧
    (∃ (s : State) (t : Nat) (r : Ovtan × Nat), OvReady s ∧ s.ov.link.lane.phy.downAt = some t ∧ s.ov.link.spillRaised = false ∧ s.ov.core.up ≥ t + 1000 * s.ov.core.num oLinkSpillAfter ∧ r = ({ s.ov with link := { s.ov.link with spillRaised := true } } : Ovtan).spillAll) :=
  ⟨⟨atLanes (laneIn .up) 0, goodFlit, _, rfl, by decide +kernel, goodFlit_good, goodFlit_kind, rfl⟩,
   ⟨atLanes (laneIn .up) 0, 0, goodFlit, laneK (laneIn .up), _, ⟨rfl, rfl, rfl⟩, by decide +kernel, goodFlit_good, goodFlit_kind, rfl⟩,
   ⟨atLanes (laneIn .up) 0, [0], rfl, by decide +kernel, by decide +kernel⟩,
   ⟨atLanes (laneIn .up) 0, rfl, by decide +kernel⟩,
   ⟨atLanes (laneIn .hello) 0, 0, rfl, by decide +kernel, by decide +kernel⟩,
   ⟨atLanes (laneIn .hello) 0, 65536, _, rfl, by decide +kernel, by decide +kernel, rfl⟩,
   ⟨atLanes (laneIn .hello) 0, 0, 0, laneK (laneIn .hello), ⟨rfl, rfl, rfl⟩, by decide +kernel, by decide +kernel⟩,
   ⟨atLanes (laneIn .hello) 0, false, rfl, by decide +kernel⟩,
   ⟨atLanes (laneIn .up) 0, false, rfl, by decide +kernel, by decide +kernel, by decide +kernel⟩,
   ⟨atLanes { laneIn .up with tx := { (laneIn .up).tx with retry := [flit0], resend := some 0 } } 0, false, _, _, rfl, by decide +kernel, by decide +kernel, rfl, by decide +kernel⟩,
   ⟨atLanes (laneIn .hello) 0, 0, false, laneK (laneIn .hello), ⟨rfl, rfl, rfl⟩, by decide +kernel⟩,
   ⟨atLanes { laneIn .up with tx := { (laneIn .up).tx with retry := [flit0], resend := some 0 } } 0, 0, false, laneK { laneIn .up with tx := { (laneIn .up).tx with retry := [flit0], resend := some 0 } }, _, _, ⟨rfl, rfl, rfl⟩, by decide +kernel, by decide +kernel, rfl, by decide +kernel⟩,
   ⟨ovAt (10 ^ 17) (fun o => { o with link := { o.link with lane := { o.link.lane with phy := { o.link.lane.phy with downAt := some 0 } } } }), 0, _, rfl, by decide +kernel, by decide +kernel, by decide +kernel, rfl⟩⟩

/-- Each clause of `Obligations.FenceCommandsComplete` has a state and operands that meet its hypotheses; a clause whose only hypothesis is Ready is met by `ready`. -/
theorem witness_fenceCommandsComplete :
    (∃ (s : State), FbReady s ∧ 2 ≤ s.fb.core.kind ∧ s.fb.core.hasBucket = true ∧ s.fb.fen.suspicion = 0 ∧ s.fb.takeToken.2 = true ∧ s.fb.core.isRoot = true) ∧
    (∃ (s : State), FbReady s ∧ 2 ≤ s.fb.core.kind ∧ s.fb.core.hasBucket = true ∧ s.fb.fen.suspicion = 0 ∧ s.fb.takeToken.2 = true ∧ s.fb.core.isRoot = false) ∧
    (∃ (s : State), FbReady s ∧ 2 ≤ s.fb.core.kind ∧ s.fb.core.hasBucket = true ∧ s.fb.fen.suspicion = 0 ∧ s.fb.takeToken.2 = false) ∧
    (∃ (s : State), FbReady s ∧ 2 ≤ s.fb.core.kind ∧ s.fb.core.hasBucket = true ∧ s.fb.fen.suspicion ≠ 0) ∧
    (∃ (s : State) (sender : Nat) (first : Record) (second : Record) (p : Nat) (r : TokenReq), FbReady s ∧ s.fb.core.kind = 1 ∧ p = first.payload.toNat ∧ s.fb.core.fenceMac first sender = second.payload.toNat ∧ bitsOf p 63 56 = 0x52 ∧ bitsOf p 47 40 = 0 ∧ s.fb.fen.reqs.find? (fun r => r.path == bitsOf p 127 96 && r.num == bitsOf p 95 64) = some r) ∧
    (∃ (s : State) (sender : Nat) (first : Record) (second : Record) (p : Nat) (m : Nat), FbReady s ∧ s.fb.core.kind = 1 ∧ p = first.payload.toNat ∧ s.fb.core.fenceMac first sender = second.payload.toNat ∧ bitsOf p 63 56 = 0x53 ∧ bitsOf p 47 40 = 1 ∧ memberOf s.fb.core.path (bitsOf p 127 96) = some m) ∧
    (∃ (s : State) (sender : Nat) (first : Record) (second : Record) (p : Nat), FbReady s ∧ p = first.payload.toNat ∧ s.fb.core.fenceMac first sender = second.payload.toNat ∧ bitsOf p 63 56 = 0x55) ∧
    (∃ (s : State) (e : Envelope) (f : Fabato) (a : Actor), FbGrants s e .rw oFenceSuspicion (s.objBytes .fabato oFenceSuspicion 0) f a) ∧
    (∃ (s : State) (e : Envelope) (member : Nat) (f : Fabato) (a : Actor), member < 128 ∧ FbGrants s e .wo oFenceRelease (s.objBytes .fabato oFenceRelease member) f a ∧ (f.fen.fenced.testBit member = true ∧ f.entryOf member = none)) ∧
    (∃ (s : State) (e : Envelope) (member : Nat) (x : _) (f : Fabato) (a : Actor), member < 128 ∧ FbGrants s e .wo oFenceRelease (s.objBytes .fabato oFenceRelease member) f a ∧ (f.fen.fenced.testBit member = true ∧ ({ f with fen := { f.fen with fenced := f.fen.fenced ^^^ 2 ^ member } } : Fabato).entryOf member = some x ∧ x.state = 1)) ∧
    (∃ (s : State) (e : Envelope) (member : Nat) (f : Fabato) (a : Actor), member < 128 ∧ FbGrants s e .wo oFenceForce (s.objBytes .fabato oFenceForce member) f a ∧ ((f.entryOf member).isSome = true ∧ f.fen.fenced.testBit member = false)) ∧
    (∃ (s : State) (e : Envelope) (value : Nat) (f : Fabato) (a : Actor), value < 2 ^ 64 ∧ FbGrants s e .wo (oFenceKatResult + 2) (s.objBytes .fabato (oFenceKatResult + 2) value) f a ∧ f.fen.kats.any (fun k => k.num == value / 2 ^ 32 && k.path == value % 2 ^ 32 && k.result.isNone) = true) ∧
    (∃ (s : State) (e : Envelope) (value : Nat) (f : Fabato) (a : Actor), value < 2 ^ 64 ∧ FbGrants s e .wo (oFenceKatResult + 1) (s.objBytes .fabato (oFenceKatResult + 1) value) f a ∧ f.fen.kats.any (fun k => k.num == value / 2 ^ 32 && k.path == value % 2 ^ 32 && k.result.isNone) = true) ∧
    (∃ (s : State) (k : VoteKey), FbReady s ∧ s.fb.fen.votes = [k] ∧ s.fb.up ≥ k.at_ + s.fb.core.voteTimeout k.id) ∧
    (∃ (s : State) (r : TokenReq), FbReady s ∧ s.fb.core.kind = 1 ∧ s.fb.fen.reqs = [r] ∧ s.fb.up ≥ r.at_ + 1000 * s.fb.core.num oFenceGrantTimeout) ∧
    (∃ (s : State) (k : Kat), FbReady s ∧ s.fb.fen.kats = [k] ∧ k.result = none ∧ k.timedOut = false ∧ s.fb.up ≥ k.at_ + 1000000000 * s.fb.core.num oFenceKatTimeout) ∧
    (∃ (s : State), FbReady s ∧ s.fb.fen.failed = false ∧ s.fb.fen.halted = none ∧ s.fb.fen.reqs = [] ∧ s.fb.divergedNow = []) ∧
    (∃ (s : State), FbReady s ∧ s.fb.fen.halted.isSome = true) :=
  ⟨⟨fbKind 2 (fun f => { f.onCore (fun c => { c with store := [(oFenceBudget, [6])] }) with fen := tokens (2 ^ 34) f.fen }), rfl, by decide +kernel, by decide +kernel, by decide +kernel, by decide +kernel, by decide +kernel⟩,
   ⟨fbKind 2 (fun f => { f.onCore (fun c => { c with store := child ++ [(oFenceBudget, [6])] }) with fen := tokens (2 ^ 34) f.fen }), rfl, by decide +kernel, by decide +kernel, by decide +kernel, by decide +kernel, by decide +kernel⟩,
   ⟨fbKind 2 (fun f => { f with fen := tokens 0 f.fen }), rfl, by decide +kernel, by decide +kernel, by decide +kernel, by decide +kernel⟩,
   ⟨fbKind 2 (fun f => { f with fen := { f.fen with suspicion := 1 } }), rfl, by decide +kernel, by decide +kernel, by decide +kernel⟩,
   ⟨fbFen (fun p => { p with reqs := [req0] }), 0, exch1 (0x52 * 2 ^ 56 + 1 * 2 ^ 64), exch2 (fbFen (fun p => { p with reqs := [req0] })).fb.core (0x52 * 2 ^ 56 + 1 * 2 ^ 64), 0x52 * 2 ^ 56 + 1 * 2 ^ 64, req0, rfl, by decide +kernel, rfl, exch_mac .., by decide +kernel, by decide +kernel, by decide +kernel⟩,
   ⟨ready, 0, exch1 (0x53 * 2 ^ 56 + 1 * 2 ^ 40), exch2 ready.fb.core (0x53 * 2 ^ 56 + 1 * 2 ^ 40), 0x53 * 2 ^ 56 + 1 * 2 ^ 40, 0, rfl, by decide +kernel, by decide +kernel, exch_mac .., by decide +kernel, by decide +kernel, by decide +kernel⟩,
   ⟨ready, 0, exch1 (0x55 * 2 ^ 56), exch2 ready.fb.core (0x55 * 2 ^ 56), 0x55 * 2 ^ 56, rfl, by decide +kernel, exch_mac .., by decide +kernel⟩,
   ⟨ready, headerOf (State.oneWrite (ready) .fabato (oFenceSuspicion) (((ready).objBytes .fabato oFenceSuspicion 0))), _, _, fb_grants rfl (.inl rfl) ⟨rfl, by decide, rfl⟩ (by decide +kernel)⟩,
   ⟨fbFen (fun p => { p with fenced := 2 ^ 127 }), headerOf (State.oneWrite (fbFen (fun p => { p with fenced := 2 ^ 127 })) .fabato (oFenceRelease) (((fbFen (fun p => { p with fenced := 2 ^ 127 })).objBytes .fabato oFenceRelease (127)))), 127, _, _, by decide +kernel, fb_grants rfl (.inl rfl) ⟨rfl, by decide, rfl⟩ (by decide +kernel), by decide +kernel⟩,
   ⟨readyFb (fun f => { f with fen := { f.fen with fenced := 1 }, hor := { f.hor with roster := [member0] } }), headerOf (State.oneWrite (readyFb (fun f => { f with fen := { f.fen with fenced := 1 }, hor := { f.hor with roster := [member0] } })) .fabato (oFenceRelease) (((readyFb (fun f => { f with fen := { f.fen with fenced := 1 }, hor := { f.hor with roster := [member0] } })).objBytes .fabato oFenceRelease (0)))), 0, member0, _, _, by decide +kernel, fb_grants rfl (.inl rfl) ⟨rfl, by decide, rfl⟩ (by decide +kernel), by decide +kernel⟩,
   ⟨fbHor [member0], headerOf (State.oneWrite (fbHor [member0]) .fabato (oFenceForce) (((fbHor [member0]).objBytes .fabato oFenceForce (0)))), 0, _, _, by decide +kernel, fb_grants rfl (.inl rfl) ⟨rfl, by decide, rfl⟩ (by decide +kernel), by decide +kernel⟩,
   ⟨fbFen (fun p => { p with kats := [kat0] }), headerOf (State.oneWrite (fbFen (fun p => { p with kats := [kat0] })) .fabato ((oFenceKatResult + 2)) (((fbFen (fun p => { p with kats := [kat0] })).objBytes .fabato (oFenceKatResult + 2) (18446744073709551615)))), 18446744073709551615, _, _, by decide +kernel, fb_grants rfl (.inl rfl) ⟨rfl, by decide, rfl⟩ (by decide +kernel), by decide +kernel⟩,
   ⟨fbFen (fun p => { p with kats := [kat0] }), headerOf (State.oneWrite (fbFen (fun p => { p with kats := [kat0] })) .fabato ((oFenceKatResult + 1)) (((fbFen (fun p => { p with kats := [kat0] })).objBytes .fabato (oFenceKatResult + 1) (18446744073709551615)))), 18446744073709551615, _, _, by decide +kernel, fb_grants rfl (.inl rfl) ⟨rfl, by decide, rfl⟩ (by decide +kernel), by decide +kernel⟩,
   ⟨fbFen (fun p => { p with votes := [vote0] }), vote0, rfl, by decide +kernel, by decide +kernel⟩,
   ⟨fbFen (fun p => { p with reqs := [req0] }), req0, rfl, by decide +kernel, by decide +kernel, by decide +kernel⟩,
   ⟨fbFen (fun p => { p with kats := [kat0] }), kat0, rfl, by decide +kernel, by decide +kernel, by decide +kernel, by decide +kernel⟩,
   ⟨ready, rfl, by decide +kernel, by decide +kernel, by decide +kernel, by decide +kernel⟩,
   ⟨fbFen (fun p => { p with halted := some 0 }), rfl, by decide +kernel⟩⟩

/-- Each clause of `Obligations.FirmwareCommandsComplete` has a state and operands that meet its hypotheses, where the signature of `fwImage` is taken as good: what `Config.imageVerifies` answers no one can say. -/
theorem witness_firmwareCommandsComplete (hv : Verifies) :
    (∃ (s : State), s.fb.board.boot = 1 ∧ s.fb.fw.recovering = false ∧ s.fb.fw.open_ = false ∧ s.fb.fw.torn = false ∧ s.fb.imageCheck false s.fb.fw.flash = 0) ∧
    (∃ (s : State) (image : Bytes), s.fb.board.boot = 1 ∧ s.fb.fw.recovering = false ∧ s.fb.fw.open_ = true ∧ s.fb.imageCheck false image ≠ 0) ∧
    (∃ (s : State) (image : Bytes) (source : Nat), s.fb.board.boot = 1 ∧ s.fb.fw.recovering = true ∧ s.fb.fw.waiting = false ∧ s.fb.fw.source = source ∧ s.fb.imageCheck false image = 0) ∧
    (∃ (s : State), s.fb.board.boot = 2) ∧
    (∃ (s : State) (e : Envelope) (chunk : Bytes) (f : Fabato) (a : Actor), FbGrants s e .wo oFwLoad chunk f a ∧ (f.fw.stage ≠ 4 ∧ 4 ≤ chunk.length ∧ leAt chunk 0 4 + (chunk.length - 4) ≤ imageLimit)) ∧
    (∃ (s : State) (e : Envelope) (f : Fabato) (a : Actor), FbGrants s e .wo oFwCtrl (s.objBytes .fabato oFwCtrl 1) f a ∧ (f.fw.stage ≠ 4 ∧ f.imageCheck false f.fw.staging = 0)) ∧
    (∃ (s : State) (e : Envelope) (f : Fabato) (a : Actor), FbGrants s e .wo oFwCtrl (s.objBytes .fabato oFwCtrl 2) f a ∧ f.fw.stage = 2) ∧
    (∃ (s : State) (e : Envelope) (f : Fabato) (a : Actor), FbGrants s e .wo oFwCtrl (s.objBytes .fabato oFwCtrl 3) f a ∧ (f.fw.stage ≠ 4 ∧ f.core.isRoot = false)) ∧
    (∃ (s : State) (e : Envelope) (f : Fabato) (a : Actor), FbGrants s e .wo oFwCtrl (s.objBytes .fabato oFwCtrl 4) f a ∧ f.fw.stage ≠ 4) ∧
    (∃ (s : State) (image : Bytes), FbReady s ∧ s.fb.fw.fetching = true ∧ s.fb.imageCheck false (image.take imageLimit) = 0) ∧
    (∃ (s : State) (image : Bytes), FbReady s ∧ s.fb.fw.stage = 4 ∧ image.length ≥ 256 ∧ slice image 0 256 = slice s.fb.fw.staging 0 256 ∧ sha384 (imageBody image) = (imageHead s.fb.fw.staging).digest) ∧
    (∃ (s : State) (e : Envelope) (f : Fabato) (a : Actor), FbGrants s e .wo oFwKeyRevoke (s.objBytes .fabato oFwKeyRevoke 1) f a) ∧
    (∃ (s : State), s.fb.board.boot = 1 ∧ s.fb.fw.recovering = true ∧ s.fb.fw.waiting = false ∧ s.fb.up ≥ s.fb.fw.since + 5 * secNs) ∧
    (∃ (s : State), s.fb.board.boot = 1 ∧ s.fb.fw.recovering = true ∧ s.fb.fw.waiting = true ∧ s.fb.up ≥ s.fb.fw.since + 10 * secNs) ∧
    (∃ (s : State) (t : Nat), FbReady s ∧ s.fb.fw.activate = some t ∧ s.fb.up ≥ t + 100000000 ∧ s.fb.core.flag oFwActivateForce = false) ∧
    (∃ (s : State) (t : Nat), FbReady s ∧ s.fb.fw.activate = some t ∧ s.fb.up ≥ t + 100000000 ∧ s.fb.core.flag oFwActivateForce = true) :=
  ⟨⟨fbFw 1 (fun x => { x with flash := fwImage, open_ := false, torn := false, recovering := false }), by decide +kernel, by decide +kernel, by decide +kernel, by decide +kernel, fwImage_good hv⟩,
   ⟨fbFw 1 (fun x => { x with open_ := true, recovering := false }), [], by decide +kernel, by decide +kernel, by decide +kernel, by decide +kernel⟩,
   ⟨fbFw 1 (fun x => { x with recovering := true, waiting := false, source := 3 }), fwImage, 3, by decide +kernel, by decide +kernel, by decide +kernel, by decide +kernel, fwImage_good hv⟩,
   ⟨fbFw 2 id, by decide +kernel⟩,
   ⟨ready, headerOf (State.oneWrite (ready) .fabato (oFwLoad) ((leBytes 4 0 ++ [1]))), leBytes 4 0 ++ [1], _, _, fb_grants rfl (.inl rfl) ⟨rfl, by decide, rfl⟩ (by decide +kernel), by decide +kernel⟩,
   ⟨fbFw 3 (fun x => { x with staging := fwImage }), headerOf (State.oneWrite (fbFw 3 (fun x => { x with staging := fwImage })) .fabato (oFwCtrl) (((fbFw 3 (fun x => { x with staging := fwImage })).objBytes .fabato oFwCtrl 1))), _, _, fb_grants rfl (.inl rfl) ⟨rfl, by decide, rfl⟩ (by decide +kernel), ⟨by decide +kernel, fwImage_good hv⟩⟩,
   ⟨fbFw 3 (fun x => { x with stage := 2 }), headerOf (State.oneWrite (fbFw 3 (fun x => { x with stage := 2 })) .fabato (oFwCtrl) (((fbFw 3 (fun x => { x with stage := 2 })).objBytes .fabato oFwCtrl 2))), _, _, fb_grants rfl (.inl rfl) ⟨rfl, by decide, rfl⟩ (by decide +kernel), by decide +kernel⟩,
   ⟨fbStore child, headerOf (State.oneWrite (fbStore child) .fabato (oFwCtrl) (((fbStore child).objBytes .fabato oFwCtrl 3))), _, _, fb_grants rfl (.inl rfl) ⟨rfl, by decide, rfl⟩ (by decide +kernel), by decide +kernel⟩,
   ⟨ready, headerOf (State.oneWrite (ready) .fabato (oFwCtrl) (((ready).objBytes .fabato oFwCtrl 4))), _, _, fb_grants rfl (.inl rfl) ⟨rfl, by decide, rfl⟩ (by decide +kernel), by decide +kernel⟩,
   ⟨fbFw 3 (fun x => { x with fetching := true }), fwImage, rfl, by decide +kernel, (by rw [List.take_of_length_le (by rw [fwImage_length]; decide)]; exact fwImage_good hv)⟩,
   ⟨fbFw 3 (fun x => { x with stage := 4, staging := fwImage }), fwImage, rfl, by decide +kernel, by decide +kernel, by decide +kernel, by decide +kernel⟩,
   ⟨ready, headerOf (State.oneWrite (ready) .fabato (oFwKeyRevoke) (((ready).objBytes .fabato oFwKeyRevoke 1))), _, _, fb_grants rfl (.inl rfl) ⟨rfl, by decide, rfl⟩ (by decide +kernel)⟩,
   ⟨fbFw 1 (fun x => { x with recovering := true, waiting := false }), by decide +kernel, by decide +kernel, by decide +kernel, by decide +kernel⟩,
   ⟨fbFw 1 (fun x => { x with recovering := true, waiting := true }), by decide +kernel, by decide +kernel, by decide +kernel, by decide +kernel⟩,
   ⟨fbFw 3 (fun x => { x with activate := some 0 }), 0, rfl, by decide +kernel, by decide +kernel, by decide +kernel⟩,
   ⟨fbAt (10 ^ 17) (fun f => { f.onCore (fun c => { c with store := [(oFwActivateForce, [1])] }) with fw := { f.fw with activate := some 0 } }), 0, rfl, by decide +kernel, by decide +kernel, by decide +kernel⟩⟩

/-- Each clause of `Obligations.HorizonCommandsComplete` has a state and operands that meet its hypotheses; a clause whose only hypothesis is Ready is met by `ready`. -/
theorem witness_horizonCommandsComplete :
    (∃ (s : State) (e : Envelope) (i : Nat) (x : RosterEntry) (b : Bytes) (f : Fabato) (a : Actor), i < 2 ^ 32 ∧ FbGrants s e .wo oHorizonAdopt (s.objBytes .fabato oHorizonAdopt i) f a ∧ (f.entryOf i = some x ∧ x.state = 4 ∧ i < memberLimit f.core.kind ∧ b = overlay (overlay (slice (f.core.get (oHorizonPlanMember + i + 1)) 0 32) 16 (leBytes 16 x.uid)) 0 (leBytes 1 (leAt (f.core.get (oHorizonPlanMember + i + 1)) 0 1 ||| 1)))) ∧
    (∃ (s : State) (e : Envelope) (i : Nat) (x : RosterEntry) (f : Fabato) (a : Actor), i < 2 ^ 32 ∧ FbGrants s e .wo oHorizonEndProbation (s.objBytes .fabato oHorizonEndProbation i) f a ∧ (f.entryOf i = some x ∧ x.state = 2)) ∧
    (∃ (s : State), FbReady s ∧ s.fb.up ≥ s.fb.hor.startAt + 1000000 * s.fb.core.num oHorizonDiscoveryWait) ∧
    (∃ (s : State) (x : RosterEntry) (t : Nat), FbReady s ∧ s.fb.hor.roster = [x] ∧ x.downAt = some t ∧ s.fb.up ≥ t + 1000000 * s.fb.core.num oHorizonAbsentAfter ∧ (x.state = 1 ∨ x.state = 2)) ∧
    (∃ (s : State) (x : RosterEntry) (t : Nat), FbReady s ∧ s.fb.hor.roster = [x] ∧ x.downAt = some t ∧ s.fb.up ≥ t + 1000000 * s.fb.core.num oHorizonAbsentAfter ∧ x.state = 4 ∧ x.member.isSome = true) ∧
    (∃ (s : State) (x : RosterEntry), FbReady s ∧ s.fb.core.num oAngleLockMode = 0 ∧ s.fb.hor.roster = [x] ∧ x.state = 2 ∧ s.fb.up ≥ x.since + 1000000000 * s.fb.core.num oHorizonProbationTime) :=
  ⟨⟨fbHor [{ member0 with state := 4, member := some 127 }], headerOf (State.oneWrite (fbHor [{ member0 with state := 4, member := some 127 }]) .fabato (oHorizonAdopt) (((fbHor [{ member0 with state := 4, member := some 127 }]).objBytes .fabato oHorizonAdopt (127)))), 127, { member0 with state := 4, member := some 127 }, _, _, _, by decide +kernel, fb_grants rfl (.inl rfl) ⟨rfl, by decide, rfl⟩ (by decide +kernel), ⟨by decide +kernel, by decide +kernel, by decide +kernel, rfl⟩⟩,
   ⟨fbHor [{ member0 with state := 2 }], headerOf (State.oneWrite (fbHor [{ member0 with state := 2 }]) .fabato (oHorizonEndProbation) (((fbHor [{ member0 with state := 2 }]).objBytes .fabato oHorizonEndProbation (0)))), 0, { member0 with state := 2 }, _, _, by decide +kernel, fb_grants rfl (.inl rfl) ⟨rfl, by decide, rfl⟩ (by decide +kernel), by decide +kernel⟩,
   ⟨readyAt (10 ^ 17), rfl, by decide +kernel⟩,
   ⟨fbHor [{ member0 with downAt := some 0 }], { member0 with downAt := some 0 }, 0, rfl, by decide +kernel, by decide +kernel, by decide +kernel, by decide +kernel⟩,
   ⟨fbHor [{ member0 with state := 4, downAt := some 0 }], { member0 with state := 4, downAt := some 0 }, 0, rfl, by decide +kernel, by decide +kernel, by decide +kernel, by decide +kernel, by decide +kernel⟩,
   ⟨fbAt (10 ^ 17) (fun f => { f.onCore (fun c => { c with store := [(oAngleLockMode, [0])] }) with hor := { f.hor with roster := [{ member0 with state := 2 }] } }), { member0 with state := 2 }, rfl, by decide +kernel, by decide +kernel, by decide +kernel, by decide +kernel⟩⟩

/-- Each clause of `Obligations.JetCommandsComplete` has a state and operands that meet its hypotheses; a clause whose only hypothesis is Ready is met by `ready`. -/
theorem witness_jetCommandsComplete :
    (∃ (s : State) (engine : Nat) (n : Nat) (w : Waiting) (x : RxRec) (f0 : Fabato), FbReady s ∧ s.fb.g.engineNext engine = some w ∧ w.lane < 1000 ∧ (s.fb.g.lanes[w.lane]?).bind (fun l => l.lane.rx.queue[w.place]?) = some x ∧ f0 = ({ s.fb.onG (fun g => { g with core := g.core.bump (oJetIngestRecords + engine + 1), jet := { g.jet with engines := g.jet.engines.modify engine (fun y => y.served w) } }) with cel := { s.fb.cel with ingestBusy := s.fb.cel.ingestBusy.modify engine (fun n => n + 1) } } : Fabato).onG (fun g => g.onLane w.lane (fun l => { l with lane := { l.lane with rx := { l.lane.rx with queue := l.lane.rx.queue.eraseIdx w.place, taken := l.lane.rx.taken.modify w.cls.code (fun n => slotAdd n 1) } } }))) ∧
    (∃ (s : State) (port : Nat), FbReady s ∧ s.fb.g.resendAny port [2, 1, 0] = none) ∧
    (∃ (s : State) (port : Nat) (g : Group), FbReady s ∧ s.fb.g.resendAny port [2, 1, 0] = some g) ∧
    (∃ (s : State) (port : Nat) (q : JPort) (items : List JItem), FbReady s ∧ s.fb.g.resendAny port [3] = none ∧ s.fb.g.jet.ports[port]? = some q ∧ q.alarms ≠ [] ∧ items = frontItems (s.fb.core.num oJetAFrameRecords) (q.alarms.map (fun x => x.2)) ∧ s.fb.g.linkTakes port 3 (frameOf items) = true ∧ s.fb.g.outPort port 3 = none) ∧
    (∃ (s : State) (port : Nat) (l : Gcl), FbReady s ∧ (s.fb.g.jet.ports[port]?).bind (fun p => p.pending) = some l ∧ l.base ≤ s.fb.ns) ∧
    (∃ (s : State) (port : Nat) (q : JPort), FbReady s ∧ s.fb.g.jet.ports[port]? = some q ∧ gclCount q.oper.list > 0 ∧ q.oper.start + (gclEntry q.oper.list q.oper.entry).1 ≤ s.fb.ns) ∧
    (∃ (s : State) (port : Nat) (idx : Nat) (cls : RClass) (x : JSub) (t : Nat), FbReady s ∧ s.fb.g.jet.sub idx port = some x ∧ (x.queue cls.code).eligibleAt = some t ∧ s.fb.ns ≥ roundUp t 64) ∧
    (∃ (s : State) (port : Nat) (idx : Nat) (x : JSub), FbReady s ∧ s.fb.g.jet.sub idx port = some x) ∧
    (∃ (s : State) (port : Nat) (idx : Nat) (x : JSub), FbReady s ∧ idx ≠ 0 ∧ s.fb.g.jet.sub idx port = some x ∧ x.queues.any (fun q => !q.items.isEmpty || q.gap.isSome) = false ∧ x.gap = none ∧ s.fb.g.jet.ports.any (fun p => p.alarms.any (fun a => a.1 == idx && p.subs.contains idx)) = false ∧ s.fb.g.cond.ctxs = [] ∧ s.fb.up ≥ x.idleSince + 1000000 * s.fb.core.num oJetSubIdle) ∧
    (∃ (s : State) (port : Nat) (idx : Nat) (x : JSub) (it : JItem), FbReady s ∧ s.fb.g.jet.sub idx port = some x ∧ s.fb.g.jet.stalled = [(x.path, port, it)]) ∧
    (∃ s : State, OvReady s ∧ ∃ t, s.ov.link.lane.tx.lowSince = some t ∧ s.ov.core.up ≥ t + 1000) ∧
    (∃ (s : State) (n : Nat) (k : FabLane), Tray s n k ∧ ∃ t, k.lane.tx.lowSince = some t ∧ s.fb.core.up ≥ t + 1000) ∧
    (∃ (s : State) (m : _) (rest : _), FbReady s ∧ sortBy (mergeHeads s.fb.g.jet.merge []) mergeLe = m :: rest ∧ s.fb.ns ≥ m.at_ + 1000 * s.fb.core.num oVantageMergeWindow ∧ s.fb.g.jet.mergeLast = none) :=
  ⟨⟨fbGroup (fun g => { g with lanes := g.lanes.map (fun k => { k with lane := { k.lane with rx := { k.lane.rx with queue := [{ base := rec0, old := false, at_ := 0 }] } } }) }), 7, 1, { lane := 119, cls := .s, at_ := 0, place := 0 }, { base := rec0, old := false, at_ := 0 }, _, rfl, by decide +kernel, by decide +kernel, by decide +kernel, rfl⟩,
   ⟨ready, 0, rfl, by decide +kernel⟩,
   ⟨fbPort 0 (fun x => { up0 x with cls := x.cls.map (fun c => { c with resend := some 0 }) }), 0, _, rfl, rfl⟩,
   ⟨fbPorts, 24, jport0, [.record ext0], rfl, by decide +kernel, by decide +kernel, by decide +kernel, by decide +kernel, by decide +kernel, by decide +kernel⟩,
   ⟨fbPorts, 25, gcl0 [], rfl, by decide +kernel, by decide +kernel⟩,
   ⟨fbPorts, 25, jport0, rfl, by decide +kernel, by decide +kernel, by decide +kernel⟩,
   ⟨fbJet (fun j => { j with subs := [sub0], stalled := [(0, 0, .record ext0)] }), 0, 1, .s, sub0, 0, rfl, by decide +kernel, by decide +kernel, by decide +kernel⟩,
   ⟨fbJet (fun j => { j with subs := [sub0], stalled := [(0, 0, .record ext0)] }), 0, 1, sub0, rfl, by decide +kernel⟩,
   ⟨fbJet (fun j => { j with subs := [sub0], stalled := [(0, 0, .record ext0)] }), 0, 1, sub0, rfl, by decide +kernel, by decide +kernel, by decide +kernel, by decide +kernel, by decide +kernel, by decide +kernel, by decide +kernel⟩,
   ⟨fbJet (fun j => { j with subs := [sub0], stalled := [(0, 0, .record ext0)] }), 0, 1, sub0, .record ext0, rfl, by decide +kernel, by decide +kernel⟩,
   ⟨atLanes ({ laneIn .up with tx := { (laneIn .up).tx with lowSince := some 0 } }) (1000), rfl, ⟨0, rfl, by decide +kernel⟩⟩,
   ⟨atLanes ({ laneIn .up with tx := { (laneIn .up).tx with lowSince := some 0 } }) (1000), 0, _, ⟨rfl, rfl, rfl⟩, ⟨0, rfl, by decide +kernel⟩⟩,
   ⟨fbJet (fun j => { j with merge := [{ r := ext0, at_ := 0 }] }), { r := ext0, at_ := 0 }, [], rfl, by decide +kernel, by decide +kernel, by decide +kernel⟩⟩

/-- Each clause of `Obligations.LoftCommandsComplete` has a state and operands that meet its hypotheses; a clause whose only hypothesis is Ready is met by `ready`. -/
theorem witness_loftCommandsComplete :
    (∃ (s : State) (e : Envelope) (slot : Nat) (chunk : Bytes) (f : Fabato) (a : Actor), slot < 16 ∧ FbGrants s e .wo (oLoftSlotLoad + slot + 1) chunk f a ∧ ((f.slot slot).state < 2 ∧ 4 ≤ chunk.length ∧ leAt chunk 0 4 + (chunk.length - 4) ≤ loftLimit)) ∧
    (∃ (s : State) (e : Envelope) (slot : Nat) (f : Fabato) (a : Actor), slot < 16 ∧ FbGrants s e .wo (oLoftSlotCtrl + slot + 1) (s.objBytes .fabato (oLoftSlotCtrl + slot + 1) 1) f a ∧ ((f.slot slot).state = 1 ∧ sha256 (f.slot slot).staged = f.core.get (oLoftSlotDigest + slot + 1) ∧ elfOk (f.slot slot).staged = true)) ∧
    (∃ (s : State) (e : Envelope) (slot : Nat) (k : _) (f : Fabato) (a : Actor), slot < 16 ∧ FbGrants s e .wo (oLoftSlotCtrl + slot + 1) (s.objBytes .fabato (oLoftSlotCtrl + slot + 1) 2) f a ∧ (((f.slot slot).state = 2 ∨ (f.slot slot).state = 4) ∧ f.freeCore = some k)) ∧
    (∃ (s : State) (e : Envelope) (slot : Nat) (f : Fabato) (a : Actor), slot < 16 ∧ FbGrants s e .wo (oLoftSlotCtrl + slot + 1) (s.objBytes .fabato (oLoftSlotCtrl + slot + 1) 3) f a ∧ (f.slot slot).state = 3) ∧
    (∃ (s : State) (e : Envelope) (slot : Nat) (f : Fabato) (a : Actor), slot < 16 ∧ FbGrants s e .wo (oLoftSlotCtrl + slot + 1) (s.objBytes .fabato (oLoftSlotCtrl + slot + 1) 4) f a ∧ ((f.slot slot).state = 2 ∨ (f.slot slot).state = 4 ∨ (f.slot slot).state = 5)) ∧
    (∃ (s : State) (slot : Nat) (b : Bytes) (o : Fabato × Session) (x : Envelope) (op : Nat) (summary : Nat) (body : Bytes), slot < 16 ∧ FbReady s ∧ s.fb.loftRuns slot = true ∧ o = s.fb.loftOpen slot ∧ parseMessage (.loft slot) b = some (x, op, summary, body)) ∧
    (∃ (s : State) (slot : Nat), slot < 16 ∧ FbReady s ∧ s.fb.loftRuns slot = true) ∧
    (∃ (s : State) (slot : Nat) (element : Nat), slot < 16 ∧ FbReady s ∧ s.fb.loftRuns slot = true ∧ element ≤ 63) ∧
    (∃ (s : State) (slot : Nat) (t : Nat), slot < 16 ∧ FbReady s ∧ s.fb.loftRuns slot = true ∧ t > s.fb.ns) ∧
    (∃ (s : State) (slot : Nat) (t : Nat), slot < 16 ∧ FbReady s ∧ s.fb.loftRuns slot = true ∧ t ≤ s.fb.ns) ∧
    (∃ (s : State) (slot : Nat), slot < 16 ∧ FbReady s ∧ s.fb.loftRuns slot = true) ∧
    (∃ (s : State) (slot : Nat), slot < 16 ∧ FbReady s ∧ s.fb.loftRuns slot = true) ∧
    (∃ (s : State) (slot : Nat) (t : Nat), slot < 16 ∧ FbReady s ∧ (s.fb.slot slot).sleep = some t ∧ t ≤ s.fb.ns) ∧
    (∃ (s : State) (slot : Nat) (k : _), slot < 16 ∧ FbReady s ∧ slot < s.fb.loft.length ∧ (s.fb.slot slot).core = some k ∧ (s.fb.slot slot).state = 3) ∧
    (∃ (s : State) (slot : Nat), slot < 16 ∧ FbReady s) :=
  ⟨⟨ready, headerOf (State.oneWrite (ready) .fabato ((oLoftSlotLoad + (15) + 1)) ((leBytes 4 0 ++ [1]))), 15, leBytes 4 0 ++ [1], _, _, by decide +kernel, fb_grants rfl (.inl rfl) ⟨rfl, by decide, rfl⟩ (by decide +kernel), by decide +kernel⟩,
   ⟨fbLoft [(oLoftSlotDigest + 16, sha256 elf0)] (fun x => { x with state := 1, staged := elf0 }), headerOf (State.oneWrite (fbLoft [(oLoftSlotDigest + 16, sha256 elf0)] (fun x => { x with state := 1, staged := elf0 })) .fabato ((oLoftSlotCtrl + (15) + 1)) (((fbLoft [(oLoftSlotDigest + 16, sha256 elf0)] (fun x => { x with state := 1, staged := elf0 })).objBytes .fabato (oLoftSlotCtrl + (15) + 1) 1))), 15, _, _, by decide +kernel, fb_grants rfl (.inl rfl) ⟨rfl, by decide, rfl⟩ (by decide +kernel), by decide +kernel⟩,
   ⟨fbLoft [] (fun x => { x with state := 2 }), headerOf (State.oneWrite (fbLoft [] (fun x => { x with state := 2 })) .fabato ((oLoftSlotCtrl + (15) + 1)) (((fbLoft [] (fun x => { x with state := 2 })).objBytes .fabato (oLoftSlotCtrl + (15) + 1) 2))), 15, 6, _, _, by decide +kernel, fb_grants rfl (.inl rfl) ⟨rfl, by decide, rfl⟩ (by decide +kernel), by decide +kernel⟩,
   ⟨fbLoft [] running, headerOf (State.oneWrite (fbLoft [] running) .fabato ((oLoftSlotCtrl + (15) + 1)) (((fbLoft [] running).objBytes .fabato (oLoftSlotCtrl + (15) + 1) 3))), 15, _, _, by decide +kernel, fb_grants rfl (.inl rfl) ⟨rfl, by decide, rfl⟩ (by decide +kernel), by decide +kernel⟩,
   ⟨fbLoft [] (fun x => { x with state := 5 }), headerOf (State.oneWrite (fbLoft [] (fun x => { x with state := 5 })) .fabato ((oLoftSlotCtrl + (15) + 1)) (((fbLoft [] (fun x => { x with state := 5 })).objBytes .fabato (oLoftSlotCtrl + (15) + 1) 4))), 15, _, _, by decide +kernel, fb_grants rfl (.inl rfl) ⟨rfl, by decide, rfl⟩ (by decide +kernel), by decide +kernel⟩,
   ⟨fbLoft [] running, 15, message0, _, _, _, _, _, by decide +kernel, rfl, by decide +kernel, rfl, rfl⟩,
   ⟨fbLoft [] running, 15, by decide +kernel, rfl, by decide +kernel⟩,
   ⟨fbLoft [] running, 15, 63, by decide +kernel, rfl, by decide +kernel, by decide +kernel⟩,
   ⟨fbLoft [] running, 15, 1, by decide +kernel, rfl, by decide +kernel, by decide +kernel⟩,
   ⟨fbLoft [] running, 15, 0, by decide +kernel, rfl, by decide +kernel, by decide +kernel⟩,
   ⟨fbLoft [] running, 15, by decide +kernel, rfl, by decide +kernel⟩,
   ⟨fbLoft [] running, 15, by decide +kernel, rfl, by decide +kernel⟩,
   ⟨fbLoft [] (fun x => { x with state := 3, sleep := some 0 }), 15, 0, by decide +kernel, rfl, by decide +kernel, by decide +kernel⟩,
   ⟨fbLoft [] running, 15, 6, by decide +kernel, rfl, by decide +kernel, by decide +kernel, by decide +kernel⟩,
   ⟨ready, 1, by decide +kernel, rfl⟩⟩

/-- Each clause of `Obligations.SkyPortCommandsComplete` has a state and operands that meet its hypotheses; a clause whose only hypothesis is Ready is met by `ready`. -/
theorem witness_skyPortCommandsComplete :
    (∃ (s : State) (p : Nat), FbReady s ∧ (s.fb.g.port p).state = .training ∧ (s.fb.core.skyMap p).lanes ≠ 0) ∧
    (∃ (s : State) (p : Nat) (cls : RClass), FbReady s ∧ s.fb.g.portUp p = true ∧ ((s.fb.g.port p).class cls.code).retry ≠ [] ∧ s.fb.up ≥ ((s.fb.g.port p).class cls.code).progressAt + 1000 * s.fb.core.num oLinkSkyRto) ∧
    (∃ (s : State) (p : Nat), FbReady s ∧ s.fb.up ≥ (s.fb.g.port p).lastRx + 1000 * s.fb.core.num oLinkSkyDead) ∧
    (∃ (s : State) (p : Nat), FbReady s ∧ s.fb.g.portUp p = true) ∧
    (∃ (s : State) (p : Nat), FbReady s ∧ s.fb.g.portUp p = false ∧ (s.fb.g.port p).state ≠ .down) ∧
    (∃ (s : State) (p : Nat) (faulty : List Nat), FbReady s ∧ p < s.fb.g.sky.length ∧ (s.fb.core.skyMap p).lanes = 4 ∧ (s.fb.g.port p).state ≠ .down ∧ (s.fb.g.port p).lanes = 4 ∧ (s.fb.g.port p).faulty = [] ∧ faulty = [(s.fb.core.skyMap p).first]) ∧
    (∃ (s : State) (p : Nat), FbReady s ∧ (s.fb.g.port p).state = .training ∧ (s.fb.g.port p).tryWidth ≠ 0 ∧ s.fb.up ≥ (s.fb.g.port p).tryAt + 50000000) ∧
    (∃ (s : State) (p : Nat), FbReady s ∧ (s.fb.g.port p).preempt = 1 ∧ (s.fb.g.port p).state = .verifying) ∧
    (∃ (s : State) (p : Nat), FbReady s ∧ (s.fb.g.port p).preempt = 1 ∧ (s.fb.g.port p).state ≠ .verifying) ∧
    (∃ (s : State) (cls : RClass) (q : _), FbReady s ∧ s.fb.core.parentPort true = some q ∧ s.fb.g.parent.drain.getD cls.code false = true ∧ ((s.fb.g.port q).class cls.code).retry = []) ∧
    (∃ (s : State) (p : Nat), FbReady s ∧ (s.fb.g.port p).state = .up ∧ s.fb.up ≥ (s.fb.g.port p).lastTx + 2000) ∧
    (∃ (s : State) (q : _) (r : _) (t : _) (cs : _), FbReady s ∧ s.fb.core.parentPort false = some q ∧ s.fb.core.parentPort true = some r ∧ (s.fb.g.port q).state ≠ .up ∧ (s.fb.g.port q).downAt = some t ∧ cs = [2, 1, 0].filter (fun c => !s.fb.g.parent.onP1.getD c false) ∧ cs ≠ [] ∧ s.fb.g.portUp r = true ∧ s.fb.up ≥ t + 1000 * s.fb.core.num oLinkFailoverHold) ∧
    (∃ (s : State) (q : _) (t : _), FbReady s ∧ s.fb.core.parentPort false = some q ∧ (s.fb.g.port q).state = .up ∧ (s.fb.g.port q).upAt = some t ∧ s.fb.up ≥ t + 1000000 * s.fb.core.num oLinkFailbackHold) :=
  ⟨⟨fbPort 0 (fun x => { up0 x with state := .training }), 0, rfl, by decide +kernel, by decide +kernel⟩,
   ⟨fbPort 0 (fun x => { up0 x with cls := x.cls.map (fun c => { c with retry := [frame0] }) }), 0, .s, rfl, by decide +kernel, by decide +kernel, by decide +kernel⟩,
   ⟨fbPort 0 (fun x => { up0 x with lastRx := 0 }), 0, rfl, by decide +kernel⟩,
   ⟨fbPort 0 (fun x => { up0 x with lastRx := 0 }), 0, rfl, by decide +kernel⟩,
   ⟨fbPort 0 (fun x => { up0 x with state := .hello }), 0, rfl, by decide +kernel, by decide +kernel⟩,
   ⟨fbPort 0 (fun x => { up0 x with faulty := [] }), 0, [0], rfl, by decide +kernel, by decide +kernel, by decide +kernel, by decide +kernel, by decide +kernel, by decide +kernel⟩,
   ⟨fbPort 0 (fun x => { up0 x with state := .training, tryWidth := 1, tryAt := 0 }), 0, rfl, by decide +kernel, by decide +kernel, by decide +kernel⟩,
   ⟨fbPort 0 (fun x => { up0 x with state := .verifying, preempt := 1 }), 0, rfl, by decide +kernel, by decide +kernel⟩,
   ⟨fbPort 0 (fun x => { up0 x with preempt := 1 }), 0, rfl, by decide +kernel, by decide +kernel⟩,
   ⟨drained, .s, 0, rfl, by decide +kernel, by decide +kernel, by decide +kernel⟩,
   ⟨fbPort 0 (fun x => { up0 x with lastTx := 0 }), 0, rfl, by decide +kernel, by decide +kernel⟩,
   ⟨fbSky [0, 1, 0] [1, 1, 1] (fun x => { x with state := .down, downAt := some 0 }) up0, 0, 1, 0, [2, 1, 0], rfl, by decide +kernel, by decide +kernel, by decide +kernel, by decide +kernel, by decide +kernel, by decide +kernel, by decide +kernel, by decide +kernel⟩,
   ⟨fbPort 0 up0, 0, 0, rfl, by decide +kernel, by decide +kernel, by decide +kernel, by decide +kernel⟩⟩

/-- Each clause of `Obligations.SkyFrameCommandsComplete` has a state and operands that meet its hypotheses; a clause whose only hypothesis is Ready is met by `ready`. -/
theorem witness_skyFrameCommandsComplete :
    (∃ (s : State) (p : Nat) (h : SkyHead) (x : Fabato), FbReady s ∧ s.fb.relayHeld p h = false ∧ s.fb.skyTake p h = (x, true) ∧ x.relays p = false ∧ ((x.core.skyMap p).role = 2 ∨ (x.core.skyMap p).role = 5)) ∧
    (∃ (s : State) (p : Nat) (h : SkyHead) (x : Fabato), FbReady s ∧ s.fb.relayHeld p h = false ∧ s.fb.skyTake p h = (x, false)) ∧
    (∃ (s : State) (p : Nat) (h : SkyHead) (x : Fabato), FbReady s ∧ s.fb.relayHeld p h = false ∧ s.fb.skyTake p h = (x, true) ∧ x.relays p = false) ∧
    (∃ (s : State) (p : Nat), FbReady s ∧ s.fb.g.portUp p = true) ∧
    (∃ (s : State) (p : Nat) (h : SkyHead) (b : Bytes) (x : Fabato) (d : Group × List ExtRecord), FbReady s ∧ s.fb.relayHeld p h = false ∧ s.fb.skyTake p h = (x, true) ∧ x.relays p = false ∧ d = x.g.condReceive (leAt (x.g.port p).peerHello 12 4) h.cls.code b ∧ d.2 ≠ []) ∧
    (∃ (s : State) (p : Nat) (b : Bytes), FbReady s ∧ (s.fb.g.port p).state = .up ∧ (leAt b 0 1).testBit 0 = true ∧ s.fb.g.portUp p = true) ∧
    (∃ (s : State) (p : Nat) (h : SkyHead) (l : List ExtRecord) (x : Fabato), FbReady s ∧ l ≠ [] ∧ s.fb.skyTake p h = (x, true) ∧ (x.core.skyMap p).role = 3) :=
  ⟨⟨fbPort 2 up0, 0, head0, ((fbPort 2 up0).fb.skyTake 0 head0).1, rfl, by decide +kernel, Prod.ext rfl (by decide +kernel), by decide +kernel, by decide +kernel⟩,
   ⟨fbPort 0 up0, 0, { head0 with seq := 1 }, ((fbPort 0 up0).fb.skyTake 0 { head0 with seq := 1 }).1, rfl, by decide +kernel, Prod.ext rfl (by decide +kernel)⟩,
   ⟨fbPort 0 up0, 0, head0, ((fbPort 0 up0).fb.skyTake 0 head0).1, rfl, by decide +kernel, Prod.ext rfl (by decide +kernel), by decide +kernel⟩,
   ⟨fbPort 0 up0, 0, rfl, by decide +kernel⟩,
   ⟨fbPort 2 up0, 0, head0, condFrame, ((fbPort 2 up0).fb.skyTake 0 head0).1, _, rfl, by decide +kernel, Prod.ext rfl (by decide +kernel), by decide +kernel, rfl, by decide +kernel⟩,
   ⟨fbPort 0 up0, 0, [1], rfl, by decide +kernel, by decide +kernel, by decide +kernel⟩,
   ⟨fbPort 3 up0, 0, head0, [ext0], ((fbPort 3 up0).fb.skyTake 0 head0).1, rfl, by decide +kernel, Prod.ext rfl (by decide +kernel), by decide +kernel⟩⟩

/-- Each clause of `Obligations.StepCommandsComplete` has a state and operands that meet its hypotheses; a clause whose only hypothesis is Ready is met by `ready`. -/
theorem witness_stepCommandsComplete :
    (∃ (s : State) (num : Nat), OvReady s ∧ (s.ov.core.classify s.ov.core.ns (num % 2 ^ 32)).accepted = false) ∧
    (∃ (s : State) (num : Nat) (x : Ovtan), OvReady s ∧ (s.ov.core.classify s.ov.core.ns (num % 2 ^ 32)).accepted = true ∧ s.ov.core.angle.mode = .off ∧ x = s.ov.cutsAtMarker s.ov.core.ns (num % 2 ^ 32)) ∧
    (∃ (s : State) (num : Nat) (k : MarkerKind) (x : Ovtan) (y : Ovtan) (z : Ovtan), OvReady s ∧ k = s.ov.core.classify s.ov.core.ns (num % 2 ^ 32) ∧ k.accepted = true ∧ s.ov.core.angle.mode ≠ .off ∧ s.ov.core.ns ≠ 0 ∧ x = s.ov.handAngle (s.ov.core.ns - 1) ∧ y = (({ x with cap := x.cap.stampDue x.core.angle (s.ov.core.ns - 1) } : Ovtan).cutsAtMarker s.ov.core.ns (num % 2 ^ 32)).cancelStep s.ov.core.ns ∧ z = commitsAtMarker ovOps0 { y with core := ({ y.core.noteMarker k s.ov.core.ns (num % 2 ^ 32) with angle := { (y.core.noteMarker k s.ov.core.ns (num % 2 ^ 32)).angle with early := false, slow := false, jump := (match k with | .jump _ => true | .rewind => true | _ => false), overdue := false } } : Core).angleLock s.ov.core.ns (num % 2 ^ 32) k.k } ∧ z.core.angle.mode ≠ .off) ∧
    (∃ (s : State) (e : Envelope) (num : Nat) (o : Ovtan) (a : Actor), num < 2 ^ 32 ∧ OvGrants s e .wo oAngleSoftMarker (s.objBytes .ovtan oAngleSoftMarker num) o a) ∧
    (∃ (s : State) (e : Envelope) (num : Nat) (f : Fabato) (a : Actor), num < 2 ^ 32 ∧ FbGrants s e .wo oAngleSoftMarker (s.objBytes .fabato oAngleSoftMarker num) f a) ∧
    (∃ (s : State), OvReady s ∧ s.ov.core.angle.mode = .stalled ∧ s.ov.core.angle.overdue = false ∧ s.ov.core.ns ≥ s.ov.core.angle.tm + 16 * (s.ov.core.angle.lq / 65536) ∧ s.ov.core.kind = 0) ∧
    (∃ (s : State), FbReady s ∧ s.fb.core.angle.mode = .stalled ∧ s.fb.core.angle.overdue = false ∧ s.fb.core.ns ≥ s.fb.core.angle.tm + 16 * (s.fb.core.angle.lq / 65536) ∧ s.fb.core.kind ≠ 0) ∧
    (∃ (s : State) (member : Nat), FbReady s ∧ s.fb.refMember member = true ∧ s.fb.g.win.closed = [] ∧ s.fb.g.win.opens = [] ∧ (∃ m ∈ s.fb.refPresent, m ≠ member)) ∧
    (∃ (s : State), OvReady s ∧ s.ov.core.angle.isLocked = true) ∧
    (∃ (s : State), OvReady s ∧ s.ov.core.angle.mode ≠ .off) ∧
    (∃ (s : State) (w : MarkerWindow), FbReady s ∧ s.fb.g.win.opens = [w] ∧ s.fb.up ≥ w.at_ + 1000 * s.fb.core.num oAngleGroupWait) ∧
    (∃ (s : State) (x : ArmedEntry), FbReady s ∧ s.fb.core.angle.isLocked = true ∧ dueEntries s.fb.core.angle.armed s.fb.ns = [x] ∧ s.fb.core.angle.timed = []) :=
  ⟨⟨ovCore (fun c => { c with angle := { c.angle with seen := true, lastAt := 0 } }), 1, rfl, by decide +kernel⟩,
   ⟨ovAngle (fun a => { a with mode := .off, seen := false }), 1, _, rfl, by decide +kernel, by decide +kernel, rfl⟩,
   ⟨ovAngle (fun a => { a with mode := .locked, lq := 65536000000, seen := true, lastAt := 0, step := 6 }), 7, .normal, _, _, _, rfl, by decide +kernel, by decide +kernel, by decide +kernel, by decide +kernel, rfl, rfl, rfl, by decide +kernel⟩,
   ⟨ready, headerOf (State.oneWrite (ready) .ovtan (oAngleSoftMarker) (((ready).objBytes .ovtan oAngleSoftMarker (4294967295)))), 4294967295, _, _, by decide +kernel, ov_grants rfl rfl ⟨rfl, by decide, rfl⟩ (by decide +kernel)⟩,
   ⟨ready, headerOf (State.oneWrite (ready) .fabato (oAngleSoftMarker) (((ready).objBytes .fabato oAngleSoftMarker (4294967295)))), 4294967295, _, _, by decide +kernel, fb_grants rfl (.inl rfl) ⟨rfl, by decide, rfl⟩ (by decide +kernel)⟩,
   ⟨ovAngle (fun a => { a with mode := .stalled, overdue := false }), rfl, by decide +kernel, by decide +kernel, by decide +kernel, by decide +kernel⟩,
   ⟨fbGroup (fun g => { g with core := { g.core with angle := { g.core.angle with mode := .stalled, overdue := false } } }), rfl, by decide +kernel, by decide +kernel, by decide +kernel, by decide +kernel⟩,
   ⟨two, 0, rfl, by decide +kernel, by decide +kernel, by decide +kernel, ⟨1, by decide +kernel, by decide⟩⟩,
   ⟨ovCore lockedAt, rfl, by decide +kernel⟩,
   ⟨ovCore lockedAt, rfl, by decide +kernel⟩,
   ⟨fbAt (10 ^ 17) (fun f => f.onG (fun g => { g with win := { g.win with opens := [{ step := 1, at_ := 0, reports := [] }] } })), { step := 1, at_ := 0, reports := [] }, rfl, by decide +kernel, by decide +kernel⟩,
   ⟨fbCore (fun c => { lockedAt c with angle := { (lockedAt c).angle with armed := [{ entry := 0, fire := 0, angle := 0, handed := false }], timed := [] } }), { entry := 0, fire := 0, angle := 0, handed := false }, rfl, by decide +kernel, by decide +kernel, by decide +kernel⟩⟩

/-- Each clause of `Obligations.SundogCommandsComplete` has a state and operands that meet its hypotheses; a clause whose only hypothesis is Ready is met by `ready`. -/
theorem witness_sundogCommandsComplete_1 :
    (∃ (s : State) (p : Nat) (h : SkyHead) (x : Transfer) (g : Fabato) (b : Bytes), FbReady s ∧ s.fb.sunOpen p h 1 x = (g, some b) ∧ x.owner ≠ g.core.path ∧ x.owner = g.sun.path ∧ x.seq > g.sun.peerSeq) ∧
    (∃ (s : State) (p : Nat) (h : SkyHead) (x : Transfer) (g : Fabato) (b : Bytes), FbReady s ∧ s.fb.sunOpen p h 2 x = (g, some b) ∧ (g.core.skyMap p).role = 3 ∧ x.owner = g.core.path) ∧
    (∃ (s : State) (p : Nat) (h : SkyHead) (x : Transfer) (g : Fabato) (b : Bytes), FbReady s ∧ s.fb.sunOpen p h 3 x = (g, some b) ∧ g.sun.state = .refilling ∧ x.owner = g.core.path ∧ (imageItems (g.sun.chunk x.off b).load).any (fun i => decide (i.1 ≥ 9 * 2 ^ 32)) = false) ∧
    (∃ (s : State) (p : Nat) (h : SkyHead) (x : Transfer) (g : Fabato) (b : Bytes) (y : Fabato), FbReady s ∧ s.fb.sunOpen p h 4 x = (g, some b) ∧ g.sun.state = .refilling ∧ x.owner = g.core.path ∧ y = g.sunLoadAll.sun.later.foldl (fun f i => f.loadItem (itemKey i.bytes) (itemValue i.bytes)) g.sunLoadAll) :=
  ⟨⟨fbSun (role 3) ([0, 0, 0]) (fun x => { x with path := 77 }), 0, head0, sealed (fbSun (role 3) ([0, 0, 0]) (fun x => { x with path := 77 })) 1 (77) 0 1 ([]), opened (fbSun (role 3) ([0, 0, 0]) (fun x => { x with path := 77 })) ([]), plain (fbSun (role 3) ([0, 0, 0]) (fun x => { x with path := 77 })) (77) ([]), rfl, opens 1 (77) 0 1 ([]) (by decide +kernel) (by decide +kernel) (by decide +kernel), by decide +kernel, by decide +kernel, by decide +kernel⟩,
   ⟨fbSun (role 3) ([0, 0, 0]) (fun x => x), 0, head0, sealed (fbSun (role 3) ([0, 0, 0]) (fun x => x)) 2 (ready.fb.core.path) 0 0 ([]), opened (fbSun (role 3) ([0, 0, 0]) (fun x => x)) ([]), plain (fbSun (role 3) ([0, 0, 0]) (fun x => x)) (ready.fb.core.path) ([]), rfl, opens 2 (ready.fb.core.path) 0 0 ([]) (by decide +kernel) (by decide +kernel) (by decide +kernel), by decide +kernel, by decide +kernel⟩,
   ⟨fbSun (role 3) ([0, 0, 0]) (fun x => { x with state := .refilling }), 0, head0, sealed (fbSun (role 3) ([0, 0, 0]) (fun x => { x with state := .refilling })) 3 (ready.fb.core.path) 0 0 ([]), opened (fbSun (role 3) ([0, 0, 0]) (fun x => { x with state := .refilling })) ([]), plain (fbSun (role 3) ([0, 0, 0]) (fun x => { x with state := .refilling })) (ready.fb.core.path) ([]), rfl, opens 3 (ready.fb.core.path) 0 0 ([]) (by decide +kernel) (by decide +kernel) (by decide +kernel), by decide +kernel, by decide +kernel, by decide +kernel⟩,
   ⟨fbSun (role 3) ([0, 0, 0]) (fun x => { x with state := .refilling }), 0, head0, sealed (fbSun (role 3) ([0, 0, 0]) (fun x => { x with state := .refilling })) 4 (ready.fb.core.path) 0 0 ([]), opened (fbSun (role 3) ([0, 0, 0]) (fun x => { x with state := .refilling })) ([]), plain (fbSun (role 3) ([0, 0, 0]) (fun x => { x with state := .refilling })) (ready.fb.core.path) ([]), _, rfl, opens 4 (ready.fb.core.path) 0 0 ([]) (by decide +kernel) (by decide +kernel) (by decide +kernel), by decide +kernel, by decide +kernel, rfl⟩⟩
/-- Its further clauses. -/
theorem witness_sundogCommandsComplete_2 :
    (∃ (s : State) (p : Nat) (h : SkyHead) (x : Transfer) (g : Fabato) (b : Bytes), FbReady s ∧ s.fb.sunOpen p h 5 x = (g, some b) ∧ (g.core.skyMap p).role = 2 ∧ b ≠ [] ∧ x.off = 0) ∧
    (∃ (s : State) (p : Nat) (h : SkyHead) (x : Transfer) (g : Fabato) (b : Bytes) (y : Snapshot), FbReady s ∧ s.fb.sunOpen p h 6 x = (g, some b) ∧ (g.core.skyMap p).role = 2 ∧ g.sun.snaps.find? (fun y => y.path == x.owner && !y.complete) = some y ∧ y.image.length = x.off) ∧
    (∃ (s : State) (p : Nat) (h : SkyHead) (x : Transfer) (g : Fabato) (b : Bytes), FbReady s ∧ s.fb.sunOpen p h 7 x = (g, some b) ∧ (g.core.skyMap p).role = 3 ∧ g.sunRefusal (leAt b 0 16) (leAt b 16 4) (leAt b 20 4) = none ∧ g.sun.empty = false ∧ g.sun.state = .alone) ∧
    (∃ (s : State) (p : Nat) (h : SkyHead) (x : Transfer) (g : Fabato) (b : Bytes), FbReady s ∧ s.fb.sunOpen p h 8 x = (g, some b) ∧ g.sun.hosting = some x.owner) :=
  ⟨⟨fbSun (role 2) ([0, 0, 0]) (fun x => x), 0, head0, sealed (fbSun (role 2) ([0, 0, 0]) (fun x => x)) 5 (77) 0 0 ([1]), opened (fbSun (role 2) ([0, 0, 0]) (fun x => x)) ([1]), plain (fbSun (role 2) ([0, 0, 0]) (fun x => x)) (77) ([1]), rfl, opens 5 (77) 0 0 ([1]) (by decide +kernel) (by decide +kernel) (by decide +kernel), by decide +kernel, by decide +kernel, by decide +kernel⟩,
   ⟨fbSun (role 2) ([0, 0, 0]) (fun x => { x with snaps := [{ path := 77, at_ := 0, image := [], complete := false }] }), 0, head0, sealed (fbSun (role 2) ([0, 0, 0]) (fun x => { x with snaps := [{ path := 77, at_ := 0, image := [], complete := false }] })) 6 (77) 0 0 ([]), opened (fbSun (role 2) ([0, 0, 0]) (fun x => { x with snaps := [{ path := 77, at_ := 0, image := [], complete := false }] })) ([]), plain (fbSun (role 2) ([0, 0, 0]) (fun x => { x with snaps := [{ path := 77, at_ := 0, image := [], complete := false }] })) (77) ([]), { path := 77, at_ := 0, image := [], complete := false }, rfl, opens 6 (77) 0 0 ([]) (by decide +kernel) (by decide +kernel) (by decide +kernel), by decide +kernel, by decide +kernel, by decide +kernel⟩,
   ⟨partner, 0, head0, sealed (partner) 7 (0) 0 0 ([]), opened (partner) ([]), plain (partner) (0) ([]), rfl, opens 7 (0) 0 0 ([]) (by decide +kernel) (by decide +kernel) (by decide +kernel), by decide +kernel, by decide +kernel, by decide +kernel, by decide +kernel⟩,
   ⟨fbSun (role 3) ([0, 0, 0]) (fun x => { x with hosting := some 77 }), 0, head0, sealed (fbSun (role 3) ([0, 0, 0]) (fun x => { x with hosting := some 77 })) 8 (77) 0 0 ([]), opened (fbSun (role 3) ([0, 0, 0]) (fun x => { x with hosting := some 77 })) ([]), plain (fbSun (role 3) ([0, 0, 0]) (fun x => { x with hosting := some 77 })) (77) ([]), rfl, opens 8 (77) 0 0 ([]) (by decide +kernel) (by decide +kernel) (by decide +kernel), by decide +kernel⟩⟩
/-- Its further clauses. -/
theorem witness_sundogCommandsComplete_3 :
    (∃ (s : State) (path : Nat) (i : _) (q : _) (t : _), FbReady s ∧ memberOf s.fb.core.path path = some i ∧ s.fb.core.memberPort i = some q ∧ s.fb.g.portUp q = false ∧ (s.fb.g.port q).downAt = some t ∧ s.fb.up ≥ t + 1000 * s.fb.core.num oSundogTakeoverHold) ∧
    (∃ (s : State) (path : Nat) (i : _) (q : _), FbReady s ∧ memberOf s.fb.core.path path = some i ∧ s.fb.core.memberPort i = some q ∧ s.fb.g.portUp q = true) ∧
    (∃ (s : State) (path : Nat), FbReady s ∧ s.fb.sun.state = .lost ∧ path = s.fb.sun.path) ∧
    (∃ (s : State) (e : Envelope) (path : Nat) (f : Fabato) (a : Actor), FbReady s ∧ path < 2 ^ 32 ∧ FbGrants s e .wo oSundogTakeover (s.objBytes .fabato oSundogTakeover path) f a ∧ (f.core.plan.root = true ∧ f.sun.state = .lost ∧ path = f.sun.path ∧ f.core.kind ≥ 2)) :=
  ⟨⟨fbSky (role 2) [0, 0, 0] (fun x => { x with state := .down, downAt := some 0 }) id, 0, 0, 0, 0, rfl, by decide +kernel, by decide +kernel, by decide +kernel, by decide +kernel, by decide +kernel⟩,
   ⟨fbSky (role 2) [0, 0, 0] up0 id, 0, 0, 0, rfl, by decide +kernel, by decide +kernel, by decide +kernel⟩,
   ⟨fbSun (role 3) (role 3) (fun x => { x with state := .lost, path := 77 }), 77, rfl, by decide +kernel, by decide +kernel⟩,
   ⟨fbKind 2 (fun f => { f.onCore (fun c => { c with store := [(oHorizonPlanHeader, 1 :: zeros 63)] }) with sun := { f.sun with state := .lost, path := 4294967295 } }), headerOf (State.oneWrite (fbKind 2 (fun f => { f.onCore (fun c => { c with store := [(oHorizonPlanHeader, 1 :: zeros 63)] }) with sun := { f.sun with state := .lost, path := 4294967295 } })) .fabato (oSundogTakeover) (((fbKind 2 (fun f => { f.onCore (fun c => { c with store := [(oHorizonPlanHeader, 1 :: zeros 63)] }) with sun := { f.sun with state := .lost, path := 4294967295 } })).objBytes .fabato oSundogTakeover (4294967295)))), 4294967295, _, _, rfl, by decide +kernel, fb_grants rfl (.inr (.inl rfl)) ⟨rfl, by decide, rfl⟩ (by decide +kernel), by decide +kernel⟩⟩
/-- Its further clauses. -/
theorem witness_sundogCommandsComplete_4 :
    (∃ (s : State), FbReady s ∧ s.fb.sun.state = .paired ∧ (s.fb.core.parentPort false).isSome = true ∧ s.fb.core.keys.tree ≠ zeros 32 ∧ s.fb.up ≥ s.fb.sun.pushAt + secNs * s.fb.snapInterval ∧ s.fb.sun.hosting = none ∧ storeGet s.fb.core.pairGood oSundogSnapshotInterval = none) ∧
    (∃ (s : State) (p : Nat) (t : _), FbReady s ∧ s.fb.sun.state = .lost ∧ s.fb.sun.lostAt = some t ∧ s.fb.up ≥ t + 1000 * s.fb.core.num oSundogTakeoverHold ∧ 2 ≤ s.fb.core.kind ∧ (s.fb.core.parentPort false).isSome = true ∧ (s.fb.core.portsOf 5).any (fun p => s.fb.g.portUp p) = true) :=
  ⟨⟨fbSun (role 0) (role 3) (fun x => { x with state := .paired }), rfl, by decide +kernel, by decide +kernel, by decide +kernel, by decide +kernel, by decide +kernel, by decide +kernel⟩,
   ⟨{ fbSun (role 0) (role 5) (fun x => { x with state := .lost, lostAt := some 0 }) with fb := (fbSun (role 0) (role 5) (fun x => { x with state := .lost, lostAt := some 0 })).fb.onCore (fun c => { c with kind := 2 }) }, 1, 0, rfl, by decide +kernel, by decide +kernel, by decide +kernel, by decide +kernel, by decide +kernel, by decide +kernel⟩⟩

/-- Each clause of `Obligations.TimeCommandsComplete` has a state and operands that meet its hypotheses; a clause whose only hypothesis is Ready is met by `ready`. -/
theorem witness_timeCommandsComplete :
    (∃ (s : State) (p : Nat) (seq : _) (t2 : _), FbReady s ∧ (s.fb.g.ptpPort p).sync = some (seq, t2) ∧ s.fb.g.core.time.useP1 = false ∧ s.fb.g.slavePort = some p) ∧
    (∃ (s : State) (p : Nat) (seq : _) (t1 : _) (t2 : _) (t4 : _), FbReady s ∧ (s.fb.g.ptpPort p).req = some (seq, t1) ∧ (s.fb.g.ptpPort p).resp = some (t2, t4)) ∧
    (∃ (s : State) (n : Nat) (item : Nat) (l : FabLane) (m : MemberServo) (t1 : Nat) (x : Int × Int), FbReady s ∧ s.fb.g.lanes[n]? = some l ∧ l.lane.phy.state = .up ∧ l.waiting = true ∧ l.step = none ∧ bitsOf item 39 16 = l.exch ∧ s.fb.g.halo.members[n]? = some m ∧ m.t1 = some t1 ∧ x = exchangeOf t1 (bitsOf item 127 64) (bitsOf item 127 64 + bitsOf item 63 40) (correctStamp s.fb.g.core (0x0B040100 + n * 0x200) s.fb.g.core.ns) ∧ 0 ≤ x.2 ∧ x.2 ≤ 100) ∧
    (∃ (s : State) (n : Nat) (l : FabLane), FbReady s ∧ s.fb.g.lanes[n]? = some l ∧ s.fb.up ≥ l.reqAt + 1000 * s.fb.core.num oTimeSyncInterval ∧ l.lane.phy.state = .up ∧ l.waiting = false) ∧
    (∃ (s : State) (e : Envelope) (o : Ovtan) (a : Actor), OvGrants s e .wo oTimeForceState (s.objBytes .ovtan oTimeForceState 1) o a) ∧
    (∃ (s : State) (e : Envelope) (f : Fabato) (a : Actor), FbGrants s e .wo oTimeForceState (s.objBytes .fabato oTimeForceState 1) f a) ∧
    (∃ (s : State) (e : Envelope) (o : Ovtan) (a : Actor), OvGrants s e .wo oTimeForceState (s.objBytes .ovtan oTimeForceState 2) o a) ∧
    (∃ (s : State) (e : Envelope) (f : Fabato) (a : Actor), FbGrants s e .wo oTimeForceState (s.objBytes .fabato oTimeForceState 2) f a ∧ f.core.noSrc = false) ∧
    (∃ (s : State) (item : Nat), OvReady s ∧ s.ov.link.lane.phy.state = .up ∧ s.ov.core.time.forced = false ∧ s.ov.core.time.mode = .locked ∧ bitsOf item 31 29 ≠ 7) ∧
    (∃ (s : State) (item : Nat) (c : Core), OvReady s ∧ s.ov.link.lane.phy.state = .up ∧ s.ov.core.time.forced = false ∧ bitsOf item 23 16 ≠ s.ov.link.stepId ∧ bitsOf item 23 16 ≠ 0 ∧ c = (({ s.ov.core with time := { s.ov.core.time with byte := BitVec.ofNat 8 (bitsOf item 31 24) } } : Core).stepClock true false s.ov.core.up (signedOf 64 (bitsOf item 127 64))).bump oTimeSteps) ∧
    (∃ (s : State), OvReady s ∧ s.ov.link.lane.phy.state = .up ∧ s.ov.core.up ≥ s.ov.core.time.lastFull + 1000000 * s.ov.core.num oTimeFullInterval) ∧
    (∃ (s : State) (t : _), OvReady s ∧ s.ov.link.lane.phy.downAt = some t ∧ s.ov.core.time.mode = .locked ∧ s.ov.core.up ≥ t + 3000 * s.ov.core.num oTimeSyncInterval) ∧
    (∃ (s : State), OvReady s ∧ s.ov.core.heldDay s.ov.core.up = true ∧ s.ov.core.time.dayNoted = false) ∧
    (∃ (s : State), FbReady s ∧ s.fb.core.heldDay s.fb.up = true ∧ s.fb.core.time.dayNoted = false) ∧
    (∃ (s : State), FbReady s ∧ s.fb.core.noSrc = false ∧ s.fb.up ≥ s.fb.core.time.lastSync + 3 * s.fb.core.srcNs ∧ s.fb.core.time.useP1 = true ∧ s.fb.core.time.mode = .locked) ∧
    (∃ (s : State) (x : Fabato), x = ({ s.fb with board := { s.fb.board with reference := false } } : Fabato).settle s.fb ∧ x.board.boot = 3 ∧ x.core.time.refPresent = true ∧ x.core.time.mode ≠ .locked) ∧
    (∃ (s : State) (x : Fabato), x = ({ s.fb with board := { s.fb.board with reference := true } } : Fabato).settle s.fb ∧ x.board.boot = 3 ∧ x.core.time.refPresent = false ∧ x.core.num oTimeFreqSrc = 0 ∧ x.core.time.mode ≠ .holdover) ∧
    (∃ (s : State) (v : _) (t : _) (c : _) (b : _) (at_ : _), FbReady s ∧ s.fb.core.num oTimePhaseSrc = 4 ∧ s.fb.core.isRoot = true ∧ s.fb.core.time.tod = some (v, t) ∧ at_ = correctStamp s.fb.core 0x0B065000 s.fb.ns ∧ b = 20 + (ftoInt (-(2 ^ 31)) (2 ^ 31) (f32Val (ofLe (s.fb.core.effective 0x0B065080)))).natAbs ∧ c = { s.fb.core with time := { s.fb.core.time with srcState := 0, bParent := b, tod := none } }) ∧
    (∃ (s : State) (v : _) (t : _), FbReady s ∧ s.fb.core.time.tod = some (v, t) ∧ s.fb.up ≥ t + 2000000000 ∧ s.fb.core.time.mode = .locked) ∧
    (∃ (s : State) (p : Nat), FbReady s ∧ s.fb.up ≥ (s.fb.g.ptpPort p).lastDue + s.fb.core.syncNs ∧ s.fb.g.slavePort = some p ∧ p < 24) ∧
    (∃ (s : State) (k : Nat) (x : _), FbReady s ∧ s.fb.g.halo.trig[k]? = some x ∧ (s.fb.core.trig k).mode = 1 ∧ x.done = false ∧ x.next ≤ s.fb.ns ∧ s.fb.core.time.steppedAt = none) ∧
    (∃ (s : State) (k : Nat) (x : _) (t : _), FbReady s ∧ s.fb.g.halo.trig[k]? = some x ∧ (s.fb.core.trig k).mode = 2 ∧ x.done = false ∧ s.fb.core.angle.isLocked = true ∧ (s.fb.core.trig k).selects s.fb.core.angle.step = true ∧ x.next ≤ s.fb.core.angle.step ∧ t = fireTime s.fb.core.angle.tm s.fb.core.angle.lq (s.fb.core.trig k).angle ∧ t ≤ s.fb.ns ∧ s.fb.core.time.steppedAt = none) ∧
    (∃ (s : State) (k : Nat) (x : _) (t : _), FbReady s ∧ s.fb.g.halo.trig[k]? = some x ∧ x.pulseEnd = some t ∧ t ≤ s.fb.ns) ∧
    (∃ (s : State), FbReady s ∧ s.fb.g.outputsRun = true ∧ s.fb.ns / 1000000000 > s.fb.g.halo.ppsSecond ∧ s.fb.core.flag oVantagePpsOutEn = true ∧ s.fb.core.flag oVantageTenmhzOutEn = false) ∧
    (∃ (s : State) (t : _), FbReady s ∧ s.fb.g.halo.ppsFall = some t ∧ t ≤ s.fb.ns) :=
  ⟨⟨fbTime [(oTimePhaseSrc, [1])] (fun t => { t with useP1 := false }) (fun h => { h with ptp := [ptp0 24] }), 24, 1, 5, rfl, by decide +kernel, by decide +kernel, by decide +kernel⟩,
   ⟨fbTime [(oTimePhaseSrc, [1])] (fun t => { t with useP1 := false }) (fun h => { h with ptp := [ptp0 24] }), 24, 1, 5, 7, 9, rfl, by decide +kernel, by decide +kernel⟩,
   ⟨exchanging true, 135, 0, { laneK (laneIn .up) with waiting := true }, _, 0, _, rfl, by decide +kernel, by decide +kernel, by decide +kernel, by decide +kernel, by decide +kernel, rfl, by decide +kernel, rfl, by decide +kernel, by decide +kernel⟩,
   ⟨exchanging false, 135, laneK (laneIn .up), rfl, by decide +kernel, by decide +kernel, by decide +kernel, by decide +kernel⟩,
   ⟨ready, headerOf (State.oneWrite (ready) .ovtan (oTimeForceState) (((ready).objBytes .ovtan oTimeForceState 1))), _, _, ov_grants rfl rfl ⟨rfl, by decide, rfl⟩ (by decide +kernel)⟩,
   ⟨ready, headerOf (State.oneWrite (ready) .fabato (oTimeForceState) (((ready).objBytes .fabato oTimeForceState 1))), _, _, fb_grants rfl (.inl rfl) ⟨rfl, by decide, rfl⟩ (by decide +kernel)⟩,
   ⟨ready, headerOf (State.oneWrite (ready) .ovtan (oTimeForceState) (((ready).objBytes .ovtan oTimeForceState 2))), _, _, ov_grants rfl rfl ⟨rfl, by decide, rfl⟩ (by decide +kernel)⟩,
   ⟨fbStore [(oTimePhaseSrc, [1])], headerOf (State.oneWrite (fbStore [(oTimePhaseSrc, [1])]) .fabato (oTimeForceState) (((fbStore [(oTimePhaseSrc, [1])]).objBytes .fabato oTimeForceState 2))), _, _, fb_grants rfl (.inl rfl) ⟨rfl, by decide, rfl⟩ (by decide +kernel), by decide +kernel⟩,
   ⟨ovTime (fun t => { t with mode := .locked, forced := false }), 0, rfl, by decide +kernel, by decide +kernel, by decide +kernel, by decide +kernel⟩,
   ⟨ovTime (fun t => { t with forced := false }), 65536, _, rfl, by decide +kernel, by decide +kernel, by decide +kernel, by decide +kernel, rfl⟩,
   ⟨ovTime id, rfl, by decide +kernel, by decide +kernel⟩,
   ⟨ovTime (fun t => { t with mode := .locked }), 0, rfl, by decide +kernel, by decide +kernel, by decide +kernel⟩,
   ⟨ovTime (fun t => { t with mode := .holdover, holdSince := some 0 }), rfl, by decide +kernel, by decide +kernel⟩,
   ⟨fbTime [] (fun t => { t with mode := .holdover, holdSince := some 0 }) id, rfl, by decide +kernel, by decide +kernel⟩,
   ⟨fbTime [(oTimePhaseSrc, [1])] (fun t => { t with useP1 := true, mode := .locked }) id, rfl, by decide +kernel, by decide +kernel, by decide +kernel, by decide +kernel⟩,
   ⟨acquiring true 0, ((withRef (acquiring true 0) false).settle (acquiring true 0).fb), rfl, by decide +kernel, by decide +kernel, by decide +kernel⟩,
   ⟨acquiring false 1, ((withRef (acquiring false 1) true).settle (acquiring false 1).fb), rfl, by decide +kernel, by decide +kernel, by decide +kernel, by decide +kernel⟩,
   ⟨fbTime [(oTimePhaseSrc, [4])] (fun t => { t with tod := some (5, 0), mode := .locked }) id, 5, 0, _, _, _, rfl, by decide +kernel, by decide +kernel, by decide +kernel, rfl, rfl, rfl⟩,
   ⟨fbTime [(oTimePhaseSrc, [4])] (fun t => { t with tod := some (5, 0), mode := .locked }) id, 5, 0, rfl, by decide +kernel, by decide +kernel, by decide +kernel⟩,
   ⟨fbTime [(oTimePhaseSrc, [0]), (oLinkSkyPortMap + 1, role 0 ++ zeros 5)] (fun t => { t with useP1 := false }) id, 0, rfl, by decide +kernel, by decide +kernel, by decide +kernel⟩,
   ⟨fbTime [(oVantageTrigDesc + 1, [1, 0, 0, 0] ++ zeros 28)] (fun t => { t with steppedAt := none }) (fun h => { h with trig := [trigger0] }), 0, trigger0, rfl, by decide +kernel, by decide +kernel, by decide +kernel, by decide +kernel, by decide +kernel⟩,
   ⟨{ fbTime [(oVantageTrigDesc + 1, [2, 0, 0, 0] ++ zeros 12 ++ leBytes 8 1 ++ zeros 8)] (fun t => { t with steppedAt := none }) (fun h => { h with trig := [trigger0] }) with fb := (fbTime [(oVantageTrigDesc + 1, [2, 0, 0, 0] ++ zeros 12 ++ leBytes 8 1 ++ zeros 8)] (fun t => { t with steppedAt := none }) (fun h => { h with trig := [trigger0] })).fb.onCore lockedAt }, 0, trigger0, _, rfl, by decide +kernel, by decide +kernel, by decide +kernel, by decide +kernel, by decide +kernel, by decide +kernel, rfl, by decide +kernel, by decide +kernel⟩,
   ⟨fbTime [(oVantageTrigDesc + 1, [1, 0, 0, 0] ++ zeros 28)] (fun t => { t with steppedAt := none }) (fun h => { h with trig := [trigger0] }), 0, trigger0, 0, rfl, by decide +kernel, by decide +kernel, by decide +kernel⟩,
   ⟨fbTime [(oVantagePpsOutEn, [1]), (oVantageTenmhzOutEn, [0])] (fun t => { t with mode := .locked }) id, rfl, by decide +kernel, by decide +kernel, by decide +kernel, by decide +kernel⟩,
   ⟨fbTime [] id (fun h => { h with ppsFall := some 0 }), 0, rfl, by decide +kernel, by decide +kernel⟩⟩

/-- Each clause of `Obligations.TraceCommandsComplete` has a state and operands that meet its hypotheses; a clause whose only hypothesis is Ready is met by `ready`. -/
theorem witness_traceCommandsComplete :
    (∃ (s : State) (tap : Nat) (desc : U128) (index : _) (trig : _), OvReady s ∧ tap < 16 ∧ s.ov.core.flag oTraceEnable = true ∧ s.ov.core.num (oTraceTapMode + tap + 1) ≠ 0 ∧ s.ov.trace.mode = .continuous ∧ descSecurity desc = 0 ∧ s.ov.trace.flushing (tapDomain s.ov.core tap) = false ∧ filterVerdict s.ov.core.filters (s.ov.core.num (oTraceTapMode + tap + 1)) tap desc = .keep index trig ∧ (s.ov.trace.queue.filter (fun x => x.tap == tap)).length < 64) ∧
    (∃ (s : State) (tap : Nat) (desc : U128) (auth : Bool), OvReady s ∧ tap < 16 ∧ s.ov.core.flag oTraceEnable = true ∧ s.ov.core.num (oTraceTapMode + tap + 1) ≠ 0 ∧ s.ov.trace.mode = .continuous ∧ descSecurity desc ≠ 0 ∧ (auth = false ∨ s.ov.trace.grantEnd = none)) ∧
    (∃ (s : State) (e : Envelope) (o : Ovtan) (a : Actor), OvGrants s e .wo oTraceArm (s.objBytes .ovtan oTraceArm 1) o a ∧ o.trace.mode = .done) ∧
    (∃ (s : State) (e : Envelope) (o : Ovtan) (a : Actor), OvGrants s e .wo oTraceArm (s.objBytes .ovtan oTraceArm 2) o a ∧ o.trace.mode = .armed) ∧
    (∃ (s : State) (e : Envelope) (o : Ovtan) (a : Actor), OvGrants s e .wo oTraceArm (s.objBytes .ovtan oTraceArm 3) o a ∧ o.trace.mode = .capturing) ∧
    (∃ (s : State) (e : Envelope) (o : Ovtan) (a : Actor), OvGrants s e .wo oTraceArm (s.objBytes .ovtan oTraceArm 1) o a ∧ o.trace.mode ≠ .done) ∧
    (∃ (s : State) (e : Envelope) (f : Fabato) (a : Actor), FbGrants s e .wo oTraceArm (s.objBytes .fabato oTraceArm 1) f a) ∧
    (∃ (s : State) (e : Envelope) (f : Fabato) (a : Actor), FbGrants s e .wo oTraceArm (s.objBytes .fabato oTraceArm 2) f a) ∧
    (∃ (s : State) (e : Envelope) (f : Fabato) (a : Actor), FbGrants s e .wo oTraceArm (s.objBytes .fabato oTraceArm 3) f a) ∧
    (∃ (s : State) (tap : Nat), OvReady s ∧ tap < 16 ∧ s.ov.trace.sinceSync.getD tap 0 ≥ s.ov.core.num oTraceSyncInterval) ∧
    (∃ (s : State) (d : Nat), OvReady s ∧ d < 32 ∧ s.ov.trace.pdReq.testBit d = false ∧ s.ov.cap.gated.testBit d = false) ∧
    (∃ (s : State) (d : Nat) (x : _), OvReady s ∧ s.ov.trace.flushes = [x] ∧ x.domain = d ∧ x.withdrawn = false) ∧
    (∃ (s : State) (d : Nat), OvReady s ∧ s.ov.trace.pdReq.testBit d = true ∧ s.ov.cap.gated.testBit d = true) ∧
    (∃ (s : State) (d : Nat) (g : _), OvReady s ∧ s.ov.trace.gates = [g] ∧ g.domain = d ∧ g.waking = true) ∧
    (∃ (s : State) (d : Nat), OvReady s ∧ s.ov.trace.pdReq.testBit d = true ∧ s.ov.cap.gated.testBit d = false) ∧
    (∃ (s : State) (d : Nat) (x : _), OvReady s ∧ s.ov.trace.flushes.find? (fun x => x.domain == d) = some x ∧ s.ov.core.up ≥ x.since + 1500 ∧ s.ov.cap.cgNote.testBit d = false) ∧
    (∃ (s : State) (d : Nat), OvReady s ∧ d < 32 ∧ s.ov.cap.latch = none ∧ s.ov.buf.alarmed = false) ∧
    (∃ (s : State) (d : Nat), d < 32 ∧ s.ov.bnd.boot ≠ .ready) ∧
    (∃ (s : State) (e : Envelope) (value : Bytes) (f : Fabato) (a : Actor), FbGrants s e .wo oTraceExport value f a ∧ (leAt value 0 1 ≠ 0 ∧ f.fwd.exporting = none ∧ f.fwd.overwritten = none)) ∧
    (∃ (s : State) (e : Envelope) (x : _) (f : Fabato) (a : Actor), FbGrants s e .wo oTraceExport (zeros 32) f a ∧ f.fwd.exporting = some x) ∧
    (∃ (s : State) (e : Envelope) (f : Fabato) (a : Actor), FbGrants s e .wo oTraceExport (zeros 32) f a ∧ f.fwd.exporting = none) ∧
    (∃ (s : State) (x : _), FbReady s ∧ s.fb.fwd.exporting = some x ∧ x.dest = 1) ∧
    (∃ (s : State) (e : Envelope) (value : Bytes) (auth : Bool) (o : _) (a : _), OvGrants { s with ov := { s.ov with bnd := { s.ov.bnd with auth := auth } } } e .wo oTraceInject value o a) ∧
    (∃ (s : State) (x : _), OvReady s ∧ s.ov.trace.queue.head? = some x ∧ (∀ y ∈ s.ov.trace.queue, s.ov.trace.flushing (tapDomain s.ov.core y.tap) = false)) ∧
    (∃ (s : State), OvReady s ∧ s.ov.core.up ≥ s.ov.trace.accountAt + 1000 * s.ov.core.num oTraceAccountInterval) :=
  ⟨⟨ovTrace [(oTraceEnable, [1]), (oTraceTapMode + 16, [1])] (fun x => { x with mode := .continuous }), 15, 0, _, _, rfl, by decide +kernel, by decide +kernel, by decide +kernel, by decide +kernel, by decide +kernel, by decide +kernel, rfl, by decide +kernel⟩,
   ⟨ovTrace [(oTraceEnable, [1]), (oTraceTapMode + 16, [1])] (fun x => { x with mode := .continuous, grantEnd := none }), 15, BitVec.ofNat 128 (3 * 2 ^ 40), false, rfl, by decide +kernel, by decide +kernel, by decide +kernel, by decide +kernel, by decide +kernel, by decide +kernel⟩,
   ⟨ovTrace [] (fun x => { x with mode := .done }), headerOf (State.oneWrite (ovTrace [] (fun x => { x with mode := .done })) .ovtan (oTraceArm) (((ovTrace [] (fun x => { x with mode := .done })).objBytes .ovtan oTraceArm 1))), _, _, ov_grants rfl rfl ⟨rfl, by decide, rfl⟩ (by decide +kernel), by decide +kernel⟩,
   ⟨ovTrace [] (fun x => { x with mode := .armed }), headerOf (State.oneWrite (ovTrace [] (fun x => { x with mode := .armed })) .ovtan (oTraceArm) (((ovTrace [] (fun x => { x with mode := .armed })).objBytes .ovtan oTraceArm 2))), _, _, ov_grants rfl rfl ⟨rfl, by decide, rfl⟩ (by decide +kernel), by decide +kernel⟩,
   ⟨ovTrace [] (fun x => { x with mode := .capturing }), headerOf (State.oneWrite (ovTrace [] (fun x => { x with mode := .capturing })) .ovtan (oTraceArm) (((ovTrace [] (fun x => { x with mode := .capturing })).objBytes .ovtan oTraceArm 3))), _, _, ov_grants rfl rfl ⟨rfl, by decide, rfl⟩ (by decide +kernel), by decide +kernel⟩,
   ⟨ready, headerOf (State.oneWrite (ready) .ovtan (oTraceArm) (((ready).objBytes .ovtan oTraceArm 1))), _, _, ov_grants rfl rfl ⟨rfl, by decide, rfl⟩ (by decide +kernel), by decide +kernel⟩,
   ⟨ready, headerOf (State.oneWrite (ready) .fabato (oTraceArm) (((ready).objBytes .fabato oTraceArm 1))), _, _, fb_grants rfl (.inl rfl) ⟨rfl, by decide, rfl⟩ (by decide +kernel)⟩,
   ⟨ready, headerOf (State.oneWrite (ready) .fabato (oTraceArm) (((ready).objBytes .fabato oTraceArm 2))), _, _, fb_grants rfl (.inl rfl) ⟨rfl, by decide, rfl⟩ (by decide +kernel)⟩,
   ⟨ready, headerOf (State.oneWrite (ready) .fabato (oTraceArm) (((ready).objBytes .fabato oTraceArm 3))), _, _, fb_grants rfl (.inl rfl) ⟨rfl, by decide, rfl⟩ (by decide +kernel)⟩,
   ⟨ovTrace [(oTraceSyncInterval, leBytes 4 1)] (fun x => { x with sinceSync := List.replicate 16 5 }), 15, rfl, by decide +kernel, by decide +kernel⟩,
   ⟨ready, 31, rfl, by decide +kernel, by decide +kernel, by decide +kernel⟩,
   ⟨ovTrace [] (fun x => { x with flushes := [flush0] }), 31, flush0, rfl, by decide +kernel, by decide +kernel, by decide +kernel⟩,
   ⟨readyOv (fun o => { o with trace := { o.trace with pdReq := 2 ^ 31 }, cap := { o.cap with gated := 2 ^ 31 } }), 31, rfl, by decide +kernel, by decide +kernel⟩,
   ⟨ovTrace [] (fun x => { x with gates := [gate0] }), 31, gate0, rfl, by decide +kernel, by decide +kernel, by decide +kernel⟩,
   ⟨ovTrace [] (fun x => { x with pdReq := 2 ^ 31 }), 31, rfl, by decide +kernel, by decide +kernel⟩,
   ⟨ovTrace [] (fun x => { x with flushes := [flush0] }), 31, flush0, rfl, by decide +kernel, by decide +kernel, by decide +kernel⟩,
   ⟨ready, 31, rfl, by decide +kernel, by decide +kernel, by decide +kernel⟩,
   ⟨State.reset, 31, by decide +kernel, by decide +kernel⟩,
   ⟨ready, headerOf (State.oneWrite (ready) .fabato (oTraceExport) (([1] ++ zeros 31))), [1] ++ zeros 31, _, _, fb_grants rfl (.inl rfl) ⟨rfl, by decide, rfl⟩ (by decide +kernel), by decide +kernel⟩,
   ⟨readyFb (fun f => { f with fwd := { f.fwd with exporting := some export0 } }), headerOf (State.oneWrite (readyFb (fun f => { f with fwd := { f.fwd with exporting := some export0 } })) .fabato (oTraceExport) ((zeros 32))), export0, _, _, fb_grants rfl (.inl rfl) ⟨rfl, by decide, rfl⟩ (by decide +kernel), by decide +kernel⟩,
   ⟨ready, headerOf (State.oneWrite (ready) .fabato (oTraceExport) ((zeros 32))), _, _, fb_grants rfl (.inl rfl) ⟨rfl, by decide, rfl⟩ (by decide +kernel), by decide +kernel⟩,
   ⟨readyFb (fun f => { f with fwd := { f.fwd with exporting := some export0 } }), export0, rfl, by decide +kernel, by decide +kernel⟩,
   ⟨ready, headerOf (State.oneWrite { ready with ov := { ready.ov with bnd := { ready.ov.bnd with auth := true } } } .ovtan oTraceInject (zeros 17)), zeros 17, true, _, _, ov_grants rfl rfl ⟨rfl, by decide, rfl⟩ (by decide +kernel)⟩,
   ⟨ovTrace [] (fun x => { x with queue := [tapped] }), tapped, rfl, by decide +kernel, by decide +kernel⟩,
   ⟨ovTrace [] id, rfl, by decide +kernel⟩⟩

/-! ### Witnesses of the statements about the machine as a whole -/

theorem reset_ovtan : ¬ OvReady State.reset := by unfold OvReady; decide
theorem reset_fabato : ¬ FbReady State.reset := by unfold FbReady; decide
/-- A state whose queue has a command in front, and one whose queue is empty. -/
theorem witness_stepRunsFront : (∃ (i : Instr) (s : State) (rest : List Instr), s.pending = i :: rest) ∧ (∃ s : State, s.pending = [] ∧ OvReady s ∧ FbReady s) ∧
    (∃ s : State, s.pending = [] ∧ ¬ OvReady s ∧ ¬ FbReady s) :=
  ⟨⟨.pllLock, { State.reset with pending := [.pllLock] }, [], rfl⟩, ⟨ready, rfl, rfl, rfl⟩, ⟨State.reset, rfl, reset_ovtan, reset_fabato⟩⟩

/-- Commands that end in a next state, one of them out of Ready. -/
theorem witness_commandsActOnOneUnit : (∃ (i : Instr) (s t : State), exec i s = .next t) ∧
    (∃ (i : Instr) (s t : State), Instr.always i = false ∧ exec i s = .next t ∧ ¬ OvReady s ∧ ¬ FbReady s) :=
  ⟨⟨.pllLock, State.reset, _, rfl⟩, ⟨.lockoutEnd .ovtan .mailbox .custodian, State.reset, _, rfl, rfl, reset_ovtan, reset_fabato⟩⟩

/-- States that meet the invariant and step: reset, and an Ovtan that holds a fuse image while a warm restart or the fall of `AON_RST_N` waits in its queue. -/
theorem witness_everyStepKeepsBoundaryInvariant :
    (∃ s t : State, s.ov.bnd.Inv ∧ step s = .next t) ∧
    (∃ s t : State, s.ov.bnd.Inv ∧ s.ov.bnd.fuse ≠ [] ∧ s.pending.head? ≠ some .aonResetAssert ∧ step s = .next t) :=
  ⟨⟨State.reset, _, by unfold BndPart.Inv; decide, rfl⟩,
   ⟨{ readyOv (fun o => { o with bnd := { o.bnd with fuse := fuse0, fuseStatus := 0 } }) with pending := [.pllLock] }, _,
    ⟨rfl, rfl, fun h => absurd h (by decide), fun h => absurd h (by decide), fun _ => ⟨fuse0_good.2, rfl⟩⟩, by decide, by decide, rfl⟩⟩

/-- An object's fields, an Observer and an Engineer at an object open to both, and a factory calibration element. -/
theorem witness_dictionaryRules :
    (∃ i k : Nat, i = 65535 ∧ k = 255 ∧ i < 65536 ∧ k < 256) ∧
    (∃ (x : Ovtan) (a b : Actor) (obj : Nat), ovOps.tenant x obj = none ∧ loftBarred b (objArea obj) = false ∧ a.role.rank ≤ b.role.rank ∧ access ovOps x a obj .observer false = stOk) ∧
    (∃ (x : Ovtan) (w : WriteItem), objArea w.obj = 0x0B ∧ objElem w.obj < 0x40 ∧ (findRow (ovOps.get x).kind w.obj).isSome = true) :=
  ⟨⟨65535, 255, rfl, rfl, by decide, by decide⟩,
   ⟨ready.ov, { custodian with role := .observer }, { custodian with role := .engineer }, oIdentUnitKind, by decide +kernel, by decide, by decide, by decide +kernel⟩,
   ⟨ready.ov, { obj := 0x0B010001, ty := 0, value := [] }, by decide, by decide, by decide +kernel⟩⟩

/-- A write item for each refusal of `Obligations.RefusedWritesChangeNothing`. -/
theorem witness_refusedWritesChangeNothing :
    (objExpert 0x00800000 = true ∧ Role.observer.rank < 2) ∧
    lookupFor ovOps ready.ov custodian 0xFF000000 = .noObject ∧ lookupFor ovOps ready.ov custodian (oIdentUnitKind + 1) = .noElement ∧
    (∃ r, lookupFor ovOps ready.ov custodian oIdentUnitKind = .value r ∧ r.access = .ro) ∧
    (∃ r, lookupFor ovOps ready.ov custodian oSessionTraceGrant = .value r ∧ r.access = .rw ∧ ovOps.tenant ready.ov oSessionTraceGrant = none ∧
      Role.observer.rank < needRole oSessionTraceGrant r.wrRole ∧ access ovOps ready.ov custodian oSessionTraceGrant r.wrRole true = stOk ∧
      Ty.bool.code ≠ r.ty.code) ∧
    (∃ r, lookupFor fbOps ready.fb custodian oFenceBudget = .value r ∧ access fbOps ready.fb custodian oFenceBudget r.wrRole true = stOk ∧ checkType r (leBytes 4 1001) ≠ stOk) :=
  ⟨by decide, by decide +kernel, by decide +kernel, ⟨_, rfl, by decide +kernel⟩, ⟨_, rfl, by decide +kernel, by decide +kernel, by decide +kernel, by decide +kernel, by decide +kernel⟩,
   ⟨_, rfl, by decide +kernel, by decide +kernel⟩⟩

/-- A header that names no session, at units in Ready. -/
theorem witness_unauthenticatedRequestsOnlyCount :
    ∃ (s : State) (e : Envelope) (q : Request), OvReady s ∧ FbReady s ∧ s.ov.core.expireSessions.authenticate e q.opcode q.body = none ∧
      s.fb.core.expireSessions.authenticate e q.opcode q.body = none :=
  ⟨ready, { header 0x01 [] with session := 9 }, .read [], rfl, rfl, by decide +kernel, by decide +kernel⟩

/-- The kept response to a write of nothing, and the Ovtan that keeps it. -/
def kept0 : Kept :=
  { who := custodian.principal, msgId := 1, digest := requestDigest (header 0x02 []) 0x02 [], opcode := 0x82, summary := 0, body := [], at_ := 0 }
def keeps : State := ovCore (fun c => { c with kept := [kept0] })
/-- A write that is repeated after its response was kept. -/
theorem witness_repeatedRequestsGetTheKeptResponse :
    ∃ (s : State) (e : Envelope) (items : List WriteItem) (x : Session × Core) (k : Kept), OvReady s ∧ Plain e (.write items) x.2.path ∧
      s.ov.core.expireSessions.authenticate e 0x02 (items.flatMap writeItemBytes) = some x ∧
      x.2.keptFor x.1.actor e.msgId (requestDigest e 0x02 (items.flatMap writeItemBytes)) = some k :=
  ⟨keeps, header 0x02 [], [], _, kept0, rfl, ⟨rfl, by decide, Nat.succ_ne_zero 14, .inl local16.1, local16.2.1, local16.2.2⟩, authentic rfl (by decide) 0x02 [], by decide +kernel⟩

/-- Another port's lock, a failure below SESSION.LOCKOUT_LIMIT, and one that reaches it. -/
theorem witness_failuresLockTheirOwnPort :
    (∃ p p' : Port, p' ≠ p) ∧ (∃ c : Core, (c.lockOf .mailbox .observer).fails + 1 < (c.bump oSessionAuthFails).num oSessionLockoutLimit) ∧
    (∃ c : Core, (c.lockOf .mailbox .observer).fails + 1 ≥ (c.bump oSessionAuthFails).num oSessionLockoutLimit) :=
  ⟨⟨.mailbox, .sky 0, by decide⟩, ⟨ready.ov.core, by decide +kernel⟩,
   ⟨{ ready.ov.core with locks := [{ port := .mailbox, role := .observer, fails := 255, k := 0, until? := none }] }, by decide +kernel⟩⟩

/-- A role whose key is unset. -/
theorem witness_unsetKeysOpenNothing : ∃ (c : Core) (r : Role) (h : Handshake), c.openKey false r = zeros 32 ∧ c.openKey h.link h.role = zeros 32 :=
  ⟨{ ready.ov.core with keys := { ready.ov.core.keys with roles := List.replicate 4 (zeros 32) } }, .engineer, shake0, by decide +kernel, by decide +kernel⟩

/-- A store of two values in order, and after reset. -/
theorem witness_storeReadsBackWhatWasPut : storeWf [(1, [1]), (2, [])] = true ∧ storeWf State.reset.ov.core.store = true := by decide

/-- Requests of every opcode at the ends of their fields' ranges. -/
theorem witness_requestsReadBack :
    (Request.read [{ obj := 2 ^ 32 - 1, count := 255, flags := 255 }]).Fits ∧ (Request.write [{ obj := 2 ^ 32 - 1, ty := 255, flags := 255, value := [0] }]).Fits ∧
    (Request.commit [1]).Fits ∧ (Request.list 255 65535).Fits ∧ (Request.other 0x40 [1]).Fits := by
  refine ⟨?_, ?_, trivial, ?_, ?_⟩ <;> (simp only [Request.Fits]; decide)

/-- A time part within its rate, locked and stalled angles, an angle at its last value, features at the ends of the order. -/
theorem witness_timeAndAngle :
    (0 ≤ (2 ^ 48 : Int) + (State.reset.ov.core.time.adj * 2 ^ 32).tdiv 1000000000) ∧
    (∃ (a : AnglePart) (t e : Nat), a.mode = .stalled ∧ a.tm < 2 ^ 64 ∧ t < 2 ^ 64 ∧ e = (t + 2 ^ 64 - a.tm) % 2 ^ 64 ∧ e * 2 ^ 32 / (a.lq / 2 ^ 16) > 0xFFFFFFFF) ∧
    (∃ (a : AnglePart) (t e x : Nat), a.mode = .locked ∧ a.tm ≤ t ∧ t < 2 ^ 64 ∧ e = (t + 2 ^ 64 - a.tm) % 2 ^ 64 ∧ 0 < a.lq / 2 ^ 16 ∧ x < 2 ^ 32 ∧ x ≤ angleAt a t ∧ e * 2 ^ 32 / (a.lq / 2 ^ 16) ≤ 0xFFFFFFFF) ∧
    (∃ x y : Nat, x < 2 ^ 32 ∧ y < 2 ^ 32 ∧ f32Val x ≠ .nan ∧ f32Val y ≠ .nan ∧ fle (f32Val y) (f32Val x) = false) :=
  ⟨by decide, ⟨{ (lockedAt ready.ov.core).angle with mode := .stalled }, 1000001, 1000001, rfl, by decide, by decide, by decide, by decide +kernel⟩,
   ⟨(lockedAt ready.ov.core).angle, 999999, 999999, 0xFFFFFFF0 - 0x10000, rfl, by decide, by decide, by decide, by decide +kernel, by decide, by decide +kernel, by decide +kernel⟩,
   ⟨0xBF800000, 0x3F800000, by decide, by decide, by decide +kernel, by decide +kernel, by decide +kernel⟩⟩

/-- Two arrival orders, and an IRQ line with and without a pulse. -/
theorem witness_arrivalAndInterrupts :
    (∃ l l' : List Hist, l ≠ l' ∧ l.Perm l') ∧
    (∃ (x : MemSide) (line t : Nat), line < x.irq.length ∧ x.irq.getD line none = some t) ∧ (∃ (x : MemSide) (line : Nat), line < x.irq.length ∧ x.irq.getD line none = none) :=
  ⟨⟨[Hist.zero, { Hist.zero with nan := 1 }], [{ Hist.zero with nan := 1 }, Hist.zero], by decide, List.Perm.swap ..⟩,
   ⟨{ ready.ov.memSide with irq := [none, none, none, some 5] }, 3, 5, by decide, rfl⟩, ⟨ready.ov.memSide, 3, by decide +kernel, by decide +kernel⟩⟩

/-! ### Worked examples of the manual -/

/-- Spec/00: the path of die port 37 of tray 5, rack 2, row 1, and the member of the tray 0x1085_FFFF it names. -/
theorem test_path : memberPath 0x1085FFFF 37 = 0x108525FF ∧ memberOf 0x1085FFFF 0x108525FF = some 37 ∧ pathLevel 0x108525FF = 0 ∧ pathLevel 0x1085FFFF = 1 := by decide +kernel

/-- Spec/00: an angle of 0x2000_0000 of a step of 820 ms falls 102.5 ms after the marker; spec/05: entries 1 and 2 fire 205 and 615 ms after it. -/
theorem test_fire_times : fireTime 0 (820000000 * 65536) 0x20000000 = 102500000 ∧ fireTime 0 0x30E035000000 0x40000000 = 205000000 ∧
    fireTime 0 0x30E035000000 0xC0000000 = 615000000 := by decide +kernel

/-- Spec/02: lf8 codes 0x5A, 0xFF and 0x08. -/
theorem test_lf8 : ftoInt 0 (2 ^ 40) (lf8Val 0x5A) = 1280 ∧ ftoInt 0 (2 ^ 40) (lf8Val 0xFF) = 2013265920 ∧ ftoInt 0 (2 ^ 40) (lf8Val 0x08) = 1 := by decide +kernel

/-- Spec/02: the COMMIT of the worked example, byte by byte. -/
theorem test_commit_bytes : commitBytes 1 0xA7 48200 0 = [1, 0, 0, 0, 0xA7, 0, 0, 0, 0x48, 0xBC, 0, 0, 0, 0, 0, 0] ++ zeros 16 := by decide +kernel

/-- Spec/04: the corrected exchange gives an offset of 36 ns and a delay of 5 ns. -/
theorem test_exchange : exchangeOf 10 52 302 271 = (36, 5) ∧ exchangeOf 0 54 300 274 = (40, 14) := by decide

/-- Spec/04: the locked branch on an offset of 36 ns with the default gains. -/
theorem test_servo : servoUpdate ready.ov.core.servo 0 36 = (-18432000, -313344000) := by decide +kernel

/-- Spec/04: the extension of t_ns = 0xFFFF_FF00 against its arrival. -/
theorem test_extend : extendNs 0xFFFFFF00 0x1848C9A700001200 = 0x1848C9A6FFFFFF00 := by decide +kernel

/-- Spec/06: the words of Table 6.17. -/
theorem test_program_words : decodeWord 0x040000000000FFFF = .snap 0xFFFF ∧ decodeWord 0x0C00000000080000 = .delta 0 8 0 ∧ decodeWord 0x0800000000000400 = .read 4 0 ∧
    decodeWord 0x1002210205002002 = .cmp true 0x21 2 5 2 2 ∧ decodeWord 0x1800000100080000 = .emit 1 8 0 ∧ decodeWord 0 = .halt ∧
    decodeWord 0xFC00000000000000 = .bad := by decide +kernel

/-- Spec/08: CRC-32 of IEEE 802.3 over the digits 1 to 9, fed as two words and a byte. -/
theorem test_dew : let f : DewCfg := { w := 32, reflectIn := true, reflectOut := true, fold := 0, foldStart := 0, poly := 0x04C11DB7, init := 0xFFFFFFFF, xorout := 0xFFFFFFFF }
    let d := ((({ dew0 with reg := 0xFFFFFFFF } : DewCh).write f { n := 4, v := 0x34333231, addr := none }).write f { n := 4, v := 0x38373635, addr := none }).write f { n := 1, v := 0x39, addr := none }
    d.result f = 0xCBF43926 := by decide +kernel

/-- Spec/13: three f32 values in either order. -/
theorem test_exact_sum : let b := Acc.single 0 (f32Val 0x4B800000)
    let o := Acc.single 0 (f32Val 0x3F800000)
    (b.add o).add o = (o.add o).add b ∧ ((b.add o).add o).a = 2 ^ 173 + 2 ^ 150 ∧ ((b.add o).add o).result 0x0C = 0x4B800001 := by decide +kernel

/-- Ill-formed commands, one for each range that `Instr.wf` checks. -/
theorem test_ill_formed : Instr.wf (.dictList .ovtan (header 0 []) 256 0) = false ∧ Instr.wf (.ptpSyncDue 26) = false ∧ Instr.wf (.timeReqDue 136) = false ∧
    Instr.wf (.triggerPulseEnd 4) = false ∧ Instr.wf (.stepMarker 4294967296) = false ∧ Instr.wf (.markerReportArrival 128 0 0) = false ∧ Instr.wf (.eventInput 16 0 none) = false ∧
    Instr.wf (.sensorConversion 128 0 false) = false ∧ Instr.wf (.fmonWindowEnd 8 0 false) = false ∧ Instr.wf (.tracePeriodicSync 16) = false ∧ Instr.wf (.pdReqRise 32) = false ∧
    Instr.wf (.dewFeedByte .ovtan (header 0 []) 7 256) = false ∧ Instr.wf (.dmaGo .ovtan (header 0 []) 8) = false ∧ Instr.wf (.memTimeout 16) = false ∧
    Instr.wf (.mailboxFrame 256 []) = false ∧ Instr.wf (.skyDeadExpire 24) = false ∧ Instr.wf (.workUnitDispatch 52) = false ∧ Instr.wf (.blockWakeDone .fabato 256) = false ∧
    Instr.wf (.loftSleepWake 16) = false ∧ Instr.wf (.ingestTake 8) = false ∧ Instr.wf (.portFrameStart 32) = false ∧ Instr.wf (.subIdleExpire 2048 0) = false ∧
    Instr.wf (.anvilWalk 64) = false ∧ Instr.wf (.reductionContribution 256) = false ∧ Instr.wf (.condenseGatherExpire 4096) = false ∧
    Instr.wf (.porRelease 4 false false false [] []) = false ∧ Instr.wf (.modulePresentChange 2 false) = false := by decide

end Sys2Proof.Tests
end

section
/-! Object numbers on the wire (R57) and the head of a read item (Table 2.11). -/
namespace Sys2Proof.Machine
open Sys2Proof

/-! ### The fields of an object number built of its three parts -/

theorem objArea_of_fields {a i k : Nat} (hi : i < 65536) (hk : k < 256) : objArea (a * 2 ^ 24 + i * 2 ^ 8 + k) = a := by
  have hlow : i * 2 ^ 8 + k < 2 ^ 24 := by omega
  rw [objArea, Nat.add_assoc, Nat.mul_comm a, Nat.mul_add_div (by decide), Nat.div_eq_of_lt hlow, Nat.add_zero]

/-- Bits [23:8]: the model reads them as `o / 256 % 65536` wherever it asks for the object field. -/
theorem objField_of_fields {a i k : Nat} (hi : i < 65536) (hk : k < 256) : (a * 2 ^ 24 + i * 2 ^ 8 + k) / 256 % 65536 = i := by
  have hdiv : (a * 2 ^ 24 + i * 2 ^ 8 + k) / 256 = a * 65536 + i := by omega
  rw [hdiv, Nat.mul_add_mod_of_lt hi]

theorem objElem_of_fields {a i k : Nat} (hk : k < 256) : objElem (a * 2 ^ 24 + i * 2 ^ 8 + k) = k := by
  have hsum : a * 2 ^ 24 + i * 2 ^ 8 = (a * 65536 + i) * 256 := by omega
  rw [objElem, hsum, Nat.mul_add_mod_of_lt hk]

/-! ### A read item -/

/-- A read item's first field is its object number, four bytes long. -/
theorem readItemBytes_take_obj (r : ReadItem) : (readItemBytes r).take 4 = leBytes 4 r.obj := by
  simp only [readItemBytes, List.append_assoc]
  exact List.take_left' (leBytes_length ..)

/-- Settles O40: the fields read back by division, a read item begins with its object number, and SESSION.COMMIT is the number R57 gives. -/
theorem objectNumberFields : Obligations.ObjectNumberFields := by
  unfold Obligations.ObjectNumberFields
  exact ⟨fun a i k hi hk => ⟨objArea_of_fields hi hk, objField_of_fields hi hk, objElem_of_fields hk⟩, readItemBytes_take_obj, rfl⟩

end Sys2Proof.Machine
end

section
/-! One cycle of the time counter and the time80 form (R132). -/
namespace Sys2Proof.Machine
open Sys2Proof

/-! ### One cycle of the 1.0 GHz clock -/

theorem stepFrac_cast {adj : Int} (h : 0 ≤ (2 ^ 48 : Int) + (adj * 2 ^ 32).tdiv 1000000000) :
    (stepFrac adj : Int) = (2 ^ 48 : Int) + (adj * 2 ^ 32).tdiv 1000000000 :=
  Int.toNat_of_nonneg h

/-- The carry out of the fraction goes to the nanoseconds, which wrap as a u64. -/
theorem TimePart.tick_ns_toNat (t : TimePart) :
    t.tick.ns.toNat = (t.ns.toNat + (t.frac.toNat + stepFrac t.adj) / 2 ^ 48) % 2 ^ 64 := by
  rw [TimePart.tick, BitVec.toNat_add, BitVec.toNat_ofNat, Nat.add_mod_mod]

theorem TimePart.tick_frac_toNat (t : TimePart) : t.tick.frac.toNat = (t.frac.toNat + stepFrac t.adj) % 2 ^ 48 :=
  BitVec.toNat_ofNat ..

theorem TimePart.tick_frame (t : TimePart) : t.tick = { t with ns := t.tick.ns, frac := t.tick.frac } := rfl

/-! ### The time80 form -/

/-- Nanoseconds within a second are fewer than 10^9, so they fit the low 32 bits. -/
theorem time80_nanos_lt (ns : Nat) : ns % 1000000000 < 2 ^ 32 :=
  (Nat.mod_lt ns (by decide)).trans (by decide)

theorem time80_seconds (ns : Nat) : time80 ns / 2 ^ 32 = ns / 1000000000 := by
  rw [time80, Nat.mul_comm, Nat.mul_add_div (by decide), Nat.div_eq_of_lt (time80_nanos_lt ns), Nat.add_zero]

theorem time80_nanos (ns : Nat) : time80 ns % 2 ^ 32 = ns % 1000000000 := by
  rw [time80, Nat.mul_add_mod_of_lt (time80_nanos_lt ns)]

/-- Settles O52: with a step that is not negative, `stepFrac` is the integer of R132, so the equations of `tick` over the naturals are those of the statement; the two fields of a time80 read back by division. -/
theorem timeCountsByRateAndFraction : Obligations.TimeCountsByRateAndFraction := by
  unfold Obligations.TimeCountsByRateAndFraction
  refine ⟨fun t h => ?_, fun ns => ⟨time80_seconds ns, time80_nanos ns⟩⟩
  rw [← stepFrac_cast h]
  refine ⟨?ns, ?frac, t.tick_frame⟩
  case ns => exact_mod_cast t.tick_ns_toNat
  case frac => exact_mod_cast t.tick_frac_toNat

end Sys2Proof.Machine
end

section
/-! The angle at a time, and the fire time of an angle entry (R160, R161). -/
namespace Sys2Proof.Machine
open Sys2Proof

/-! ### A u64 difference -/

theorem sub64_of_lt {t s : Nat} (ht : t < 2 ^ 64) (hs : s < 2 ^ 64) : sub64 t s = (t + 2 ^ 64 - s) % 2 ^ 64 := by
  rw [sub64, Nat.mod_eq_of_lt ht, Nat.mod_eq_of_lt hs]

/-- A difference that does not wrap. -/
theorem sub64_of_le {t s : Nat} (hst : s ≤ t) (ht : t < 2 ^ 64) : sub64 t s = t - s := by
  rw [sub64_of_lt ht (hst.trans_lt ht), Nat.sub_add_comm hst, Nat.add_mod_right, Nat.mod_eq_of_lt ((t.sub_le s).trans_lt ht)]

/-! ### The angle -/

theorem AnglePart.raw_eq (a : AnglePart) (t : Nat) : a.raw t = sub64 t a.tm * 2 ^ 32 / (a.lq / 2 ^ 16) := rfl

theorem AnglePart.le_raw_iff {a : AnglePart} (hl : 0 < a.lq / 2 ^ 16) (x t : Nat) :
    x ≤ a.raw t ↔ x * (a.lq / 2 ^ 16) ≤ sub64 t a.tm * 2 ^ 32 := by
  rw [AnglePart.raw_eq, Nat.le_div_iff_mul_le hl]

theorem angleAt_of_locked_or_stalled {a : AnglePart} (hm : a.mode = .locked ∨ a.mode = .stalled) (t : Nat) :
    angleAt a t = min (a.raw t) 0xFFFFFFFF := by
  rcases hm with hm | hm <;> rw [angleAt, hm]

theorem AnglePart.modeAt_of_locked {a : AnglePart} (hm : a.mode = .locked) (t : Nat) :
    a.modeAt t = if a.raw t > 0xFFFFFFFF then .stalled else .locked := by
  rw [AnglePart.modeAt, hm]

/-- Holding the angle just short of a turn does not change when it reaches a position within the turn. -/
theorem le_angleAt_iff_le_raw {a : AnglePart} (hm : a.mode = .locked ∨ a.mode = .stalled) {x : Nat} (hx : x < 2 ^ 32) (t : Nat) :
    x ≤ angleAt a t ↔ x ≤ a.raw t := by
  rw [angleAt_of_locked_or_stalled hm, le_min_iff, and_iff_left (Nat.le_of_lt_succ hx)]

/-! ### The fire time -/

theorem fireTime_eq (tm lq x : Nat) : fireTime tm lq x = tm + (x * (lq / 2 ^ 16) + 0xFFFFFFFF) / 2 ^ 32 := rfl

/-- The fire time is `tm` and a ceiling, so it is adjoint to the product that the angle's truncating division is compared with. -/
theorem fireTime_le_iff {tm t : Nat} (ht : tm ≤ t) (lq x : Nat) :
    fireTime tm lq x ≤ t ↔ x * (lq / 2 ^ 16) ≤ (t - tm) * 2 ^ 32 := by
  rw [fireTime_eq, ← Nat.le_sub_iff_add_le' ht]
  generalize x * (lq / 2 ^ 16) = p
  omega

/-- From the marker on, the angle has reached `x` exactly from the fire time of `x` on. -/
theorem le_angleAt_iff_fireTime_le {a : AnglePart} (hm : a.mode = .locked ∨ a.mode = .stalled) (hl : 0 < a.lq / 2 ^ 16)
    {x t : Nat} (hx : x < 2 ^ 32) (htm : a.tm ≤ t) (ht : t < 2 ^ 64) :
    x ≤ angleAt a t ↔ fireTime a.tm a.lq x ≤ t :=
  calc
    x ≤ angleAt a t ↔ x ≤ a.raw t := le_angleAt_iff_le_raw hm hx t
    _ ↔ x * (a.lq / 2 ^ 16) ≤ sub64 t a.tm * 2 ^ 32 := AnglePart.le_raw_iff hl x t
    _ ↔ x * (a.lq / 2 ^ 16) ≤ (t - a.tm) * 2 ^ 32 := by rw [sub64_of_le htm ht]
    _ ↔ fireTime a.tm a.lq x ≤ t := (fireTime_le_iff htm a.lq x).symm

/-- Settles O54: a position is at most a truncated quotient exactly when its product with the divisor is at most the dividend, and the fire time's ceiling is at most `t` exactly then. -/
theorem fireTimeIsTheFirstInstant : Obligations.FireTimeIsTheFirstInstant := by
  unfold Obligations.FireTimeIsTheFirstInstant
  exact fun a x t hm hl hx => ⟨fireTime_eq .., le_angleAt_iff_fireTime_le hm hl hx⟩

/-- Settles O53: both times are u64, so `raw` divides the statement's own difference; the angle is its minimum with the last position of the turn. -/
theorem angleOfATime : Obligations.AngleOfATime := by
  unfold Obligations.AngleOfATime
  rintro a t e hm htm ht rfl
  have hraw : (t + 2 ^ 64 - a.tm) % 2 ^ 64 * 2 ^ 32 / (a.lq / 2 ^ 16) = a.raw t := by
    rw [AnglePart.raw_eq, sub64_of_lt ht htm]
  rw [hraw]
  refine ⟨?angle, fun hlocked => AnglePart.modeAt_of_locked hlocked t⟩
  case angle =>
    rw [angleAt_of_locked_or_stalled hm, min_comm]
    exact min_def_lt ..

end Sys2Proof.Machine
end

section
/-! Merged histograms (R343). -/
namespace Sys2Proof.Machine
open Sys2Proof

/-! ### The values that a bucket list counts -/

/-- `Hist.inBucket` of a list of buckets (`Hist.inBucket_eq`), so that it can be followed through the list. -/
def bucketCount (i : Nat) (l : List (Nat × Nat)) : Nat := ((l.filter (fun b => b.1 == i)).map (fun b => b.2)).sum

theorem Hist.inBucket_eq (h : Hist) (i : Nat) : h.inBucket i = bucketCount i h.buckets := rfl

@[simp] theorem bucketCount_nil (i : Nat) : bucketCount i [] = 0 := rfl

@[simp] theorem bucketCount_cons (i j n : Nat) (l : List (Nat × Nat)) :
    bucketCount i ((j, n) :: l) = (if j = i then n else 0) + bucketCount i l := by
  by_cases hj : j = i <;> simp [bucketCount, hj]

/-- Ascending or not, a list to which `n` is added at `j` counts as the list with the entry at its head. -/
theorem bucketCount_bucketAdd (i j n : Nat) (l : List (Nat × Nat)) :
    bucketCount i (bucketAdd j n l) = bucketCount i ((j, n) :: l) := by
  induction l with
  | nil => rfl
  | cons b rest ih =>
    obtain ⟨k, m⟩ := b
    rw [bucketAdd]
    split_ifs with hlt heq
    · rfl
    · subst heq
      simp only [bucketCount_cons]
      split_ifs <;> omega
    · rw [bucketCount_cons, ih]
      simp only [bucketCount_cons]
      exact Nat.add_left_comm ..

theorem bucketCount_foldl_bucketAdd (i : Nat) (ys l : List (Nat × Nat)) :
    bucketCount i (ys.foldl (fun l b => bucketAdd b.1 b.2 l) l) = bucketCount i l + bucketCount i ys := by
  induction ys generalizing l with
  | nil => rfl
  | cons b ys ih =>
    rw [List.foldl_cons, ih, bucketCount_bucketAdd, bucketCount_cons, bucketCount_cons]
    omega

/-! ### The merge -/

theorem Hist.add_inBucket (x y : Hist) (i : Nat) : (x.add y).inBucket i = x.inBucket i + y.inBucket i :=
  bucketCount_foldl_bucketAdd i y.buckets x.buckets

/-- Settles O56: the merge folds `bucketAdd` over the second histogram's buckets, and each `bucketAdd` raises its own bucket's count alone. -/
theorem mergedHistogramsAdd : Obligations.MergedHistogramsAdd := by
  unfold Obligations.MergedHistogramsAdd
  exact fun x y i => ⟨x.add_inBucket y i, rfl, rfl, rfl⟩

end Sys2Proof.Machine
end

section
/-! The key of a feature and the order of the f32 numbers (R371). -/
namespace Sys2Proof.Machine
open Sys2Proof

/-! ### The key and the total order -/

/-- The key is R341's total order key moved up by 2^31, so that the smallest is 0. -/
theorem anvilKey_eq_fmtKey_add (x : Nat) : (anvilKey x : Int) = fmtKey 0x0C x + 2 ^ 31 := by
  simp only [anvilKey, fmtKey, fmtBits]
  split_ifs <;> omega

theorem anvilKey_lt_iff_fmtKey_lt (x y : Nat) : anvilKey x < anvilKey y ↔ fmtKey 0x0C x < fmtKey 0x0C y := by
  rw [← Int.ofNat_lt, anvilKey_eq_fmtKey_add, anvilKey_eq_fmtKey_add, add_lt_add_iff_right]

theorem anvilKey_of_lt {x : Nat} (hx : x < 2 ^ 32) :
    anvilKey x = if x / 2 ^ 31 = 1 then 2 ^ 32 - 1 - x else x + 2 ^ 31 := by
  have hsign : x / 2 ^ 31 % 2 = x / 2 ^ 31 := Nat.mod_eq_of_lt (by omega)
  rw [anvilKey, hsign, Nat.mod_eq_of_lt hx]

/-! ### A number as a count of 2^-149 -/

/-- The significand of the pattern whose bits [30:0] are `m` (R64). -/
def f32Sig (m : Nat) : Nat := if m / 2 ^ 23 = 0 then m % 2 ^ 23 else 2 ^ 23 + m % 2 ^ 23

/-- The magnitude of the pattern whose bits [30:0] are `m`, in steps of the least subnormal, 2^-149 (R64). -/
def f32Mag (m : Nat) : Nat := f32Sig m * 2 ^ (m / 2 ^ 23 - 1)

/-- The magnitude that an infinity takes by the same rule: 2^277 steps, the next after the largest finite one. -/
def f32InfMag : Nat := f32Mag (255 * 2 ^ 23)

/-- `f32Mag` with the pattern's sign. -/
def f32Units (x : Nat) : Int := if x / 2 ^ 31 % 2 = 1 then -(f32Mag (x % 2 ^ 31) : Int) else f32Mag (x % 2 ^ 31)

/-- The next pattern has the next significand in the same binade, or begins the binade above. -/
theorem f32Mag_lt_succ (m : Nat) : f32Mag m < f32Mag (m + 1) := by
  by_cases htop : m % 2 ^ 23 = 2 ^ 23 - 1
  case neg =>
    have hexp : (m + 1) / 2 ^ 23 = m / 2 ^ 23 := by omega
    have hsig : f32Sig m < f32Sig (m + 1) := by
      simp only [f32Sig, hexp]
      split_ifs <;> omega
    rw [f32Mag, f32Mag, hexp]
    exact Nat.mul_lt_mul_of_pos_right hsig (Nat.two_pow_pos _)
  case pos =>
    have hexp : (m + 1) / 2 ^ 23 = m / 2 ^ 23 + 1 := by omega
    have hsig : f32Sig (m + 1) = 2 ^ 23 := by
      rw [f32Sig, if_neg (by omega)]
      omega
    rw [f32Mag, f32Mag, hexp, hsig, Nat.add_sub_cancel, f32Sig]
    cases m / 2 ^ 23 with
    | zero =>
      simp only [if_true, Nat.zero_sub]
      omega
    | succ k =>
      rw [if_neg k.succ_ne_zero, Nat.add_sub_cancel, pow_succ' 2 k, ← Nat.mul_assoc]
      exact Nat.mul_lt_mul_of_pos_right (by omega) (Nat.two_pow_pos k)

theorem f32Mag_strictMono : StrictMono f32Mag := strictMono_nat_of_lt_succ f32Mag_lt_succ

theorem f32InfMag_pos : 0 < f32InfMag := (Nat.zero_le (f32Mag 0)).trans_lt (f32Mag_strictMono (by decide))

theorem abs_f32Units (x : Nat) : |f32Units x| = f32Mag (x % 2 ^ 31) := by
  rw [f32Units]
  split_ifs
  · rw [abs_neg, Nat.abs_cast]
  · exact Nat.abs_cast _

/-- The number does not fall as the key rises: among negative patterns both fall as the magnitude rises, among the others both rise with it. -/
theorem f32Units_le_of_anvilKey_le {x y : Nat} (h : anvilKey x ≤ anvilKey y) : f32Units x ≤ f32Units y := by
  simp only [anvilKey] at h
  simp only [f32Units]
  split_ifs at h ⊢ with hx hy hy
  · have hmag : f32Mag (y % 2 ^ 31) ≤ f32Mag (x % 2 ^ 31) := f32Mag_strictMono.monotone (by omega)
    omega
  · omega
  · omega
  · have hmag : f32Mag (x % 2 ^ 31) ≤ f32Mag (y % 2 ^ 31) := f32Mag_strictMono.monotone (by omega)
    omega

/-! ### The values of Table 0.2 and their counts -/

/-- The value `v` is `u` steps of 2^-149; an infinity stands beyond every finite f32, at `f32InfMag` steps. -/
def FVal.HasUnits (v : FVal) (u : Int) : Prop :=
  match v with
  | .nan => False
  | .inf neg => u = if neg then -(f32InfMag : Int) else f32InfMag
  | .fin n d => 0 < d ∧ n * 2 ^ 149 = u * d ∧ |u| < f32InfMag

/-- Numbers compare as their counts. -/
theorem fle_iff_le_of_hasUnits {v w : FVal} {s t : Int} (hv : v.HasUnits s) (hw : w.HasUnits t) : fle v w = true ↔ s ≤ t := by
  cases v with
  | nan => exact hv.elim
  | inf a =>
    cases w with
    | nan => exact hw.elim
    | inf b =>
      rw [hv, hw]
      cases a <;> cases b <;> simp [fle, f32InfMag_pos.ne']
    | fin n d =>
      obtain ⟨-, -, ht⟩ := hw
      rw [hv]
      cases a with
      | true => exact iff_of_true rfl (neg_lt_of_abs_lt ht).le
      | false => exact iff_of_false Bool.false_ne_true (lt_of_abs_lt ht).not_ge
  | fin n d =>
    obtain ⟨hd, hn, hs⟩ := hv
    cases w with
    | nan => exact hw.elim
    | inf b =>
      rw [hw]
      cases b with
      | true => exact iff_of_false Bool.false_ne_true (neg_lt_of_abs_lt hs).not_ge
      | false => exact iff_of_true rfl (lt_of_abs_lt hs).le
    | fin n' d' =>
      obtain ⟨hd', hn', -⟩ := hw
      have hscale : (0 : Int) < 2 ^ 149 := by positivity
      have hdd : (0 : Int) < d * d' := by positivity
      calc fle (.fin n d) (.fin n' d') = true
          ↔ n * d' ≤ n' * d := decide_eq_true_iff
        _ ↔ n * d' * 2 ^ 149 ≤ n' * d * 2 ^ 149 := (mul_le_mul_iff_left₀ hscale).symm
        _ ↔ s * (d * d') ≤ t * (d * d') := by
          rw [mul_right_comm n, mul_right_comm n', hn, hn', mul_assoc, mul_assoc, mul_comm (d' : Int) d]
        _ ↔ s ≤ t := mul_le_mul_iff_left₀ hdd

theorem pow2_snd_pos (e : Int) : 0 < (pow2 e).2 := by
  rw [pow2]
  split_ifs
  · exact Nat.one_pos
  · exact Nat.two_pow_pos _

/-- 2^e is 2^(e + k) steps of 2^-k. -/
theorem pow2_mul_two_pow {e : Int} {k j : Nat} (h : e + k = j) : (pow2 e).1 * 2 ^ k = 2 ^ j * ((pow2 e).2 : Int) := by
  rw [pow2]
  split_ifs with he
  · have hj : j = e.toNat + k := by omega
    rw [hj, pow_add]
    push_cast
    ring
  · have hk : k = j + (-e).toNat := by omega
    rw [hk, pow_add]
    push_cast
    ring

theorem f32Val_of_exp_ones {x : Nat} (he : x / 2 ^ 23 % 2 ^ 8 = 255) :
    f32Val x = if x % 2 ^ 23 = 0 then .inf (x / 2 ^ 31 % 2 == 1) else .nan :=
  if_pos he

theorem f32Val_of_finite {x : Nat} (he : x / 2 ^ 23 % 2 ^ 8 ≠ 255) :
    ∃ e : Int, e + (149 : Nat) = (x % 2 ^ 31 / 2 ^ 23 - 1 : Nat) ∧
      f32Val x = .fin ((if x / 2 ^ 31 % 2 = 1 then -(f32Sig (x % 2 ^ 31) : Int) else f32Sig (x % 2 ^ 31)) * (pow2 e).1) (pow2 e).2 := by
  have hexp : x % 2 ^ 31 / 2 ^ 23 = x / 2 ^ 23 % 2 ^ 8 := by omega
  have hfrac : x % 2 ^ 31 % 2 ^ 23 = x % 2 ^ 23 := by omega
  refine ⟨(if x / 2 ^ 23 % 2 ^ 8 = 0 then 1 else ((x / 2 ^ 23 % 2 ^ 8 : Nat) : Int)) - 127 - 23, ?_, ?_⟩
  · rw [hexp]
    split_ifs <;> omega
  · rw [f32Sig, hexp, hfrac, f32Val, fdec]
    refine (if_neg he).trans ?_
    simp only [beq_iff_eq, Nat.cast_ite]
    rfl

/-- Every pattern that is no NaN has the count that its three fields give. -/
theorem f32Val_hasUnits {x : Nat} (hx : f32Val x ≠ .nan) : (f32Val x).HasUnits (f32Units x) := by
  by_cases he : x / 2 ^ 23 % 2 ^ 8 = 255
  case pos =>
    rw [f32Val_of_exp_ones he] at hx ⊢
    split_ifs at hx ⊢ with hfrac
    · have hinf : x % 2 ^ 31 = 255 * 2 ^ 23 := by omega
      simp only [FVal.HasUnits, f32Units, hinf, beq_iff_eq, f32InfMag]
    · exact absurd rfl hx
  case neg =>
    obtain ⟨e, hexp, hval⟩ := f32Val_of_finite he
    rw [hval]
    refine ⟨pow2_snd_pos e, ?scale, ?bound⟩
    case scale =>
      rw [mul_assoc, pow2_mul_two_pow hexp, f32Units, f32Mag]
      split_ifs <;> push_cast <;> ring
    case bound =>
      rw [abs_f32Units]
      exact_mod_cast f32Mag_strictMono (show x % 2 ^ 31 < 255 * 2 ^ 23 by omega)

theorem anvilKey_lt_of_number_lt {x y : Nat} (hx : f32Val x ≠ .nan) (hy : f32Val y ≠ .nan)
    (h : fle (f32Val y) (f32Val x) = false) : anvilKey x < anvilKey y := by
  by_contra hkey
  have hle : fle (f32Val y) (f32Val x) = true :=
    (fle_iff_le_of_hasUnits (f32Val_hasUnits hy) (f32Val_hasUnits hx)).mpr (f32Units_le_of_anvilKey_le (not_lt.mp hkey))
  exact Bool.false_ne_true (h.symm.trans hle)

/-- Settles O55: a number is a count of 2^-149 that does not fall as the key rises, so the smaller of two numbers has the smaller key; the key is the total order key moved up by 2^31. -/
theorem featureKeysKeepTheOrder : Obligations.FeatureKeysKeepTheOrder := by
  unfold Obligations.FeatureKeysKeepTheOrder
  exact ⟨fun x hx => anvilKey_of_lt hx, fun x y _ _ hx hy => ⟨anvilKey_lt_of_number_lt hx hy, anvilKey_lt_iff_fmtKey_lt x y⟩⟩

end Sys2Proof.Machine
end

section
/-! The unit that a command reaches, and what it leaves alone (R18). -/
namespace Sys2Proof.Machine
open Sys2Proof

/-- `t` is `s` after something that acts on one unit of the pair, on one that is not in Ready only where `any` is set, and not on the queue. -/
structure State.Confined (any : Bool) (s t : State) : Prop where
  queue : t.pending = s.pending
  oneUnit : t.ov = s.ov ∨ t.fb = s.fb
  ovNotReady : any = false → ¬ OvReady s → t.ov = s.ov
  fbNotReady : any = false → ¬ FbReady s → t.fb = s.fb

variable {any : Bool} {s : State}

@[simp] theorem confined_onOv (h : Ovtan → Ovtan) : s.Confined any (s.onOv h) :=
  ⟨onOv_pending h, .inr (onOv_fb h), fun _ hr => by rw [onOv_not hr], fun _ _ => onOv_fb h⟩

@[simp] theorem confined_onFb (h : Fabato → Fabato) : s.Confined any (s.onFb h) :=
  ⟨onFb_pending h, .inl (onFb_ov h), fun _ _ => onFb_ov h, fun _ hr => by rw [onFb_not hr]⟩

@[simp] theorem confined_onOvAny (h : Ovtan → Ovtan) : s.Confined true (s.onOvAny h) := ⟨rfl, .inr rfl, nofun, nofun⟩

@[simp] theorem confined_onFbAny (h : Fabato → Fabato) : s.Confined true (s.onFbAny h) := ⟨rfl, .inl rfl, nofun, nofun⟩

@[simp] theorem confined_on (u : UnitSel) (ho : Ovtan → Ovtan) (hf : Fabato → Fabato) : s.Confined any (s.on u ho hf) := by
  cases u
  · exact confined_onOv ho
  · exact confined_onFb hf

@[simp] theorem confined_write (u : UnitSel) (e : Envelope) (obj : Nat) (v : Bytes) : s.Confined any (s.write u e obj v) := confined_on ..

@[simp] theorem confined_rackRef (present : Bool) : s.Confined true (s.rackRef present) :=
  ⟨onFb_pending _, .inl (onFb_ov _), nofun, nofun⟩

theorem confined_traceInject (u : UnitSel) (e : Envelope) (v : Bytes) (auth : Bool) :
    s.Confined any ((match u with | .ovtan => s.traceAuth auth | .fabato => s).write u e oTraceInject v) := by
  cases u
  case ovtan =>
    refine ⟨?_, .inr ?_, fun _ hr => ?_, fun _ _ => ?_⟩
    · exact (onOv_pending _).trans (onOv_pending _)
    · exact (onOv_fb _).trans (onOv_fb _)
    · rw [State.traceAuth, onOv_not hr]
      exact (confined_write (any := false) ..).ovNotReady rfl hr
    · exact (onOv_fb _).trans (onOv_fb _)
  case fabato => exact confined_write ..

/-- Every arm of `exec` acts on one unit, by one of the ways a command has of reaching it. -/
theorem exec_confined (i : Instr) (s : State) : ∃ t, exec i s = .next t ∧ s.Confined (Instr.always i) t := by
  cases i
  case traceInject u e v auth => exact ⟨_, rfl, confined_traceInject u e v auth⟩
  all_goals
    refine ⟨_, rfl, ?_⟩
    simp [Instr.always, State.writeNum, State.readOne, State.commit, State.request, State.receive, State.lane, State.onCore]

/-- Settles O31: each arm of `exec` is a next state, and no way of reaching a unit touches the queue. -/
theorem everyCommandCompletes : Obligations.EveryCommandCompletes := by
  intro i s
  obtain ⟨t, ht, hc⟩ := exec_confined i s
  exact ⟨t, ht, hc.queue⟩

/-- What `exec` answers is the next state of `exec_confined`. -/
theorem confined_of_exec {i : Instr} {s t : State} (h : exec i s = .next t) : s.Confined (Instr.always i) t := by
  obtain ⟨t', ht, hc⟩ := exec_confined i s
  cases ht.symm.trans h
  exact hc

/-- Settles O32, by the one unit that a command acts on. -/
theorem commandsActOnOneUnit : Obligations.CommandsActOnOneUnit :=
  fun _ _ _ h => (confined_of_exec h).oneUnit

/-- Settles O33: a command that is not one of `Instr.always` reaches a unit in Ready alone. -/
theorem outsideReadyNothingHappens : Obligations.OutsideReadyNothingHappens :=
  fun _ _ _ ha h => ⟨(confined_of_exec h).ovNotReady ha, (confined_of_exec h).fbNotReady ha⟩

end Sys2Proof.Machine
end

section
/-! Arrival orders of accumulators and histograms (R46, R339, R343). -/
namespace Sys2Proof.Machine
open Sys2Proof

theorem Acc.add_right_comm (z x y : Acc) : (z.add x).add y = (z.add y).add x := by
  simp only [Acc.add, Nat.mod_add_mod, Nat.add_right_comm]

theorem bucketAdd_comm (i n j m : Nat) (l : List (Nat × Nat)) :
    bucketAdd i n (bucketAdd j m l) = bucketAdd j m (bucketAdd i n l) := by
  induction l with
  | nil => simp only [bucketAdd]; grind
  | cons b rest ih => obtain ⟨k, c⟩ := b; simp only [bucketAdd]; grind [bucketAdd]

theorem Hist.add_right_comm (z x y : Hist) : (z.add x).add y = (z.add y).add x := by
  have hb : (x.buckets ++ y.buckets).foldl (fun l b => bucketAdd b.1 b.2 l) z.buckets =
      (y.buckets ++ x.buckets).foldl (fun l b => bucketAdd b.1 b.2 l) z.buckets :=
    List.perm_append_comm.foldl_eq' (fun _ _ _ _ l => bucketAdd_comm ..) _
  simp only [List.foldl_append] at hb
  simp only [Hist.add, hb, Nat.add_right_comm]

/-- Settles O57: neither addition minds the order of the two contributions it takes. -/
theorem arrivalOrderDoesNotMatter : Obligations.ArrivalOrderDoesNotMatter :=
  ⟨fun _ _ _ h => h.foldl_eq' (fun _ _ _ _ z => z.add_right_comm ..) _, fun _ _ h => h.foldl_eq' (fun _ _ _ _ z => z.add_right_comm ..) _⟩

end Sys2Proof.Machine
end

section
/-! The window of sequence numbers of a session (R110). -/
namespace Sys2Proof.Machine
open Sys2Proof

/-- What a session's window says: of the numbers up to 63 below the highest taken, those taken, and 0, have their bit set; no number above it is taken. -/
structure WindowTells (high window : Nat) (taken : List Nat) : Prop where
  nodup : taken.Nodup
  le_high : ∀ n ∈ taken, n ≤ high
  bit : ∀ n, n ≤ high → high ≤ n + 63 → (window.testBit (high - n) = true ↔ n = 0 ∨ n ∈ taken)

theorem windowTells_open : WindowTells 0 1 [] where
  nodup := List.nodup_nil
  le_high := nofun
  bit n hn _ := by simp [Nat.le_zero.mp hn]

variable {high window : Nat} {taken : List Nat}

theorem WindowTells.accepts_iff (h : WindowTells high window taken) (n : Nat) :
    (seqAccept high window n).isSome = true ↔ high < n ∨ (high ≤ n + 63 ∧ n ≠ 0 ∧ n ∉ taken) := by
  rw [seqAccept]
  split_ifs with hgt
  · simp [hgt]
  dsimp only
  split_ifs with hold
  · have : ¬ (high ≤ n + 63 ∧ n ≠ 0 ∧ n ∉ taken) := by
      rintro ⟨hw, h0, hn⟩
      rcases hold with hold | hold
      · omega
      · exact ((h.bit n (by omega) hw).mp hold).elim h0 hn
    simpa [this] using hgt
  · push Not at hold
    have hw : high ≤ n + 63 := by omega
    have hbit := h.bit n (by omega) hw
    simp only [Option.isSome_some, true_iff]
    exact .inr ⟨hw, not_or.mp (fun hor => hold.2 (hbit.mpr hor))⟩

theorem testBit_shift_window (w d i : Nat) (hi : i < 64) (h0 : i ≠ 0) :
    ((if d ≥ 64 then 0 else w * 2 ^ d % 2 ^ 64) ||| 1).testBit i = (decide (d ≤ i) && w.testBit (i - d)) := by
  have h1 : Nat.testBit 1 i = false :=
    Bool.eq_false_iff.mpr (mt Nat.testBit_one_eq_true_iff_self_eq_zero.mp h0)
  split_ifs with hd
  · simp [h1]; omega
  · rw [Nat.testBit_or, h1, Nat.testBit_mod_two_pow, ← Nat.shiftLeft_eq, Nat.testBit_shiftLeft]
    simp [hi]

theorem WindowTells.accept (h : WindowTells high window taken) {n : Nat} {w : Nat × Nat} (hw : seqAccept high window n = some w) :
    WindowTells w.1 w.2 (n :: taken) := by
  have hnew : n ∉ taken := by
    rcases (h.accepts_iff n).mp (by rw [hw]; rfl) with hgt | ⟨_, _, hn⟩
    · exact fun hmem => absurd (h.le_high n hmem) (not_le.mpr hgt)
    · exact hn
  rw [seqAccept] at hw
  split_ifs at hw with hgt
  · cases hw
    refine ⟨List.nodup_cons.mpr ⟨hnew, h.nodup⟩, ?_, fun m hm hlow => ?_⟩
    · simpa using fun m hm => (h.le_high m hm).trans (le_of_lt hgt)
    · obtain rfl | hne := eq_or_ne m n
      · simp
      · rw [testBit_shift_window _ _ _ (by omega) (by omega)]
        by_cases hmh : m ≤ high
        · have := h.bit m hmh (by omega)
          rw [show n - m - (n - high) = high - m by omega]
          simp [this, hne]; omega
        · have : m ∉ taken := fun hmem => hmh (h.le_high m hmem)
          simp [this, hne]; omega
  dsimp only at hw
  split_ifs at hw
  · cases hw
    refine ⟨List.nodup_cons.mpr ⟨hnew, h.nodup⟩, ?_, fun m hm hlow => ?_⟩
    · simpa using ⟨by omega, h.le_high⟩
    · rw [Nat.testBit_or, Bool.or_eq_true, h.bit m hm hlow, Nat.testBit_two_pow, decide_eq_true_iff, List.mem_cons]
      have : high - n = high - m ↔ m = n := by omega
      rw [this]
      tauto

theorem windowTells_seqRun (l : List Nat) : WindowTells (seqRun l).1 (seqRun l).2.1 (seqRun l).2.2 := by
  unfold seqRun
  refine List.foldlRecOn (motive := fun x : Nat × Nat × List Nat => WindowTells x.1 x.2.1 x.2.2) l _ windowTells_open (fun x hx n _ => ?_)
  split
  · next w hw => exact hx.accept hw
  · exact hx

/-- Settles O45: whatever is presented, the window tells the numbers taken, and the bit of a number decides whether it is acceptable. -/
theorem noSequenceIsTakenTwice : Obligations.NoSequenceIsTakenTwice :=
  fun l => ⟨(windowTells_seqRun l).nodup, (windowTells_seqRun l).accepts_iff⟩

end Sys2Proof.Machine
end

section
/-! Roles, keys and locks of sessions (R67, R100, R120, R121). -/
namespace Sys2Proof.Machine
open Sys2Proof

/-- An access outside a tenant's objects turns on the rank alone. -/
theorem access_of_no_tenant {σ : Type} {u : UnitOps σ} {x : σ} {a : Actor} {obj : Nat} (need : Role) (w : Bool)
    (ht : u.tenant x obj = none) (hl : loftBarred a (objArea obj) = false) :
    access u x a obj need w = if a.role.rank < needRole obj need then eRole else stOk := by
  simp [access, ht, hl]

/-- Settles O41: without a tenant the check compares the rank alone, and a bar to a Loft program answers E_ROLE. -/
theorem rolesAreOrdered : Obligations.RolesAreOrdered := by
  refine ⟨by decide, by decide, by decide, fun u x a b obj need w ht hb hab ha => ?_⟩
  cases hla : loftBarred a (objArea obj)
  case true => exact absurd ha (by rw [access, if_pos hla]; decide)
  case false =>
    rw [access_of_no_tenant need w ht hla] at ha
    rw [access_of_no_tenant need w ht hb]
    refine if_neg fun hlt => ?_
    rw [if_pos (lt_of_le_of_lt hab hlt)] at ha
    exact absurd ha (by decide)

/-- Settles O48: the test for a key of zeros stands before every result 0, and the Custodian's key has a check of its own. -/
theorem unsetKeysOpenNothing : Obligations.UnsetKeysOpenNothing := by
  intro c p r link tenant h proof
  refine ⟨fun hk => ?_, fun hk => ?_, if_pos ⟨rfl, rfl⟩⟩
  · rw [Core.helloResult, if_pos hk]
    split_ifs <;> decide
  · simp only [Core.proofResult, if_pos hk]
    split_ifs <;> decide

@[simp] theorem Core.raise_lockOf (c : Core) (code sub : Nat) (l : List Nat) (p : Port) (r : Role) :
    (c.raise code sub l).lockOf p r = c.lockOf p r := rfl

@[simp] theorem Core.bump_lockOf (c : Core) (o : Nat) (p : Port) (r : Role) : (c.bump o).lockOf p r = c.lockOf p r := rfl

theorem Core.setLock_lockOf_same (c : Core) {l : Lock} {p : Port} {r : Role} (hp : l.port = p) (hr : l.role = r) : (c.setLock l).lockOf p r = l := by
  subst hp hr
  have hnone : (c.locks.filter (fun m => !(m.port == l.port && m.role == l.role))).find? (fun m => m.port == l.port && m.role == l.role) = none :=
    List.find?_eq_none.mpr (fun m hm => by simpa [imp_iff_not_or] using (List.mem_filter.mp hm).2)
  rw [Core.lockOf, Core.setLock, List.find?_append, hnone]
  simp

theorem find?_lock_filter_ne (locks : List Lock) {l : Lock} {p : Port} {r : Role} (hl : ¬ (l.port = p ∧ l.role = r)) :
    (locks.filter (fun m => !(m.port == l.port && m.role == l.role))).find? (fun m => m.port == p && m.role == r) =
      locks.find? (fun m => m.port == p && m.role == r) := by
  rw [List.find?_filter]
  congr 1
  funext m
  by_cases hm : m.port = p ∧ m.role = r
  · obtain ⟨rfl, rfl⟩ := hm
    have : ¬ (m.port = l.port ∧ m.role = l.role) := fun h => hl ⟨h.1.symm, h.2.symm⟩
    simpa [imp_iff_not_or] using this
  · have : (m.port == p && m.role == r) = false := by simpa using hm
    simp [this]

theorem Core.setLock_lockOf_ne (c : Core) {l : Lock} {p : Port} {r : Role} (hl : ¬ (l.port = p ∧ l.role = r)) :
    (c.setLock l).lockOf p r = c.lockOf p r := by
  have hlast : (l.port == p && l.role == r) = false := by simpa using hl
  rw [Core.lockOf, Core.setLock, List.find?_append, find?_lock_filter_ne _ hl]
  simp [hlast, Core.lockOf]

theorem Core.lockOf_owner (c : Core) (p : Port) (r : Role) : (c.lockOf p r).port = p ∧ (c.lockOf p r).role = r := by
  rw [Core.lockOf]
  cases hf : c.locks.find? (fun l => l.port == p && l.role == r) with
  | none => exact ⟨rfl, rfl⟩
  | some l => simpa using List.find?_some hf

/-- The lock entry that a client's failure leaves (R120). -/
def Core.failedLock (c : Core) (p : Port) (r : Role) : Lock :=
  if (c.lockOf p r).fails + 1 ≥ (c.bump oSessionAuthFails).num oSessionLockoutLimit then
    { c.lockOf p r with fails := 0, k := (c.lockOf p r).k + 1, until? := some (c.up + (c.bump oSessionAuthFails).lockSeconds ((c.lockOf p r).k + 1) * secNs) }
  else { c.lockOf p r with fails := (c.lockOf p r).fails + 1 }

theorem Core.failedLock_owner (c : Core) (p : Port) (r : Role) : (c.failedLock p r).port = p ∧ (c.failedLock p r).role = r := by
  rw [Core.failedLock]
  split <;> exact c.lockOf_owner p r

/-- What a client's failure reports besides has no say in any lock. -/
theorem authFail_lockOf (c : Core) (p p' : Port) (r r' : Role) (tenant : Nat) :
    (c.authFail p r tenant false).lockOf p' r' = (c.setLock (c.failedLock p r)).lockOf p' r' := by
  rw [Core.authFail, if_neg Bool.false_ne_true, Core.failedLock]
  by_cases h : (c.lockOf p r).fails + 1 ≥ (c.bump oSessionAuthFails).num oSessionLockoutLimit
  · exact (congrArg (Core.lockOf · p' r') (if_pos h)).trans (by rw [if_pos h]; rfl)
  · exact (congrArg (Core.lockOf · p' r') (if_neg h)).trans (by rw [if_neg h]; rfl)

/-- Settles O47: a failure sets the lock entry of its own port and role alone. -/
theorem failuresLockTheirOwnPort : Obligations.FailuresLockTheirOwnPort := by
  intro c p p' r r' tenant
  obtain ⟨hp, hr⟩ := c.failedLock_owner p r
  obtain ⟨hp', hr'⟩ := c.lockOf_owner p r
  refine ⟨fun hne => ?_, rfl, fun hlt => ?_, fun hge => ?_⟩
  · rw [authFail_lockOf, Core.setLock_lockOf_ne]
    rintro ⟨rfl, rfl⟩
    simp [hp, hr] at hne
  · rw [authFail_lockOf, Core.setLock_lockOf_same _ hp hr, Core.failedLock, if_neg (not_le.mpr hlt)]
    simp only [hp', hr']
  · rw [authFail_lockOf, Core.setLock_lockOf_same _ hp hr, Core.failedLock, if_pos hge]
    simp only [hp', hr']
    rfl

end Sys2Proof.Machine
end

section
/-! The store of a unit (R71, R75). -/
namespace Sys2Proof.Machine
open Sys2Proof

theorem storeWf_iff_pairwise (st : Store) : storeWf st = true ↔ st.Pairwise (fun p q => p.1 < q.1) := by
  induction st with
  | nil => simp [storeWf]
  | cons p rest ih =>
    cases rest with
    | nil => simp [storeWf]
    | cons q rest =>
      rw [storeWf, Bool.and_eq_true, decide_eq_true_iff, ih, List.pairwise_cons (a := p)]
      refine ⟨fun ⟨hlt, hp⟩ => ⟨fun r hr => ?_, hp⟩, fun ⟨hlt, hp⟩ => ⟨hlt q List.mem_cons_self, hp⟩⟩
      rcases List.mem_cons.mp hr with rfl | hr
      · exact hlt
      · exact hlt.trans ((List.pairwise_cons.mp hp).1 r hr)

theorem mem_storeErase_of_mem {st : Store} {o : Nat} {p : Nat × Bytes} (h : p ∈ storeErase st o) : p ∈ st := by
  induction st with
  | nil => exact h
  | cons q rest ih =>
    rw [storeErase] at h
    split_ifs at h
    · exact List.mem_cons_of_mem _ h
    · rcases List.mem_cons.mp h with rfl | h
      · exact List.mem_cons_self
      · exact List.mem_cons_of_mem _ (ih h)

theorem mem_storeInsert {st : Store} {o : Nat} {v : Bytes} {p : Nat × Bytes} (h : p ∈ storeInsert st o v) : p = (o, v) ∨ p ∈ st := by
  induction st with
  | nil => exact .inl (List.mem_singleton.mp h)
  | cons q rest ih =>
    rw [storeInsert] at h
    split_ifs at h <;> grind

theorem storeWf_storeErase {st : Store} (o : Nat) (h : storeWf st = true) : storeWf (storeErase st o) = true := by
  rw [storeWf_iff_pairwise] at h ⊢
  induction st with
  | nil => exact h
  | cons q rest ih =>
    obtain ⟨hq, hrest⟩ := List.pairwise_cons.mp h
    rw [storeErase]
    split_ifs
    · exact hrest
    · exact List.pairwise_cons.mpr ⟨fun p hp => hq p (mem_storeErase_of_mem hp), ih hrest⟩

theorem storeWf_storeInsert {st : Store} (o : Nat) (v : Bytes) (h : storeWf st = true) : storeWf (storeInsert st o v) = true := by
  rw [storeWf_iff_pairwise] at h ⊢
  induction st with
  | nil => exact List.pairwise_singleton ..
  | cons q rest ih =>
    obtain ⟨hq, hrest⟩ := List.pairwise_cons.mp h
    rw [storeInsert]
    split_ifs with hlt heq
    · refine List.pairwise_cons.mpr ⟨fun p hp => ?_, h⟩
      rcases List.mem_cons.mp hp with rfl | hp
      · exact hlt
      · exact hlt.trans (hq p hp)
    · exact List.pairwise_cons.mpr ⟨heq ▸ hq, hrest⟩
    · refine List.pairwise_cons.mpr ⟨fun p hp => ?_, ih hrest⟩
      rcases mem_storeInsert hp with rfl | hp
      · exact lt_of_le_of_ne (not_lt.mp hlt) (Ne.symm heq)
      · exact hq p hp

theorem storeGet_eq_none_of_forall_ne {st : Store} {o : Nat} (h : ∀ p ∈ st, p.1 ≠ o) : storeGet st o = none := by
  induction st with
  | nil => rfl
  | cons q rest ih =>
    rw [storeGet, if_neg (h q List.mem_cons_self)]
    exact ih (fun p hp => h p (List.mem_cons_of_mem _ hp))

theorem storeGet_storeInsert (st : Store) (o o' : Nat) (v : Bytes) :
    storeGet (storeInsert st o v) o' = if o' = o then some v else storeGet st o' := by
  induction st with
  | nil => simp [storeInsert, storeGet, eq_comm]
  | cons q rest ih =>
    rw [storeInsert]
    split_ifs <;> grind [storeGet]

theorem storeGet_storeErase {st : Store} (o o' : Nat) (h : storeWf st = true) :
    storeGet (storeErase st o) o' = if o' = o then none else storeGet st o' := by
  rw [storeWf_iff_pairwise] at h
  induction st with
  | nil => simp [storeErase, storeGet]
  | cons q rest ih =>
    obtain ⟨hq, hrest⟩ := List.pairwise_cons.mp h
    rw [storeErase]
    split_ifs with heq ho ho
    · exact storeGet_eq_none_of_forall_ne (fun p hp => by have := hq p hp; omega)
    · rw [storeGet, if_neg (by omega)]
    · rw [storeGet, if_neg (by omega), ih hrest, if_pos ho]
    · rw [storeGet, storeGet, ih hrest, if_neg ho]

theorem storeWf_put {c : Core} (o : Nat) (v : Bytes) (h : storeWf c.store = true) : storeWf (c.put o v).store = true := by
  rw [Core.put]
  dsimp only
  split_ifs
  · exact storeWf_storeErase o h
  · exact storeWf_storeInsert o v h

/-- A value equal to the default leaves no entry, and the default is what then reads. -/
theorem get_put {c : Core} (o o' : Nat) (v : Bytes) (h : storeWf c.store = true) : (c.put o v).get o' = if o' = o then v else c.get o' := by
  have hd : (c.put o v).defaultOf o' = c.defaultOf o' := rfl
  rw [Core.get, hd, Core.put]
  dsimp only
  split_ifs with hv ho ho
  · rw [storeGet_storeErase o o' h, if_pos ho, ho, Option.getD_none, hv]
  · rw [storeGet_storeErase o o' h, if_neg ho, Core.get]
  · rw [storeGet_storeInsert, if_pos ho, Option.getD_some]
  · rw [storeGet_storeInsert, if_neg ho, Core.get]

/-- Settles O49: a canonical store has its keys rising, so erasing leaves no second entry of a key. -/
theorem storeReadsBackWhatWasPut : Obligations.StoreReadsBackWhatWasPut :=
  ⟨fun st o o' v h => ⟨storeWf_storeInsert o v h, storeWf_storeErase o h, storeGet_storeInsert st o o' v, storeGet_storeErase o o' h⟩,
   fun _ o o' v h => ⟨storeWf_put o v h, get_put o o' v h⟩⟩

end Sys2Proof.Machine
end

section
/-! Records and extended records read back from their bytes (Tables 1.11, 12.1). -/
namespace Sys2Proof.Machine
open Sys2Proof

theorem rclass_code_lt (k : RClass) : k.code < 4 := by cases k <;> decide

@[simp] theorem rclass_ofCode_code (k : RClass) : RClass.ofCode k.code = k := by cases k <;> rfl

@[simp] theorem recordBytes_length (r : Record) : (recordBytes r).length = 32 := by simp [recordBytes]

/-- Byte 1 of a record holds its flags, its continuation bit and its class (Table 1.11). -/
theorem recordByte_fields {f k : Nat} (b : Bool) (hf : f < 32) (hk : k < 4) :
    (f + (if b then 32 else 0) + k * 64) % 256 % 32 = f ∧ ((f + (if b then 32 else 0) + k * 64) % 256 / 32 % 2 == 1) = b ∧
      (f + (if b then 32 else 0) + k * 64) % 256 / 64 = k := by
  cases b <;> simp <;> omega

/-- A bit vector that was read back modulo the size of its field. -/
theorem ofNat_toNat_mod {w n : Nat} (x : BitVec w) (h : 2 ^ w ≤ n) : BitVec.ofNat w (x.toNat % n) = x := by
  rw [Nat.mod_eq_of_lt (lt_of_lt_of_le x.isLt h), BitVec.ofNat_toNat, BitVec.setWidth_eq]

theorem record_reads_back (r : Record) : recordOfBytes (recordBytes r) = r := by
  obtain ⟨hf, hb, hk⟩ := recordByte_fields r.cont r.flags.isLt (rclass_code_lt r.cls)
  rw [recordOfBytes, recordBytes]
  simp [List.drop_append, List.take_append, ofLe_leBytes, List.take_of_length_le, List.drop_of_length_le, ofLe, hb, hk,
    ofNat_toNat_mod] at hf ⊢
  rw [hf]
  simp

theorem ofTime80_time80 (t : Nat) : ofTime80 (time80 t) = t := by simp only [ofTime80, time80]; omega

theorem time80_lt {t : Nat} (h : t < 2 ^ 64) : time80 t < 256 ^ 10 := by simp only [time80]; omega

/-- The six flags of an extended record (Table 12.1, byte 39) as one number. -/
def extFlags (b0 b1 b2 b3 b4 b5 : Bool) : Nat :=
  (if b0 then 2 ^ 0 else 0) + (if b1 then 2 ^ 1 else 0) + (if b2 then 2 ^ 2 else 0) + (if b3 then 2 ^ 3 else 0) + (if b4 then 2 ^ 4 else 0) + (if b5 then 2 ^ 5 else 0)

theorem extFlags_bits (b0 b1 b2 b3 b4 b5 : Bool) : let f := extFlags b0 b1 b2 b3 b4 b5 % 256 ^ 1
    (f / 2 ^ 0 % 2 == 1) = b0 ∧ (f / 2 ^ 1 % 2 == 1) = b1 ∧ (f / 2 ^ 2 % 2 == 1) = b2 ∧ (f / 2 ^ 3 % 2 == 1) = b3 ∧ (f / 2 ^ 4 % 2 == 1) = b4 ∧
      (f / 2 ^ 5 % 2 == 1) = b5 := by
  revert b0 b1 b2 b3 b4 b5
  decide

theorem extBytes_eq (e : ExtRecord) : extBytes e = recordBytes e.base ++ leBytes 4 e.path.toNat ++ leBytes 2 e.roster.toNat ++ [e.quality]
    ++ leBytes 1 (extFlags e.old e.anchored e.relayed e.quarantined e.probation e.lateMerge)
    ++ leBytes 10 (time80 e.time.toNat) ++ leBytes 2 0 ++ leBytes 4 e.epoch.toNat ++ leBytes 8 e.step.toNat := by
  simp only [extBytes, extFlags]

/-- Parts of the lengths of Table 12.1, laid one behind the other, stand where the table says. -/
theorem extParts {a b c d f g h i j : Bytes} (ha : a.length = 32) (hb : b.length = 4) (hc : c.length = 2) (hd : d.length = 1) (hf : f.length = 1)
    (hg : g.length = 10) (hh : h.length = 2) (hi : i.length = 4) (hj : j.length = 8) {l : Bytes} (hl : l = a ++ b ++ c ++ d ++ f ++ g ++ h ++ i ++ j) :
    l.take 32 = a ∧ (l.drop 32).take 4 = b ∧ (l.drop 36).take 2 = c ∧ (l.drop 38).take 1 = d ∧ (l.drop 39).take 1 = f ∧ (l.drop 40).take 10 = g ∧
      (l.drop 52).take 4 = i ∧ (l.drop 56).take 8 = j := by
  subst hl
  simp [List.drop_append, List.take_of_length_le, List.drop_of_length_le, *]

theorem ext_reads_back (e : ExtRecord) : extOfBytes (extBytes e) = e := by
  obtain ⟨h0, h1, h2, h3, h4, h5⟩ := extFlags_bits e.old e.anchored e.relayed e.quarantined e.probation e.lateMerge
  obtain ⟨hbase, hpath, hroster, hquality, hflags, htime, hepoch, hstep⟩ := extParts (recordBytes_length e.base) (leBytes_length 4 _) (leBytes_length 2 _)
    (List.length_singleton (a := e.quality)) (leBytes_length 1 _) (leBytes_length 10 _) (leBytes_length 2 _) (leBytes_length 4 _) (leBytes_length 8 _) (extBytes_eq e)
  simp only [extOfBytes, hbase, hpath, hroster, hquality, hflags, htime, hepoch, hstep, ofLe_leBytes, h0, h1, h2, h3, h4, h5, record_reads_back,
    Nat.mod_eq_of_lt (time80_lt e.time.isLt), ofTime80_time80, BitVec.ofNat_toNat, BitVec.setWidth_eq, ofLe, Nat.mul_zero, Nat.add_zero]
  rw [ofNat_toNat_mod _ (by decide), ofNat_toNat_mod _ (by decide), ofNat_toNat_mod _ (by decide), ofNat_toNat_mod _ (by decide)]

/-- Settles O50: each field is read back at the place where it was written. -/
theorem recordsReadBack : Obligations.RecordsReadBack :=
  ⟨fun r => ⟨recordBytes_length r, record_reads_back r⟩, fun e => ⟨by simp [extBytes], ext_reads_back e⟩⟩

end Sys2Proof.Machine
end

section
/-! Requests read back from the bodies that clients encode (Tables 2.6, 2.11). -/
namespace Sys2Proof.Machine
open Sys2Proof

/-- A number written in `k` bytes behind the bytes `a` reads back at their end. -/
theorem leAt_field {a b : Bytes} {i k n : Nat} (ha : a.length = i) (hn : n < 256 ^ k) : leAt (a ++ (leBytes k n ++ b)) i k = n := by
  have hslice : slice (a ++ (leBytes k n ++ b)) i k = leBytes k n := by
    rw [slice, ← ha, List.drop_left, List.take_left' (leBytes_length k n), leBytes_length, Nat.sub_self]
    exact List.append_nil _
  rw [leAt, hslice, ofLe_leBytes, Nat.mod_eq_of_lt hn]

theorem readItemBytes_length (r : ReadItem) : (readItemBytes r).length = 8 := by simp [readItemBytes]

theorem parseReads_flatMap {l : List ReadItem} (h : ∀ i ∈ l, i.obj < 2 ^ 32 ∧ i.count < 256 ∧ i.flags < 256) :
    parseReads l.length (l.flatMap readItemBytes) = l := by
  induction l with
  | nil => rfl
  | cons r rest ih =>
    obtain ⟨hobj, hcount, hflags⟩ := h r List.mem_cons_self
    have hdrop : ((r :: rest).flatMap readItemBytes).drop 8 = rest.flatMap readItemBytes := List.drop_left' (readItemBytes_length r)
    have hb : (r :: rest).flatMap readItemBytes = leBytes 4 r.obj ++ (leBytes 1 r.count ++ (leBytes 1 r.flags ++ (leBytes 2 0 ++ rest.flatMap readItemBytes))) := by
      simp [readItemBytes]
    have h0 : leAt ((r :: rest).flatMap readItemBytes) 0 4 = r.obj := hb ▸ leAt_field (a := []) rfl hobj
    have h4 : leAt ((r :: rest).flatMap readItemBytes) 4 1 = r.count := hb ▸ leAt_field (leBytes_length ..) hcount
    have h5 : leAt ((r :: rest).flatMap readItemBytes) 5 1 = r.flags := by
      rw [hb, ← List.append_assoc]
      exact leAt_field (by simp) hflags
    rw [List.length_cons, parseReads, hdrop, ih (fun i hi => h i (List.mem_cons_of_mem _ hi)), h0, h4, h5]

theorem le_roundUp (n : Nat) : n ≤ roundUp n 8 := by rw [roundUp]; omega

theorem pad8_length (v : Bytes) : (pad8 v).length = roundUp v.length 8 := by
  have := le_roundUp v.length
  simp only [pad8, List.length_append, zeros_length]
  omega

theorem writeItemBytes_length (w : WriteItem) : (writeItemBytes w).length = 8 + roundUp w.value.length 8 := by
  simp [writeItemBytes, pad8_length]; omega

theorem parseWrites_flatMap {l : List WriteItem} {n : Nat} (hn : l.length ≤ n)
    (h : ∀ w ∈ l, w.obj < 2 ^ 32 ∧ w.ty < 256 ∧ w.flags < 256 ∧ w.value.length < 65536) : parseWrites n (l.flatMap writeItemBytes) = l := by
  induction l generalizing n with
  | nil => cases n <;> rfl
  | cons w rest ih =>
    obtain ⟨n, rfl⟩ : ∃ m, n = m + 1 := ⟨n - 1, by simp at hn; omega⟩
    obtain ⟨hobj, hty, hflags, hlen⟩ := h w List.mem_cons_self
    have hdrop : ((w :: rest).flatMap writeItemBytes).drop (8 + roundUp w.value.length 8) = rest.flatMap writeItemBytes :=
      List.drop_left' (writeItemBytes_length w)
    have hb : (w :: rest).flatMap writeItemBytes = leBytes 4 w.obj ++ (leBytes 1 w.ty ++ (leBytes 1 w.flags ++ (leBytes 2 w.value.length ++ (w.value ++
        (zeros (roundUp w.value.length 8 - w.value.length) ++ rest.flatMap writeItemBytes))))) := by
      simp [writeItemBytes, pad8]
    have h0 : leAt ((w :: rest).flatMap writeItemBytes) 0 4 = w.obj := hb ▸ leAt_field (a := []) rfl hobj
    have h4 : leAt ((w :: rest).flatMap writeItemBytes) 4 1 = w.ty := hb ▸ leAt_field (leBytes_length ..) hty
    have h5 : leAt ((w :: rest).flatMap writeItemBytes) 5 1 = w.flags := by
      rw [hb, ← List.append_assoc]
      exact leAt_field (by simp) hflags
    have h6 : leAt ((w :: rest).flatMap writeItemBytes) 6 2 = w.value.length := by
      rw [hb, ← List.append_assoc, ← List.append_assoc]
      exact leAt_field (by simp) hlen
    have hvalue : (((w :: rest).flatMap writeItemBytes).drop 8).take w.value.length = w.value := by
      rw [hb, ← List.append_assoc, ← List.append_assoc, ← List.append_assoc, List.drop_left' (by simp), List.take_left]
    have hne : ((w :: rest).flatMap writeItemBytes).isEmpty = false :=
      List.isEmpty_eq_false_iff.mpr (List.ne_nil_of_length_pos (by simp [writeItemBytes_length]))
    rw [parseWrites, hne, if_neg Bool.false_ne_true, h6]
    dsimp only
    rw [hdrop, ih (Nat.le_of_succ_le_succ hn) (fun i hi => h i (List.mem_cons_of_mem _ hi)), h0, h4, h5, hvalue]

theorem length_le_of_flatMap_writeItemBytes (l : List WriteItem) : l.length ≤ (l.flatMap writeItemBytes).length / 8 := by
  have : 8 * l.length ≤ (l.flatMap writeItemBytes).length := by
    induction l with
    | nil => simp
    | cons w rest ih => rw [List.flatMap_cons, List.length_append, writeItemBytes_length, List.length_cons]; omega
  omega

theorem flatMap_readItemBytes_length (l : List ReadItem) : (l.flatMap readItemBytes).length = 8 * l.length := by
  induction l with
  | nil => rfl
  | cons r rest ih => rw [List.flatMap_cons, List.length_append, readItemBytes_length, List.length_cons, ih]; omega

/-- Settles O51, opcode by opcode: the items read back, so the body is spelled back and the request stands. -/
theorem requestsReadBack : Obligations.RequestsReadBack := by
  intro q hq
  cases q with
  | read l =>
    have hp : parseReads ((l.flatMap readItemBytes).length / 8) (l.flatMap readItemBytes) = l := by
      rw [flatMap_readItemBytes_length, Nat.mul_div_cancel_left _ (by decide), parseReads_flatMap hq]
    simp only [Request.opcode, Request.body, parseRequest, hp, if_true]
  | write l =>
    have hp : parseWrites ((l.flatMap writeItemBytes).length / 8) (l.flatMap writeItemBytes) = l :=
      parseWrites_flatMap (length_le_of_flatMap_writeItemBytes l) hq
    simp only [Request.opcode, Request.body, parseRequest, hp, if_true]
  | commit d => simp only [Request.opcode, Request.body, parseRequest, if_true]
  | list area start =>
    obtain ⟨harea, hstart⟩ := hq
    have h3 : leAt (leBytes 1 0 ++ leBytes 2 start ++ leBytes 1 area ++ zeros 4) 3 1 = area :=
      by
      rw [List.append_assoc _ (leBytes 1 area)]
      exact leAt_field (by simp) harea
    have h1 : leAt (leBytes 1 0 ++ leBytes 2 start ++ leBytes 1 area ++ zeros 4) 1 2 = start := by
      rw [List.append_assoc, List.append_assoc]
      exact leAt_field (leBytes_length ..) hstart
    simp only [Request.opcode, parseRequest, Request.body, h3, h1, if_true]
  | other opcode b =>
    obtain ⟨h1, h2, h3, h4⟩ := hq
    simp [Request.opcode, Request.body, parseRequest]

end Sys2Proof.Machine
end

section
/-! Lookups of the dictionary and refused writes (R58, R62, R69, R70, R88). -/
namespace Sys2Proof.Machine
open Sys2Proof

variable {σ : Type} {u : UnitOps σ} {x : σ} {a : Actor}

/-- The row that defines an object is the one that the lookup finds among the object's rows. -/
theorem objectRows_find?_rowHas (kind o : Nat) : (objectRows kind o).find? (fun r => rowHas r o) = findRow kind o := by
  rw [objectRows, findRow, List.find?_filter]
  congr 1
  funext r
  rw [rowHas]
  rw [Bool.eq_iff_iff]
  simp only [Bool.and_eq_true, decide_eq_true_iff (p := _ ∧ _)]
  tauto

/-- An object whose row is one named element is looked up as that row. -/
theorem lookup_of_named {o : Nat} {r : ObjRow} (hr : findRow (u.get x).kind o = some r) (hn : r.named = true) : lookup u x o = .value r := by
  have hf : (objectRows (u.get x).kind o).find? (fun r => rowHas r o) = some r := (objectRows_find?_rowHas ..).trans hr
  rw [lookup]
  cases hrows : objectRows (u.get x).kind o with
  | nil => simp [hrows] at hf
  | cons r0 rest =>
    rw [hrows] at hf
    simp only [hf, hn, Bool.true_or, if_true]

theorem writeItem_of_noObject {w : WriteItem} (flags : Nat) (h : lookupFor u x a w.obj = .noObject) : writeItem u x a flags w = (x, eNoObject) := by
  rw [writeItem, h]

theorem writeItem_of_noElement {w : WriteItem} (flags : Nat) (h : lookupFor u x a w.obj = .noElement) : writeItem u x a flags w = (x, eNoElement) := by
  rw [writeItem, h]

theorem writeItem_of_readOnly {w : WriteItem} {r : ObjRow} (flags : Nat) (h : lookupFor u x a w.obj = .value r) (hr : r.access = .ro) :
    writeItem u x a flags w = (x, eReadOnly) := by
  rw [writeItem, h]
  exact if_pos (.inl hr)

theorem writeItem_of_access {w : WriteItem} {r : ObjRow} (flags : Nat) (h : lookupFor u x a w.obj = .value r) (hr : r.access = .rw ∨ r.access = .wo)
    (ha : access u x a w.obj r.wrRole true ≠ stOk) : writeItem u x a flags w = (x, access u x a w.obj r.wrRole true) := by
  have hw : ¬ (r.access = .ro ∨ r.access = .rc) := by rcases hr with hr | hr <;> simp [hr]
  rw [writeItem, h]
  exact (if_neg hw).trans (if_pos ha)

theorem access_of_low_rank {obj : Nat} {need : Role} (w : Bool) (ht : u.tenant x obj = none) (h : a.role.rank < needRole obj need) :
    access u x a obj need w = eRole := by
  rw [access, ht]
  exact ite_eq_left_iff.mpr (fun _ => if_pos h)

theorem checkType_of_ne_ok {r : ObjRow} {v : Bytes} (h : checkType r v ≠ stOk) : checkType r v = eRange := by
  rw [checkType] at h ⊢
  exact if_neg (fun hok => h (if_pos hok))

/-- A write of a value that the role may write: the type, then the row's own check, then what takes effect (R66). -/
theorem writeItem_of_value {w : WriteItem} {r : ObjRow} (flags : Nat) (h : lookupFor u x a w.obj = .value r) (hr : r.access = .rw ∨ r.access = .wo)
    (ha : access u x a w.obj r.wrRole true = stOk) (hd : w.flags % 2 = 0) :
    writeItem u x a flags w = if w.ty ≠ r.ty.code then (x, eType) else if checkType r w.value ≠ stOk then (x, checkType r w.value) else
      if (if isKeyObj w.obj then (u.get x).checkKey w.obj w.value else u.check x a w.obj w.value) ≠ stOk then
        (x, if isKeyObj w.obj then (u.get x).checkKey w.obj w.value else u.check x a w.obj w.value)
      else writeChecked u x a flags w.obj r.apply w.value := by
  have hw : ¬ (r.access = .ro ∨ r.access = .rc) := by rcases hr with hr | hr <;> simp [hr]
  have hd' : ¬ w.flags % 2 = 1 := by omega
  rw [writeItem, h]
  exact (if_neg hw).trans ((if_neg (not_not.mpr ha)).trans (if_neg hd'))

/-- Settles O43: every refusal stands before the write takes effect, in the order of R58, R62, R69 and R66. -/
theorem refusedWritesChangeNothing : Obligations.RefusedWritesChangeNothing := by
  intro σ u x a flags w
  refine ⟨fun he hr => writeItem_of_noObject flags (by simp [lookupFor, he, hr]), writeItem_of_noObject flags, writeItem_of_noElement flags,
    fun r hl => ⟨writeItem_of_readOnly flags hl, fun hrw => ⟨fun ht hlow => ?_, fun hacc hdflt => ⟨fun hty => ?_, fun hty hck => ?_⟩⟩⟩⟩
  · have hacc := access_of_low_rank (w := true) ht hlow
    rw [writeItem_of_access flags hl hrw (by rw [hacc]; decide), hacc]
  · rw [writeItem_of_value flags hl hrw hacc hdflt, if_pos hty]
  · rw [writeItem_of_value flags hl hrw hacc hdflt, if_neg (not_not.mpr hty)]
    rw [checkType_of_ne_ok hck]
    rfl

/-- The rows of the calibration area: named elements, none Expert, those below 0x40 read-only. -/
theorem objsCal_rows : ∀ r ∈ objsCal, r.named = true ∧ (r.base % 256 < 0x40 → r.access = .ro) ∧ r.base / 256 % 65536 + r.count ≤ 0x8000 ∧ r.base / 256 / 65536 = 0x0B := by
  decide

/-- Settles O42: the row of a factory element is a read-only named element of an object that is not Expert. -/
theorem factoryCalibrationIsReadOnly : Obligations.FactoryCalibrationIsReadOnly := by
  intro σ u x a flags w harea helem hrow
  obtain ⟨r, hr⟩ := Option.isSome_iff_exists.mp hrow
  have hmem : r ∈ objsCal := by
    have := List.mem_of_find?_eq_some hr
    rwa [harea] at this
  have hhas : rowHas r w.obj = true := (Bool.and_eq_true _ _ ▸ List.find?_some hr).1
  obtain ⟨hnamed, hro, hindex, harea'⟩ := objsCal_rows r hmem
  simp only [rowHas, hnamed, if_true, Bool.and_eq_true, decide_eq_true_iff, beq_iff_eq] at hhas
  obtain ⟨⟨hfrom, hto⟩, helem'⟩ := hhas
  have hexpert : objExpert w.obj = false := by
    rw [objArea] at harea
    rw [objExpert, decide_eq_false_iff_not]
    omega
  have hl : lookupFor u x a w.obj = .value r := by
    rw [lookupFor, hexpert, Bool.false_and, if_neg Bool.false_ne_true]
    exact lookup_of_named hr hnamed
  exact writeItem_of_readOnly flags hl (hro (helem' ▸ helem))

end Sys2Proof.Machine
end

section
/-! The machine's step: its front, its idle nanosecond, reset; interrupt lines; requests that fail authentication or are repeated. -/
namespace Sys2Proof.Machine
open Sys2Proof

/-! ### A step -/

/-- Settles O1: the step's own equation on a queue with a front. -/
theorem stepRunsFront : Obligations.StepRunsFront := fun i s rest h => by rw [step, h]

/-- Settles O35: the decoder has no row. -/
theorem noWordSpellsACommand : Obligations.NoWordSpellsACommand := fun _ _ _ => ⟨rfl, rfl⟩

/-- Settles O36: the fields of the state after reset, one by one. -/
theorem resetHoldsBothUnits : Obligations.ResetHoldsBothUnits := by
  refine ⟨?_, ?_, ?_, ?_, ?_, ?_, ?_, ?_, ?_, ?_, ?_, ?_, ?_, ?_, ?_, ?_, ?_, ?_⟩ <;> rfl

/-- Settles O37: four lines, six blocks, no image. -/
theorem resetMeetsBoundaryInvariant : Obligations.ResetMeetsBoundaryInvariant := by
  refine ⟨rfl, rfl, fun _ => rfl, fun _ => rfl, fun h => absurd rfl h⟩

/-! ### A nanosecond of time -/

theorem ovtan_tick_ready {o : Ovtan} (h : o.bnd.boot = .ready) :
    o.tick = (o.onCore (fun c => { c with up := c.up + 1, time := c.time.tick })).onMem MemSide.selectCycle := by
  rw [Ovtan.tick]
  exact if_pos h

theorem ovtan_tick_not {o : Ovtan} (h : ¬ o.bnd.boot = .ready) : o.tick = o.onCore (fun c => { c with up := c.up + 1 }) := by
  rw [Ovtan.tick]
  exact if_neg h

theorem fabato_tick_ready {f : Fabato} (h : f.board.boot = 3) :
    f.tick = (f.onCore (fun c => { c with up := c.up + 1, time := c.time.tick })).loftTick := by
  rw [Fabato.tick]
  exact if_pos h

theorem fabato_tick_not {f : Fabato} (h : ¬ f.board.boot = 3) : f.tick = f.onCore (fun c => { c with up := c.up + 1 }) := by
  rw [Fabato.tick]
  exact if_neg h

/-- The CPU time of the Loft's slots is all that a nanosecond of the cores changes. -/
theorem loftTick_loft_only (f : Fabato) : ∃ l, f.loftTick = { f with loft := l } := by
  rw [Fabato.loftTick]
  split
  · exact ⟨f.loft, rfl⟩
  · exact ⟨_, rfl⟩

/-- Settles O34, by the two boot states of each unit. -/
theorem idleStepIsANanosecond : Obligations.IdleStepIsANanosecond := by
  intro s hq
  refine ⟨s.tick, by rw [step, hq], hq, ?_, ?_, ?_, ?_, ?_, ?_⟩
  · by_cases h : s.ov.bnd.boot = .ready
    · rw [State.tick, ovtan_tick_ready h]; rfl
    · rw [State.tick, ovtan_tick_not h]; rfl
  · by_cases h : s.fb.board.boot = 3
    · obtain ⟨l, hl⟩ := loftTick_loft_only (s.fb.onCore (fun c => { c with up := c.up + 1, time := c.time.tick }))
      rw [State.tick, fabato_tick_ready h, hl]; rfl
    · rw [State.tick, fabato_tick_not h]; rfl
  · intro h
    rw [State.tick, ovtan_tick_ready h]
    exact ⟨rfl, rfl, rfl, rfl, rfl, rfl⟩
  · intro h
    obtain ⟨l, hl⟩ := loftTick_loft_only (s.fb.onCore (fun c => { c with up := c.up + 1, time := c.time.tick }))
    rw [State.tick, fabato_tick_ready h, hl]
    exact ⟨rfl, rfl, rfl, rfl, rfl, rfl⟩
  · intro h
    rw [State.tick, ovtan_tick_not h]; rfl
  · intro h
    rw [State.tick, fabato_tick_not h]

/-! ### IRQ lines (R245) -/

theorem pulse_of_pulsing {x : MemSide} {line t : Nat} (h : x.irq.getD line none = some t) : x.pulse line = x := by
  rw [MemSide.pulse, h]

theorem pulse_of_idle {x : MemSide} {line : Nat} (h : x.irq.getD line none = none) :
    x.pulse line = { x with irq := x.irq.set line (some (x.core.up + 64)), core := x.core.send (.pin line true) } := by
  rw [MemSide.pulse, h]

/-- Settles O58: a line that pulses is left alone, one that does not is set. -/
theorem interruptRequestsMerge : Obligations.InterruptRequestsMerge := by
  intro x line hl
  refine ⟨fun t h => pulse_of_pulsing h, fun h => ?_⟩
  rw [pulse_of_idle h]
  refine ⟨?_, rfl, fun l hne => ?_⟩
  · simp [List.getD_eq_getElem?_getD, List.getElem?_set_self hl]
  · simp [List.getD_eq_getElem?_getD, List.getElem?_set_ne (Ne.symm hne)]

/-! ### Requests that change nothing of their own (R90, R96, R109, R110) -/

theorem ovtan_request_unauthenticated {o : Ovtan} {e : Envelope} {q : Request} (h : o.core.expireSessions.authenticate e q.opcode q.body = none) :
    o.request e q = { o with core := o.core.expireSessions.bump oSessionMacFails } := by
  rw [Ovtan.request]
  simp only [h]
  rfl

theorem fabato_request_unauthenticated {f : Fabato} {e : Envelope} {q : Request} (h : f.core.expireSessions.authenticate e q.opcode q.body = none) :
    f.request e q = f.onCore (fun _ => f.core.expireSessions.bump oSessionMacFails) := by
  rw [Fabato.request]
  simp only [h]
  rfl

/-- Settles O44: without a session the request only counts. -/
theorem unauthenticatedRequestsOnlyCount : Obligations.UnauthenticatedRequestsOnlyCount := by
  intro s e q
  refine ⟨fun hr h => ?_, fun hr h => ?_, fun _ => ⟨rfl, rfl⟩, fun _ => ⟨rfl, rfl⟩⟩
  · rw [show s.request .ovtan e q = s.onOv (fun o => o.request e q) from rfl, onOv_ready hr, ovtan_request_unauthenticated h]
  · rw [show s.request .fabato e q = s.onFb (fun f => f.request e q) from rfl, onFb_ready hr, fabato_request_unauthenticated h]

theorem actKept_of_kept {σ : Type} {u : UnitOps σ} {x : σ} {a : Actor} {e : Envelope} {q : Request} {k : Kept}
    (h : (u.get x).keptFor a e.msgId (requestDigest e q.opcode q.body) = some k) : actKept u x a e q = (x, ⟨k.summary, k.body⟩, true) := by
  rw [actKept]
  simp only [h]

theorem ovtan_answer_of_plain {o : Ovtan} {a : Actor} {e : Envelope} {q : Request} (h : Plain e q o.core.path) : o.answer a e q = actKept ovOps o a e q := by
  obtain ⟨hv, hq, hh, hl, hfan, _⟩ := h
  have hadr : ¬ (!flagLocal e.flags ∧ e.paths ≠ [o.core.path]) := by
    rintro ⟨h1, h2⟩
    rcases hl with h | h
    · simp [h] at h1
    · exact h2 h
  rw [Ovtan.answer]
  dsimp only
  rw [if_neg (not_not.mpr hv), if_neg (by simp [hq]), if_neg hh, if_neg hadr, if_neg (by simp [hfan])]

/-- Settles O46: the kept response is found before the dictionary is asked. -/
theorem repeatedRequestsGetTheKeptResponse : Obligations.RepeatedRequestsGetTheKeptResponse := by
  intro s e items x k hr hp ha hk
  have hans : ({ s.ov with core := x.2 } : Ovtan).answer x.1.actor e (.write items) = ({ s.ov with core := x.2 }, ⟨k.summary, k.body⟩, true) := by
    rw [ovtan_answer_of_plain hp]
    exact actKept_of_kept hk
  have hreq : s.ov.request e (.write items) = ({ s.ov with core := x.2.respond e 0x02 ⟨k.summary, k.body⟩ true } : Ovtan).placeMessages x.2.sent.length := by
    rw [Ovtan.request]
    simp only [show s.ov.core.expireSessions.authenticate e (Request.write items).opcode (Request.write items).body = some x from ha]
    rw [hans]
    rfl
  rw [show exec (.objectWrite .ovtan e items) s = .next (s.onOv (fun o => o.request e (.write items))) from rfl, onOv_ready hr, hreq]

end Sys2Proof.Machine
end

section
/-! The Ovtan's boundary: what commands do to the boot state, the fuse image, the IRQ lines and the blocks (R245–R251, Table 9.5). -/
namespace Sys2Proof.Machine
open Sys2Proof

/-! ### What a dictionary's effects keep, every request keeps -/

/-- A reflexive and transitive relation that all effects of a unit's dictionary respect. -/
structure UnitOps.Respects {σ : Type} (u : UnitOps σ) (R : σ → σ → Prop) : Prop where
  refl : ∀ x, R x x
  trans : ∀ {x y z}, R x y → R y z → R x z
  set : ∀ x c, R x (u.set x c)
  didRead : ∀ x o, R x (u.didRead x o)
  before : ∀ x o, R x (u.before x o)
  effect : ∀ x o v, R x (u.effect x o v)
  done : ∀ x os, R x (u.done x os)
  command : ∀ x a o v, R x (u.command x a o v).1

namespace UnitOps.Respects
variable {σ β ι : Type} {u : UnitOps σ} {R : σ → σ → Prop} (h : u.Respects R)
include h

/-- A fold each of whose steps respects the relation at one part of what it builds respects it there. -/
theorem foldl_at (g : β → σ) {f : β → ι → β} (hf : ∀ p i, R (g p) (g (f p i))) (l : List ι) (p : β) : R (g p) (g (l.foldl f p)) := by
  induction l generalizing p with
  | nil => exact h.refl _
  | cons i l ih => exact h.trans (hf p i) (ih _)

theorem foldl {f : σ → ι → σ} (hf : ∀ x i, R x (f x i)) (l : List ι) (x : σ) : R x (l.foldl f x) := h.foldl_at id hf l x

theorem notePairs (old x : σ) (os : List Nat) : R x (notePairs u old x os) := h.foldl (fun _ _ => h.set _ _) _ _

omit h in
theorem fst_ite {α : Type} {x : σ} {c : Prop} [Decidable c] {p q : σ × α} (hp : R x p.1) (hq : R x q.1) : R x (if c then p else q).1 := by
  split
  · exact hp
  · exact hq

theorem commitDesc (x : σ) (a : Actor) (d : Bytes) : R x (commitDesc u x a d).1 := by
  have hx := h.refl x
  have hs := h.set x
  unfold Machine.commitDesc
  dsimp only
  refine fst_ite hx (fst_ite hx (fst_ite (hs _) (fst_ite hx (fst_ite (fst_ite (hs _) hx) (fst_ite hx ?_)))))
  exact fst_ite hx (fst_ite hx (fst_ite hx (hs _)))

theorem applyValue (a : Actor) (x : σ) (o : Nat) (v : Bytes) : R x (applyValue u a x o v).1 := by
  unfold Machine.applyValue
  split
  · exact h.set _ _
  split
  · exact h.commitDesc _ _ _
  split
  · split
    · exact h.command _ _ _ _
    · exact h.trans (h.before x o) (h.trans (h.set _ _) (h.effect _ _ _))
  · exact h.refl _

theorem applyAll (a : Actor) (x : σ) (vs : Store) : R x (applyAll u a x vs) :=
  h.trans (h.foldl (fun _ _ => h.applyValue _ _ _ _) vs x) (h.trans (h.notePairs _ _ _) (h.done _ _))

theorem commitOne (x : σ) (k : Commit) : R x (commitOne u x k) :=
  h.trans (h.set _ _) (h.trans (h.applyAll _ _ _) (h.set _ _))

theorem commitsAtMarker (x : σ) : R x (commitsAtMarker u x) := by
  unfold Machine.commitsAtMarker
  refine h.trans (h.trans (h.set x _) (h.applyAll _ _ _)) (h.foldl (fun y k => ?_) _ _)
  split
  · exact h.refl _
  · exact h.commitOne _ _
  · exact h.trans (h.set _ _) (h.commitOne _ _)

theorem commitsAtTime (x : σ) : R x (commitsAtTime u x) := by
  unfold Machine.commitsAtTime
  refine h.foldl (fun y k => ?_) _ _
  split
  · split
    · exact h.commitOne _ _
    · exact h.refl _
  · exact h.refl _

theorem readElement (x : σ) (a : Actor) (o flags : Nat) : R x (readElement u x a o flags).1 := by
  have hx := h.refl x
  unfold Machine.readElement
  dsimp only
  split
  · exact hx
  · exact hx
  · split <;> exact hx
  · split <;> exact hx
  · split
    · exact hx
    split
    · exact hx
    split
    · exact h.trans (h.set _ _) (h.didRead _ _)
    · exact h.didRead _ _

theorem readItem (x : σ) (a : Actor) (i : ReadItem) : R x (readItem u x a i).1 := by
  unfold Machine.readItem
  refine h.foldl_at (fun p : σ × Bytes × Nat => p.1) (fun p k => ?_) _ (x, [], 0)
  dsimp only
  split
  · exact h.refl _
  · exact h.readElement _ _ _ _

theorem writeChecked (x : σ) (a : Actor) (flags o : Nat) (cls : Apply) (v : Bytes) : R x (writeChecked u x a flags o cls v).1 := by
  have hx := h.refl x
  have hs := h.set x
  have ha := h.applyAll a x [(o, v)]
  have hv := h.trans (h.applyValue a x o v) (h.done _ [o])
  unfold Machine.writeChecked
  dsimp only
  cases cls <;> split_ifs <;> simp only [hx, hs, ha, hv]

theorem writeItem (x : σ) (a : Actor) (flags : Nat) (w : WriteItem) : R x (writeItem u x a flags w).1 := by
  have hx := h.refl x
  have hw := h.writeChecked x a flags w.obj
  unfold Machine.writeItem
  dsimp only
  split
  · exact hx
  · exact hx
  · exact hx
  · split_ifs <;> simp only [hx, hw]
  · split_ifs <;> simp only [hx, hw]

/-- A request keeps whatever the dictionary's effects keep. -/
theorem act (x : σ) (a : Actor) (flags : Nat) (q : Request) : R x (act u x a flags q).1 := by
  have hx := h.refl x
  cases q with
  | read l =>
    refine h.foldl_at (fun p : σ × Bytes × Nat => p.1) (fun p i => ?_) l (x, [], 0)
    exact h.readItem p.1 a i
  | write l =>
    refine h.foldl_at (fun p : σ × Bytes × Nat => p.1) (fun p i => ?_) l (x, [], 0)
    exact h.writeItem p.1 a flags i
  | commit d =>
    unfold Machine.act
    dsimp only
    split
    · exact hx
    · exact h.commitDesc _ _ _
  | list area start =>
    unfold Machine.act
    dsimp only
    split <;> exact hx
  | other => exact hx

theorem actKept (x : σ) (a : Actor) (e : Envelope) (q : Request) : R x (actKept u x a e q).1 := by
  unfold Machine.actKept
  dsimp only
  split
  · exact h.refl _
  · exact h.trans (h.act _ _ _ _) (h.set _ _)

end UnitOps.Respects

end Sys2Proof.Machine
end

section
namespace Sys2Proof.Machine
open Sys2Proof

/-! ### The boundary's part of the unit -/

/-- What `b'` may be after `b` but for the events of `AON_RST_N` and of fuse load: the same image and pin, as many lines and blocks, and the boot state
as it was or in Self-test or Ready. -/
structure BndPart.Follows (b b' : BndPart) : Prop where
  irq : b'.irq.length = b.irq.length
  blocks : b.blocks.length = 6 → b'.blocks.length = 6
  fuse : b'.fuse = b.fuse
  fuseStatus : b'.fuseStatus = b.fuseStatus
  aon : b'.aon = b.aon
  boot : b'.boot = b.boot ∨ b'.boot = .selfTest ∨ b'.boot = .ready

/-- The Ovtan's boundary follows. -/
def Ovtan.Follows (o o' : Ovtan) : Prop := o.bnd.Follows o'.bnd

theorem BndPart.Follows.refl (b : BndPart) : b.Follows b := ⟨rfl, id, rfl, rfl, rfl, .inl rfl⟩

theorem BndPart.Follows.trans {a b c : BndPart} (h : a.Follows b) (h' : b.Follows c) : a.Follows c where
  irq := h'.irq.trans h.irq
  blocks := h'.blocks ∘ h.blocks
  fuse := h'.fuse.trans h.fuse
  fuseStatus := h'.fuseStatus.trans h.fuseStatus
  aon := h'.aon.trans h.aon
  boot := h'.boot.elim (fun e => e ▸ h.boot) .inr

theorem BndPart.Follows.inv {b b' : BndPart} (h : b.Follows b') (hb : b.Inv) : b'.Inv := by
  obtain ⟨hirq, hblocks, hreset, hfuse, hgood⟩ := hb
  refine ⟨h.irq.trans hirq, h.blocks hblocks, fun hr => ?_, fun hr => ?_, ?_⟩
  · rw [h.aon]
    rcases h.boot with e | e | e <;> rw [e] at hr
    · exact hreset hr
    · cases hr
    · cases hr
  · rw [h.fuse]
    rcases h.boot with e | e | e <;> rw [e] at hr
    · exact hfuse hr
    · exact absurd hr (by decide)
    · exact absurd hr (by decide)
  · rw [h.fuse, h.fuseStatus]; exact hgood

theorem Ovtan.Follows.refl (o : Ovtan) : o.Follows o := BndPart.Follows.refl _
theorem Ovtan.Follows.trans {a b c : Ovtan} (h : a.Follows b) (h' : b.Follows c) : a.Follows c := BndPart.Follows.trans h h'

/-- A unit whose boundary is the same follows. -/
theorem Ovtan.Follows.of_bnd {o o' : Ovtan} (h : o'.bnd = o.bnd) : o.Follows o' := by
  rw [Ovtan.Follows, h]
  exact .refl _

/-- What follows on a unit follows on another with the same boundary. -/
theorem Ovtan.Follows.of_same {o o₁ o' : Ovtan} (h : o₁.bnd = o.bnd) (h' : o₁.Follows o') : o.Follows o' := (Ovtan.Follows.of_bnd h).trans h'

theorem Ovtan.Follows.foldl {ι : Type} {f : Ovtan → ι → Ovtan} (hf : ∀ (o : Ovtan) i, o.Follows (f o i)) (l : List ι) (o : Ovtan) : o.Follows (l.foldl f o) := by
  induction l generalizing o with
  | nil => exact .refl o
  | cons i l ih => exact (hf o i).trans (ih _)

/-- The boundary is the same. -/
def Ovtan.SameBnd (o o' : Ovtan) : Prop := o'.bnd = o.bnd

/-- A fold of steps that leave the boundary leaves it. -/
theorem foldl_bnd {ι : Type} {f : Ovtan → ι → Ovtan} (hf : ∀ (o : Ovtan) i, o.SameBnd (f o i)) (l : List ι) (o : Ovtan) : o.SameBnd (l.foldl f o) := by
  induction l generalizing o with
  | nil => rfl
  | cons i l ih => exact (ih _).trans (hf o i)

theorem sameBnd_ite {o a b : Ovtan} {c : Prop} [Decidable c] (ha : o.SameBnd a) (hb : o.SameBnd b) : o.SameBnd (if c then a else b) := by
  split
  · exact ha
  · exact hb

/-! ### Operations that leave the boundary as it is -/

section
variable (o : Ovtan)

@[simp] theorem onCore_bnd (f : Core → Core) : (o.onCore f).bnd = o.bnd := rfl
@[simp] theorem onCap_bnd (f : CapSide → CapSide) : (o.onCap f).bnd = o.bnd := rfl
@[simp] theorem onTrace_bnd (f : TraceSide → TraceSide) : (o.onTrace f).bnd = o.bnd := rfl
@[simp] theorem onBuf_bnd (f : Core → RecBuf → Core × RecBuf) : (o.onBuf f).bnd = o.bnd := rfl
@[simp] theorem onLane_bnd (f : Core → Lane → Core × Lane) : (o.onLane f).bnd = o.bnd := rfl
@[simp] theorem fullTime_bnd : o.fullTime.bnd = o.bnd := rfl
@[simp] theorem laneDown_bnd (n : Nat) : (o.laneDown n).bnd = o.bnd := rfl
@[simp] theorem cfgAnswer_bnd (k t st : Nat) (p : Bytes) : (o.cfgAnswer k t st p).bnd = o.bnd := rfl
@[simp] theorem cutMarkers_bnd (k : CutFire) (fire lt : Nat) : (o.cutMarkers k fire lt).bnd = o.bnd := rfl
@[simp] theorem cancelStep_bnd (t : Nat) : (o.cancelStep t).bnd = o.bnd := rfl
@[simp] theorem clear_bnd : o.clear.bnd = o.bnd := rfl
@[simp] theorem sendControl_bnd (b : Bool) : (o.sendControl b).bnd = o.bnd := rfl
@[simp] theorem dewStep_bnd (ch : Nat) : (o.dewStep ch).bnd = o.bnd := rfl

@[simp] theorem qualityChange_bnd (q : Byte) : (o.qualityChange q).bnd = o.bnd := by unfold Ovtan.qualityChange; dsimp only; split <;> rfl
@[simp] theorem markerReport_bnd (t : Nat) : (o.markerReport t).bnd = o.bnd := by unfold Ovtan.markerReport; dsimp only; split <;> rfl

@[simp] theorem servo_bnd (adj : Int) (n : Nat) (b : Byte) : (o.servo adj n b).bnd = o.bnd := by
  unfold Ovtan.servo
  dsimp only
  split
  · rfl
  split
  · split <;> simp
  split <;> simp

@[simp] theorem stepItem_bnd (st : Int) (q : Byte) (id : Nat) : (o.stepItem st q id).bnd = o.bnd := by
  unfold Ovtan.stepItem
  split <;> rfl

@[simp] theorem markRun_bnd : o.markRun.bnd = o.bnd := by
  unfold Ovtan.markRun
  split
  · split
    · split <;> rfl
    · rfl
  · rfl

@[simp] theorem startRun_bnd : o.startRun.bnd = o.bnd := by
  unfold Ovtan.startRun
  split <;> simp

@[simp] theorem fireCut_bnd (k : ArmedCut) (fire : Nat) (early jumped : Bool) : (o.fireCut k fire early jumped).bnd = o.bnd := by
  unfold Ovtan.fireCut
  dsimp only
  split
  · simp
  · split
    · split <;> rfl
    · rfl

@[simp] theorem cutsDue_bnd (t : Nat) : (o.cutsDue t).bnd = o.bnd := by
  refine foldl_bnd (fun o k => ?_) _ _
  split
  · split
    · exact fireCut_bnd ..
    · rfl
  · rfl

theorem cutsAtMarker_same (t n : Nat) : o.SameBnd (o.cutsAtMarker t n) := by
  rw [Ovtan.cutsAtMarker]
  refine (foldl_bnd (fun o' k => ?_) _ _).trans (sameBnd_ite rfl (cutsDue_bnd ..))
  dsimp only
  refine sameBnd_ite rfl (sameBnd_ite ?_ ?_)
  · exact fireCut_bnd ..
  · exact fireCut_bnd ..

@[simp] theorem cutsAtMarker_bnd (t n : Nat) : (o.cutsAtMarker t n).bnd = o.bnd := cutsAtMarker_same o t n

@[simp] theorem handFiring_bnd (e : SchedEntry) (i fire : Nat) (b : Bool) : (o.handFiring e i fire b).bnd = o.bnd := by
  unfold Ovtan.handFiring
  split
  · rfl
  split <;> rfl

@[simp] theorem handAngle_bnd (t : Nat) : (o.handAngle t).bnd = o.bnd := by
  unfold Ovtan.handAngle
  split
  · rfl
  · exact foldl_bnd (fun o e => handFiring_bnd ..) _ _

@[simp] theorem handTimed_bnd : o.handTimed.bnd = o.bnd := by
  unfold Ovtan.handTimed
  split
  · rfl
  · exact foldl_bnd (fun o e => handFiring_bnd ..) _ _

@[simp] theorem placeMessages_bnd (n : Nat) : (o.placeMessages n).bnd = o.bnd := by
  refine foldl_bnd (fun o k => ?_) _ _
  split
  · exact foldl_bnd (fun o r => onBuf_bnd o _) _ _
  · rfl

@[simp] theorem onCoreSend_bnd (f : Core → Core) : (o.onCoreSend f).bnd = o.bnd := placeMessages_bnd _ _

@[simp] theorem force_bnd (n : Nat) : (o.force n).bnd = o.bnd := by
  unfold Ovtan.force
  dsimp only
  simp

@[simp] theorem feed_bnd (k b n : Nat) : (o.feed k b n).1.bnd = o.bnd := by
  unfold Ovtan.feed
  split
  · split <;> rfl
  · rfl

@[simp] theorem statusFrame_bnd (t n : Nat) : (o.statusFrame t n).bnd = o.bnd := by
  unfold Ovtan.statusFrame
  split
  · rfl
  split <;> rfl

@[simp] theorem onPower_bnd (f : TraceSide → TraceSide) : (o.onPower f).bnd = o.bnd := by
  unfold Ovtan.onPower
  split <;> rfl

@[simp] theorem helloInfo_bnd (n : Nat) : (o.helloInfo n).bnd = o.bnd := by
  unfold Ovtan.helloInfo
  dsimp only
  split <;> rfl

@[simp] theorem timeReq_bnd (n : Nat) : (o.timeReq n).bnd = o.bnd := by
  unfold Ovtan.timeReq
  split <;> rfl

@[simp] theorem item_bnd (v : Nat) : (o.item v).bnd = o.bnd := by
  unfold Ovtan.item
  split
  · exact onLane_bnd ..
  · exact timeReq_bnd ..
  · split
    · exact servo_bnd ..
    · rfl
  · split
    · exact stepItem_bnd ..
    · rfl
  · exact onLane_bnd ..
  · exact helloInfo_bnd ..
  · exact onLane_bnd ..
  · rfl

@[simp] theorem sendNew_bnd (b : Bool) : (o.sendNew b).bnd = o.bnd := by
  unfold Ovtan.sendNew
  dsimp only
  split <;> rfl

@[simp] theorem transmit_bnd (b : Bool) : (o.transmit b).bnd = o.bnd := by
  unfold Ovtan.transmit
  dsimp only
  split
  · rfl
  · rfl
  · split
    · rfl
    split
    · split <;> rfl
    · simp
  · rfl

theorem spillAll_bnd : o.spillAll.1.bnd = o.bnd := by
  unfold Ovtan.spillAll
  dsimp only
  refine List.foldlRecOn (motive := fun p : Ovtan × Nat => p.1.bnd = o.bnd) _ _ rfl (fun p hp hs _ => ?_)
  split
  · exact hp
  · split
    · exact hp
    · split <;> exact hp

@[simp] theorem spillAfter_bnd : o.spillAfter.bnd = o.bnd := by
  unfold Ovtan.spillAfter
  split
  · split
    · exact spillAll_bnd _
    · rfl
  · rfl

@[simp] theorem laneHoldover_bnd : o.laneHoldover.bnd = o.bnd := by
  unfold Ovtan.laneHoldover
  split
  · split
    · simp
    · rfl
  · rfl

@[simp] theorem grantExpire_bnd : o.grantExpire.bnd = o.bnd := by
  unfold Ovtan.grantExpire
  split
  · split <;> rfl
  · rfl

@[simp] theorem fullTimeDue_bnd : o.fullTimeDue.bnd = o.bnd := by unfold Ovtan.fullTimeDue; split <;> rfl

@[simp] theorem holdoverLimit_bnd : o.holdoverLimit.bnd = o.bnd := by
  unfold Ovtan.holdoverLimit
  split
  · simp
  · rfl

@[simp] theorem conversion_bnd (ch code : Nat) (v : Bool) : (o.conversion ch code v).bnd = o.bnd := by
  unfold Ovtan.conversion
  split
  · rfl
  split <;> rfl

@[simp] theorem cgNote_bnd (d : Nat) (l : Bool) : (o.cgNote d l).bnd = o.bnd := by
  unfold Ovtan.cgNote
  dsimp only
  split
  · show (if o.bnd.boot = .ready then _ else o).bnd = o.bnd
    split <;> rfl
  · rfl

@[simp] theorem ovDidRead_bnd (obj : Nat) : (o.didRead obj).bnd = o.bnd := by
  unfold Ovtan.didRead
  dsimp only
  split
  · rfl
  split <;> rfl

@[simp] theorem ovDone_bnd (os : List Nat) : (o.done os).bnd = o.bnd := by
  unfold Ovtan.done
  dsimp only
  split_ifs <;> rfl

end

end Sys2Proof.Machine
end

section
namespace Sys2Proof.Machine
open Sys2Proof

/-! ### The MEM port's users set IRQ lines and add none -/

section
variable (x : MemSide)

@[simp] theorem pulse_irq_length (n : Nat) : (x.pulse n).irq.length = x.irq.length := by
  unfold MemSide.pulse
  split
  · rfl
  · exact List.length_set ..

theorem pulse_if_irq_length {p : Prop} [Decidable p] (n : Nat) : (if p then x.pulse n else x).irq.length = x.irq.length := by
  split
  · exact pulse_irq_length ..
  · rfl

@[simp] theorem request_irq (id : Nat) (w : Bool) (a l : Nat) (d : Bytes) : (x.request id w a l d).irq = x.irq := rfl
@[simp] theorem setCh_irq (c : Nat) (h : DmaCh) : (x.setCh c h).irq = x.irq := rfl
@[simp] theorem refill_irq : x.refill.irq = x.irq := rfl
@[simp] theorem dpStart_irq (t : Nat) : (x.dpStart t).irq = x.irq := rfl
@[simp] theorem spillError_irq (k n a : Nat) (b : Bool) : (x.spillError k n a b).irq = x.irq := rfl
@[simp] theorem selectCycle_irq : x.selectCycle.irq = x.irq := rfl

@[simp] theorem dpOverrun_irq : x.dpOverrun.irq = x.irq := by
  unfold MemSide.dpOverrun
  split <;> rfl

@[simp] theorem endDma_irq_length (c n : Nat) : (x.endDma c n).irq.length = x.irq.length := by
  unfold MemSide.endDma
  dsimp only
  split
  · rfl
  · split
    · exact pulse_irq_length _ _
    · rfl

@[simp] theorem stop_irq_length (c : Nat) : (x.stop c).irq.length = x.irq.length := by
  unfold MemSide.stop
  dsimp only
  split
  · rfl
  · split
    · simp
    · rfl

@[simp] theorem burstDone_irq_length (c n : Nat) : (x.burstDone c n).irq.length = x.irq.length := by
  unfold MemSide.burstDone
  dsimp only
  split
  · rfl
  · split
    · exact endDma_irq_length _ _ _
    split
    · exact endDma_irq_length _ _ _
    · rfl

@[simp] theorem dpCommit_irq_length (b : Bool) : (x.dpCommit b).irq.length = x.irq.length := by
  rw [MemSide.dpCommit]
  cases x.dma.dp with
  | none => rfl
  | some r => exact pulse_if_irq_length _ _

@[simp] theorem fillCheck_irq (c a n : Nat) : (x.fillCheck c a n).irq = x.irq := by
  unfold MemSide.fillCheck
  dsimp only
  refine List.foldlRecOn (motive := fun y : MemSide => y.irq = x.irq) _ _ rfl (fun y hy k _ => ?_)
  split <;> exact hy

@[simp] theorem issue_irq (c : Nat) (r : DmaRun) : (x.issue c r).irq = x.irq := by
  unfold MemSide.issue
  dsimp only
  split
  · simp
  · rfl

@[simp] theorem grantChannel_irq : x.grantChannel.irq = x.irq := by
  unfold MemSide.grantChannel
  dsimp only
  split
  · rfl
  · split
    · simp
    · split
      · split <;> rfl
      · rfl

theorem grantSpill_irq {b : Bool} {y : MemSide} (h : x.grantSpill b = some y) : y.irq = x.irq := by
  unfold MemSide.grantSpill at h
  dsimp only at h
  split at h
  · cases h; rfl
  split at h
  · cases h; rfl
  · cases h

@[simp] theorem respond_irq_length (q : MemReq) (d : Bytes) (err : Bool) : (x.respond q d err).irq.length = x.irq.length := by
  unfold MemSide.respond
  dsimp only
  split
  · split <;> simp
  split
  · split <;> simp
  split
  · split
    · simp
    split
    · rfl
    · simp
    · exact burstDone_irq_length _ _ _
    · split
      · rfl
      split
      · rfl
      · exact burstDone_irq_length _ _ _
  · split
    · split
      · split
        · exact dpCommit_irq_length _ _
        · rfl
      · rfl
    · rfl

@[simp] theorem response_irq_length (id : Nat) (w : Bool) (d : Bytes) (err : Bool) : (x.response id w d err).irq.length = x.irq.length := by
  unfold MemSide.response
  split
  · rfl
  · dsimp only
    split
    · rfl
    · exact respond_irq_length _ _ _ _

@[simp] theorem timeout_irq_length (id : Nat) : (x.timeout id).irq.length = x.irq.length := by
  unfold MemSide.timeout
  split
  · rfl
  · split
    · rfl
    · exact respond_irq_length _ _ _ _

end

/-! ### Operations after which the boundary follows -/

section
variable (o : Ovtan)

theorem follows_onMem {f : MemSide → MemSide} (hf : ∀ x, (f x).irq.length = x.irq.length) : o.Follows (o.onMem f) :=
  ⟨hf o.memSide, id, rfl, rfl, rfl, .inl rfl⟩

theorem follows_setBlock (i n : Nat) : o.Follows { o with bnd := { o.bnd with blocks := o.bnd.blocks.set i n } } :=
  ⟨rfl, fun h => (List.length_set ..).trans h, rfl, rfl, rfl, .inl rfl⟩

theorem follows_auth (b : Bool) : o.Follows { o with bnd := { o.bnd with auth := b } } := ⟨rfl, id, rfl, rfl, rfl, .inl rfl⟩

theorem enterReady_bnd : o.enterReady.bnd = { o.bnd with boot := .ready } := by
  unfold Ovtan.enterReady
  refine (foldl_bnd (fun o g => onTrace_bnd o _) _ _).trans ?_
  dsimp only
  split <;> rfl

theorem follows_enterReady : o.Follows o.enterReady ∧ o.enterReady.bnd.boot = .ready := by
  rw [Ovtan.Follows, enterReady_bnd]
  exact ⟨⟨rfl, id, rfl, rfl, rfl, .inr (.inr rfl)⟩, rfl⟩

theorem follows_ready : o.Follows o.ready := by
  obtain ⟨h, hb⟩ := follows_enterReady o
  exact ⟨h.irq, fun _ => rfl, h.fuse, h.fuseStatus, h.aon, .inr (.inr hb)⟩

theorem follows_restart : o.Follows o.restart := by
  have h (p : BistPart → BistPart) (o₁ : Ovtan) (hb : o₁.bnd = { o.bnd with boot := .selfTest, restarts := o.bnd.restarts + 1, cause := 1 }) : o.Follows o₁ := by
    rw [Ovtan.Follows, hb]
    exact ⟨rfl, id, rfl, rfl, rfl, .inr (.inl rfl)⟩
  unfold Ovtan.restart
  dsimp only
  split
  · exact (h id _ rfl).trans (follows_ready _)
  · exact h id _ rfl

theorem follows_before (obj : Nat) : o.Follows (o.before obj) := by
  unfold Ovtan.before
  split
  · exact follows_onMem o (fun _ => rfl)
  split
  · exact .of_bnd rfl
  · exact .refl _

theorem follows_effect (obj : Nat) (v : Bytes) : o.Follows (o.effect obj v) := by
  unfold Ovtan.effect
  dsimp only
  split
  · split <;> exact .of_bnd rfl
  · split
    · exact .of_bnd rfl
    split <;> exact .of_bnd rfl
  · split
    · exact .of_bnd rfl
    split <;> exact .of_bnd rfl
  · split <;> exact .of_bnd rfl
  · split <;> exact .of_bnd rfl
  · split
    · split
      · refine .of_bnd ?_
        split <;> rfl
      split <;> exact .of_bnd rfl
    · exact .refl _
  · split
    · exact follows_setBlock o _ _
    · exact .refl _
  · exact .refl _

theorem follows_dpStart (o₁ : Ovtan) (h : o₁.bnd = o.bnd) : o.Follows (o₁.onMem (fun x => x.dpStart x.core.ns)) :=
  .of_same h (follows_onMem o₁ (fun _ => rfl))

theorem follows_dpGo (n : Nat) : o.Follows (o.dpGo n).1 := by
  unfold Ovtan.dpGo
  split
  · exact .refl _
  split
  · exact follows_onMem o (fun x => by rw [dpOverrun_irq])
  split
  · exact follows_dpStart o _ rfl
  · exact .refl _

theorem follows_command (a : Actor) (obj : Nat) (v : Bytes) : o.Follows (o.command a obj v).1 := by
  unfold Ovtan.command
  dsimp only
  split
  · split
    · exact follows_restart o
    · exact .refl _
  · split <;> exact .of_bnd rfl
  · split
    · exact .of_bnd (force_bnd ..)
    · exact .refl _
  · split <;> exact .of_bnd rfl
  · split
    · exact .of_bnd rfl
    split <;> exact .of_bnd rfl
  · split
    · split
      · refine .of_bnd ?_
        dsimp only
        split <;> rfl
      split
      · exact .of_bnd (feed_bnd ..)
      split <;> exact .of_bnd (feed_bnd ..)
    split
    · exact follows_dpGo ..
    · exact .refl _
  · split
    · exact .refl _
    split
    · exact .of_bnd rfl
    · exact follows_onMem o (fun x => stop_irq_length x _)
  · split
    · split <;> exact .of_bnd rfl
    · exact .refl _
  · split
    · exact .of_bnd rfl
    split <;> exact .of_bnd rfl
  · exact .refl _

/-- The dictionary without the soft marker keeps the boundary's relation. -/
theorem ovOps0_respects : ovOps0.Respects Ovtan.Follows where
  refl := .refl
  trans := .trans
  set _ _ := .of_bnd rfl
  didRead o obj := .of_bnd (ovDidRead_bnd o obj)
  before := follows_before
  effect := follows_effect
  done o os := .of_bnd (ovDone_bnd o os)
  command := follows_command

theorem follows_marker (num : Nat) (soft : Bool) : o.Follows (o.marker num soft) := by
  have h {o₁ : Ovtan} (hb : o₁.bnd = o.bnd) : o.Follows (commitsAtMarker ovOps0 o₁) := .of_same hb (ovOps0_respects.commitsAtMarker _)
  rw [Ovtan.marker]
  refine iteInduction (fun _ => .of_bnd rfl) fun _ => iteInduction (fun _ => h (cutsAtMarker_bnd ..)) fun _ => ?_
  extract_lets o₂ o₃ o₄ o₅ c₅ jump a₅ c₆ o₆ o₇ o₈ o₉
  have h₂ : o.SameBnd o₂ := sameBnd_ite rfl (handAngle_bnd ..)
  have h₅ : o.SameBnd o₅ := (cutsAtMarker_bnd o₃ _ _).trans h₂
  have h₇ : o.Follows o₇ := h h₅
  clear_value o₇
  refine iteInduction (fun _ => h₇) fun _ => h₇.trans (.of_bnd ?_)
  exact (handAngle_bnd o₉ _).trans (markerReport_bnd o₇ _)

/-- The Ovtan's dictionary keeps the boundary's relation. -/
theorem ovOps_respects : ovOps.Respects Ovtan.Follows where
  __ := ovOps0_respects
  command o a obj v := by
    show o.Follows (if obj = oAngleSoftMarker then (o.marker (ofLe v) true, stOk) else o.command a obj v).1
    split
    · exact follows_marker ..
    · exact follows_command ..

end

end Sys2Proof.Machine
end

section
namespace Sys2Proof.Machine
open Sys2Proof

section
variable (o : Ovtan)

/-! ### Messages and frames -/

theorem follows_answer (a : Actor) (e : Envelope) (q : Request) : o.Follows (o.answer a e q).1 := by
  unfold Ovtan.answer
  dsimp only
  split
  · exact .refl _
  split
  · exact .of_bnd rfl
  split
  · exact .refl _
  split
  · exact .refl _
  split <;> exact ovOps_respects.actKept ..

theorem follows_request (e : Envelope) (q : Request) : o.Follows (o.request e q) := by
  unfold Ovtan.request
  dsimp only
  split
  · exact .of_bnd rfl
  · next ss c _ => exact .of_same (o₁ := { o with core := c }) rfl ((follows_answer _ ss.actor e q).trans (.of_bnd (placeMessages_bnd ..)))

theorem follows_receive (e : Envelope) (n : Nat) (b : Bytes) : o.Follows (o.receive e n b) := by
  unfold Ovtan.receive
  split
  · exact .of_bnd (onCoreSend_bnd ..)
  split
  · exact .of_bnd (onCoreSend_bnd ..)
  split
  · exact .of_bnd (onCoreSend_bnd ..)
  · exact follows_request ..

theorem follows_receiveBytes (p : Port) (b : Bytes) : o.Follows (o.receiveBytes p b) := by
  unfold Ovtan.receiveBytes
  split
  · exact follows_receive ..
  · exact .of_bnd rfl

theorem follows_mailbox (t : Nat) (b : Bytes) : o.Follows (o.mailbox t b) := by
  unfold Ovtan.mailbox
  split
  · exact .refl _
  split
  · exact .of_bnd rfl
  split
  · exact .of_bnd rfl
  · exact (follows_setBlock o 5 0).trans ((follows_receiveBytes _ _ b).trans (.of_bnd rfl))

/-! ### Bring-up, the reference, blocks and lines -/

theorem follows_pllLock : o.Follows o.pllLock := by
  have h : o.Follows { o with bnd := { o.bnd with pll := true } } := ⟨rfl, id, rfl, rfl, rfl, .inl rfl⟩
  unfold Ovtan.pllLock
  dsimp only
  split
  · exact .refl _
  split
  · exact h.trans (follows_ready _)
  · exact h

theorem follows_selfTestDone (cs : List Nat) (cols : List (Nat × Nat)) : o.Follows (o.selfTestDone cs cols) := by
  unfold Ovtan.selfTestDone
  split
  · refine .trans ?_ (follows_ready _)
    exact ⟨rfl, id, rfl, rfl, rfl, .inl rfl⟩
  · exact .refl _

theorem follows_refLost : o.Follows o.refLost := by
  unfold Ovtan.refLost
  split
  · exact .refl _
  · have h {n : Nat} {o₁ : Ovtan} (hb : o₁.bnd = { o.bnd with refLost := some n, pll := false }) : o.Follows o₁ := by
      rw [Ovtan.Follows, hb]
      exact ⟨rfl, id, rfl, rfl, rfl, .inl rfl⟩
    dsimp only
    split
    · exact h rfl
    split
    · exact h (by rw [laneDown_bnd, qualityChange_bnd])
    · exact h (by dsimp only; rw [laneDown_bnd, qualityChange_bnd])

theorem follows_refRestored : o.Follows o.refRestored := by
  unfold Ovtan.refRestored
  split
  · exact .refl _
  · refine .trans ?_ (follows_pllLock _)
    exact ⟨rfl, id, rfl, rfl, rfl, .inl rfl⟩

theorem follows_blockIdle (e : Nat) : o.Follows (o.blockIdle e) := by
  unfold Ovtan.blockIdle
  split
  · exact .refl _
  · exact follows_setBlock ..

theorem follows_blockWake (e : Nat) : o.Follows (o.blockWake e) := by
  unfold Ovtan.blockWake
  split
  · exact .refl _
  · exact follows_setBlock ..

theorem follows_irqEnd : o.Follows o.irqEnd := by
  refine .foldl (fun o i => ?_) _ _
  split
  · split
    · exact ⟨List.length_set .., id, rfl, rfl, rfl, .inl rfl⟩
    · exact .refl _
  · exact .refl _

/-! ### The lane, and events that act on several parts -/

theorem follows_takeReceived (n : Nat) : o.Follows (o.takeReceived n) := by
  unfold Ovtan.takeReceived
  dsimp only
  refine .of_same ?_ (.foldl (fun o b => follows_receiveBytes o _ b) _ _)
  rfl

theorem follows_flit (b : Bytes) : o.Follows (o.flit b) := by
  unfold Ovtan.flit
  dsimp only
  split
  · refine .of_same ?_ (follows_takeReceived _ _)
    rfl
  split
  · exact .of_bnd (foldl_bnd (fun o v => item_bnd o v) _ _)
  · exact .of_bnd rfl

theorem follows_block (hdr symbols uncorr : Nat) (l : List Bytes) : o.Follows (o.block hdr symbols uncorr l) := by
  unfold Ovtan.block
  dsimp only
  split
  · exact .of_same (onLane_bnd ..) (.foldl (fun o b => follows_flit o b) _ _)
  · exact .of_bnd rfl

theorem follows_dpEvent : o.Follows o.dpEvent := by
  unfold Ovtan.dpEvent
  split
  · exact .refl _
  split
  · exact follows_onMem o (fun x => by rw [dpOverrun_irq])
  split
  · exact follows_dpStart o _ rfl
  · exact .refl _

theorem follows_eventInput (bus : Nat) (bits : U128) (p : Option Nat) : o.Follows (o.eventInput bus bits p) := by
  unfold Ovtan.eventInput
  dsimp only
  split
  · exact .of_same (onCap_bnd ..) (follows_dpEvent _)
  · exact .of_bnd rfl

theorem follows_tapDescriptor (tap : Nat) (d : U128) (a st : Bool) : o.Follows (o.tapDescriptor tap d a st) := by
  unfold Ovtan.tapDescriptor
  split
  · exact (follows_auth o a).trans (.of_bnd rfl)
  · exact .refl _

theorem follows_burstGrant : o.Follows o.burstGrant := by
  refine follows_onMem o (fun x => ?_)
  cases h : x.grantSpill (o.link.lane.phy.state == .up) with
  | none => rw [Option.getD_none, grantChannel_irq]
  | some y => rw [Option.getD_some, grantSpill_irq x h]

theorem follows_digestDone : o.Follows o.digestDone := by
  unfold Ovtan.digestDone
  split
  · split
    · exact follows_onMem o (fun x => dpCommit_irq_length x _)
    · exact .refl _
  · exact .refl _

theorem follows_tick : o.Follows o.tick := by
  by_cases h : o.bnd.boot = .ready
  · rw [ovtan_tick_ready h]
    exact .of_same (onCore_bnd ..) (follows_onMem _ (fun _ => rfl))
  · rw [ovtan_tick_not h]
    exact .of_bnd rfl

end

end Sys2Proof.Machine
end

section
namespace Sys2Proof.Machine
open Sys2Proof

/-! ### Commands -/

section
variable (o : Ovtan)

theorem follows_onCap (f : CapSide → CapSide) : o.Follows (o.onCap f) := .refl _
theorem follows_onTrace (f : TraceSide → TraceSide) : o.Follows (o.onTrace f) := .refl _
theorem follows_onBuf (f : Core → RecBuf → Core × RecBuf) : o.Follows (o.onBuf f) := .refl _
theorem follows_dewStep (ch : Nat) : o.Follows (o.dewStep ch) := .refl _
theorem follows_laneDown (n : Nat) : o.Follows (o.laneDown n) := .refl _

end

/-- The Ovtan's boundary follows from state to state. -/
def State.Follows (s t : State) : Prop := s.ov.Follows t.ov

section
variable (s : State)

theorem sFollows_onOvAny {h : Ovtan → Ovtan} (hh : ∀ o : Ovtan, o.Follows (h o)) : s.Follows (s.onOvAny h) := hh s.ov

theorem sFollows_onOv {h : Ovtan → Ovtan} (hh : ∀ o : Ovtan, o.Follows (h o)) : s.Follows (s.onOv h) := by
  unfold State.onOv
  split
  · exact hh s.ov
  · exact .refl _

theorem sFollows_onFb (h : Fabato → Fabato) : s.Follows (s.onFb h) := .of_bnd (congrArg Ovtan.bnd (onFb_ov h))
theorem sFollows_onFbAny (h : Fabato → Fabato) : s.Follows (s.onFbAny h) := .refl _

theorem sFollows_on (u : UnitSel) {ho : Ovtan → Ovtan} (hf : Fabato → Fabato) (hh : ∀ o : Ovtan, o.Follows (ho o)) : s.Follows (s.on u ho hf) := by
  cases u
  · exact sFollows_onOv s hh
  · exact sFollows_onFb s hf

theorem sFollows_onCore (u : UnitSel) (h : Core → Core) : s.Follows (s.onCore u h) := sFollows_on s u _ (fun _ => .of_bnd rfl)
theorem sFollows_lane (u : UnitSel) (n : Nat) (h : Nat → Core → Lane → Core × Lane) : s.Follows (s.lane u n h) := sFollows_on s u _ (fun _ => .of_bnd rfl)
theorem sFollows_receive (u : UnitSel) (e : Envelope) (n : Nat) (b : Bytes) : s.Follows (s.receive u e n b) := sFollows_on s u _ (fun o => follows_receive o e n b)
theorem sFollows_request (u : UnitSel) (e : Envelope) (q : Request) : s.Follows (s.request u e q) := sFollows_on s u _ (fun o => follows_request o e q)
theorem sFollows_write (u : UnitSel) (e : Envelope) (obj : Nat) (v : Bytes) : s.Follows (s.write u e obj v) := sFollows_request ..
theorem sFollows_writeNum (u : UnitSel) (e : Envelope) (obj n : Nat) : s.Follows (s.writeNum u e obj n) := sFollows_request ..
theorem sFollows_readOne (u : UnitSel) (e : Envelope) (obj : Nat) : s.Follows (s.readOne u e obj) := sFollows_request ..
theorem sFollows_commit (u : UnitSel) (e : Envelope) (m id step time : Nat) : s.Follows (s.commit u e m id step time) := sFollows_request ..
theorem sFollows_rackRef (p : Bool) : s.Follows (s.rackRef p) := sFollows_onFb (s.onFbAny _) _

theorem sFollows_traceInject (u : UnitSel) (e : Envelope) (v : Bytes) (auth : Bool) :
    s.Follows ((match u with | .ovtan => s.traceAuth auth | .fabato => s).write u e oTraceInject v) := by
  cases u
  · exact Ovtan.Follows.trans (sFollows_onOv s (fun o => follows_auth o auth)) (sFollows_write ..)
  · exact sFollows_write ..

end

/-- The events of `AON_RST_N` and of fuse load. -/
def Instr.ofFuseLoad : Instr → Bool
  | .aonResetAssert | .aonResetRelease | .fuseImageFrame .. | .fuseLoadTimeout => true
  | _ => false

/-- Every other command leaves the boundary in order, by the way it reaches the unit. -/
theorem exec_follows (i : Instr) (s : State) (hi : Instr.ofFuseLoad i = false) : ∃ t, exec i s = .next t ∧ s.Follows t := by
  cases i
  case traceInject u e v auth => exact ⟨_, rfl, sFollows_traceInject s u e v auth⟩
  case aonResetAssert | aonResetRelease | fuseImageFrame | fuseLoadTimeout => cases hi
  all_goals
    clear hi
    refine ⟨_, rfl, ?_⟩
    simp [sFollows_onFb, sFollows_onFbAny, sFollows_onCore, sFollows_lane, sFollows_receive, sFollows_write, sFollows_writeNum,
      sFollows_readOne, sFollows_commit, sFollows_rackRef, sFollows_onOv, sFollows_onOvAny, sFollows_on, follows_request, follows_mailbox,
      follows_pllLock, follows_selfTestDone, follows_refLost, follows_refRestored, follows_blockIdle, follows_blockWake, follows_irqEnd, follows_flit,
      follows_block, follows_eventInput, follows_tapDescriptor, follows_burstGrant, follows_digestDone, follows_dpEvent, follows_marker, ovOps_respects.commitsAtTime,
      follows_onMem, follows_onCap, follows_onTrace, follows_onBuf, follows_dewStep, follows_laneDown, Ovtan.Follows.of_bnd]

theorem follows_of_exec {i : Instr} {s t : State} (hi : Instr.ofFuseLoad i = false) (h : exec i s = .next t) : s.ov.Follows t.ov := by
  obtain ⟨t', ht, hf⟩ := exec_follows i s hi
  cases ht.symm.trans h
  exact hf

/-! ### The events of `AON_RST_N` and of fuse load -/

theorem aonAssert_inv (o : Ovtan) : o.aonAssert.bnd.Inv := ⟨rfl, rfl, fun _ => rfl, fun _ => rfl, fun h => absurd rfl h⟩

theorem aonRelease_inv {o : Ovtan} (h : o.bnd.Inv) : o.aonRelease.bnd.Inv ∧ o.aonRelease.bnd.fuse = o.bnd.fuse := by
  unfold Ovtan.aonRelease
  split
  case isFalse => exact ⟨h, rfl⟩
  case isTrue hb =>
    obtain ⟨hirq, hblocks, _, hfuse, hgood⟩ := h
    exact ⟨⟨hirq, hblocks, nofun, fun _ => hfuse (.inl hb), hgood⟩, rfl⟩

/-- A frame in fuse load meets no image; one that passes the check leaves the unit in Self-test. -/
theorem fuseFrame_inv {o : Ovtan} (tag : Nat) (img : Bytes) (h : o.bnd.Inv) : (o.fuseFrame tag img).bnd.Inv ∧ (o.bnd.fuse ≠ [] → (o.fuseFrame tag img).bnd.fuse = o.bnd.fuse) := by
  unfold Ovtan.fuseFrame
  split
  · exact ⟨h, fun _ => rfl⟩
  split
  · exact ⟨h, fun _ => rfl⟩
  case isFalse hl =>
  have hload : o.bnd.boot = .fuseLoad := not_not.mp hl
  obtain ⟨hirq, hblocks, hreset, hfuse, hgood⟩ := h
  have hempty : o.bnd.fuse = [] := hfuse (.inr hload)
  split
  · exact ⟨⟨hirq, hblocks, hreset, hfuse, hgood⟩, fun _ => rfl⟩
  split
  · exact ⟨⟨hirq, hblocks, hreset, hfuse, fun hn => absurd hempty hn⟩, fun _ => rfl⟩
  case isFalse hg =>
    refine ⟨⟨hirq, hblocks, nofun, ?_, fun _ => ⟨by simpa using hg, rfl⟩⟩, fun hn => absurd hempty hn⟩
    rintro (h | h) <;> cases h

theorem fuseTimeout_inv {o : Ovtan} (h : o.bnd.Inv) : o.fuseTimeout.bnd.Inv ∧ (o.bnd.fuse ≠ [] → o.fuseTimeout.bnd.fuse = o.bnd.fuse) := by
  unfold Ovtan.fuseTimeout
  split
  case isFalse => exact ⟨h, fun _ => rfl⟩
  case isTrue hb =>
    obtain ⟨hirq, hblocks, _, hfuse, _⟩ := h
    exact ⟨⟨hirq, hblocks, nofun, fun _ => rfl, fun hn => absurd rfl hn⟩, fun hn => absurd (hfuse (.inr hb.1)) hn⟩

/-- A command keeps the invariant, and the image unless it is the fall of `AON_RST_N`. -/
theorem exec_inv {i : Instr} {s t : State} (h : exec i s = .next t) (hs : s.ov.bnd.Inv) :
    t.ov.bnd.Inv ∧ (i ≠ .aonResetAssert → s.ov.bnd.fuse ≠ [] → t.ov.bnd.fuse = s.ov.bnd.fuse) := by
  by_cases hi : Instr.ofFuseLoad i = false
  · have hf := follows_of_exec hi h
    exact ⟨hf.inv hs, fun _ _ => hf.fuse⟩
  · unfold Instr.ofFuseLoad at hi
    split at hi
    · cases h
      exact ⟨aonAssert_inv _, fun hne => absurd rfl hne⟩
    · cases h
      exact ⟨(aonRelease_inv hs).1, fun _ _ => (aonRelease_inv hs).2⟩
    · cases h
      exact ⟨(fuseFrame_inv _ _ hs).1, fun _ => (fuseFrame_inv _ _ hs).2⟩
    · cases h
      exact ⟨(fuseTimeout_inv hs).1, fun _ => (fuseTimeout_inv hs).2⟩
    · exact absurd rfl hi

/-- The same of a step: on an empty queue the boundary follows a nanosecond of time. -/
theorem step_inv {s t : State} (h : step s = .next t) (hs : s.ov.bnd.Inv) :
    t.ov.bnd.Inv ∧ (s.pending.head? ≠ some .aonResetAssert → s.ov.bnd.fuse ≠ [] → t.ov.bnd.fuse = s.ov.bnd.fuse) := by
  rw [step] at h
  split at h
  case h_1 =>
    cases h
    exact ⟨(follows_tick s.ov).inv hs, fun _ _ => (follows_tick s.ov).fuse⟩
  case h_2 i rest hq =>
    obtain ⟨hinv, hfuse⟩ := exec_inv h hs
    refine ⟨hinv, fun hne => hfuse fun hi => hne ?_⟩
    rw [hq, hi, List.head?_cons]

/-- Settles O38: every command's effect on the boundary, and a nanosecond's. -/
theorem everyStepKeepsBoundaryInvariant : Obligations.EveryStepKeepsBoundaryInvariant := fun _ _ hs h => (step_inv h hs).1

/-- Settles O39: in the states that the invariant allows, only the fall of `AON_RST_N` unloads an image. -/
theorem fuseImageStaysLocked : Obligations.FuseImageStaysLocked := fun _ _ hs hf hq h => (step_inv h hs).2 hq hf

end Sys2Proof.Machine
end

section
/-! What a unit's dictionary makes of a request: reads of one element, immediate registers, commit descriptors (R62–R69, R76–R82). -/
namespace Sys2Proof.Machine
open Sys2Proof

/-! ### A commit descriptor's fields (Table 2.13) -/

theorem ofLe_append (a b : Bytes) : ofLe (a ++ b) = ofLe a + 256 ^ a.length * ofLe b := by
  induction a with
  | nil => simp [ofLe]
  | cons x a ih => rw [List.cons_append, ofLe, ofLe, ih, List.length_cons, Nat.pow_succ]; ring

theorem ofLe_zeros (n : Nat) : ofLe (zeros n) = 0 := by
  induction n with
  | zero => rfl
  | succ n ih =>
    rw [zeros] at ih
    rw [zeros, List.replicate_succ, ofLe, ih]
    rfl

@[simp] theorem commitBytes_length (mode id step time : Nat) : (commitBytes mode id step time).length = 32 := by simp [commitBytes]

/-- The number that a descriptor's bytes spell. -/
theorem leAt_commitBytes (mode id step time : Nat) :
    leAt (commitBytes mode id step time) 0 32 = mode % 2 ^ 8 + 2 ^ 32 * (id % 2 ^ 32 + 2 ^ 32 * (step % 2 ^ 64 + 2 ^ 64 * (time80 time % 2 ^ 80))) := by
  have hs : slice (commitBytes mode id step time) 0 32 = commitBytes mode id step time := by
    simp [slice, zeros]
  rw [leAt, hs, commitBytes]
  simp only [List.append_assoc, ofLe_append, ofLe_zeros, ofLe_leBytes, leBytes_length, zeros_length]
  norm_num
  ring

/-- The fields of a descriptor, as `commitDesc` takes them out of its number. -/
theorem commitBytes_fields {mode id step time n : Nat} (hm : mode < 2 ^ 8) (hi : id < 2 ^ 32) (hs : step < 2 ^ 64) (ht : time80 time < 2 ^ 80)
    (hn : leAt (commitBytes mode id step time) 0 32 = n) :
    bitsOf n 7 0 = mode ∧ bitsOf n 63 32 = id ∧ bitsOf n 127 64 = step ∧ bitsOf n 207 128 = time80 time ∧ bitsOf n 31 8 = 0 ∧ bitsOf n 255 208 = 0 := by
  rw [leAt_commitBytes, Nat.mod_eq_of_lt hm, Nat.mod_eq_of_lt hi, Nat.mod_eq_of_lt hs, Nat.mod_eq_of_lt ht] at hn
  subst hn
  generalize time80 time = t at *
  simp only [bitsOf]
  norm_num at *
  refine ⟨?_, ?_, ?_, ?_, ?_, ?_⟩ <;> omega

section
variable {σ : Type} {u : UnitOps σ} {x : σ} {a : Actor} {obj : Nat}

theorem objElem_le (o : Nat) : ¬ objElem o + 0 > 255 := by
  have : objElem o < 256 := Nat.mod_lt _ (by norm_num)
  omega

theorem readElement_of_reads (h : Reads u x a obj) :
    readElement u x a obj 0 = (u.didRead x obj, responseItemBytes obj (tyOf (u.get x).kind obj) stOk (readValue u x a obj), stOk) := by
  obtain ⟨r, hl, hr, hwo, hrc, hacc⟩ := h
  rw [readElement, hl]
  simp only [if_neg hwo, hacc, if_neg hrc, tyOf, hr]
  simp

theorem act_read_of_reads (flags : Nat) (h : Reads u x a obj) :
    act u x a flags (.read [{ obj := obj }]) = (u.didRead x obj, readResponse (u.get x).kind obj (readValue u x a obj)) := by
  have hi : readItem u x a { obj := obj } = (u.didRead x obj, responseItemBytes obj (tyOf (u.get x).kind obj) stOk (readValue u x a obj), stOk) := by
    show (if objElem obj + 0 > 255 then _ else _) = _
    rw [if_neg (objElem_le obj)]
    simp [readElement_of_reads h]
  simp [act, hi, readResponse]

theorem writeItem_register {v : Bytes} {flags : Nat} (h : Permits u x a .rw obj v) (hf : flagStage flags = false) :
    writeItem u x a flags { obj := obj, ty := tyOf (u.get x).kind obj, value := v } =
      (u.done (u.effect (u.set (u.before x obj) ((u.get (u.before x obj)).put obj v)) obj v) [obj], stOk) := by
  obtain ⟨r, hl, hr, ha, hap, hacc, hty, hkey, hc, hp, hch⟩ := h
  have ht : tyOf (u.get x).kind obj = r.ty.code := by simp [tyOf, hr]
  simp [writeItem, hl, ha, hacc, ht, hty, hkey, hch, writeChecked, hap, hf, hp, applyValue, hc, hr]

theorem act_register {v : Bytes} {flags : Nat} (h : Permits u x a .rw obj v) (hf : flagStage flags = false) :
    act u x a flags (.write [{ obj := obj, ty := tyOf (u.get x).kind obj, value := v }]) =
      (u.done (u.effect (u.set (u.before x obj) ((u.get (u.before x obj)).put obj v)) obj v) [obj], writeResponse obj (tyOf (u.get x).kind obj) stOk) := by
  simp [act, writeItem_register h hf, writeResponse]

/-! ### Commits (R78–R82) -/

theorem act_commit (flags : Nat) (d : Bytes) (h : 1 ≤ a.role.rank) : act u x a flags (.commit d) = ((commitDesc u x a d).1, ⟨(commitDesc u x a d).2, []⟩) := by
  rw [act]
  simp only [if_neg (Nat.not_lt.mpr h)]

/-- What a commit descriptor without reserved bits does, by its mode. -/
theorem commitDesc_of_bytes {mode id step time : Nat} (hm : mode < 2 ^ 8) (hi : id < 2 ^ 32) (hs : step < 2 ^ 64) (ht : time80 time < 2 ^ 80) :
    commitDesc u x a (commitBytes mode id step time) =
      if mode = 0 then (u.set x ((u.get x).setStage a []), stOk)
      else if mode > 3 ∨ id = 0 then (x, eRange)
      else if mode = 3 then
        if (u.get x).commits.any (fun k => k.id == id) then
          (u.set x (({ u.get x with commits := (u.get x).commits.filter (fun k => k.id != id) }).raise 0x0205
            (if (u.get x).kind = 0 then 0x09 else 0x76) [id, a.session]), stOk)
        else (x, eRange)
      else if (u.get x).commits.any (fun k => k.id == id) then (x, eRange)
      else if !(if mode = 1 then stepInFuture (u.get x).angle ((u.get x).kind = 0) step else decide (time ≥ (u.get x).ns + 10000)) then (x, eCommitLate)
      else if (u.pairs x (((u.get x).stageOf a).map Prod.fst)).any (fun p => !p.2 (viewWith (u.get x) ((u.get x).stageOf a))) then (x, ePair)
      else if (u.get x).commits.length ≥ 16 then (x, eBusy)
      else
        (u.set x { (u.get x).setStage a [] with commits := (u.get x).commits ++ [{ id := id, step := if mode = 1 then some step else none, time := if mode = 2 then some time else none, values := (u.get x).stageOf a, session := a.session }] }, stCommitPending) := by
  obtain ⟨h0, h1, h2, h3, h4, h5⟩ := commitBytes_fields hm hi hs ht rfl
  rw [commitDesc]
  simp only [h0, h1, h2, h3, h4, h5, ofTime80_time80, commitBytes_length]
  rfl

end

/-- Settles O15: the one element read, the register written, and the commit descriptor by its mode. -/
theorem requestEffects : Obligations.RequestEffects := by
  intro σ u x a flags obj id step time v
  have h80 {t : Nat} (h : t / 10 ^ 9 < 2 ^ 48) : time80 t < 2 ^ 80 := by
    simp only [time80] at *
    norm_num at *
    omega
  refine ⟨act_read_of_reads flags, act_register, fun hr => ?_, fun hr hid hi hs hc hf hp hl => ?_, fun hr hid hi ht hc hf hp hl => ?_, fun hr hid hi hc => ?_⟩
  · rw [act_commit flags _ hr, commitDesc_of_bytes (by norm_num) (by norm_num) (by norm_num) (h80 (by norm_num))]
    rfl
  · rw [act_commit flags _ hr, commitDesc_of_bytes (by norm_num) hi hs (h80 (by norm_num))]
    simp [hid, hc, hf, hp, Nat.not_le.mpr hl]
  · rw [act_commit flags _ hr, commitDesc_of_bytes (by norm_num) hi (by norm_num) (h80 ht)]
    simp [hid, hc, hf, hp, Nat.not_le.mpr hl]
  · rw [act_commit flags _ hr, commitDesc_of_bytes (by norm_num) hi (by norm_num) (h80 (by norm_num))]
    simp [hid, hc]

end Sys2Proof.Machine
end

section
/-! Commands that write one number or one register, at either unit (R62–R69). -/
namespace Sys2Proof.Machine
open Sys2Proof

/-! ### A number in the length of its object -/

/-- Whether an object has one length at every kind of unit that has it. -/
def objLen (obj k : Nat) : Bool := [0, 1, 2, 3].all (fun kind => (findRow kind obj).all (fun r => rowLen r == k))

theorem rowLen_of_objLen {obj k kind : Nat} {r : ObjRow} (h : objLen obj k = true) (hk : kind ∈ [0, 1, 2, 3]) (hr : findRow kind obj = some r) : rowLen r = k := by
  have := List.all_eq_true.mp h kind hk
  rw [hr] at this
  simpa using this

theorem ofLe_objBytes {σ : Type} {u : UnitOps σ} {x : σ} {a : Actor} {acc : Access} {obj k n kind : Nat} {v : Bytes} (h : Permits u x a acc obj v)
    (hk : (u.get x).kind = kind) (hkind : kind ∈ [0, 1, 2, 3]) (hl : objLen obj k = true) (hn : n < 256 ^ k) : ofLe (leBytes (lenOf kind obj) n) = n := by
  obtain ⟨r, _, hr, _⟩ := h
  rw [hk] at hr
  have hlen : lenOf kind obj = k := by
    rw [lenOf, hr]
    exact rowLen_of_objLen hl hkind hr
  rw [hlen, ofLe_leBytes, Nat.mod_eq_of_lt hn]

theorem OvAccepts.kind {s : State} {e : Envelope} {q : Request} {o : Ovtan} {a : Actor} (h : OvAccepts s e q o a) : o.core.kind = 0 ∧ s.ov.core.kind = 0 := by
  obtain ⟨_, hk, _, ⟨x, hx, ho, _⟩, _⟩ := h
  exact ⟨by rw [ho]; exact (authenticate_kind hx).trans ((expireSessions_kind _).trans hk), hk⟩

theorem FbAccepts.kind {s : State} {e : Envelope} {q : Request} {f : Fabato} {a : Actor} (h : FbAccepts s e q f a) :
    f.core.kind = s.fb.core.kind ∧ s.fb.core.kind ∈ [0, 1, 2, 3] := by
  obtain ⟨_, hk, _, ⟨x, hx, hf, _⟩, _⟩ := h
  refine ⟨by rw [hf]; exact (authenticate_kind hx).trans (expireSessions_kind _), ?_⟩
  rcases hk with h | h | h <;> simp [h]

theorem OvGrants.ofLe {s : State} {e : Envelope} {acc : Access} {obj k n : Nat} {o : Ovtan} {a : Actor} (h : OvGrants s e acc obj (s.objBytes .ovtan obj n) o a)
    (hl : objLen obj k = true) (hn : n < 256 ^ k) : ofLe (s.objBytes .ovtan obj n) = n := by
  obtain ⟨hacc, hp⟩ := h
  exact ofLe_objBytes hp (hacc.kind.1.trans hacc.kind.2.symm) (by rw [State.kind, hacc.kind.2]; decide) hl hn

theorem FbGrants.ofLe {s : State} {e : Envelope} {acc : Access} {obj k n : Nat} {f : Fabato} {a : Actor} (h : FbGrants s e acc obj (s.objBytes .fabato obj n) f a)
    (hl : objLen obj k = true) (hn : n < 256 ^ k) : ofLe (s.objBytes .fabato obj n) = n := by
  obtain ⟨hacc, hp⟩ := h
  exact ofLe_objBytes hp hacc.kind.1 hacc.kind.2 hl hn

theorem fb_done {obj : Nat} (h : objArea obj ≠ 0x11 ∧ objArea obj ≠ 0x12 ∧ objArea obj ≠ 0x16) (f : Fabato) : fbOps.done f [obj] = f := valuesIn_plain h

theorem ov_done {obj : Nat} (h : objArea obj ≠ 0x04 ∧ objArea obj ≠ 0x05 ∧ objArea obj ≠ 0x06) (o : Ovtan) : ovOps.done o [obj] = o := done_plain h

/-- A command that writes a number to one command object of the Fabato. -/
theorem fb_writes_num {i : Instr} {s : State} {e : Envelope} {obj k n : Nat} {ok : Fabato → Actor → Prop} {h : Fabato → Actor → Fabato × Nat}
    (hl : objLen obj k = true) (hn : n < 256 ^ k) (hx : exec i s = .next (s.writeNum .fabato e obj n)) (hd : ∀ f, fbOps.done f [obj] = f)
    (hc : obj ≠ oCutRequest ∧ obj ≠ oCutCancel)
    (hh : ∀ f a v, ofLe v = n → ok f a → fbOps.command f a obj v = h f a) : FbWrites i s e obj (s.objBytes .fabato obj n) ok h :=
  fb_writes hx hd hc fun f a hg hok => hh f a _ (hg.ofLe hl hn) hok

/-- A command that writes a number to one command object of the Ovtan. -/
theorem ov_writes_num {i : Instr} {s : State} {e : Envelope} {obj k n : Nat} {ok : Ovtan → Actor → Prop} {h : Ovtan → Actor → Ovtan × Nat}
    (hl : objLen obj k = true) (hn : n < 256 ^ k) (hx : exec i s = .next (s.writeNum .ovtan e obj n)) (hd : ∀ o, ovOps.done o [obj] = o)
    (hh : ∀ o a v, ofLe v = n → ok o a → ovOps.command o a obj v = h o a) : OvWrites i s e obj (s.objBytes .ovtan obj n) ok h :=
  ov_writes hx hd fun o a hg hok => hh o a _ (hg.ofLe hl hn) hok

/-! ### Registers -/

/-- What a register's write makes of a unit. -/
def UnitOps.register {σ : Type} (u : UnitOps σ) (x : σ) (obj : Nat) (v : Bytes) : σ :=
  u.done (u.effect (u.set (u.before x obj) ((u.get (u.before x obj)).put obj v)) obj v) [obj]

theorem act_set {σ : Type} {u : UnitOps σ} {x : σ} {a : Actor} {obj flags ty : Nat} {v : Bytes} (h : Permits u x a .rw obj v) (hf : flagStage flags = false)
    (hty : ty = tyOf (u.get x).kind obj) : act u x a flags (.write [{ obj := obj, ty := ty, value := v }]) = (u.register x obj v, writeResponse obj ty stOk) := by
  subst hty
  exact act_register h hf

theorem Plain.unstaged {e : Envelope} {q : Request} {n : Nat} (h : Plain e q n) : flagStage e.flags = false := by
  obtain ⟨_, _, _, _, _, hst⟩ := h
  exact hst

theorem OvAccepts.unstaged {s : State} {e : Envelope} {q : Request} {o : Ovtan} {a : Actor} (h : OvAccepts s e q o a) : flagStage e.flags = false := by
  obtain ⟨_, _, hp, _⟩ := h
  exact hp.unstaged

theorem FbAccepts.unstaged {s : State} {e : Envelope} {q : Request} {f : Fabato} {a : Actor} (h : FbAccepts s e q f a) : flagStage e.flags = false := by
  obtain ⟨_, _, hp, _⟩ := h
  exact hp.unstaged

/-- A register of the Ovtan that its dictionary grants takes the value and has its effect. -/
theorem ov_set {s : State} {e : Envelope} {obj : Nat} {v : Bytes} {o : Ovtan} {a : Actor} (h : OvGrants s e .rw obj v o a) :
    s.write .ovtan e obj v = { s with ov := Ovtan.wrote (ovOps.register o obj v, stOk) e a (s.oneWrite .ovtan obj v) obj (s.objTy .ovtan obj) } := by
  obtain ⟨hacc, hp⟩ := h
  have hty : s.objTy .ovtan obj = tyOf (ovOps.get o).kind obj := by
    show tyOf s.ov.core.kind obj = tyOf o.core.kind obj
    rw [hacc.kind.1, hacc.kind.2]
  have hw : act ovOps o a e.flags (s.oneWrite .ovtan obj v) = (ovOps.register o obj v, writeResponse obj (s.objTy .ovtan obj) stOk) := act_set hp hacc.unstaged hty
  rw [show s.write .ovtan e obj v = s.request .ovtan e (s.oneWrite .ovtan obj v) from rfl, ov_act hacc, hw]
  rfl

theorem fb_set {s : State} {e : Envelope} {obj : Nat} {v : Bytes} {f : Fabato} {a : Actor} (h : FbGrants s e .rw obj v f a) (hc : obj ≠ oCutRequest ∧ obj ≠ oCutCancel) :
    s.write .fabato e obj v = { s with fb := (Fabato.wrote (fbOps.register f obj v, stOk) e a (s.oneWrite .fabato obj v) obj (s.objTy .fabato obj)).settle s.fb } := by
  obtain ⟨hacc, hp⟩ := h
  have hty : s.objTy .fabato obj = tyOf (fbOps.get f).kind obj := by
    show tyOf s.fb.core.kind obj = tyOf f.core.kind obj
    rw [hacc.kind.1]
  have hw : act fbOps f a e.flags (s.oneWrite .fabato obj v) = (fbOps.register f obj v, writeResponse obj (s.objTy .fabato obj) stOk) := act_set hp hacc.unstaged hty
  rw [show s.write .fabato e obj v = s.request .fabato e (s.oneWrite .fabato obj v) from rfl,
    fb_act hacc (.inl (by simp [cutWrite, State.oneWrite, hc.1, hc.2])), hw]
  rfl

/-- A command that writes a number to a register of the Ovtan. -/
theorem ov_sets_num {i : Instr} {s : State} {e : Envelope} {obj k n : Nat} {ok : Ovtan → Actor → Prop} {h : Ovtan → Actor → Ovtan × Nat}
    (hl : objLen obj k = true) (hn : n < 256 ^ k) (hx : exec i s = .next (s.writeNum .ovtan e obj n))
    (hh : ∀ o a v, v = s.objBytes .ovtan obj n → ofLe v = n → ok o a → (ovOps.register o obj v, stOk) = h o a) :
    OvSets i s e obj (s.objBytes .ovtan obj n) ok h := by
  intro o a hg hok
  rw [hx, show s.writeNum .ovtan e obj n = s.write .ovtan e obj (s.objBytes .ovtan obj n) from rfl, ov_set hg, hh o a _ rfl (hg.ofLe hl hn) hok]

/-- A command that writes a number to a register of the Fabato. -/
theorem fb_sets_num {i : Instr} {s : State} {e : Envelope} {obj k n : Nat} {ok : Fabato → Actor → Prop} {h : Fabato → Actor → Fabato × Nat}
    (hl : objLen obj k = true) (hn : n < 256 ^ k) (hx : exec i s = .next (s.writeNum .fabato e obj n)) (hc : obj ≠ oCutRequest ∧ obj ≠ oCutCancel)
    (hh : ∀ f a v, v = s.objBytes .fabato obj n → ofLe v = n → ok f a → (fbOps.register f obj v, stOk) = h f a) :
    FbSets i s e obj (s.objBytes .fabato obj n) ok h := by
  intro f a hg hok
  rw [hx, show s.writeNum .fabato e obj n = s.write .fabato e obj (s.objBytes .fabato obj n) from rfl, fb_set hg hc, hh f a _ rfl (hg.ofLe hl hn) hok]

/-! ### Requests that are acted on -/

theorem ov_acts {i : Instr} {s : State} {e : Envelope} {q : Request} {ok : Ovtan → Actor → Prop} {h : Ovtan → Actor → Ovtan × Response}
    (hx : exec i s = .next (s.request .ovtan e q)) (hh : ∀ o a, ok o a → act ovOps o a e.flags q = h o a) : OvActs i s e q ok h := by
  intro o a hacc hok
  rw [hx, ov_act hacc, hh o a hok]

theorem fb_acts {i : Instr} {s : State} {e : Envelope} {q : Request} {ok : Fabato → Actor → Prop} {h : Fabato → Actor → Fabato × Response}
    (hx : exec i s = .next (s.request .fabato e q)) (hc : ∀ f a, ok f a → cutWrite q = false) (hh : ∀ f a, ok f a → act fbOps f a e.flags q = h f a) : FbActs i s e q ok h := by
  intro f a hacc hok
  rw [hx, fb_act hacc (.inl (hc f a hok)), hh f a hok]

end Sys2Proof.Machine
end

section
/-! Dictionary messages at both units, kept responses, forwarded requests (R90–R99, R109, R260). -/
namespace Sys2Proof.Machine
open Sys2Proof

/-- A LIST that a Loft program may make. -/
theorem act_list {σ : Type} {u : UnitOps σ} {x : σ} {a : Actor} {flags area start : Nat} (h : loftBarred a area = false) :
    act u x a flags (.list area start) = (x, ⟨stOk, listBody (listOf u x a area start)⟩) := by
  rw [act, h]
  rfl

/-- A time commit that alone is pending takes effect once its time has come (R82). -/
theorem commitsAtTime_single {σ : Type} {u : UnitOps σ} {x : σ} {k : Commit} {t : Nat} (hc : (u.get x).commits = [k]) (hk : k.time = some t) (ht : t ≤ (u.get x).ns) :
    commitsAtTime u x = commitOne u x k := by
  rw [commitsAtTime, hc]
  simp [hk, ht]

/-- An answer to a forwarded request under the neighbour's key ends the request (R95). -/
theorem response_of_forward {f : Fabato} {e : Envelope} {opcode summary : Nat} {body : Bytes} {c : LinkClient} {w : Forwarded}
    (hc : f.fwd.clients.find? (fun c => c.port == e.port && c.stage == 2 && c.session == e.session) = some c)
    (hm : e.mac = (hmac c.key (messageBytes e opcode summary body)).take 16)
    (hw : f.fwd.pending.find? (fun w => w.out == e.port && w.msgId == e.msgId && w.opcode + 0x80 == opcode) = some w) (hs : w.env.session ≠ 0) :
    f.response e opcode summary body = f.forwardEnd w ⟨summary, body⟩ := by
  have hown : (w.env.session == 0) = false := by simp [hs]
  have hf : f.forwardResponse e opcode summary body = f.forwardEnd w ⟨summary, body⟩ := by
    rw [Fabato.forwardResponse, hc]
    simp only [hw]
    exact if_neg (not_not.mpr hm)
  rw [Fabato.response]
  simp only [hw, hown, hf]
  rfl

theorem forwardExpire_single {f : Fabato} {w : Forwarded} (hp : f.fwd.pending = [w]) (ht : f.up ≥ w.deadline) : f.forwardExpire = f.forwardEnd w (.error eTimeout) := by
  rw [Fabato.forwardExpire, hp]
  simp [ht]

theorem len_identRestart : objLen oIdentRestart 1 = true := by decide +kernel

/-- Settles O16, message by message: what the dictionary makes of it is `act`'s, by `ov_act` and `fb_act`. -/
theorem dictCommandsComplete : Obligations.DictCommandsComplete := by
  intro s e reads writes area start id step time opcode summary body
  refine ⟨ov_acts rfl fun _ _ _ => rfl, fb_acts rfl (fun _ _ _ => rfl) fun _ _ _ => rfl, ov_acts rfl fun _ _ _ => rfl, fb_acts rfl (fun _ _ h => h) fun _ _ _ => rfl,
    ov_acts rfl fun _ _ h => act_list h, fb_acts rfl (fun _ _ _ => rfl) fun _ _ h => act_list h,
    ov_acts rfl fun _ _ _ => rfl, fb_acts rfl (fun _ _ _ => rfl) fun _ _ _ => rfl, ov_acts rfl fun _ _ _ => rfl, fb_acts rfl (fun _ _ _ => rfl) fun _ _ _ => rfl,
    ov_acts rfl fun _ _ _ => rfl, fb_acts rfl (fun _ _ _ => rfl) fun _ _ _ => rfl, ov_acts rfl fun _ _ _ => rfl, fb_acts rfl (fun _ _ _ => rfl) fun _ _ _ => rfl,
    fun k t hr hc hk ht => ov_answers rfl hr (commitsAtTime_single hc hk ht), fun k t hr hc hk ht => fb_answers rfl hr (commitsAtTime_single hc hk ht),
    fun hr => ov_answers rfl hr rfl, fun hr => fb_answers rfl hr rfl, ?_, ?_, ?_, ?_⟩
  · exact ov_writes_num len_identRestart (by norm_num) rfl (ov_done (by decide)) fun _ _ _ _ _ => rfl
  · exact fb_writes_num len_identRestart (by norm_num) rfl (fb_done (by decide)) (by decide) fun _ _ _ _ _ => rfl
  · exact fun c w hr hc hm hw hs => fb_answers rfl hr (response_of_forward hc hm hw hs)
  · exact fun w hr hp ht => fb_answers rfl hr (forwardExpire_single hp ht)

end Sys2Proof.Machine
end

section
/-! Almanac: the log after a clear (R492). -/
namespace Sys2Proof.Machine
open Sys2Proof

/-- The log goes on from `f` to `f'`, and no clear is begun. -/
structure Fabato.LogGrows (f f' : Fabato) : Prop where
  log : ∃ l, f'.alm.log = f.alm.log ++ l
  clearing : f'.alm.clearing = f.alm.clearing
  queue : f'.alm.queue = f.alm.queue

theorem Fabato.LogGrows.refl (f : Fabato) : f.LogGrows f := ⟨⟨[], (List.append_nil _).symm⟩, rfl, rfl⟩

theorem Fabato.LogGrows.trans {a b c : Fabato} (h : a.LogGrows b) (h' : b.LogGrows c) : a.LogGrows c := by
  obtain ⟨⟨l, hl⟩, hc, hq⟩ := h
  obtain ⟨⟨l', hl'⟩, hc', hq'⟩ := h'
  exact ⟨⟨l ++ l', by rw [hl', hl, List.append_assoc]⟩, hc'.trans hc, hq'.trans hq⟩

theorem logGrows_put (f : Fabato) (code sub : Nat) (p : Bytes) (rom : Bool) : f.LogGrows (f.almanacPut code sub p rom) := by
  unfold Fabato.almanacPut
  split
  · exact .refl f
  split
  · exact ⟨⟨[], (List.append_nil _).symm⟩, rfl, rfl⟩
  split
  · exact ⟨⟨_, rfl⟩, rfl, rfl⟩
  · exact ⟨⟨_, rfl⟩, rfl, rfl⟩

/-- Without a clear under way an event makes at most an entry. -/
theorem logGrows_record {f : Fabato} (e : Event) (h : f.alm.clearing = none) : f.LogGrows (f.almanacRecord e) := by
  unfold Fabato.almanacRecord
  split
  · exact .refl f
  split
  · simp_all
  · exact logGrows_put ..

theorem logGrows_records {f : Fabato} (l : List Event) (h : f.alm.clearing = none) : f.LogGrows (l.foldl (fun f e => f.almanacRecord e) f) := by
  induction l generalizing f with
  | nil => exact .refl f
  | cons e l ih =>
    have he := logGrows_record e h
    exact he.trans (ih (he.clearing.trans h))

/-- An entry that has room is appended, stamped with the group's time, cycles and hours. -/
theorem almanacPut_room {f : Fabato} (code sub : Nat) (p : Bytes) (hm : f.board.mramHeld = none) (hs : f.alm.stopped = false) (hl : f.alm.log.length < almanacLast) :
    f.almanacPut code sub p false = f.almanacAppend code sub p false := by
  rw [Fabato.almanacPut, if_neg (by simp [hm]), if_neg (by simp [hs, hl.le]), if_neg (Nat.ne_of_lt hl)]

/-- The group with its log emptied by a clear of payload `p`, and ALMANAC_CLEARED raised. -/
def Fabato.emptied (f : Fabato) (p : Bytes) : Fabato :=
  ({ f with alm := { f.alm with log := [], refused := f.alm.dropped, clearing := none, queue := [], dropped := 0 } } : Fabato).onCore
    (fun c => c.raise 0x1A01 0x74 (p.map (fun b => b.toNat)))

/-- The group has looked at every event raised so far. -/
def Fabato.allSeen (f : Fabato) : Fabato := { f with alm := { f.alm with seen := f.core.events.length } }

theorem almanacCleared_eq {f : Fabato} {p : Bytes} (hc : f.alm.clearing = some p) (hm : f.board.mramHeld = none) (hs : f.alm.stopped = false) :
    f.almanacCleared = (f.alm.queue.foldl (fun f e => f.almanacRecord e) ((f.emptied p).almanacAppend 0x1A01 0x74 p false)).allSeen := by
  rw [← almanacPut_room (f := f.emptied p) _ _ _ hm hs (show 0 < almanacLast by decide), Fabato.almanacCleared, hc]
  rfl

theorem almanacCleared_log {f : Fabato} {p : Bytes} (hc : f.alm.clearing = some p) (hm : f.board.mramHeld = none) (hs : f.alm.stopped = false) :
    f.almanacCleared.alm.clearing = none ∧ f.almanacCleared.alm.queue = [] ∧ f.almanacCleared.alm.seen = f.almanacCleared.core.events.length ∧
      ∃ flags rest, f.almanacCleared.alm.log = almanacEntry p f.ns 0 flags 0x74 0x1A01 f.alm.cycles f.alm.hours :: rest := by
  rw [almanacCleared_eq hc hm hs]
  obtain ⟨⟨l, hlog⟩, hclr, hq⟩ := logGrows_records f.alm.queue (f := (f.emptied p).almanacAppend 0x1A01 0x74 p false) rfl
  exact ⟨hclr, hq, rfl, _, l, hlog⟩

theorem almanacClear_granted {f : Fabato} {a : Actor} {n : Nat} (hn : n = f.alm.log.length) (hc : f.alm.clearing = none) :
    f.almanacClear a n = ({ f with alm := { f.alm with
          clearing := some (clearedPayload n f.alm.refused a.session
            (if (f.core.sessions.find? (fun x => x.id == a.session)).map (fun x => x.link) = some true then f.portFrom a.port else f.core.path)
            (f.portSub a.port) a.role.rank a.tenant),
          queue := [], dropped := 0 } }, stOk) := by
  rw [Fabato.almanacClear, if_neg (not_not.mpr hn), if_neg (by simp [hc])]

theorem len_almanacClear : objLen oAlmanacClear 4 = true := by decide +kernel

/-- Settles O2: the grant, the completion and the hour. -/
theorem almanacCommandsComplete : Obligations.AlmanacCommandsComplete := by
  intro s e n
  refine ⟨fun hn => ?_, fun p hr hc hm hs => ?_, fun hu => ?_⟩
  · refine fb_writes_num len_almanacClear (by simpa using hn) rfl (fb_done (by decide)) (by decide) fun f a v hv hok => ?_
    rw [show fbOps.command f a oAlmanacClear v = f.almanacClear a (ofLe v) from rfl, hv]
    exact almanacClear_granted hok.1 hok.2
  · exact fb_answers rfl hr (almanacCleared_log hc hm hs)
  · exact fb_answers_any rfl (if_pos hu)

end Sys2Proof.Machine
end

section
/-! Dew channels and Dewpoint sweeps (R218–R223, R233–R237). -/
namespace Sys2Proof.Machine
open Sys2Proof

/-! ### The objects of a Dew channel -/

theorem dewObj_eq (c e : Nat) : dewObj c e = 7 * 2 ^ 24 + (0x100 + c) * 2 ^ 8 + e := by rw [dewObj]; omega

section
variable {c e : Nat} (hc : c < 8) (he : e < 256)
include hc he

theorem dewObj_area : objArea (dewObj c e) = 7 := by rw [dewObj_eq]; exact objArea_of_fields (by omega) he
theorem dewObj_field : dewObj c e / 256 % 65536 = 0x100 + c := by rw [dewObj_eq]; exact objField_of_fields (by omega) he
omit hc in
theorem dewObj_elem : objElem (dewObj c e) = e := by rw [dewObj_eq]; exact objElem_of_fields he

theorem dewObj_done (o : Ovtan) : ovOps.done o [dewObj c e] = o := ov_done (by rw [dewObj_area hc he]; decide) o

/-- A write to a command object of channel `c`. -/
theorem command_dewObj (o : Ovtan) (a : Actor) (v : Bytes) : ovOps.command o a (dewObj c e) v =
    if e = 8 then (if ofLe v = 1 then { o with dew := modAt o.dew c (fun d => d.reset (o.core.dewCfg c)) } else o, stOk)
    else if e = 0x10 then o.feed c 1 (ofLe v % 2 ^ 8) else if e = 0x11 then o.feed c 2 (ofLe v % 2 ^ 16) else o.feed c 4 (ofLe v) := by
  have hne : dewObj c e ≠ oAngleSoftMarker := fun h => absurd (dewObj_area hc he) (by rw [h]; decide)
  show (if dewObj c e = oAngleSoftMarker then _ else o.command a (dewObj c e) v) = _
  rw [if_neg hne, Ovtan.command]
  simp only [dewObj_area hc he, dewObj_field hc he, dewObj_elem he]
  rw [if_pos (by omega), Nat.add_sub_cancel_left]

end

theorem len_dewObj : ∀ c < 8, objLen (dewObj c 0x10) 4 = true ∧ objLen (dewObj c 0x11) 4 = true ∧ objLen (dewObj c 0x12) 4 = true ∧ objLen (dewObj c 8) 1 = true := by
  decide +kernel

theorem feed_accepts {o : Ovtan} {c : Nat} {d : DewCh} (n v : Nat) (hd : o.dew[c]? = some d) (hf : d.feeder = none) :
    o.feed c n v = ({ o with dew := o.dew.set c (d.accept { n := n, v := v, addr := none }) }, stOk) := by
  rw [Ovtan.feed, hd]
  simp [hf]

theorem modAt_of_get {α : Type} {l : List α} {i : Nat} {x : α} (f : α → α) (h : l[i]? = some x) : modAt l i f = l.set i (f x) := by
  rw [modAt, List.modify_eq_set_getElem?, h]
  rfl

theorem process_of_queue {d : DewCh} {w : DewWrite} {rest : List DewWrite} (f : DewCfg) (h : d.queue = w :: rest) :
    d.process f = (DewCh.write { d with queue := rest } f w).refill d.held.length := by
  rw [DewCh.process, h]
  rfl

/-! ### What a read of a channel's result answers (R222) -/

theorem area_of_div {o n : Nat} (h : o / 256 = n / 256) : objArea o = objArea n := by
  rw [objArea, objArea, show (2 : Nat) ^ 24 = 256 * 65536 from rfl, ← Nat.div_div_eq_div_mul, h, Nat.div_div_eq_div_mul]

/-- Objects outside the areas that both units compute alike are the unit's own. -/
theorem readShared_none {c : Core} {q : Byte} {a : Actor} {o : Nat}
    (h : objArea o ≠ 0x00 ∧ objArea o ≠ 0x01 ∧ objArea o ≠ 0x02 ∧ objArea o ≠ 0x03 ∧ objArea o ≠ 0x0B ∧ objArea o ≠ 0x0F) : c.readShared q a o = none := by
  unfold Core.readShared
  split
  case h_19 =>
    obtain ⟨_, h1, _, _, hB, hF⟩ := h
    have ht : o / 256 ≠ oSessionTenantIds / 256 := fun e => h1 ((area_of_div e).trans (by decide))
    have hp : o / 256 ≠ oSessionPending / 256 := fun e => h1 ((area_of_div e).trans (by decide))
    have hc : o / 256 ≠ oCutPending / 256 := fun e => hF ((area_of_div e).trans (by decide))
    simp [ht, hp, hc, hB]
  all_goals exact absurd h (by decide)

theorem readValue_dewResult {o : Ovtan} {c : Nat} {d : DewCh} (a : Actor) (hc : c < 8) (hd : o.dew[c]? = some d) :
    readValue ovOps o a (dewObj c 6) = leBytes 8 ((d.drain (o.core.dewCfg c)).result (o.core.dewCfg c)) := by
  have h : o.readObj a (dewObj c 6) = some (leBytes 8 ((d.drain (o.core.dewCfg c)).result (o.core.dewCfg c))) := by
    rw [Ovtan.readObj, readShared_none (by rw [dewObj_area hc (by norm_num)]; decide)]
    simp only [dewObj_area hc (show 6 < 256 by norm_num), dewObj_field hc (show 6 < 256 by norm_num), dewObj_elem (show 6 < 256 by norm_num)]
    rw [Nat.add_sub_cancel_left, List.getD_eq_getElem?_getD, hd, if_pos ⟨Nat.le_add_right .., Nat.add_lt_add_left hc _⟩]
    rfl
  rw [readValue, show ovOps.read o a (dewObj c 6) = _ from h]

theorem didRead_dewResult {o : Ovtan} {c : Nat} {d : DewCh} (hc : c < 8) (hd : o.dew[c]? = some d) :
    o.didRead (dewObj c 6) = { o with dew := o.dew.set c (d.drain (o.core.dewCfg c)) } := by
  have hi : dewObj c 6 / 256 % 65536 = 0x100 + c := dewObj_field hc (by norm_num)
  rw [Ovtan.didRead]
  dsimp only
  rw [hi, if_pos ⟨dewObj_area hc (by norm_num), Nat.le_add_right .., Nat.add_lt_add_left hc _, dewObj_elem (by norm_num)⟩, Nat.add_sub_cancel_left, modAt_of_get _ hd]

/-! ### Dewpoint's starts and its digest (R233, R236) -/

/-- A start finds Dewpoint Armed: no sweep runs, it is enabled and its block is awake. -/
theorem dpGo_armed {o : Ovtan} (hd : o.dma.dp = none) (he : o.core.flag oDewDpEnable = true) (hb : o.bnd.blocks.getD 3 0 = 0) :
    o.dpGo 1 = (({ o with core := o.core.usePair oDewDpLines (oDewDpSegment + 1) } : Ovtan).onMem (fun x => x.dpStart x.core.ns), stOk) := by
  rw [Ovtan.dpGo, if_neg one_ne_zero, if_neg (by simp [hd]), if_pos (by rw [he, hb]; rfl)]

theorem dpEvent_armed {o : Ovtan} (hn : o.core.num oDewDpStartEvent ≤ 2047) (hd : o.dma.dp = none) (he : o.core.flag oDewDpEnable = true) (hb : o.bnd.blocks.getD 3 0 = 0) :
    o.dpEvent = ({ o with core := o.core.usePair oDewDpLines (oDewDpSegment + 1) } : Ovtan).onMem (fun x => x.dpStart x.core.ns) := by
  rw [Ovtan.dpEvent, if_neg (by omega), if_neg (by simp [hd]), if_pos (by rw [he, hb]; rfl)]

theorem dpEvent_running {o : Ovtan} {r : DpRun} (hn : o.core.num oDewDpStartEvent ≤ 2047) (hd : o.dma.dp = some r) : o.dpEvent = o.onMem MemSide.dpOverrun := by
  rw [Ovtan.dpEvent, if_neg (by omega), if_pos (by simp [hd])]

theorem usePair_frame (c : Core) (a b : Nat) : (c.usePair a b).time = c.time ∧ (c.usePair a b).angle = c.angle := by
  unfold Core.usePair
  split <;> exact ⟨rfl, rfl⟩

theorem digestDone_complete {o : Ovtan} {r : DpRun} (hd : o.dma.dp = some r) (hc : r.complete = true) : o.digestDone = o.onMem (fun x => x.dpCommit false) := by
  rw [Ovtan.digestDone, hd]
  exact if_pos hc

theorem pulse_if_frame {p : Prop} [Decidable p] (x : MemSide) (n : Nat) :
    (if p then x.pulse n else x).dma = x.dma ∧ (if p then x.pulse n else x).core.events = x.core.events := by
  split
  · unfold MemSide.pulse
    split <;> exact ⟨rfl, rfl⟩
  · exact ⟨rfl, rfl⟩

theorem dpCommit_done {x : MemSide} {r : DpRun} (hd : x.dma.dp = some r) :
    (x.dpCommit false).dma.dp = none ∧ (x.dpCommit false).dma.ch = x.dma.ch ∧
      (x.dpCommit false).dma.dpLast.take 16 = leBytes 16 (r.b.toNat * 2 ^ 64 + r.a.toNat) ∧ ∃ st, ⟨0x0804, 0x05, [r.id, r.step, r.sampled, st]⟩ ∈ (x.dpCommit false).core.events := by
  rw [MemSide.dpCommit, hd]
  dsimp only
  rw [(pulse_if_frame _ _).1, (pulse_if_frame _ _).2]
  refine ⟨rfl, rfl, List.take_left' (leBytes_length ..), ?_⟩
  exact ⟨_, List.mem_append_right _ (List.mem_singleton.mpr rfl)⟩

/-- Settles O10, command by command. -/
theorem dewCommandsComplete : Obligations.DewCommandsComplete := by
  intro s e ch value hch
  obtain ⟨l1, l2, l4, l8⟩ := len_dewObj ch hch
  refine ⟨fun d hv => ?_, fun d hv => ?_, fun d hv => ?_, fun d w rest hr hd hq => ?_, fun d o a hacc hok => ?_, fun d => ?_, ?_, fun hr hn hd he hb => ?_, fun r hr hn hd ho => ?_,
    fun r hr hd hc => ?_⟩
  · refine ov_writes_num l1 (hv.trans (by norm_num)) rfl (dewObj_done hch (by norm_num)) fun o a v hval hok => ?_
    rw [command_dewObj hch (by norm_num), hval, Nat.mod_eq_of_lt hv]
    exact feed_accepts 1 value hok.1 hok.2
  · refine ov_writes_num l2 (hv.trans (by norm_num)) rfl (dewObj_done hch (by norm_num)) fun o a v hval hok => ?_
    rw [command_dewObj hch (by norm_num), hval, Nat.mod_eq_of_lt hv]
    exact feed_accepts 2 value hok.1 hok.2
  · refine ov_writes_num l4 (by simpa using hv) rfl (dewObj_done hch (by norm_num)) fun o a v hval hok => ?_
    rw [command_dewObj hch (by norm_num), hval]
    exact feed_accepts 4 value hok.1 hok.2
  · refine ov_answers rfl hr ?_
    rw [Ovtan.dewStep, modAt_of_get _ hd, process_of_queue _ hq]
  · obtain ⟨hd, hreads⟩ := hok
    rw [show exec (.dewResultRead .ovtan e ch) s = .next (s.request .ovtan e (.read [{ obj := dewObj ch 6 }])) from rfl, ov_act hacc, act_read_of_reads _ hreads,
      readValue_dewResult a hch hd, show ovOps.didRead o (dewObj ch 6) = _ from didRead_dewResult hch hd, show (ovOps.get o).kind = 0 from hacc.kind.1]
  · refine ov_writes_num l8 (by norm_num) rfl (dewObj_done hch (by norm_num)) fun o a v hval hok => ?_
    rw [command_dewObj hch (by norm_num), hval, if_pos rfl, if_pos rfl, modAt_of_get _ hok]
    rfl
  · refine ov_writes_num (k := 1) (by decide +kernel) (by norm_num) rfl (ov_done (by decide)) fun o a v hval hok => ?_
    rw [show ovOps.command o a oDewDpGo v = o.dpGo (ofLe v) from rfl, hval]
    exact dpGo_armed hok.1 hok.2.1 hok.2.2
  · refine ov_answers rfl hr ?_
    rw [dpEvent_armed hn hd he hb]
    refine ⟨rfl, rfl, rfl, _, rfl, rfl, rfl, rfl, rfl, rfl, rfl, rfl, ?_, ?_⟩
    · exact congrArg (fun t : TimePart => t.ns.toNat) (usePair_frame ..).1
    · exact congrArg (fun a : AnglePart => a.step % 2 ^ 32) (usePair_frame ..).2
  · refine ov_answers rfl hr ?_
    rw [dpEvent_running hn hd, Ovtan.onMem, MemSide.dpOverrun, show s.ov.dma.dp = some r from hd]
    simp [ho]
  · refine ov_answers rfl hr ?_
    rw [digestDone_complete hd hc]
    obtain ⟨hdp, hchs, hlast, hev⟩ := dpCommit_done (x := s.ov.memSide) hd
    exact ⟨hdp, rfl, hchs, hlast, hev⟩

end Sys2Proof.Machine
end

section
/-! Contrail and the MEM port (R224–R231, R254, R255). -/
namespace Sys2Proof.Machine
open Sys2Proof

/-! ### DMA.GO and DMA.STOP (R225, R231) -/

/-- A GO with a descriptor in order starts the channel. -/
theorem go_started {x : MemSide} {c : Nat} {d : DmaDesc} (hr : (x.dma.ch.getD c DmaCh.idle).run = none) (hh : x.dpHolds c = false)
    (hd : d = dmaDesc (x.core.get (0x08010000 + c * 256 + 1)))
    (hc : dmaCheck d ((x.dew.getD d.dew { reg := 0, addr := 0, seq := 0, queue := [], held := [], fed := 0, feeder := none }).feeder.isSome) = 0) :
    x.go c = ({ x with
      dma := { x.dma with ch := x.dma.ch.set c { run := some { desc := x.core.get (0x08010000 + c * 256 + 1), done := 0, stopping := false, burst := .idle },
                                                 state := 1, code := 0, bytes := 0, mismatch := 2 ^ 64 - 1, mismatches := 0 } },
      dew := if d.mode = 4 then x.dew.modify d.dew (fun w => { w with feeder := some c }) else x.dew }, .started) := by
  subst hd
  rw [MemSide.go]
  dsimp only
  rw [if_neg (by rw [hr, hh]; decide), if_neg (not_not.mpr hc)]
  split <;> rfl

theorem command_dmaGo {o : Ovtan} {a : Actor} {v : Bytes} {n : Nat} (hv : ofLe v = n) (hn : n < 8) :
    ovOps.command o a oDmaGo v = ({ o with core := (o.memSide.go n).1.core, dew := (o.memSide.go n).1.dew, dma := (o.memSide.go n).1.dma },
      match (o.memSide.go n).2 with | .busy => eBusy | .range => eRange | .started => stOk) := by
  subst hv
  exact if_neg (Nat.not_le.mpr hn)

theorem command_dmaStop {o : Ovtan} {a : Actor} {v : Bytes} {n : Nat} (hv : ofLe v = n) (hn : n < 8) :
    ovOps.command o a oDmaStop v = (o.onMem (fun x => x.stop n), stOk) := by
  subst hv
  exact if_neg (Nat.not_le.mpr hn)

theorem getD_of_get {α : Type} {l : List α} {i : Nat} {x : α} (d : α) (h : l[i]? = some x) : l.getD i d = x := by
  rw [List.getD_eq_getElem?_getD, h]
  rfl

theorem stop_moving {x : MemSide} {c : Nat} {h : DmaCh} {r : DmaRun} (hh : x.dma.ch[c]? = some h) (hr : h.run = some r) (hb : r.burst ≠ .idle) :
    x.stop c = x.setCh c { h with run := some { r with stopping := true } } := by
  rw [MemSide.stop]
  simp only [getD_of_get _ hh, hr]
  exact if_neg hb

theorem stop_idle {x : MemSide} {c : Nat} {h : DmaCh} {r : DmaRun} (hh : x.dma.ch[c]? = some h) (hr : h.run = some r) (hb : r.burst = .idle) : x.stop c = x.endDma c 7 := by
  rw [MemSide.stop]
  simp only [getD_of_get _ hh, hr]
  exact if_pos hb

/-! ### The port's grants and responses (R229, R254, R255) -/

theorem grantChannel_run {x : MemSide} {c : Nat} {r : DmaRun} (hp : x.refill.pick = some c) (hr : (x.dma.ch.getD c DmaCh.idle).run = some r) :
    x.grantChannel = x.refill.issue c r := by
  rw [MemSide.grantChannel]
  simp only [hp, show (x.refill.dma.ch.getD c DmaCh.idle).run = some r from hr]

theorem grantSpill_write {x : MemSide} (b : Bool) (hw : x.buf.ringWriting = 0) (ha : x.buf.ringAcked < x.buf.ring.length) :
    x.grantSpill b = some (({ x with buf := { x.buf with ringWriting := ringBurst x x.buf.ringAcked (x.buf.ring.length - x.buf.ringAcked) } } : MemSide).request 8 true
      (ringAddr x x.buf.ringAcked) (32 * ringBurst x x.buf.ringAcked (x.buf.ring.length - x.buf.ringAcked))
      (((x.buf.ring.drop x.buf.ringAcked).take (ringBurst x x.buf.ringAcked (x.buf.ring.length - x.buf.ringAcked))).flatMap ringBytes)) := by
  rw [MemSide.grantSpill]
  exact if_pos ⟨hw, ha⟩

/-- A live request at the head of those outstanding takes a response of its id and kind. -/
theorem response_of_head {x : MemSide} {q : MemReq} {rest : List MemReq} (data : Bytes) (err : Bool) (hm : x.dma.mem = q :: rest) (hd : q.dead = false) :
    x.response q.id q.write data err = ({ x with dma := { x.dma with mem := rest } } : MemSide).respond q data err := by
  rw [MemSide.response, hm]
  simp [takeReq, hd]

/-- A response without an error moves on the burst of a running channel. -/
theorem respond_channel {x : MemSide} {q : MemReq} {h : DmaCh} {r : DmaRun} (data : Bytes) (hq : q.id < 8) (hh : x.dma.ch[q.id]? = some h) (hr : h.run = some r) :
    x.respond q data false =
      match r.burst with
      | .idle => x
      | .writing _ len => x.burstDone q.id len
      | .second off len got =>
        (x.setCh q.id { h with mismatch := (match (compareAt off got (slice data 0 len)).1 with
          | some k => if h.mismatch = 2 ^ 64 - 1 then k else h.mismatch
          | none => h.mismatch), mismatches := h.mismatches + (compareAt off got (slice data 0 len)).2 }).burstDone q.id len
      | .reading off len =>
        if (dmaDesc r.desc).mode = 1 then
          (x.setCh q.id { h with run := some { r with burst := .writing off len } }).request q.id true
            (sideAddr (dmaDesc r.desc).dst (dmaDesc r.desc).dstWrap off) len (slice data 0 len)
        else if (dmaDesc r.desc).mode = 3 then
          (x.setCh q.id { h with run := some { r with burst := .second off len (slice data 0 len) } }).request q.id false
            (sideAddr (dmaDesc r.desc).dst (dmaDesc r.desc).dstWrap off) len []
        else
          ({ x with dew := modAt x.dew (dmaDesc r.desc).dew (fun w => (digestWrites (dmaDesc r.desc).unit (sideAddr (dmaDesc r.desc).src (dmaDesc r.desc).srcWrap off) (slice data 0 len)).foldl
            (fun w v => w.write (x.core.dewCfg (dmaDesc r.desc).dew) v) (w.drain (x.core.dewCfg (dmaDesc r.desc).dew))) } : MemSide).burstDone q.id len := by
  rw [MemSide.respond, if_neg (by omega), if_neg (by omega)]
  simp only [getD_of_get _ hh, hr]
  rfl

theorem burstDone_going {x : MemSide} {c len : Nat} {h : DmaCh} {r : DmaRun} (hh : x.dma.ch[c]? = some h) (hr : h.run = some r)
    (hl : r.done + len < (dmaDesc r.desc).len) (hs : r.stopping = false) :
    x.burstDone c len = { x.setCh c { h with run := some { r with done := r.done + len, burst := .idle }, bytes := r.done + len } with
      core := x.core.count (0x08010000 + c * 256 + 5) len } := by
  rw [MemSide.burstDone]
  simp only [getD_of_get _ hh, hr]
  rw [if_neg (Nat.not_le.mpr hl), if_neg (by simp [hs])]
  rfl

/-- What a copying channel has read it writes next. -/
theorem response_copied {x : MemSide} {q : MemReq} {rest : List MemReq} {h : DmaCh} {r : DmaRun} {off len : Nat} (data : Bytes)
    (hm : x.dma.mem = q :: rest) (hd : q.dead = false) (hq : q.id < 8) (hh : x.dma.ch[q.id]? = some h) (hr : h.run = some r)
    (hb : r.burst = .reading off len) (hw : q.write = false) (hmode : (dmaDesc r.desc).mode = 1) :
    x.response q.id false data false = (MemSide.setCh { x with dma := { x.dma with mem := rest } } q.id { h with run := some { r with burst := .writing off len } }).request q.id true
      (sideAddr (dmaDesc r.desc).dst (dmaDesc r.desc).dstWrap off) len (slice data 0 len) := by
  have hx := response_of_head data false hm hd
  rw [hw] at hx
  rw [hx, respond_channel (x := { x with dma := { x.dma with mem := rest } }) data hq hh hr, hb]
  exact if_pos hmode

/-- A burst written that does not end the transfer counts toward it. -/
theorem response_written {x : MemSide} {q : MemReq} {rest : List MemReq} {h : DmaCh} {r : DmaRun} {off len : Nat}
    (hm : x.dma.mem = q :: rest) (hd : q.dead = false) (hq : q.id < 8) (hh : x.dma.ch[q.id]? = some h) (hr : h.run = some r)
    (hb : r.burst = .writing off len) (hw : q.write = true) (hl : r.done + len < (dmaDesc r.desc).len) (hs : r.stopping = false) :
    x.response q.id true [] false = { MemSide.setCh { x with dma := { x.dma with mem := rest } } q.id
        { h with run := some { r with done := r.done + len, burst := .idle }, bytes := r.done + len } with core := x.core.count (0x08010000 + q.id * 256 + 5) len } := by
  have hx := response_of_head [] false hm hd
  rw [hw] at hx
  rw [hx, respond_channel (x := { x with dma := { x.dma with mem := rest } }) [] hq hh hr, hb]
  exact burstDone_going hh hr hl hs

/-- A step of the MEM port turns on what it makes of the port. -/
theorem onMem_of {o : Ovtan} {f : MemSide → MemSide} {y : MemSide} (h : f o.memSide = y) : o.onMem f = o.onMem (fun _ => y) := by
  subst h
  rfl

/-! ### Events are only added -/

/-- What has been raised stays raised. -/
def Core.Grows (c c' : Core) : Prop := c.events <+: c'.events

theorem Core.Grows.refl (c : Core) : c.Grows c := List.prefix_refl _
theorem Core.Grows.trans {a b c : Core} (h : a.Grows b) (h' : b.Grows c) : a.Grows c := List.IsPrefix.trans h h'
theorem Core.Grows.raise (c : Core) (code sub : Nat) (l : List Nat) : c.Grows (c.raise code sub l) := List.prefix_append ..
theorem Core.Grows.of_eq {c c' : Core} (h : c'.events = c.events) : c.Grows c' := by rw [Core.Grows, h]
theorem Core.Grows.mem {c c' : Core} {e : Event} (h : c.Grows c') (he : e ∈ c.events) : e ∈ c'.events := h.subset he

theorem grows_ite {c a b : Core} {p : Prop} [Decidable p] (ha : c.Grows a) (hb : c.Grows b) : c.Grows (if p then a else b) := by
  split
  · exact ha
  · exact hb

theorem grows_usePair (c : Core) (a b : Nat) : c.Grows (c.usePair a b) := by
  unfold Core.usePair
  exact grows_ite (.trans (.of_eq rfl) (.raise ..)) (.refl c)

theorem grows_ringPut {c : Core} {b : RecBuf} {hs : List Held} {r : Core × RecBuf} (h : ringPut c b hs = some r) : c.Grows r.1 := by
  unfold ringPut at h
  dsimp only at h
  split at h
  · cases h
    exact (grows_usePair c _ _).trans (grows_ite (.refl _) (.raise ..))
  · cases h

theorem grows_flushGaps (c : Core) (b : RecBuf) (cls : RClass) (toRing : Bool) : c.Grows (flushGaps c b cls toRing).1 := by
  unfold flushGaps
  refine List.foldlRecOn (motive := fun p : Core × RecBuf => c.Grows p.1) _ _ (.refl c) (fun p hp g _ => ?_)
  dsimp only
  split
  · split
    · next h => exact hp.trans (grows_ringPut h)
    · exact hp
  · exact hp

theorem grows_loseSample (c : Core) (b : RecBuf) (n step entry : Nat) : c.Grows (loseSample c b n step entry).1 :=
  .trans (grows_ite (.refl c) (.raise ..)) (.of_eq (Core.bump_events ..))

theorem grows_flushIf {c c₁ : Core} (h : c.Grows c₁) (p : Prop) [Decidable p] (b : RecBuf) (cls : RClass) (toRing : Bool) :
    c.Grows (if p then (c₁, b) else flushGaps c₁ b cls toRing).1 := by
  split
  · exact h
  · exact h.trans (grows_flushGaps ..)

theorem grows_commitS (c : Core) (b : RecBuf) (entry time : Nat) (recs : List Record) : c.Grows (commitS c b entry time recs).1 := by
  unfold commitS
  extract_lets toRing c₁ g n hs
  have hg : c.Grows g.1 := grows_flushIf (grows_ite (grows_usePair ..) (.refl c)) _ _ _ _
  clear_value g n hs
  split
  · split
    · next r h => exact Core.Grows.trans hg (show g.1.Grows r.1 from grows_ringPut h)
    · exact hg.trans (grows_loseSample ..)
  · exact hg

section
variable (x : MemSide)

/-- The end of a run leaves the requests outstanding as they are. -/
theorem endDma_frame (c n : Nat) : (x.endDma c n).dma.mem = x.dma.mem ∧ x.core.Grows (x.endDma c n).core := by
  rw [MemSide.endDma]
  dsimp only
  split
  · exact ⟨rfl, .refl _⟩
  · rw [(pulse_if_frame _ _).1, Core.Grows, (pulse_if_frame _ _).2]
    exact ⟨rfl, grows_ite (.raise ..) (.raise ..)⟩

theorem dpCommit_frame (b : Bool) : (x.dpCommit b).dma.mem = x.dma.mem ∧ x.core.Grows (x.dpCommit b).core := by
  rw [MemSide.dpCommit]
  cases x.dma.dp with
  | none => exact ⟨rfl, .refl _⟩
  | some r =>
    dsimp only
    rw [(pulse_if_frame _ _).1, Core.Grows, (pulse_if_frame _ _).2]
    refine ⟨rfl, ?_⟩
    refine Core.Grows.trans (Core.Grows.trans ?_ (grows_commitS _ _ _ _ _)) (Core.Grows.raise _ _ _ _)
    exact grows_ite (.of_eq rfl) (.of_eq rfl)

/-- An error in place of an answer leaves the requests outstanding as they are. -/
theorem respond_err_frame {q : MemReq} (hq : q.id < 8) : (x.respond q [] true).dma.mem = x.dma.mem ∧ x.core.Grows (x.respond q [] true).core := by
  rw [MemSide.respond, if_neg (by omega), if_neg (by omega)]
  dsimp only
  split
  · exact endDma_frame ..
  · split
    · split
      · obtain ⟨hm, hg⟩ := dpCommit_frame ({ x with core := x.core.raise 0x0802 0x06 [q.id, 1, 64 * _] } : MemSide) true
        exact ⟨hm, (Core.Grows.raise ..).trans hg⟩
      · exact ⟨rfl, .refl _⟩
    · exact ⟨rfl, .refl _⟩

theorem timeout_dead {id : Nat} {q : MemReq} (hid : id < 8) (hq : x.dma.mem.find? (fun q => q.id == id && !q.dead) = some q)
    (ht : x.core.up ≥ q.at_ + x.core.num oPowerMemTimeout * 1000) :
    (x.timeout id).dma.mem = x.dma.mem.map (fun r => if r == q then { r with dead := true } else r) ∧ ⟨0x0903, 0x06, [q.id, q.addr]⟩ ∈ (x.timeout id).core.events := by
  have hqid : q.id = id := by
    have := List.find?_some hq
    simp only [Bool.and_eq_true, beq_iff_eq] at this
    exact this.1
  rw [MemSide.timeout, hq]
  dsimp only
  rw [if_neg (Nat.not_lt.mpr ht)]
  obtain ⟨hm, hg⟩ := respond_err_frame ({ x with core := (x.core.bump oPowerMemTimeouts).raise 0x0903 0x06 [q.id, q.addr], dma := { x.dma with mem := x.dma.mem.map (fun r => if r == q then { r with dead := true } else r) } } : MemSide) (hqid ▸ hid)
  exact ⟨hm, hg.mem (List.mem_append_right _ (List.mem_singleton.mpr rfl))⟩

end

/-- Settles O11, command by command. -/
theorem contrailCommandsComplete : Obligations.ContrailCommandsComplete := by
  intro s e ch data hch
  have hlen : objLen oDmaGo 4 = true ∧ objLen oDmaStop 4 = true := by decide +kernel
  refine ⟨fun d => ?_, fun h r hb => ?_, fun h r hb => ?_, fun r hr hs hp hrun => ?_, fun hr hw ha => ?_, fun q rest h r off len hr hm hid hwr hdead hh hrun hb hmode => ?_,
    fun q rest h r off len hr hm hid hwr hdead hh hrun hb hlt hstop => ?_, fun q hr hq ht => ?_⟩
  · refine ov_writes_num hlen.1 (by omega) rfl (ov_done (by decide)) fun o a v hv hok => ?_
    obtain ⟨h1, h2, h3, h4⟩ := hok
    rw [command_dmaGo hv hch, go_started (x := o.memSide) h1 h2 h3 h4]
    rfl
  · refine ov_writes_num hlen.2 (by omega) rfl (ov_done (by decide)) fun o a v hv hok => ?_
    rw [command_dmaStop hv hch, Ovtan.onMem, stop_moving hok.1 hok.2 hb]
    rfl
  · refine ov_writes_num hlen.2 (by omega) rfl (ov_done (by decide)) fun o a v hv hok => ?_
    rw [command_dmaStop hv hch, Ovtan.onMem, stop_idle hok.1 hok.2 hb]
    rfl
  · refine ov_answers rfl hr ?_
    rw [Ovtan.burstGrant, onMem_of (y := s.ov.memSide.refill.issue ch r) (by rw [hs, Option.getD_none, grantChannel_run hp hrun])]
    rfl
  · refine ov_answers rfl hr ?_
    rw [Ovtan.burstGrant, Ovtan.onMem, grantSpill_write _ hw ha, Option.getD_some]
    exact ⟨rfl, rfl, rfl, rfl⟩
  · refine ov_answers rfl hr ?_
    subst hid
    rw [onMem_of (response_copied (x := s.ov.memSide) data hm hdead hch hh hrun hb hwr hmode)]
    exact ⟨rfl, rfl, rfl, rfl, rfl⟩
  · refine ov_answers rfl hr ?_
    subst hid
    rw [onMem_of (response_written (x := s.ov.memSide) hm hdead hch hh hrun hb hwr hlt hstop)]
    exact ⟨rfl, rfl, rfl, rfl, rfl⟩
  · refine ov_answers rfl hr ?_
    obtain ⟨hm, he⟩ := timeout_dead s.ov.memSide hch hq ht
    exact ⟨he, hm⟩

end Sys2Proof.Machine
end

section
/-! Contexts of the Condenser (R474, R479, R480). -/
namespace Sys2Proof.Machine
open Sys2Proof

theorem condObj_eq (c e : Nat) : condObj c e = 0x19 * 2 ^ 24 + (0x1000 + c) * 2 ^ 8 + e := by rw [condObj]; omega

section
variable {c e : Nat} (hc : c < 4096) (he : e < 256)
include hc he

theorem condObj_area : objArea (condObj c e) = 0x19 := by rw [condObj_eq]; exact objArea_of_fields (by omega) he
theorem condObj_field : condObj c e / 256 % 65536 = 0x1000 + c := by rw [condObj_eq]; exact objField_of_fields (by omega) he
omit hc in
theorem condObj_elem : objElem (condObj c e) = e := by rw [condObj_eq]; exact objElem_of_fields he

end

/-- Every object of the Condenser's area holds a byte at least. -/
theorem condObj_lenOf {c e kind : Nat} (hc : c < 4096) (he : e < 256) : 1 ≤ lenOf kind (condObj c e) := by
  have hrows : ∀ r ∈ objectsOf 0x19, 1 ≤ rowLen r := by decide +kernel
  rw [lenOf]
  split
  · next r hr =>
    rw [findRow, condObj_area hc he] at hr
    exact hrows r (List.mem_of_find?_eq_some hr)
  · decide

theorem ofLe_one_condObj {s : State} {c e : Nat} (hc : c < 4096) (he : e < 256) : ofLe (s.objBytes .fabato (condObj c e) 1) = 1 := by
  rw [State.objBytes, ofLe_leBytes]
  exact Nat.mod_eq_of_lt (Nat.one_lt_pow (Nat.one_le_iff_ne_zero.mp (condObj_lenOf hc he)) (by decide))

/-- Every command object but the soft marker is the group's own. -/
theorem fb_command {f : Fabato} {a : Actor} {obj : Nat} {v : Bytes} (h : obj ≠ oAngleSoftMarker) : fbOps.command f a obj v = f.command a obj v := if_neg h

/-- A write of true to a context's reset. -/
theorem command_condReset {f : Fabato} {a : Actor} {c : Nat} {v : Bytes} (hc : c < 4096) (hv : ofLe v = 1) :
    fbOps.command f a (condObj c 3) v = (f.onG (fun g => g.condReset c), stOk) := by
  rw [fb_command (by rw [condObj]; simp only [oAngleSoftMarker]; omega), Fabato.command]
  simp only [condObj_area hc (e := 3) (by decide), condObj_field hc (e := 3) (by decide), condObj_elem (c := c) (e := 3) (by decide), hv]
  rw [if_pos ⟨Nat.le_add_right .., trivial⟩, if_pos trivial, Nat.add_sub_cancel_left]

/-- A pair of periods in use together stays as it is while the first holds its default or agrees. -/
theorem usePair_agreed {c : Core} {a : Nat} (b : Nat) (h : storeGet c.pairGood a = none) : c.usePair a b = c := by
  rw [Core.usePair, h]
  rfl

/-- A gather that has run out closes its frame. -/
theorem gatherExpire_due {g : Group} {idx : Nat} {x : CondCtx} (hx : g.cond.ctxs.find? (fun x => x.idx == idx) = some x) (hg : x.gather ≠ [])
    (ht : g.core.up ≥ x.gatherAt + 1000 * g.core.num oCondenseGather) : g.gatherExpire idx = g.closeFrame idx := by
  rw [Group.gatherExpire, hx]
  exact if_pos ⟨by simpa using hg, ht⟩

section
variable {g : Group} {idx : Nat} {x : CondCtx} (hx : g.cond.ctxs.find? (fun x => x.idx == idx) = some x) (hp : storeGet g.core.pairGood oCondenseIdleReset = none)
include hx hp

theorem condIdleReset_due (hb : x.bound.isSome = true) (ht : g.core.up ≥ x.lastUse + 1000000 * g.core.used oCondenseIdleReset) :
    g.condIdleReset idx = g.condReset idx := by
  rw [Group.condIdleReset, hx]
  dsimp only
  rw [usePair_agreed _ hp]
  exact if_pos ⟨hb, ht⟩

theorem condDecodeIdle_due (hk : x.key.isSome = true) (ht : g.core.up ≥ x.lastUse + 1000000 * g.core.used oCondenseDecodeIdle) :
    g.condDecodeIdle idx = { g with cond := { g.cond with ctxs := g.cond.ctxs.filter (fun y => y.idx != idx) } } := by
  rw [Group.condDecodeIdle, hx]
  dsimp only
  rw [usePair_agreed _ hp]
  exact if_pos ⟨hk, ht⟩

end

/-- A step of the group turns on what it makes of the group. -/
theorem onG_of {f : Fabato} {h : Group → Group} {y : Group} (hy : h f.g = y) : f.onG h = f.onG (fun _ => y) := by
  subst hy
  rfl

/-- Settles O12, command by command. -/
theorem condenserCommandsComplete : Obligations.CondenserCommandsComplete := by
  intro s e idx
  refine ⟨fun x hr hx hg ht => ?_, fun hi => ?_, fun x hr hx hb hp ht => ?_, fun x hr hx hk hp ht => ?_⟩
  · exact fb_answers rfl hr (onG_of (gatherExpire_due hx hg ht))
  · exact fb_writes rfl (fb_done (by rw [condObj_area hi (by decide)]; decide)) (by rw [condObj]; simp only [oCutRequest, oCutCancel]; omega)
      fun f a _ _ => command_condReset hi (ofLe_one_condObj hi (by decide))
  · exact fb_answers rfl hr (onG_of (condIdleReset_due hx hp hb ht))
  · exact fb_answers rfl hr (onG_of (condDecodeIdle_due hx hp hk ht))

end Sys2Proof.Machine
end

section
/-! What emitting class T records leaves as it is (R209–R211). -/
namespace Sys2Proof.Machine
open Sys2Proof

/-- Trace has emitted or counted: capture, the flushes, the gates and the requests stand as they were, and what was raised stays raised. -/
structure TraceSide.Emits (x y : TraceSide) : Prop where
  cap : y.cap = x.cap
  core : x.core.Grows y.core
  flushes : y.trace.flushes = x.trace.flushes
  gates : y.trace.gates = x.trace.gates
  pdReq : y.trace.pdReq = x.trace.pdReq

namespace TraceSide.Emits

theorem refl (x : TraceSide) : x.Emits x := ⟨rfl, .refl _, rfl, rfl, rfl⟩

theorem trans {x y z : TraceSide} (h : x.Emits y) (k : y.Emits z) : x.Emits z :=
  ⟨k.cap.trans h.cap, h.core.trans k.core, k.flushes.trans h.flushes, k.gates.trans h.gates, k.pdReq.trans h.pdReq⟩

theorem ite {x y z : TraceSide} {p : Prop} [Decidable p] (hy : x.Emits y) (hz : x.Emits z) : x.Emits (if p then y else z) := by
  split
  · exact hy
  · exact hz

theorem foldl {α : Type} {f : TraceSide → α → TraceSide} (h : ∀ (x : TraceSide) (a : α), x.Emits (f x a)) (l : List α) (x : TraceSide) : x.Emits (l.foldl f x) :=
  List.foldlRecOn (motive := fun y => x.Emits y) _ _ (refl x) fun y hy a _ => hy.trans (h y a)

end TraceSide.Emits

section
variable (x : TraceSide)

theorem emits_trace (t : TracePart) (hf : t.flushes = x.trace.flushes) (hg : t.gates = x.trace.gates) (hp : t.pdReq = x.trace.pdReq) :
    x.Emits { x with trace := t } := ⟨rfl, .refl _, hf, hg, hp⟩

theorem emits_putT (r : Record) (time : Nat) : x.Emits (x.putT r time) := ⟨rfl, .refl _, rfl, rfl, rfl⟩

theorem emits_ringT {r : Record} {time : Nat} {y : TraceSide} (h : x.ringT r time = some y) : x.Emits y := by
  rw [TraceSide.ringT] at h
  obtain ⟨z, hz, rfl⟩ := Option.map_eq_some_iff.mp h
  exact ⟨rfl, grows_ringPut hz, rfl, rfl, rfl⟩

theorem emits_emitT (r : Record) : x.Emits (x.emitT r) := by
  rw [TraceSide.emitT]
  split
  · cases h : x.ringT r x.core.ns with
    | none => exact emits_putT ..
    | some y => exact emits_ringT _ h
  · exact emits_putT ..

theorem emits_sync (subtype tap : Nat) : x.Emits (x.sync subtype tap) := by
  rw [TraceSide.sync]
  exact TraceSide.Emits.trans (emits_emitT x _) ⟨rfl, .refl _, rfl, rfl, rfl⟩

theorem emits_account1 (g : TapCount) : x.Emits (x.account1 g) := emits_emitT ..

theorem emits_account (p : Nat → Bool) : x.Emits (x.account p) := by
  rw [TraceSide.account]
  exact TraceSide.Emits.trans (y := { x with trace := { x.trace with pend := x.trace.pend.filter (fun g => !p g.tap) } })
    (emits_trace x _ rfl rfl rfl) (.foldl emits_account1 _ _)

theorem emits_countPending (tap reason : Nat) : x.Emits (x.countPending tap reason) := by
  rw [TraceSide.countPending]
  dsimp only
  split
  · refine TraceSide.Emits.trans ?_ (emits_account1 _ _)
    exact ⟨rfl, .of_eq (Core.bump_events ..), rfl, rfl, rfl⟩
  · exact ⟨rfl, .of_eq (Core.bump_events ..), rfl, rfl, rfl⟩

end

/-- A descriptor recorded: its tap's count, and the end of a drop episode. -/
def TraceSide.recorded (x : TraceSide) (tap : Nat) : TraceSide :=
  { x with core := x.core.bump (oTraceTraced + tap + 1), trace := { x.trace with sinceSync := modAt x.trace.sinceSync tap (· + 1), dropEpisode := false } }

/-- A descriptor dropped, with the event of the first of an episode. -/
def TraceSide.dropped (x : TraceSide) (tap : Nat) : TraceSide :=
  if (x.countPending tap 0x20).trace.dropEpisode then x.countPending tap 0x20
  else { x.countPending tap 0x20 with core := (x.countPending tap 0x20).core.raise 0x0703 0x03 [tap, (x.countPending tap 0x20).buf.t.length],
                                      trace := { (x.countPending tap 0x20).trace with dropEpisode := true } }

theorem emits_recorded (x : TraceSide) (tap : Nat) : x.Emits (x.recorded tap) := ⟨rfl, .of_eq (Core.bump_events ..), rfl, rfl, rfl⟩

theorem emits_dropped (x : TraceSide) (tap : Nat) : x.Emits (x.dropped tap) :=
  .ite (emits_countPending ..) ((emits_countPending ..).trans ⟨rfl, .raise .., rfl, rfl, rfl⟩)

/-- Where a descriptor goes once its tap's filter sync is out. -/
def TraceSide.recordAt (x : TraceSide) (e : TapEntry) : TraceSide :=
  if x.core.num oRecordTQuota < 128 then x.dropped e.tap
  else if !x.buf.linkRing .t && decide (x.used + 64 < x.core.num oRecordTQuota) then (x.putT e.record e.time).recorded e.tap
  else if x.buf.ringT + 32 ≤ Nat.min (x.core.num oTraceSpillShare) (x.core.used oRecordSpillSize / 2) then
    match x.ringT e.record e.time with
    | some y => y.recorded e.tap
    | none => x.dropped e.tap
  else x.dropped e.tap

theorem emits_recordAt (x : TraceSide) (e : TapEntry) : x.Emits (x.recordAt e) := by
  refine .ite (emits_dropped ..) (.ite ((emits_putT ..).trans (emits_recorded ..)) (.ite ?_ (emits_dropped ..)))
  split
  · next h => exact (emits_ringT _ h).trans (emits_recorded ..)
  · exact emits_dropped ..

section
variable (x : TraceSide)

theorem emits_record (e : TapEntry) : x.Emits (x.record e) := by
  unfold TraceSide.record
  extract_lets t y quota done drop
  have hy : x.Emits y := by
    refine .ite (TraceSide.Emits.trans ?_ (emits_sync _ _ _)) (.refl x)
    exact ⟨rfl, .refl _, rfl, rfl, rfl⟩
  clear_value y
  exact hy.trans (emits_recordAt y e)

theorem emits_drain (p : TapEntry → Bool) : x.Emits (x.drain p) := by
  rw [TraceSide.drain]
  exact TraceSide.Emits.trans (y := { x with trace := { x.trace with queue := x.trace.queue.filter (fun e => !p e) } })
    (emits_trace x _ rfl rfl rfl) (.foldl emits_record _ _)

theorem emits_trigger (src tap t : Nat) : x.Emits (x.trigger src tap t) := by
  unfold TraceSide.trigger
  extract_lets ring t y z
  have hz : x.Emits z := ⟨rfl, .raise .., rfl, rfl, rfl⟩
  exact hz.trans ((emits_sync ..).trans (.foldl emits_record ..))

theorem emits_afterAlarm : x.Emits x.afterAlarm := by
  unfold TraceSide.afterAlarm
  extract_lets hit b y
  have hy : x.Emits y := ⟨rfl, .refl _, rfl, rfl, rfl⟩
  exact .ite (hy.trans (emits_trigger ..)) hy

end

end Sys2Proof.Machine
end

section
/-! The words of a capture program (R189–R191). -/
namespace Sys2Proof.Machine
open Sys2Proof

/-! ### Objects that a write leaves as they were -/

theorem storeGet_storeErase_other {o o' : Nat} (h : o' ≠ o) (st : Store) : storeGet (storeErase st o) o' = storeGet st o' := by
  induction st with
  | nil => rfl
  | cons q rest ih =>
    rw [storeErase]
    split
    · next hq => rw [storeGet, if_neg (by omega)]
    · rw [storeGet, storeGet, ih]

theorem get_put_other {c : Core} {o o' : Nat} (v : Bytes) (h : o' ≠ o) : (c.put o v).get o' = c.get o' := by
  have hs : storeGet (c.put o v).store o' = storeGet c.store o' := by
    rw [Core.put]
    dsimp only
    split
    · exact storeGet_storeErase_other h _
    · rw [storeGet_storeInsert, if_neg h]
  rw [Core.get, hs]
  rfl

theorem num_put_other {c : Core} {o o' : Nat} (v : Bytes) (h : o' ≠ o) : (c.put o v).num o' = c.num o' := by rw [Core.num, get_put_other v h, Core.num]

theorem num_bump_other {c : Core} {o o' : Nat} (h : o' ≠ o) : (c.bump o).num o' = c.num o' := num_put_other _ h

/-! ### Lists over a range -/

theorem getD_map_range {α : Type} {n i : Nat} (f : Nat → α) (d : α) (h : i < n) : ((List.range n).map f).getD i d = f i := by
  rw [List.getD_eq_getElem?_getD, List.getElem?_map, List.getElem?_range h]
  rfl

theorem getD_set_self {α : Type} {l : List α} {i : Nat} (v d : α) (h : i < l.length) : (l.set i v).getD i d = v := by
  rw [List.getD_eq_getElem?_getD, List.getElem?_set_self h]
  rfl

/-! ### A step of capture without an alarm -/

/-- The parts of an Ovtan that capture works on. -/
def Ovtan.capSide (o : Ovtan) : CapSide := { core := o.core, buf := o.buf, cap := o.cap }

/-- A step that emits no alarm is that of its parts alone. -/
theorem onCap_quiet {o : Ovtan} {f : CapSide → CapSide} {y : CapSide} (hy : f o.capSide = y) (ha : y.buf.alarmed = false) :
    o.onCap f = { o with core := y.core, buf := y.buf, cap := y.cap } := by
  obtain ⟨c, b, p⟩ := y
  have hb : { b with alarmed := false } = b := by rw [← ha]
  have hz : ({ core := c, buf := b, cap := p, trace := o.trace } : TraceSide).afterAlarm = { core := c, buf := b, cap := p, trace := o.trace } := by
    rw [TraceSide.afterAlarm]
    dsimp only
    rw [hb, ha]
    rfl
  rw [Ovtan.onCap, show f { core := o.core, buf := o.buf, cap := o.cap } = _ from hy, hz]

/-- The trigger that an alarm may be leaves capture alone, and adds events. -/
theorem onCap_frame {o : Ovtan} {f : CapSide → CapSide} {y : CapSide} (hy : f o.capSide = y) : (o.onCap f).cap = y.cap ∧ y.core.Grows (o.onCap f).core := by
  subst hy
  have h := emits_afterAlarm { core := (f o.capSide).core, buf := (f o.capSide).buf, cap := (f o.capSide).cap, trace := o.trace }
  exact ⟨h.cap, h.core⟩

/-! ### The word at hand -/

theorem onWord_at {x : CapSide} {r : Run} {w : PWord} {pick : PWord → Bool} {act : CapSide → Run → PWord → CapSide} (hr : x.cap.run = some r)
    (hw : wordAt r.words r.pc = w) (hg : r.ready? x.core.ns w = true) (hp : pick w = true) :
    onWord x pick act = act { x with cap := { x.cap with run := some (r.stamped x.core) } } (r.stamped x.core) w := by
  subst hw
  rw [onWord, hr]
  exact if_pos (by rw [hp, hg]; rfl)

theorem stepRun_going {x : CapSide} {r : Run} (h : r.count < 4096) : stepRun x r = { x with cap := { x.cap with run := some r } } := if_neg (by omega)

section
variable {x : CapSide} {r : Run} (hr : x.cap.run = some r)
include hr

theorem doSnap_head {m : Nat} {l : LatchPart} (hw : wordAt r.words r.pc = .snap m) (hg : r.ready? x.core.ns (.snap m) = true) (hc : r.count + 1 < 4096)
    (hh : r.head = true) (hl : x.cap.latch = some l) :
    doSnap x = { x with cap := { x.cap with latch := some { l with armed := l.armed ||| m }, run := some { r.stamped x.core with pc := r.pc + 1, count := r.count + 1, ready := r.ready + 1, snapped := true } } } := by
  rw [doSnap, onWord_at hr hw hg rfl]
  simp only [hl]
  rw [if_pos (show (r.stamped x.core).head = true from hh)]
  exact stepRun_going hc

theorem doRead_copies {n f : Nat} (hw : wordAt r.words r.pc = .read n f) (hg : r.ready? x.core.ns (.read n f) = true) (hc : r.count + 1 < 4096) :
    doRead x = { x with cap := { x.cap with
      r := (List.range 96).map (fun ch => if f ≤ ch ∧ ch < f + n then x.cap.readable ch x.core.ns else x.cap.r.getD ch Chan.none),
      run := some ((r.stamped x.core).next (r.pc + 1) n) } } := by
  rw [doRead, onWord_at hr hw hg rfl]
  exact stepRun_going hc

theorem doBr_branches {c t : Nat} (hw : wordAt r.words r.pc = .br c t) (hg : r.ready? x.core.ns (.br c t) = true) (hc : r.count + 1 < 4096) :
    doBr x = { x with cap := { x.cap with
      run := some ((r.stamped x.core).next (if c = 0 ∨ (c = 1 ∧ r.flag = true) ∨ (c = 2 ∧ r.flag = false) then t else r.pc + 1) 1) } } := by
  rw [doBr, onWord_at hr hw hg rfl]
  dsimp only
  rw [stepRun_going (by exact hc)]
  simp only [Bool.not_eq_true]
  rfl

/-- The records of an EMIT are those its words name, of the run's latch time. -/
theorem doEmit_stages {k n f : Nat} (hw : wordAt r.words r.pc = .emit k n f) (hg : r.ready? x.core.ns (.emit k n f) = true) (hc : r.count + 1 < 4096) :
    ∃ recs : List Record, recs.length = (n + 1) / 2 ∧ (∀ q ∈ recs, q.type = (if k = 2 then 0x03 else 0x02) ∧ q.tns = BitVec.ofNat 32 r.lt) ∧
      doEmit x = { x with cap := { x.cap with run := some { (r.stamped x.core).next (r.pc + 1) ((n + 1) / 2) with
        staging := r.staging ++ recs.take (255 - r.staging.length), trunc := r.trunc || decide (recs.length > 255 - r.staging.length) } } } := by
  refine ⟨emitRecords { x with cap := { x.cap with run := some (r.stamped x.core) } } (r.stamped x.core) k n f, ?_, fun q hq => ?_, ?_⟩
  · simp [emitRecords, emitCount]
  · obtain ⟨j, _, rfl⟩ := List.mem_map.mp hq
    dsimp only
    split
    · exact ⟨rfl, rfl⟩
    · exact ⟨rfl, rfl⟩
  · rw [doEmit, onWord_at hr hw hg rfl]
    exact stepRun_going hc

theorem doDelta_takes {k n f : Nat} (hw : wordAt r.words r.pc = .delta k n f) (hg : r.ready? x.core.ns (.delta k n f) = true) (hc : r.count + 1 < 4096) :
    ∃ dr rs, doDelta x = { x with cap := { x.cap with
      delta := (List.range 576).map (fun i => if f ≤ i ∧ i < f + n then x.cap.snap.getD i 0 - (x.cap.base.getD k []).getD i 0 else x.cap.delta.getD i 0),
      base := x.cap.base.set k ((List.range 576).map (fun i => if f ≤ i ∧ i < f + n then x.cap.snap.getD i 0 else (x.cap.base.getD k []).getD i 0)),
      deltaReset := dr, resets := rs, run := some ((r.stamped x.core).next (r.pc + 1) ((n + 3) / 4)) } } := by
  rw [doDelta, onWord_at hr hw hg rfl]
  dsimp only
  rw [stepRun_going (by exact hc)]
  simp only [Bool.and_eq_true, decide_eq_true_eq]
  exact ⟨_, _, rfl⟩

/-- What a CMP word compares. -/
def CapSide.hit (x : CapSide) (rel thr kind idx : Nat) : Bool :=
  if kind = 0 then relNat rel (x.cap.snap.getD idx 0).toNat (x.core.num (oCountThreshold + thr))
  else if kind = 1 then relNat rel (x.cap.delta.getD idx 0).toNat (x.core.num (oCountThreshold + thr))
  else if kind = 2 then (x.cap.r.getD idx Chan.none).seen && (x.cap.r.getD idx Chan.none).valid &&
    relF32 rel (f32Val (x.cap.r.getD idx Chan.none).value) (f32Val (x.core.num (oCountThreshold + thr) % 2 ^ 32))
  else relNat rel ((x.cap.r.getD idx Chan.none).value % 2 ^ 32) (x.core.num (oCountThreshold + thr))

/-- A CMP word without an alarm changes the run alone; with one, core and buffer too. -/
theorem doCmp_compares {al : Bool} {code rel thr kind idx : Nat} (hw : wordAt r.words r.pc = .cmp al code rel thr kind idx)
    (hg : r.ready? x.core.ns (.cmp al code rel thr kind idx) = true) (hc : r.count + 1 < 4096) :
    ∃ c b, doCmp x = { core := c, buf := b, cap := { x.cap with run := some { (r.stamped x.core).next (r.pc + 1) 1 with
        flag := x.hit rel thr kind idx, alarm := r.alarm || (x.hit rel thr kind idx && al) } } } ∧
      ((x.hit rel thr kind idx && al) = false → c = x.core ∧ b = x.buf) := by
  have hf : x.hit rel thr kind idx = (if kind = 2 then (x.cap.r.getD idx Chan.none).seen && (x.cap.r.getD idx Chan.none).valid &&
        relF32 rel (f32Val (x.cap.r.getD idx Chan.none).value) (f32Val (x.core.num (oCountThreshold + thr) % 2 ^ 32))
      else relNat rel (if kind = 0 then (x.cap.snap.getD idx 0).toNat else if kind = 1 then (x.cap.delta.getD idx 0).toNat else (x.cap.r.getD idx Chan.none).value % 2 ^ 32)
        (x.core.num (oCountThreshold + thr))) := by
    by_cases h2 : kind = 2
    · subst h2
      rfl
    · simp only [CapSide.hit, if_neg h2]
      split
      · rfl
      · split
        · rfl
        · rfl
  rw [doCmp, onWord_at hr hw hg rfl]
  dsimp only
  rw [← hf, stepRun_going (by exact hc)]
  cases h : x.hit rel thr kind idx && al with
  | false => exact ⟨_, _, rfl, fun _ => ⟨rfl, rfl⟩⟩
  | true => exact ⟨_, _, rfl, fun h => absurd h (by decide)⟩

end

/-! ### The end of a run (R191) -/

theorem grows_endRun (x : CapSide) (r : Run) (status : Nat) : x.core.Grows (endRun x r status).core := by
  unfold endRun
  extract_lets f st0 st l rs l' h h' recs core y
  have hy : x.core.Grows y.1 := (grows_ite ((Core.Grows.of_eq (Core.bump_events ..)).trans (.raise ..)) (.refl _)).trans (grows_commitS ..)
  exact hy.trans (grows_ite (.of_eq rfl) (.refl _))

theorem numberChain_frame (cls : RClass) (rs : List Record) : ∀ b : RecBuf, (numberChain b cls rs).1.length = rs.length ∧ ∃ q, (numberChain b cls rs).2 = { b with seq := q } := by
  induction rs with
  | nil => exact fun b => ⟨rfl, b.seq, rfl⟩
  | cons r rs ih =>
    intro b
    obtain ⟨hl, q, hq⟩ := ih (b.take1 cls).2
    exact ⟨congrArg (· + 1) hl, q, hq⟩

theorem holdAll_frame (b : RecBuf) (time : Nat) (rs : List Record) :
    (b.holdAll time rs).1.length = rs.length ∧ (∀ h ∈ (b.holdAll time rs).1, h.time = time) ∧ (b.holdAll time rs).2 = { b with ord := b.ord + rs.length } := by
  refine ⟨by simp [RecBuf.holdAll], fun h hh => ?_, rfl⟩
  obtain ⟨p, _, rfl⟩ := List.mem_map.mp hh
  rfl

theorem flushGaps_none {c : Core} {b : RecBuf} (h : b.pend = []) (cls : RClass) (toRing : Bool) : flushGaps c b cls toRing = (c, b) := by
  obtain ⟨⟩ := b
  subst h
  rfl

/-- A chain that its region has room for is held whole. -/
theorem commitS_buffered {c : Core} {b : RecBuf} {recs : List Record} (entry time : Nat) (hl : b.linkRing .s = false) (hs : b.s.length < c.num oRecordSpillLevel)
    (hn : b.s.length + recs.length ≤ shareS c b) (hp : b.pend = []) :
    ∃ l, (commitS c b entry time recs).2.s = b.s ++ l ∧ l.length = recs.length ∧ (∀ h ∈ l, h.time = time) ∧ (commitS c b entry time recs).2.alarmed = b.alarmed := by
  have hr : (b.linkRing .s || decide (b.s.length ≥ c.num oRecordSpillLevel) || decide (b.s.length + recs.length > shareS c b)) = false := by
    rw [hl, decide_eq_false (by omega), decide_eq_false (by omega)]
    rfl
  obtain ⟨hnl, q, hq⟩ := numberChain_frame .s recs b
  obtain ⟨hhl, hht, hho⟩ := holdAll_frame (numberChain b .s recs).2 time (numberChain b .s recs).1
  rw [commitS]
  dsimp only
  rw [hr]
  simp only [Bool.false_and, Bool.false_eq_true, if_false, flushGaps_none hp]
  refine ⟨_, ?_, hhl.trans hnl, hht, ?_⟩
  · rw [hho, hq]
  · rw [hho, hq]

theorem programError_frame (x : CapSide) (r : Run) : (programError x r).cap = { x.cap with run := none } ∧
    x.core.Grows (programError x r).core ∧ ⟨0x0601, 0x00, [r.fir.entry, r.pc, (r.words.getD r.pc 0).toNat]⟩ ∈ (programError x r).core.events := by
  have hg := grows_endRun { x with core := (x.core.bump oRecordProgErrors).raise 0x0601 0x00 [r.fir.entry, r.pc, (r.words.getD r.pc 0).toNat] } r (4 + 8)
  exact ⟨rfl, Core.Grows.trans (.trans (.of_eq (Core.bump_events ..)) (.raise ..)) hg, hg.mem (List.mem_append_right _ (List.mem_singleton.mpr rfl))⟩

/-- A run's chain is its header and what it staged. -/
theorem endRun_buffered {x : CapSide} {r : Run} (status : Nat) (hl : x.buf.linkRing .s = false) (hs : x.buf.s.length < x.core.num oRecordSpillLevel)
    (hn : x.buf.s.length + r.staging.length + 1 ≤ shareS x.core x.buf) (hp : x.buf.pend = []) :
    (endRun x r status).buf.alarmed = x.buf.alarmed ∧
      ∃ hs, (endRun x r status).buf.s = x.buf.s ++ hs ∧ hs.length = r.staging.length + 1 ∧ ∀ h ∈ hs, h.time = r.lt := by
  unfold endRun
  extract_lets f st0 st l rs l' h h' recs core y
  have hrecs : recs.length = r.staging.length + 1 := by simp [recs]
  have hnum : ∀ o, o ≠ oRecordTruncations → core.num o = x.core.num o := fun o ho => by
    show (if r.trunc = true then _ else x.core).num o = _
    split
    · exact num_bump_other ho
    · rfl
  obtain ⟨hs', h1, h2, h3, h4⟩ := commitS_buffered (c := core) (recs := recs) f.entry r.lt hl (by rw [hnum _ (by decide)]; exact hs)
    (by rw [hrecs, shareS, hnum _ (by decide)]; exact hn) hp
  exact ⟨h4, hs', h1, h2.trans hrecs, h3⟩

theorem doHalt_ends {x : CapSide} {r : Run} (hr : x.cap.run = some r) (hw : wordAt r.words r.pc = .halt) (hg : r.ready? x.core.ns .halt = true)
    (hl : x.buf.linkRing .s = false) (hs : x.buf.s.length < x.core.num oRecordSpillLevel) (hn : x.buf.s.length + r.staging.length + 1 ≤ shareS x.core x.buf)
    (hp : x.buf.pend = []) :
    (doHalt x).cap = { x.cap with run := none } ∧ (doHalt x).buf.alarmed = x.buf.alarmed ∧
      ∃ hs, (doHalt x).buf.s = x.buf.s ++ hs ∧ hs.length = r.staging.length + 1 ∧ ∀ h ∈ hs, h.time = r.lt := by
  rw [doHalt, onWord_at hr hw hg rfl]
  exact ⟨rfl, endRun_buffered (r := r.stamped x.core) 0 hl hs hn hp⟩

theorem stampAt_entry (r : Run) (c : Core) : (r.stamped c).fir.entry = r.fir.entry := by
  show (Firing.stampAt ..).entry = _
  rw [Firing.stampAt]
  split <;> rfl

theorem doBadWord_ends {x : CapSide} {r : Run} {w : PWord} (bad : Bool) (hr : x.cap.run = some r) (hw : wordAt r.words r.pc = w) (hg : r.ready? x.core.ns w = true)
    (hb : (w == .bad || bad) = true) :
    (doBadWord x bad).cap = { x.cap with run := none } ∧ (bad = true → ⟨0x0906, 0x00, [0, r.pc]⟩ ∈ (doBadWord x bad).core.events) ∧
      ⟨0x0601, 0x00, [r.fir.entry, r.pc, (r.words.getD r.pc 0).toNat]⟩ ∈ (doBadWord x bad).core.events := by
  rw [doBadWord, onWord_at hr hw hg hb]
  obtain ⟨hc, hgr, he⟩ := programError_frame ({ core := if bad then (x.core.bump oPowerEccUncorrected).raise 0x0906 0x00 [0, r.pc] else x.core, buf := x.buf, cap := { x.cap with run := some (r.stamped x.core) } } : CapSide) (r.stamped x.core)
  rw [stampAt_entry] at he
  refine ⟨hc, fun hbad => hgr.mem ?_, he⟩
  subst hbad
  exact List.mem_append_right _ (List.mem_singleton.mpr rfl)

/-- Settles O7, word by word. -/
theorem programWordsComplete : Obligations.ProgramWordsComplete := by
  intro s r
  refine ⟨fun m l hat hh hc hl => ?_, fun n f hat hc => ?_, fun k n f hat hc hk => ?_, fun al code rel thr kind idx hat hc => ?_, fun c t hat hc => ?_,
    fun k n f hat hc => ?_, fun hat hl hs hn hp => ?_, fun hat => ?_, fun w hat => ?_⟩ <;> obtain ⟨hr, ha, hrun, hw, hg⟩ := hat
  · exact ov_answers rfl hr (onCap_quiet (doSnap_head (x := s.ov.capSide) hrun hw hg hc hh hl) ha)
  · refine ov_answers rfl hr ?_
    rw [onCap_quiet (doRead_copies (x := s.ov.capSide) hrun hw hg hc) ha]
    exact ⟨rfl, rfl, rfl, rfl, fun i hi => getD_map_range _ _ hi⟩
  · refine ov_answers rfl hr ?_
    obtain ⟨dr, rs, h⟩ := doDelta_takes (x := s.ov.capSide) hrun hw hg hc
    rw [onCap_quiet h ha]
    refine ⟨rfl, rfl, rfl, rfl, rfl, fun i hi => ⟨?_, ?_⟩⟩ <;> dsimp only
    · exact getD_map_range _ _ hi
    · rw [getD_set_self (l := s.ov.capSide.cap.base) _ _ hk]
      exact getD_map_range _ _ hi
  · refine ov_answers rfl hr ?_
    obtain ⟨c, b, h, hq⟩ := doCmp_compares (x := s.ov.capSide) hrun hw hg hc
    refine ⟨s.ov.capSide.hit rel thr kind idx, rfl, ?_, fun hn => ?_⟩
    · rw [(onCap_frame h).1]
      rfl
    · obtain ⟨rfl, rfl⟩ := hq hn
      rw [onCap_quiet h ha]
      exact ⟨rfl, rfl⟩
  · exact ov_answers rfl hr (onCap_quiet (doBr_branches (x := s.ov.capSide) hrun hw hg hc) ha)
  · refine ov_answers rfl hr ?_
    obtain ⟨recs, hl, hq, h⟩ := doEmit_stages (x := s.ov.capSide) hrun hw hg hc
    exact ⟨recs, hl, hq, onCap_quiet h ha⟩
  · refine ov_answers rfl hr ?_
    obtain ⟨hc, hb, hs', h1, h2, h3⟩ := doHalt_ends (x := s.ov.capSide) hrun hw hg hl hs hn hp
    rw [onCap_quiet rfl (hb.trans ha)]
    exact ⟨hc, hs', h1, h2, h3⟩
  · refine ov_answers rfl hr ?_
    obtain ⟨hc, _, he⟩ := doBadWord_ends (x := s.ov.capSide) false hrun hw hg (by decide)
    have hf := onCap_frame (o := s.ov) (f := fun x => doBadWord x false) rfl
    exact ⟨hf.1.trans hc, hf.2.mem he⟩
  · refine ov_answers rfl hr ?_
    obtain ⟨hc, h9, he⟩ := doBadWord_ends (x := s.ov.capSide) true hrun hw hg (Bool.or_true _)
    have hf := onCap_frame (o := s.ov) (f := fun x => doBadWord x true) rfl
    exact ⟨hf.1.trans hc, hf.2.mem (h9 rfl), hf.2.mem he⟩

end Sys2Proof.Machine
end

section
/-! Counters, sensors, the latch, the start of runs and the record buffer (R176–R189, R192–R195, R535). -/
namespace Sys2Proof.Machine
open Sys2Proof

/-! ### A bus cycle (R176) -/

theorem aoAlarms_cap (x : CapSide) (bus : Nat) (bits : U128) (t : Nat) : (aoAlarms x bus bits t).cap = x.cap := by
  rw [aoAlarms]
  refine List.foldlRecOn (motive := fun y : CapSide => y.cap = x.cap) _ _ rfl fun y hy j _ => ?_
  dsimp only
  split
  · exact hy
  · exact hy

theorem dpEvent_cap (o : Ovtan) : o.dpEvent.cap = o.cap := by
  rw [Ovtan.dpEvent]
  split
  · rfl
  · split
    · rfl
    · split
      · rfl
      · rfl

/-- A bus of a live domain whose bank no latch waits for counts its cycle. -/
theorem busCycle_live {x : CapSide} {bus : Nat} {bits : U128} (t : Nat) (hb : bus < 16) (hn : x.cap.cgNote.testBit (bankDomain x.core bus) = false)
    (hg : x.cap.gated.testBit (bankDomain x.core bus) = false) (hl : ∀ l, x.cap.latch = some l → l.waits bus = false) :
    busCycle x bus bits t none = aoAlarms (countBus x bus bits) bus bits t := by
  rw [busCycle]
  dsimp only
  rw [if_neg (by rw [hn, hg]; simpa using hb)]
  cases h : x.cap.latch with
  | none => rfl
  | some l =>
    dsimp only
    rw [hl l h]
    rfl

theorem eventInput_cap {o : Ovtan} {bus : Nat} {bits : U128} (hb : bus < 16) (hn : o.cap.cgNote.testBit (bankDomain o.core bus) = false)
    (hg : o.cap.gated.testBit (bankDomain o.core bus) = false) (hl : ∀ l, o.cap.latch = some l → l.waits bus = false) :
    (o.eventInput bus bits none).cap = (countBus o.capSide bus bits).cap := by
  have hc : (o.onCap (fun x => busCycle x bus bits x.core.ns none)).cap = (countBus o.capSide bus bits).cap := by
    rw [(onCap_frame (y := aoAlarms (countBus o.capSide bus bits) bus bits o.core.ns) (busCycle_live (x := o.capSide) _ hb hn hg hl)).1, aoAlarms_cap]
  unfold Ovtan.eventInput
  extract_lets start live o'
  split
  · rw [dpEvent_cap, hc]
  · exact hc

theorem countBus_ctr {x : CapSide} {bus i : Nat} {bits : U128} (hi : i < 576) : (countBus x bus bits).cap.ctr.getD i 0 =
    if bitsOf (counterConfig x.core i) 10 7 = bus ∧ i ∉ x.cap.dead
    then x.cap.ctr.getD i 0 + BitVec.ofNat 64 (countStep (counterConfig x.core i) bits (x.cap.prev.getD bus 0)) else x.cap.ctr.getD i 0 := by
  rw [countBus]
  dsimp only
  rw [getD_map_range _ _ hi]
  simp only [Bool.not_eq_true', List.contains_eq_mem, decide_eq_false_iff_not]

/-! ### Sensors (R184, R185) -/

/-- A trip changes which channels are armed, and may raise an alarm. -/
theorem checkTrip_frame (x : CapSide) (ch t : Nat) : (checkTrip x ch t).cap.ctr = x.cap.ctr ∧ (checkTrip x ch t).cap.chans = x.cap.chans := by
  rw [checkTrip]
  dsimp only
  split
  · exact ⟨rfl, rfl⟩
  · split
    · split
      · split <;> exact ⟨rfl, rfl⟩
      · split <;> exact ⟨rfl, rfl⟩
    · split
      · split
        · split <;> exact ⟨rfl, rfl⟩
        · split <;> exact ⟨rfl, rfl⟩
      · exact ⟨rfl, rfl⟩

theorem conversion_sensor {o : Ovtan} {ch code : Nat} {valid : Bool} (hch : ch < 88) : (o.conversion ch code valid).cap.ctr = o.cap.ctr ∧
    (o.conversion ch code valid).cap.chans = o.cap.chans.set ch { raw := toF32 (fofInt (signedOf 16 code)), value := toF32 (calibrated o.core ch (fofInt (signedOf 16 code))), time := o.core.ns, valid := valid, stretch := false, seen := true } := by
  rw [Ovtan.conversion, if_pos hch, (onCap_frame (f := fun x => snsConversion x ch code valid) rfl).1, snsConversion]
  exact checkTrip_frame ..

/-- The conversion of a raw value that a channel keeps. -/
def kept (c : Core) (ch : Nat) (raw : FVal) (t : Nat) (valid stretch : Bool) : Chan :=
  { raw := toF32 raw, value := toF32 (calibrated c ch raw), time := t, valid := valid, stretch := stretch, seen := true }

theorem not_mem_filter_ne (m : Nat) (l : List Nat) : m ∉ l.filter (· != m) := by simp

/-- A window that has run out keeps its frequency as a conversion of the monitor's channel. -/
theorem fmonWindow_ends {x : CapSide} {m cycles : Nat} {stretch : Bool} (hm : m < 8) (hw : x.core.num oSenseFmonWindow ≠ 0)
    (ht : x.core.ns ≥ x.cap.fmonAt.getD m 0 + x.core.num oSenseFmonWindow) :
    fmonWindow x m cycles stretch = { keepConversion x (88 + m) (r32 (fofRat (cycles * 1000 : Nat) (x.core.num oSenseFmonWindow))) x.core.ns true (stretch || x.cap.stretched.contains m) with
      cap := { (keepConversion x (88 + m) (r32 (fofRat (cycles * 1000 : Nat) (x.core.num oSenseFmonWindow))) x.core.ns true (stretch || x.cap.stretched.contains m)).cap with
        fmonAt := x.cap.fmonAt.set m x.core.ns, stretched := x.cap.stretched.filter (· != m) } } := by
  rw [fmonWindow]
  dsimp only
  rw [if_neg (by omega)]
  rfl

theorem stretchEnd_counts {x : CapSide} {m : Nat} (len : Nat) (hm : m < 8) : stretchEnd x m len =
    { x with core := (x.core.count (oSenseStretchNs + m + 1) len).bump (oSenseStretchCount + m + 1), cap := { x.cap with stretched := m :: x.cap.stretched.filter (· != m) } } := by
  rw [stretchEnd, if_neg (Nat.not_le.mpr hm)]

/-! ### The latch (R189) -/

theorem doBankLatch_due {x : CapSide} {b cycle : Nat} {l : LatchPart} (hl : x.cap.latch = some l) (hw : l.waits b = true) (ht : x.core.ns ≥ l.lt) :
    doBankLatch x b cycle none = latchBank x l b cycle := by
  rw [doBankLatch]
  simp only [hl]
  exact if_pos (by rw [hw, decide_eq_true ht]; rfl)

theorem latchBank_ctr (x : CapSide) (l : LatchPart) (b cycle : Nat) : (latchBank x l b cycle).cap.ctr = x.cap.ctr := by rw [latchBank]

theorem latchBank_snap {x : CapSide} (l : LatchPart) {b i : Nat} (cycle : Nat) (hi : i < 576) :
    (latchBank x l b cycle).cap.snap.getD i 0 = if counterBank x.core i = b then x.cap.ctr.getD i 0 else x.cap.snap.getD i 0 := by
  rw [latchBank]
  dsimp only
  exact getD_map_range _ _ hi

theorem latchBank_latch (x : CapSide) (l : LatchPart) (b cycle : Nat) :
    ∃ k, (latchBank x l b cycle).cap.latch = some k ∧ k.latched = l.latched ||| 2 ^ b ∧ k.armed = l.armed ∧ k.lt = l.lt := by
  rw [latchBank]
  exact ⟨_, rfl, rfl, rfl, rfl⟩

/-- One late bank of a latch wait that has run out. -/
def latchLate (entry w : Nat) (x : CapSide) (b : Nat) : CapSide :=
  match x.cap.latch with
  | some l => { latchBank x l b w with core := (latchBank x l b w).core.raise 0x0607 0x00 [b, entry] }
  | none => x

/-- Late banks latch from the counters as they are, each with its event. -/
theorem latchLate_foldl (entry w : Nat) (bs : List Nat) : ∀ x : CapSide, x.cap.latch.isSome = true →
    (bs.foldl (latchLate entry w) x).cap.ctr = x.cap.ctr ∧ x.core.Grows (bs.foldl (latchLate entry w) x).core ∧
      ∀ b ∈ bs, ⟨0x0607, 0x00, [b, entry]⟩ ∈ (bs.foldl (latchLate entry w) x).core.events := by
  induction bs with
  | nil => exact fun x _ => ⟨rfl, .refl _, fun _ h => nomatch h⟩
  | cons b bs ih =>
    intro x hx
    obtain ⟨l, hl⟩ := Option.isSome_iff_exists.mp hx
    have hs : latchLate entry w x b = { latchBank x l b w with core := (latchBank x l b w).core.raise 0x0607 0x00 [b, entry] } := by rw [latchLate, hl]
    obtain ⟨hc, hg, he⟩ := ih (latchLate entry w x b) (by rw [hs]; rfl)
    rw [List.foldl_cons]
    have hctr : (latchLate entry w x b).cap.ctr = x.cap.ctr := by rw [hs]; exact latchBank_ctr ..
    have hcore : (latchLate entry w x b).core = x.core.raise 0x0607 0x00 [b, entry] := by rw [hs]; rfl
    rw [hcore] at hg
    refine ⟨hc.trans hctr, Core.Grows.trans (.raise ..) hg, fun k hk => ?_⟩
    rcases List.mem_cons.mp hk with rfl | hk
    · exact hg.mem (List.mem_append_right _ (List.mem_singleton.mpr rfl))
    · exact he k hk

theorem endLatchWait_due {x : CapSide} {r : Run} {l : LatchPart} (hr : x.cap.run = some r) (hl : x.cap.latch = some l) (hs : r.snapped = true) (hw : r.waited = false)
    (ht : x.core.ns ≥ r.lt + x.core.num oCountLatchWait) : (endLatchWait x).cap.ctr = x.cap.ctr ∧
      (endLatchWait x).cap.run = some { r with waited := true, ready := Nat.max r.ready (r.lt + x.core.num oCountLatchWait) } ∧
      ∀ k < 16, l.waits k = true → ⟨0x0607, 0x00, [k, r.fir.entry]⟩ ∈ (endLatchWait x).core.events := by
  obtain ⟨hc, _, he⟩ := latchLate_foldl r.fir.entry (x.core.num oCountLatchWait) ((List.range 16).filter (fun b => l.waits b)) x (by rw [hl]; rfl)
  rw [endLatchWait]
  simp only [hr, hl]
  rw [if_pos (by rw [hs, hw, decide_eq_true ht]; rfl)]
  exact ⟨hc, rfl, fun k hk hwk => he k (List.mem_filter.mpr ⟨List.mem_range.mpr hk, hwk⟩)⟩

/-! ### The start of a run (R187, R188) -/

theorem startRun_taken {x : CapSide} {f : Firing} {rest : List Firing} (hr : x.cap.run = none) (hq : x.cap.queue = f :: rest) (hl : x.cap.latch.any (fun l => l.fire == f.fire) = false)
    (ho : f.optional = false ∨ f.lateLimit = 0 ∨ Nat.max f.fire x.core.ns - f.fire ≤ f.lateLimit * 1000) :
    ∃ latch, startRun x = { x with
      core := (if Nat.max f.fire x.core.ns > f.fire then x.core.bump oAngleLateFirings else x.core)
      cap := { x.cap with
        queue := rest
        latch := latch
        run := some {
          fir := f, start := x.core.ns, lt := Nat.max f.fire x.core.ns, lateness := Nat.max f.fire x.core.ns - f.fire, words := x.cap.prog, pc := f.program,
          flag := false, count := 0, staging := [], head := true, snapped := false, ready := x.core.ns, waited := false, alarm := false, trunc := false } } } := by
  have hf : x.cap.latch.filter (fun l => l.fire == f.fire) = none := by
    cases h : x.cap.latch with
    | none => rfl
    | some l =>
      rw [h] at hl
      simpa using hl
  have hlate : (f.optional && decide (f.lateLimit ≠ 0) && decide (Nat.max f.fire x.core.ns - f.fire > f.lateLimit * 1000)) = false := by
    rcases ho with h | h | h
    · rw [h]; rfl
    · rw [h]; simp
    · rw [decide_eq_false (by omega : ¬Nat.max f.fire x.core.ns - f.fire > f.lateLimit * 1000), Bool.and_false]
  have hpos : (Nat.max f.fire x.core.ns - f.fire > 0) = (Nat.max f.fire x.core.ns > f.fire) := propext (by omega)
  rw [startRun]
  simp only [hr, hq, hf, hlate, hpos]
  exact ⟨_, rfl⟩

theorem markRun_plain {o : Ovtan} {r : Run} (hr : o.cap.run = some r) (hc : r.fir.cut = none) : o.markRun = o := by
  rw [Ovtan.markRun, hr]
  dsimp only
  rw [hc]

/-! ### The record buffer (R192, R195, R535) -/

theorem alarmGap_none {c : Core} {b : RecBuf} (h : b.pend.find? (fun g => g.cls == .a && g.reason == 0x05) = none) : alarmGap c b = (c, b) := by
  rw [alarmGap, h]

/-- One pending gap put into the buffer's reserved slot. -/
def putGap (cls : RClass) (p : Core × RecBuf) (g : PendGap) : Core × RecBuf :=
  (p.1, (RecBuf.holdAll (p.2.take1 cls).2 p.1.ns [{ gapRecord p.1 g with seq := (p.2.take1 cls).1 }]).2.setHeld
    ((RecBuf.holdAll (p.2.take1 cls).2 p.1.ns [{ gapRecord p.1 g with seq := (p.2.take1 cls).1 }]).2.held cls ++
      (RecBuf.holdAll (p.2.take1 cls).2 p.1.ns [{ gapRecord p.1 g with seq := (p.2.take1 cls).1 }]).1) cls)

theorem putGap_foldl (cls : RClass) (gs : List PendGap) : ∀ p : Core × RecBuf, (gs.foldl (putGap cls) p).1 = p.1 ∧ (gs.foldl (putGap cls) p).2.pend = p.2.pend ∧
    (gs.foldl (putGap cls) p).2.alarmed = p.2.alarmed ∧ ((gs.foldl (putGap cls) p).2.held cls).length = (p.2.held cls).length + gs.length := by
  induction gs with
  | nil => exact fun p => ⟨rfl, rfl, rfl, rfl⟩
  | cons g gs ih =>
    intro p
    obtain ⟨h1, h2, h3, h4⟩ := ih (putGap cls p g)
    have hlen : ((putGap cls p g).2.held cls).length = (p.2.held cls).length + 1 := by
      cases cls <;> exact List.length_append
    refine ⟨h1, h2.trans ?_, h3.trans ?_, ?_⟩
    · cases cls <;> rfl
    · cases cls <;> rfl
    · rw [List.foldl_cons, h4, hlen, List.length_cons]
      omega

/-- With room in the class's region its pending gaps are in the buffer. -/
theorem emitPending_room {x : CapSide} {cls : RClass} (hl : x.buf.linkRing cls = false)
    (hs : cls = .s → x.buf.s.length < Nat.min (x.core.num oRecordSpillLevel) (shareS x.core x.buf)) (ha : cls = .a → x.buf.a.length < 256) :
    (emitPending x cls).core = x.core ∧ (emitPending x cls).cap = x.cap ∧ (emitPending x cls).buf.alarmed = x.buf.alarmed ∧
      (emitPending x cls).buf.pend = x.buf.pend.filter (fun g => !(g.cls == cls && g.reason != 0x05)) ∧
      ((emitPending x cls).buf.held cls).length = (x.buf.held cls).length + (x.buf.pend.filter (fun g => g.cls == cls && g.reason != 0x05)).length := by
  have heq : emitPending x cls = { x with core := (flushGaps x.core x.buf cls false).1, buf := if cls = .s then { (flushGaps x.core x.buf cls false).2 with lossEpisode := false } else (flushGaps x.core x.buf cls false).2 } := by
    unfold emitPending
    cases cls with
    | s =>
      simp only [hl, ge_iff_le, Nat.not_le.mpr (hs rfl), decide_false]
      rfl
    | a =>
      simp only [hl, ge_iff_le, Nat.not_le.mpr (ha rfl), decide_false]
      rfl
    | t =>
      dsimp only
      rw [hl]
      rfl
    | c =>
      dsimp only
      rw [hl]
      rfl
  obtain ⟨h1, h2, h3, h4⟩ := putGap_foldl cls (x.buf.pend.filter (fun g => g.cls == cls && g.reason != 0x05))
    (x.core, { x.buf with pend := x.buf.pend.filter (fun g => !(g.cls == cls && g.reason != 0x05)) })
  have hheld : ∀ b : RecBuf, RecBuf.held { b with lossEpisode := false } cls = b.held cls := fun b => by cases cls <;> rfl
  have hfilter : ∀ l, RecBuf.held { x.buf with pend := l } cls = x.buf.held cls := fun l => by cases cls <;> rfl
  rw [heq]
  refine ⟨h1, rfl, ?_, ?_, ?_⟩
  · exact (apply_ite RecBuf.alarmed _ _ _).trans ((ite_self _).trans h3)
  · exact (apply_ite RecBuf.pend _ _ _).trans ((ite_self _).trans h2)
  · rw [apply_ite (fun b => RecBuf.held b cls), hheld, ite_self]
    exact h4.trans (by rw [hfilter])

theorem placeWaitingC_room {x : CapSide} {h : Held} {rest : List Held} (hw : x.buf.waitC = h :: rest) (hl : x.buf.linkRing .c = false) (hc : x.buf.c.length < 256) :
    placeWaitingC x = { x with buf := { x.buf with waitC := rest, c := x.buf.c ++ [h] } } := by
  rw [placeWaitingC]
  simp only [hw]
  exact if_pos (by rw [hl, decide_eq_true hc]; rfl)

/-- Settles O6, command by command. -/
theorem captureCommandsComplete : Obligations.CaptureCommandsComplete := by
  intro s bus ch code m cycles b cycle len bits valid stretch cls hr ha
  refine ⟨fun hb hn hg hl => ?_, fun hch => ?_, fun h1 h2 => ?_, fun hm hw ht => ?_, fun hm => ?_, fun l hl hw ht => ?_, fun f rest hd hrun hq hcut hl ho => ?_,
    fun r l hrun hl hs hw ht => ?_, fun hp => ?_, fun hl hs hc => ?_, fun h rest hw hl hc => ?_⟩
  · refine ov_answers rfl hr ?_
    rw [eventInput_cap hb hn hg hl]
    exact ⟨rfl, fun i hi => countBus_ctr (x := s.ov.capSide) hi⟩
  · exact ov_answers rfl hr (conversion_sensor hch)
  · refine ov_answers rfl hr ?_
    rw [Ovtan.conversion, if_neg (by omega), if_pos h2]
    rfl
  · refine ov_answers rfl hr ?_
    rw [onCap_quiet (fmonWindow_ends (x := s.ov.capSide) hm hw ht) ha]
    refine ⟨rfl, rfl, rfl, rfl, not_mem_filter_ne m _, kept s.ov.core (88 + m) (r32 (fofRat (cycles * 1000 : Nat) (s.ov.core.num oSenseFmonWindow))) s.ov.core.ns true (stretch || s.ov.cap.stretched.contains m), ?_⟩
    exact ⟨rfl, rfl, rfl, rfl, rfl⟩
  · refine ov_answers rfl hr ?_
    rw [onCap_quiet (stretchEnd_counts (x := s.ov.capSide) len hm) ha]
    rfl
  · refine ov_answers rfl hr ?_
    rw [onCap_quiet (doBankLatch_due (x := s.ov.capSide) hl hw ht) ha]
    exact ⟨rfl, rfl, latchBank_ctr .., fun i hi => latchBank_snap _ _ hi, latchBank_latch ..⟩
  · refine ov_answers rfl hr ?_
    obtain ⟨latch, h⟩ := startRun_taken (x := s.ov.capSide) hrun hq hl ho
    rw [Ovtan.startRun, if_neg (by rw [hd]; decide), onCap_quiet h ha, markRun_plain rfl hcut]
    exact ⟨rfl, rfl, rfl, rfl, rfl⟩
  · refine ov_answers rfl hr ?_
    obtain ⟨h1, h2, h3⟩ := endLatchWait_due (x := s.ov.capSide) hrun hl hs hw ht
    obtain ⟨hcap, hgr⟩ := onCap_frame (o := s.ov) (f := endLatchWait) rfl
    rw [hcap]
    exact ⟨h1, h2, fun k hk hwk => hgr.mem (h3 k hk hwk)⟩
  · refine ov_answers rfl hr ?_
    rw [Ovtan.onBuf, alarmGap_none (b := refillTokens s.ov.core s.ov.buf) hp]
    rfl
  · refine ov_answers rfl hr ?_
    obtain ⟨h1, h2, h3, h4, h5⟩ := emitPending_room (x := s.ov.capSide) hl hs hc
    rw [onCap_quiet (f := fun x => emitPending x cls) (y := emitPending s.ov.capSide cls) rfl (h3.trans ha)]
    refine ⟨h1, h2, fun g hg hcls => ?_, h5⟩
    rw [h4] at hg
    obtain ⟨_, hg⟩ := List.mem_filter.mp hg
    simp [hcls.1, hcls.2] at hg
  · exact ov_answers rfl hr (onCap_quiet (placeWaitingC_room (x := s.ov.capSide) hw hl hc) ha)

end Sys2Proof.Machine
end

section
/-! Trace: descriptors, the trigger, power domains, the Funnel and exports (R201–R217, R251–R253). -/
namespace Sys2Proof.Machine
open Sys2Proof

/-! ### One line of a note -/

theorem testBit_add_two_pow {n d : Nat} (i : Nat) (h : n.testBit d = false) : (n + 2 ^ d).testBit i = if i = d then true else n.testBit i := by
  have hr : n % 2 ^ (d + 1) < 2 ^ d := by
    rw [Nat.testBit_eq_decide_div_mod_eq, decide_eq_false_iff_not] at h
    have hs := Nat.mod_mul (x := n) (a := 2 ^ d) (b := 2)
    rw [show n / 2 ^ d % 2 = 0 by omega, Nat.mul_zero, Nat.add_zero] at hs
    rw [Nat.pow_succ, hs]
    exact Nat.mod_lt _ (Nat.two_pow_pos d)
  have hlt : 2 ^ d + n % 2 ^ (d + 1) < 2 ^ (d + 1) := by
    rw [Nat.pow_succ] at *
    omega
  rw [show n + 2 ^ d = 2 ^ (d + 1) * (n / 2 ^ (d + 1)) + (2 ^ d + n % 2 ^ (d + 1)) by have := Nat.div_add_mod n (2 ^ (d + 1)); omega,
    Nat.testBit_two_pow_mul_add _ hlt]
  conv_rhs => rw [← Nat.div_add_mod n (2 ^ (d + 1)), Nat.testBit_two_pow_mul_add _ (Nat.lt_of_lt_of_le hr (Nat.pow_le_pow_right (by decide) (Nat.le_succ d)))]
  rcases Nat.lt_trichotomy i d with hi | rfl | hi
  · rw [if_pos (by omega), if_neg (by omega), if_pos (by omega), Nat.testBit_two_pow_add_gt hi]
  · rw [if_pos (by omega), if_pos rfl, Nat.testBit_two_pow_add_eq, Nat.testBit_lt_two_pow hr]
    rfl
  · rw [if_neg (by omega), if_neg (by omega), if_neg (by omega)]

theorem testBit_sub_two_pow {n d : Nat} (i : Nat) (h : n.testBit d = true) : (n - 2 ^ d).testBit i = if i = d then false else n.testBit i := by
  obtain ⟨m, rfl⟩ := Nat.exists_eq_add_of_le (Nat.ge_two_pow_of_testBit h)
  rw [Nat.add_sub_cancel_left, Nat.add_comm]
  have hm : m.testBit d = false := by simpa [Nat.testBit_two_pow_add_eq] using h
  rw [testBit_add_two_pow i hm]
  split
  · next hi => rw [hi, hm]
  · rfl

/-! ### Presentation (R201–R206) -/

section
variable {x : TraceSide} {tap : Nat} {d : U128} (auth stretch : Bool) (ht : tap < 16) (he : x.core.flag oTraceEnable = true) (hm : x.core.num (oTraceTapMode + tap + 1) ≠ 0)
  (hc : x.trace.mode = .continuous)
include ht he hm hc

theorem present_live : x.present tap d auth stretch =
    if !x.admits d auth then { x with core := x.core.bump (oTraceSecureDrops + tap + 1) }
    else
      if x.trace.flushing (tapDomain x.core tap) then
        { x with trace := { x.trace with presented := modAt x.trace.presented tap (· + 1), flushes := modWhere (fun f => f.domain == tapDomain x.core tap) (fun f => { f with refused := f.refused + 1 }) x.trace.flushes } }.countPending tap 0x23
      else
        match filterVerdict x.core.filters (x.core.num (oTraceTapMode + tap + 1)) tap d with
        | .refuse => { x with trace := { x.trace with presented := modAt x.trace.presented tap (· + 1) } }.countPending tap 0x21
        | .keep index trig =>
          if (x.trace.queue.filter (fun e => e.tap == tap)).length ≥ 64 then { x with trace := { x.trace with presented := modAt x.trace.presented tap (· + 1) } }.countPending tap 0x22
          else
            { x with trace := { x.trace with presented := modAt x.trace.presented tap (· + 1) } }.deliver { tap := tap, desc := d, time := x.core.ns, step := x.core.angle.step % 2 ^ 32, angle := angleAt x.core.angle x.core.ns / 65536, index := index, trig := trig, stretch := stretch } := by
  have hl : (!(x.core.flag oTraceEnable && x.core.num (oTraceTapMode + tap + 1) != 0 && (x.trace.mode == .armed || x.trace.mode == .capturing || x.trace.mode == .continuous)) ||
      decide (tap ≥ 16)) = false := by
    rw [he, hc, bne_iff_ne.mpr hm, decide_eq_false (by omega)]
    rfl
  rw [TraceSide.present]
  dsimp only
  rw [hl]
  rfl

/-- A descriptor that no filter stops joins the Funnel's queue. -/
theorem present_queued {index : Nat} {trig : Bool} (hs : descSecurity d = 0) (hf : x.trace.flushing (tapDomain x.core tap) = false)
    (hv : filterVerdict x.core.filters (x.core.num (oTraceTapMode + tap + 1)) tap d = .keep index trig) (hq : (x.trace.queue.filter (fun y => y.tap == tap)).length < 64) :
    x.present tap d auth stretch = { x with
      trace := { x.trace with
        presented := modAt x.trace.presented tap (· + 1)
        queue := insertEntry {
          tap := tap, desc := d, time := x.core.ns, step := x.core.angle.step % 2 ^ 32, angle := angleAt x.core.angle x.core.ns / 65536,
          index := index, trig := false, stretch := stretch } x.trace.queue } } := by
  rw [present_live auth stretch ht he hm hc, if_neg (by rw [TraceSide.admits, hs]; simp), if_neg (by rw [hf]; decide), hv]
  dsimp only
  rw [if_neg (by omega), TraceSide.deliver]
  simp only [hc]

/-- A secure descriptor needs the grant and `TRACE_AUTH`. -/
theorem present_secure (hs : descSecurity d ≠ 0) (hg : auth = false ∨ x.trace.grantEnd = none) :
    x.present tap d auth stretch = { x with core := x.core.bump (oTraceSecureDrops + tap + 1) } := by
  have ha : x.admits d auth = false := by
    rw [TraceSide.admits, beq_false_of_ne hs]
    rcases hg with rfl | h
    · rfl
    · rw [h, Bool.and_false]
      rfl
  rw [present_live auth stretch ht he hm hc, if_pos (by rw [ha]; rfl)]

end

/-! ### TRACE.ARM (R207) -/

theorem traceArm_done (o : Ovtan) : ovOps.done o [oTraceArm] = o := rfl
theorem traceInject_done (o : Ovtan) : ovOps.done o [oTraceInject] = o := rfl

theorem command_traceArm {o : Ovtan} {a : Actor} {v : Bytes} {n : Nat} (hv : ofLe v = n) : ovOps.command o a oTraceArm v = (o.onTrace (fun x => x.armWrite n), stOk) := by
  subst hv
  rfl

theorem armWrite_arm {x : TraceSide} (h : x.trace.mode = .done) : x.armWrite 1 = { x with trace := { x.trace with mode := .armed, pre := [], n := 0 } } := by
  unfold TraceSide.armWrite
  rw [h]
  rfl

theorem armWrite_force {x : TraceSide} (h : x.trace.mode = .armed) : x.armWrite 2 = x.trigger 2 0 x.core.ns := by
  unfold TraceSide.armWrite
  rw [h]
  rfl

theorem armWrite_stop {x : TraceSide} (h : x.trace.mode = .capturing) : x.armWrite 3 = x.finish true := by
  unfold TraceSide.armWrite
  rw [h]
  rfl

/-- Arming takes effect in Done alone. -/
theorem armWrite_arm_other {x : TraceSide} (h : x.trace.mode ≠ .done) : x.armWrite 1 = x := by
  unfold TraceSide.armWrite
  cases hm : x.trace.mode with
  | done => exact absurd hm h
  | off => rfl
  | armed => rfl
  | capturing => rfl
  | continuous => rfl

/-- The parts of an Ovtan that trace works on. -/
def Ovtan.traceSide (o : Ovtan) : TraceSide := { core := o.core, buf := o.buf, cap := o.cap, trace := o.trace }

/-- A step of trace turns on what it makes of its parts. -/
theorem onTrace_of {o : Ovtan} {f : TraceSide → TraceSide} {y : TraceSide} (h : f o.traceSide = y) :
    o.onTrace f = { o with core := y.core, buf := y.buf, cap := y.cap, trace := y.trace } := by
  subst h
  rfl

/-! ### Power domains (R212–R214, R251, R253) -/

theorem grows_placeC (c : Core) (b : RecBuf) (r : Record) : c.Grows (placeC c b r).1 := by
  unfold placeC
  dsimp only
  split
  · exact .refl c
  · split
    · split
      · next h => exact (grows_usePair c _ _).trans (grows_ringPut h)
      · exact grows_usePair c _ _
    · exact .refl c

/-- What banks left waiting latch changes capture, and draws values. -/
def TraceSide.Latched (x y : TraceSide) : Prop :=
  y.trace = x.trace ∧ y.core.ns = x.core.ns ∧ y.core.up = x.core.up ∧ y.core.events = x.core.events

/-- Time stands and nothing is raised. -/
def CapSide.Draws (x y : CapSide) : Prop := y.core.ns = x.core.ns ∧ y.core.up = x.core.up ∧ y.core.events = x.core.events

theorem latchDue_draws (x : CapSide) (pick : Nat → Bool) (after : Bool) : x.Draws (latchDue x pick after) := by
  rw [latchDue]
  refine List.foldlRecOn (motive := fun y => x.Draws y) _ _ ⟨rfl, rfl, rfl⟩ fun y hy b _ => ?_
  split
  · exact iteInduction (motive := fun y => x.Draws y) (fun _ => hy) (fun _ => hy)
  · exact hy

theorem latchDue_latched (x : TraceSide) (d : Nat) : x.Latched (x.latchDue d) :=
  ⟨rfl, latchDue_draws { core := x.core, buf := x.buf, cap := x.cap } (fun b => bankDomain x.core b == d) false⟩

theorem emits_marker51 (x : TraceSide) (time flush d subtype : Nat) (prior : Bool) : x.Emits (x.marker51 time flush d subtype prior) :=
  ⟨rfl, grows_placeC .., rfl, rfl, rfl⟩

theorem emits_flushTaps (x : TraceSide) (d : Nat) : x.Emits (x.flushTaps d) := by
  rw [TraceSide.flushTaps]
  exact (emits_drain x _).trans (.foldl (fun y t => (emits_sync y 0x02 t).trans (emits_account ..)) _ _)

/-- A flush of the one domain that flushes ends with its gate. -/
theorem pdComplete_only {x : TraceSide} {d : Nat} {f : Flush} (hf : x.trace.flushes = [f]) (hd : f.domain = d) (hw : f.withdrawn = false) :
    (x.pdComplete d).trace.flushes = [] ∧ (x.pdComplete d).trace.pdReq = x.trace.pdReq ∧
      { domain := d, gate := x.core.ns, waking := false, prior := false } ∈ (x.pdComplete d).trace.gates ∧
      ⟨0x0704, 0x0B, [d, x.core.ns, x.core.up - f.since]⟩ ∈ (x.pdComplete d).core.events := by
  obtain ⟨ht, hns, hup, _⟩ := latchDue_latched x d
  have hfind : (x.latchDue d).trace.flushes.find? (fun f => f.domain == d) = some f := by
    rw [ht, hf, List.find?_cons_of_pos (by rw [hd]; exact beq_self_eq_true d)]
  have he := (emits_flushTaps (x.latchDue d) d).trans (emits_marker51 _ (x.latchDue d).core.ns f.refused d 0x01 false)
  have hrest : (((x.latchDue d).flushTaps d).trace.flushes.filter (fun f => f.domain != d)) = [] := by
    rw [(emits_flushTaps (x.latchDue d) d).flushes, ht, hf]
    simp [hd]
  rw [TraceSide.pdComplete]
  simp only [hfind, hw, hns, hup]
  refine ⟨hrest, (he.pdReq.trans (congrArg TracePart.pdReq ht)), ?_, ?_⟩
  · exact List.mem_append_right _ (List.mem_singleton.mpr rfl)
  · exact List.mem_append_right _ (List.mem_singleton.mpr rfl)

/-- The first edge of the one domain that wakes ends its gate. -/
theorem pdWake_only {x : TraceSide} {d : Nat} {g : Gate} (hg : x.trace.gates = [g]) (hd : g.domain = d) (hw : g.waking = true) :
    (x.pdWake d).trace.gates = [] ∧ ⟨0x0705, 0x0B, [d, x.core.ns - g.gate]⟩ ∈ (x.pdWake d).core.events := by
  obtain ⟨ht, hns, _, _⟩ := latchDue_latched x d
  have hfind : x.trace.gates.find? (fun g => g.domain == d && g.waking) = some g := by
    rw [hg, List.find?_cons_of_pos (by rw [hd, hw]; simp)]
  have hrest : (x.latchDue d).trace.gates.filter (fun g => g.domain != d) = [] := by
    rw [ht, hg]
    simp [hd]
  unfold TraceSide.pdWake
  rw [hfind]
  dsimp only
  constructor
  · exact (TraceSide.Emits.foldl (fun y t => emits_sync y 0x03 t) _ _).gates.trans hrest
  · rw [hns]
    exact (TraceSide.Emits.foldl (fun y t => emits_sync y 0x03 t) _ _).core.mem (List.mem_append_right _ (List.mem_singleton.mpr rfl))

theorem onPower_ready {o : Ovtan} (h : o.bnd.boot = .ready) (f : TraceSide → TraceSide) : o.onPower f = o.onTrace f := by
  rw [Ovtan.onPower, h]

theorem pdRise_begins {x : TraceSide} {d : Nat} (hd : d < 32) (hp : x.trace.pdReq.testBit d = false) (hg : x.cap.gated.testBit d = false) :
    x.pdRise d = { x with trace := { x.trace with pdReq := x.trace.pdReq ||| 2 ^ d, flushes := x.trace.flushes ++ [{ domain := d, since := x.core.up, refused := 0, withdrawn := false }] } } := by
  rw [TraceSide.pdRise, if_neg (by rw [hp, hg]; simpa using hd)]

theorem pdFall_acked {x : TraceSide} {d : Nat} (hp : x.trace.pdReq.testBit d = true) (hg : x.cap.gated.testBit d = true) : x.pdFall d true =
    { x with trace := { x.trace with pdReq := x.trace.pdReq - 2 ^ d, gates := modWhere (fun g => g.domain == d) (fun g => { g with waking := true }) x.trace.gates } } := by
  rw [TraceSide.pdFall, if_neg (by rw [hp, hg]; decide)]
  rfl

theorem pdFall_withdrawn {x : TraceSide} {d : Nat} (hp : x.trace.pdReq.testBit d = true) (hg : x.cap.gated.testBit d = false) : x.pdFall d false =
    { x with trace := { x.trace with pdReq := x.trace.pdReq - 2 ^ d, flushes := modWhere (fun f => f.domain == d) (fun f => { f with withdrawn := true }) x.trace.flushes } } := by
  rw [TraceSide.pdFall, if_neg (by rw [hp, hg]; decide)]
  rfl

theorem pdEdgeTimeout_due {x : TraceSide} {d : Nat} {f : Flush} (hf : x.trace.flushes.find? (fun f => f.domain == d) = some f) (ht : x.core.up ≥ f.since + 1500)
    (hn : x.cap.cgNote.testBit d = false) : x.pdEdgeTimeout d = ({ x with core := x.core.raise 0x0907 0x0B [d] } : TraceSide).pdComplete d := by
  rw [TraceSide.pdEdgeTimeout, hf]
  exact if_pos (by rw [decide_eq_true ht, hn]; rfl)

theorem latchDue_none {x : CapSide} (h : x.cap.latch = none) (pick : Nat → Bool) (after : Bool) : latchDue x pick after = x := by
  rw [latchDue]
  refine List.foldlRecOn (motive := fun y => y = x) _ _ rfl fun y hy b _ => ?_
  subst hy
  rw [h]

theorem cgNote_quiet {o : Ovtan} {d : Nat} (level : Bool) (hd : d < 32) (hl : o.cap.latch = none) (ha : o.buf.alarmed = false) : o.cgNote d level = { o with cap := { o.cap with
    cgNote := if o.cap.cgNote.testBit d = level then o.cap.cgNote else if level then o.cap.cgNote + 2 ^ d else o.cap.cgNote - 2 ^ d } } := by
  have hc : o.onCap (fun x => latchDue x (fun b => bankDomain x.core b == d) false) = o :=
    (onCap_quiet (latchDue_none (x := o.capSide) hl _ _) ha).trans rfl
  rw [Ovtan.cgNote, if_pos hd, hc]
  dsimp only
  rw [ite_self]

/-- The line of a domain shows its level, and the others theirs. -/
theorem cgNote_bits {o : Ovtan} {d : Nat} (level : Bool) (hd : d < 32) (hb : o.bnd.boot ≠ .ready) :
    (∀ i, (o.cgNote d level).cap.cgNote.testBit i = if i = d then level else o.cap.cgNote.testBit i) ∧ (o.cgNote d level).core = o.core ∧ (o.cgNote d level).trace = o.trace := by
  rw [Ovtan.cgNote, if_pos hd, if_neg hb]
  refine ⟨fun i => ?_, rfl, rfl⟩
  show Nat.testBit (if o.cap.cgNote.testBit d = level then o.cap.cgNote else if level then o.cap.cgNote + 2 ^ d else o.cap.cgNote - 2 ^ d) i = _
  split
  · next h =>
    split
    · next hi => rw [hi, h]
    · rfl
  · next h =>
    cases level with
    | true => exact testBit_add_two_pow i (by simpa using h)
    | false => exact testBit_sub_two_pow i (by simpa using h)

/-! ### Export (R217) -/

theorem exportWrite_start {f : Fabato} {d : Bytes} (hd : leAt d 0 1 ≠ 0) (he : f.fwd.exporting = none) (ho : f.fwd.overwritten = none) :
    f.exportWrite d = (({ f with fwd := { f.fwd with exporting := some { desc := d, dest := leAt d 0 1, todo := sortBy (f.fwd.trace.filter (traceHit d)) traceLe } } } : Fabato).exportStatus 1 0, stOk) := by
  rw [Fabato.exportWrite]
  dsimp only
  rw [if_neg hd, if_neg (by rw [he]; decide), ho]
  rfl

theorem leAt_zeros : leAt (zeros 32) 0 1 = 0 := by decide +kernel

theorem exportWrite_cancel {f : Fabato} {x : Export} (he : f.fwd.exporting = some x) :
    f.exportWrite (zeros 32) = (({ f with fwd := { f.fwd with exporting := none } } : Fabato).exportStatus 3 (f.core.num oTraceExportStatus % 2 ^ 62), stOk) := by
  rw [Fabato.exportWrite]
  dsimp only
  rw [if_pos leAt_zeros, he]

theorem exportWrite_idle {f : Fabato} (he : f.fwd.exporting = none) : f.exportWrite (zeros 32) = (f, stOk) := by
  rw [Fabato.exportWrite]
  dsimp only
  rw [if_pos leAt_zeros, he]

theorem exportDone_host {f : Fabato} {x : Export} (he : f.fwd.exporting = some x) (hd : x.dest = 1) :
    f.exportDone = (({ f with g := x.todo.foldl (fun (g : Group) (r : ExtRecord) => g.enqueue r.path.toNat 31 r) f.g, fwd := { f.fwd with exporting := none } } : Fabato)).exportStatus 2 x.todo.length := by
  rw [Fabato.exportDone, he]
  dsimp only
  rw [if_pos hd]
  rfl

/-! ### The Funnel and accounting (R209, R210) -/

theorem nextEntry_head {x : TraceSide} {e : TapEntry} (hq : x.trace.queue.head? = some e) (hf : ∀ y ∈ x.trace.queue, x.trace.flushing (tapDomain x.core y.tap) = false) :
    x.take = ({ x with trace := { x.trace with queue := x.trace.queue.erase e } } : TraceSide).record e := by
  have hn : x.trace.queue.find? (fun e => x.trace.flushing (tapDomain x.core e.tap)) = none := List.find?_eq_none.mpr fun y hy => by simp [hf y hy]
  have he : x.nextEntry = some e := by rw [TraceSide.nextEntry, hn, hq]
  rw [TraceSide.take, he]

/-- Settles O30, command by command. -/
theorem traceCommandsComplete : Obligations.TraceCommandsComplete := by
  intro s e tap d desc value auth stretch level
  have hlen : objLen oTraceArm 1 = true := by decide +kernel
  refine ⟨fun index trig hr ht he hm hc hs hf hv hq => ?_, fun hr ht he hm hc hs hg => ?_, ?_, ?_, ?_, ?_, ?_, ?_, ?_, fun hr ht hs => ?_, fun hr hd hp hg => ?_,
    fun x hr hf hd hw => ?_, fun hr hp hg => ?_, fun g hr hg hd hw => ?_, fun hr hp hg => ?_, fun x hr hf ht hn => ?_, fun hr hd hl ha => ?_, fun hd hb => ?_,
    ?_, fun x => ?_, ?_, fun x hr he hd => ?_, fun o a hg => ?_, fun x hr hq hf => ?_, fun hr ht => ?_⟩
  · refine ov_answers rfl hr ?_
    rw [Ovtan.tapDescriptor, if_pos ht]
    exact onTrace_of (o := { s.ov with bnd := { s.ov.bnd with auth := auth } }) (f := fun x => x.present tap desc auth stretch) (present_queued (x := s.ov.traceSide) auth stretch ht he hm hc hs hf hv hq)
  · refine ov_answers rfl hr ?_
    rw [Ovtan.tapDescriptor, if_pos ht]
    exact onTrace_of (o := { s.ov with bnd := { s.ov.bnd with auth := auth } }) (f := fun x => x.present tap desc auth stretch) (present_secure (x := s.ov.traceSide) auth stretch ht he hm hc hs hg)
  · exact ov_writes_num hlen (by decide) rfl traceArm_done fun o a v hv hok => by
      rw [command_traceArm hv, onTrace_of (armWrite_arm (x := o.traceSide) hok)]
      rfl
  · exact ov_writes_num hlen (by decide) rfl traceArm_done fun o a v hv hok => by
      rw [command_traceArm hv, onTrace_of (armWrite_force (x := o.traceSide) hok)]
      rfl
  · exact ov_writes_num hlen (by decide) rfl traceArm_done fun o a v hv hok => by
      rw [command_traceArm hv, onTrace_of (armWrite_stop (x := o.traceSide) hok)]
      rfl
  · exact ov_writes_num hlen (by decide) rfl traceArm_done fun o a v hv hok => by
      rw [command_traceArm hv, onTrace_of (armWrite_arm_other (x := o.traceSide) hok)]
      rfl
  · exact fb_writes rfl (fb_done (by decide)) (by decide) fun f a _ _ => rfl
  · exact fb_writes rfl (fb_done (by decide)) (by decide) fun f a _ _ => rfl
  · exact fb_writes rfl (fb_done (by decide)) (by decide) fun f a _ _ => rfl
  · refine ov_answers rfl hr (onTrace_of ?_)
    exact if_pos ⟨ht, hs⟩
  · refine ov_answers_any rfl ?_
    rw [onPower_ready hr, onTrace_of (pdRise_begins (x := s.ov.traceSide) hd hp hg)]
    rfl
  · refine ov_answers_any rfl ?_
    obtain ⟨h1, h2, h3, h4⟩ := pdComplete_only (x := s.ov.traceSide) hf hd hw
    rw [onPower_ready hr]
    exact ⟨h1, h2, rfl, rfl, h3, h4⟩
  · refine ov_answers_any rfl ?_
    rw [onPower_ready hr, onTrace_of (pdFall_acked (x := s.ov.traceSide) hp hg)]
    rfl
  · refine ov_answers_any rfl ?_
    obtain ⟨h1, h2⟩ := pdWake_only (x := s.ov.traceSide) hg hd hw
    rw [onPower_ready hr]
    exact ⟨h1, rfl, rfl, h2⟩
  · refine ov_answers_any rfl ?_
    rw [onPower_ready hr, onTrace_of (pdFall_withdrawn (x := s.ov.traceSide) hp hg)]
    rfl
  · refine ov_answers_any rfl ?_
    rw [onPower_ready hr, onTrace_of (pdEdgeTimeout_due (x := s.ov.traceSide) hf ht hn)]
    rfl
  · exact ov_answers_any rfl (cgNote_quiet level hd hl ha)
  · exact ov_answers_any rfl (cgNote_bits level hd hb)
  · exact fb_writes rfl (fb_done (by decide)) (by decide) fun f a _ hok => exportWrite_start hok.1 hok.2.1 hok.2.2
  · exact fb_writes rfl (fb_done (by decide)) (by decide) fun f a _ hok => exportWrite_cancel hok
  · exact fb_writes rfl (fb_done (by decide)) (by decide) fun f a _ hok => exportWrite_idle hok
  · exact fb_answers rfl hr (exportDone_host he hd)
  · obtain ⟨hacc, hperm⟩ := id hg
    obtain ⟨hr, _, _, ⟨x, _, ho, _⟩, _⟩ := hacc
    have hs : s.traceAuth auth = { s with ov := { s.ov with bnd := { s.ov.bnd with auth := auth } } } := onOv_ready (s := s) hr _
    have hauth : o.bnd.auth = auth := by rw [ho]
    have hc : ovOps.command o a oTraceInject value = (o.onTrace (fun x => x.present (leAt value 16 1 % 16) (BitVec.ofNat 128 (leAt value 0 16)) auth false), stOk) := by
      rw [← hauth]
      rfl
    show Host.Outcome.next ((s.traceAuth auth).write .ovtan e oTraceInject value) = _
    rw [hs, ov_write hg, traceInject_done, hc]
    rfl
  · exact ov_answers rfl hr (onTrace_of (nextEntry_head (x := s.ov.traceSide) hq hf))
  · refine ov_answers rfl hr (onTrace_of ?_)
    exact if_pos ht

end Sys2Proof.Machine
end

section
/-! Sessions, locks and the trace grant (R102–R122). -/
namespace Sys2Proof.Machine
open Sys2Proof

/-! ### What closing and opening leave of a unit's core -/

/-- Closing sessions removes them and adds events. -/
theorem closeSessions_eq (c : Core) (p : Session → Bool) (reason : Nat) :
    ∃ ev, c.closeSessions p reason = { c with sessions := c.sessions.filter (fun s => !p s), events := ev } := by
  rw [Core.closeSessions]
  refine List.foldlRecOn (motive := fun d : Core => ∃ ev, d = { c with sessions := c.sessions.filter (fun s => !p s), events := ev }) _ _ ⟨c.events, rfl⟩ fun d hd s _ => ?_
  obtain ⟨ev, rfl⟩ := hd
  dsimp only
  split
  · exact ⟨ev, rfl⟩
  · exact ⟨_, rfl⟩

theorem closeSessions_frame (c : Core) (p : Session → Bool) (reason : Nat) :
    (c.closeSessions p reason).sessions = c.sessions.filter (fun s => !p s) ∧ (c.closeSessions p reason).store = c.store := by
  obtain ⟨ev, h⟩ := closeSessions_eq c p reason
  rw [h]
  exact ⟨rfl, rfl⟩

/-- A HELLO that names an open role leaves its handshake. -/
theorem hello_opens {c : Core} {e : Envelope} {body : Bytes} (hs : sessionError e body.length 32 = stOk) (hc : leAt body 0 1 ≤ 3)
    (hr : c.helloResult e.port (Role.ofCode (leAt body 0 1)) ((leAt body 1 1).testBit 0) (leAt body 12 4) = 0) :
    ∃ h : Handshake, (c.hello e body).handshakes = c.liveHandshakes ++ [h] ∧ h.role = Role.ofCode (leAt body 0 1) ∧ h.tenant = leAt body 12 4 ∧ h.port = e.port ∧
      h.expires = c.up + 10 * secNs := by
  have hbad : (if sessionError e body.length 32 = stOk ∧ leAt body 0 1 > 3 then eMalformed else sessionError e body.length 32) = stOk := by
    rw [if_neg (by omega), hs]
  rw [Core.hello]
  dsimp only
  rw [hbad, if_neg (by decide), hr, if_pos rfl]
  exact ⟨_, rfl, rfl, rfl, rfl, rfl⟩

/-- A PROOF that agrees makes its handshake a session. -/
theorem proof_opens {c d : Core} {e : Envelope} {body : Bytes} {h : Handshake} (hd : d = c.expireSessions) (hs : sessionError e body.length 64 = stOk)
    (hf : d.liveHandshakes.find? (fun h => h.id == e.session && h.port == e.port && decide (h.id ≠ 0)) = some h)
    (hr : Core.proofResult { d with handshakes := d.liveHandshakes.filter (fun g => g.id != h.id) } h body = 0) :
    ∃ n : Session, (c.proof e body).sessions = d.sessions ++ [n] ∧ n.id = h.id ∧ n.role = h.role ∧ n.tenant = h.tenant ∧ n.port = h.port ∧
      n.key = sessionKey (d.openKey h.link h.role) h.transcript ∧ n.openedAt = d.up ∧ n.stage = [] := by
  subst hd
  rw [Core.proof]
  dsimp only
  rw [if_neg (by rw [hs]; decide), hf]
  dsimp only
  rw [if_pos hr]
  cases h.link with
  | true => exact ⟨_, rfl, rfl, rfl, rfl, rfl, rfl, rfl, rfl⟩
  | false => exact ⟨_, rfl, rfl, rfl, rfl, rfl, rfl, rfl, rfl⟩

/-- A CLOSE leaves no session of the id that carries it. -/
theorem closeMessage_closes {c : Core} {e : Envelope} {x : Session × Core} (ha : c.expireSessions.authenticate e 0x12 [] = some x) (hs : sessionError e 0 0 = stOk) :
    ∀ n ∈ (c.closeMessage e).sessions, n.id ≠ x.1.id := by
  intro n hn
  rw [Core.closeMessage] at hn
  dsimp only at hn
  rw [ha] at hn
  dsimp only at hn
  rw [if_neg (by rw [hs]; decide), (closeSessions_frame _ _ _).1] at hn
  obtain ⟨_, hn⟩ := List.mem_filter.mp hn
  simpa using hn

theorem closeNamed_open {c : Core} {id : Nat} (h : c.sessions.any (fun n => n.id == id) = true) : c.closeNamed id = (c.closeSessions (fun n => n.id == id) 4, stOk) := if_pos h

/-- A lock whose time has passed ends. -/
theorem lockEnd_due {c : Core} {p : Port} {r : Role} {t : Nat} (hl : (c.lockOf p r).until? = some t) (ht : c.up ≥ t) :
    ((c.lockEnd p r).lockOf p r).until? = none ∧ (c.lockEnd p r).sessions = c.sessions ∧
      ⟨0x0303, c.dictSub, [r.rank, p.code, (c.lockOf p r).k, 0]⟩ ∈ (c.lockEnd p r).events := by
  have he : c.lockEnd p r = (c.setLock { c.lockOf p r with until? := none }).raise 0x0303 c.dictSub [r.rank, p.code, (c.lockOf p r).k, 0] := by
    rw [Core.lockEnd]
    dsimp only
    rw [hl]
    exact if_pos ht
  obtain ⟨hp, hr⟩ := c.lockOf_owner p r
  rw [he]
  refine ⟨?_, rfl, List.mem_append_right _ (List.mem_singleton.mpr rfl)⟩
  rw [Core.raise_lockOf, Core.setLock_lockOf_same c (l := { c.lockOf p r with until? := none }) hp hr]

theorem linkReply_challenge {f : Fabato} {p : Port} {path : Nat} {body : Bytes} {c : LinkClient}
    (hc : f.fwd.clients.find? (fun c => c.port == p && c.stage == 0 && c.role.rank == leAt body 0 1) = some c) (hl : body.length = 64) (hb : leAt body 1 1 = 0) :
    ∃ w : ForwardPart, w = f.fwd.setClient { c with stage := 1, transcript := c.hello ++ body, session := leAt body 8 4 } ∧
      f.linkReply p path 0x90 body = ({ f with fwd := { w with nextMsg := f.fwd.nextMsg + 1 } } : Fabato).sending (fun u => u.send (.message p 0x11 path
        (messageBytes { port := p, paths := [path], session := leAt body 8 4, msgId := f.fwd.nextMsg, bodyLen := 64 } 0x11 0 (clientProof f.core.keys.tree (c.hello ++ body) ++ zeros 32) ++ zeros 16))) := by
  refine ⟨_, rfl, ?_⟩
  rw [Fabato.linkReply]
  dsimp only
  rw [if_pos rfl, hc]
  dsimp only
  rw [if_neg (by rw [hl, hb]; decide)]

theorem grantExpire_due {o : Ovtan} {t : Nat} (hg : o.trace.grantEnd = some t) (ht : o.core.up ≥ t) :
    o.grantExpire = { o with core := o.core.raise 0x0306 0x09 [0], trace := { o.trace with grantEnd := none } } := by
  rw [Ovtan.grantExpire, hg]
  exact if_pos ht

/-- A grant that is written runs from now (R118). -/
theorem register_traceGrant {o : Ovtan} {v : Bytes} {n : Nat} (hv : ofLe v = n) (hn : n ≠ 0) : ovOps.register o oSessionTraceGrant v =
    { o with core := (o.core.put oSessionTraceGrant v).raise 0x0306 0x09 [n], trace := { o.trace with grantEnd := some (o.core.up + n * secNs) } } := by
  subst hv
  rw [UnitOps.register, ov_done (by decide)]
  show Ovtan.effect { o with core := o.core.put oSessionTraceGrant v } oSessionTraceGrant v = _
  rw [Ovtan.effect]
  simp only [hn, false_and, if_false]
  rfl

/-- Settles O17, command by command. -/
theorem sessionCommandsComplete : Obligations.SessionCommandsComplete := by
  intro s e body id seconds port role
  have hlen : objLen oSessionCloseSession 4 = true ∧ objLen oSessionTraceGrant 4 = true := by decide +kernel
  refine ⟨fun hr h1 h2 h3 => ?_, fun hr h1 h2 h3 => ?_, fun c h hr hc h1 h2 h3 => ?_, fun c h hr hc h1 h2 h3 => ?_, fun x hr hx hs => ?_, fun x hr hx hs => ?_,
    fun hr => ?_, fun hr => ?_, fun hr => ?_, fun hr => ?_, fun hr => ?_, fun hr => ?_, fun hid => ?_, fun hid => ?_, fun t hr hl ht => ?_, fun t hr hl ht => ?_,
    fun c hr hc hl hb => ?_, fun hr => ?_, fun hn hs => ?_, fun t hr hg ht => ?_⟩
  · exact ov_answers rfl hr ⟨rfl, hello_opens h1 h2 h3⟩
  · exact fb_answers rfl hr ⟨rfl, hello_opens h1 h2 h3⟩
  · exact ov_answers rfl hr ⟨rfl, proof_opens hc h1 h2 h3⟩
  · exact fb_answers rfl hr ⟨rfl, proof_opens hc h1 h2 h3⟩
  · exact ov_answers rfl hr ⟨rfl, closeMessage_closes hx hs⟩
  · exact fb_answers rfl hr ⟨rfl, closeMessage_closes hx hs⟩
  · exact ov_answers rfl hr rfl
  · exact fb_answers rfl hr rfl
  · obtain ⟨h1, h2⟩ := closeSessions_frame s.ov.core (fun n => n.id == id && decide (s.ov.core.up ≥ n.lastAt + n.idle * secNs)) 1
    exact ov_answers rfl hr ⟨rfl, rfl, h2, h1⟩
  · obtain ⟨h1, h2⟩ := closeSessions_frame s.fb.core (fun n => n.id == id && decide (s.fb.core.up ≥ n.lastAt + n.idle * secNs)) 1
    exact fb_answers rfl hr ⟨rfl, rfl, h2, h1⟩
  · obtain ⟨h1, h2⟩ := closeSessions_frame s.ov.core (fun n => n.id == id && decide (s.ov.core.up ≥ n.openedAt + n.life * secNs)) 2
    exact ov_answers rfl hr ⟨rfl, rfl, h2, h1⟩
  · obtain ⟨h1, h2⟩ := closeSessions_frame s.fb.core (fun n => n.id == id && decide (s.fb.core.up ≥ n.openedAt + n.life * secNs)) 2
    exact fb_answers rfl hr ⟨rfl, rfl, h2, h1⟩
  · refine ov_writes_num hlen.1 hid rfl (ov_done (by decide)) fun o a v hv hok => ?_
    rw [show ovOps.command o a oSessionCloseSession v = ({ o with core := (o.core.closeNamed (ofLe v)).1 }, (o.core.closeNamed (ofLe v)).2) from rfl, hv, closeNamed_open hok]
  · refine fb_writes_num hlen.1 hid rfl (fb_done (by decide)) (by decide) fun f a v hv hok => ?_
    rw [show fbOps.command f a oSessionCloseSession v = (f.onCore (fun _ => (f.core.closeNamed (ofLe v)).1), (f.core.closeNamed (ofLe v)).2) from rfl, hv, closeNamed_open hok]
    rfl
  · exact ov_answers rfl hr (lockEnd_due hl ht)
  · exact fb_answers rfl hr (lockEnd_due hl ht)
  · exact fb_answers rfl hr (linkReply_challenge hc hl hb)
  · exact fb_answers rfl hr rfl
  · refine ov_sets_num hlen.2 (by omega) rfl fun o a v hv hn' _ => ?_
    rw [register_traceGrant hn' hn, hv]
  · exact ov_answers rfl hr (grantExpire_due hg ht)

end Sys2Proof.Machine
end

section
/-! The Ovtan's boundary: bring-up, the fuse image, CFG frames, the reference (Table 9.5, R245–R258). -/
namespace Sys2Proof.Machine
open Sys2Proof

/-! ### What placing records leaves of the clocks -/

/-- Unit time, powered time and the angle stand. -/
def Core.SameClocks (c c' : Core) : Prop := c'.time = c.time ∧ c'.up = c.up ∧ c'.angle = c.angle

theorem Core.SameClocks.refl (c : Core) : c.SameClocks c := ⟨rfl, rfl, rfl⟩

theorem Core.SameClocks.trans {a b c : Core} (h : a.SameClocks b) (k : b.SameClocks c) : a.SameClocks c :=
  ⟨k.1.trans h.1, k.2.1.trans h.2.1, k.2.2.trans h.2.2⟩

theorem sameClocks_ite {c a b : Core} {p : Prop} [Decidable p] (ha : c.SameClocks a) (hb : c.SameClocks b) : c.SameClocks (if p then a else b) :=
  iteInduction (motive := fun d => c.SameClocks d) (fun _ => ha) (fun _ => hb)

theorem sameClocks_usePair (c : Core) (a b : Nat) : c.SameClocks (c.usePair a b) := by
  unfold Core.usePair
  exact sameClocks_ite ⟨rfl, rfl, rfl⟩ (.refl c)

theorem sameClocks_ringPut {c : Core} {b : RecBuf} {hs : List Held} {r : Core × RecBuf} (h : ringPut c b hs = some r) : c.SameClocks r.1 := by
  unfold ringPut at h
  dsimp only at h
  split at h
  · cases h
    exact (sameClocks_usePair c _ _).trans (sameClocks_ite (.refl _) ⟨rfl, rfl, rfl⟩)
  · cases h

theorem sameClocks_placeC (c : Core) (b : RecBuf) (r : Record) : c.SameClocks (placeC c b r).1 := by
  unfold placeC
  dsimp only
  split
  · exact .refl c
  · split
    · split
      · next h => exact (sameClocks_usePair c _ _).trans (sameClocks_ringPut h)
      · exact sameClocks_usePair c _ _
    · exact .refl c

theorem sameClocks_qualityChange (o : Ovtan) (q : Byte) : o.core.SameClocks (o.qualityChange q).core := by
  unfold Ovtan.qualityChange
  dsimp only
  split
  · exact .refl _
  · exact sameClocks_placeC ..

theorem sameClocks_laneDown (o : Ovtan) (cause : Nat) : o.core.SameClocks (o.laneDown cause).core := by
  show o.core.SameClocks (laneDown o.core o.link.lane 0 0x08 cause).1
  rw [laneDown]
  split
  · exact ⟨rfl, rfl, rfl⟩
  · exact .refl _

/-! ### Entry into Ready (R251) -/

theorem enterReady_cap (o : Ovtan) : o.enterReady.cap = o.cap := by
  unfold Ovtan.enterReady
  refine List.foldlRecOn (motive := fun p : Ovtan => p.cap = o.cap) _ _ ?_ fun p hp g _ => hp
  dsimp only
  split <;> rfl

theorem ready_bnd (o : Ovtan) : o.ready.bnd = { o.bnd with boot := .ready, blocks := blocksIdle } := by
  show { o.enterReady.bnd with blocks := blocksIdle } = _
  rw [enterReady_bnd]

theorem ready_cap (o : Ovtan) : o.ready.cap = o.cap := enterReady_cap o

theorem ready_time (o : Ovtan) : o.ready.core.time.ns = 0 := rfl

/-! ### Bring-up (Table 9.5) -/

theorem aonRelease_opens {o : Ovtan} (h : o.bnd.boot = .reset) :
    o.aonRelease.bnd.boot = .fuseLoad ∧ o.aonRelease.bnd.aon = true ∧ o.aonRelease.bnd.risenAt = o.core.up ∧ o.aonRelease.core = o.core := by
  rw [Ovtan.aonRelease, if_pos h]
  exact ⟨rfl, rfl, rfl, rfl⟩

theorem fuseFrame_good {o : Ovtan} {img : Bytes} (tag : Nat) (hb : o.bnd.boot = .fuseLoad) (hl : img.length = 1024) (hg : fuseGood img = true) :
    o.fuseFrame tag img = ({ o with bnd := { o.bnd with fuse := img, fuseStatus := 0, boot := .selfTest } } : Ovtan).clear.cfgAnswer 2 tag 0 [] := by
  rw [Ovtan.fuseFrame, if_neg (by rw [hb]; decide), if_neg (not_not.mpr hb), if_neg (not_not.mpr hl), if_neg (by rw [hg]; decide)]

theorem fuseTimeout_due {o : Ovtan} (hb : o.bnd.boot = .fuseLoad) (ht : o.core.up ≥ o.bnd.risenAt + 10000000) :
    o.fuseTimeout.bnd.boot = .selfTest ∧ o.fuseTimeout.bnd.fuse = [] ∧ o.fuseTimeout.bnd.fuseStatus = 3 ∧ o.fuseTimeout.core.made = [] := by
  rw [Ovtan.fuseTimeout, if_pos ⟨hb, ht⟩]
  exact ⟨rfl, rfl, rfl, rfl⟩

theorem pllLock_waits {o : Ovtan} (hb : o.bnd.boot ≠ .reset) (hn : ¬(o.bnd.boot = .selfTest ∧ o.bnd.cause = 1 ∧ o.core.flag oPowerBistOnRestart = false)) :
    o.pllLock = { o with bnd := { o.bnd with pll := true } } := by
  rw [Ovtan.pllLock, if_neg hb]
  exact if_neg (by simpa using hn)

theorem pllLock_warm {o : Ovtan} (hb : o.bnd.boot = .selfTest) (hc : o.bnd.cause = 1) (hf : o.core.flag oPowerBistOnRestart = false) :
    o.pllLock = ({ o with bnd := { o.bnd with pll := true } } : Ovtan).ready := by
  rw [Ovtan.pllLock, if_neg (by rw [hb]; decide)]
  exact if_pos ⟨hb, hc, by rw [hf]; rfl⟩

theorem selfTestDone_ready {o : Ovtan} (counters : List Nat) (cols : List (Nat × Nat)) (hb : o.bnd.boot = .selfTest) (hp : o.bnd.pll = true) :
    (o.selfTestDone counters cols).bnd.boot = .ready ∧ (o.selfTestDone counters cols).bnd.blocks = blocksIdle ∧ (o.selfTestDone counters cols).core.time.ns = 0 ∧
      (o.selfTestDone counters cols).cap.repaired = ((counters.filter (fun i => decide (i < 576))).eraseDups).take (32 - ((counters.filter (fun i => decide (576 ≤ i ∧ i < 608))).eraseDups).length) := by
  rw [Ovtan.selfTestDone, if_pos ⟨hb, hp⟩]
  dsimp only
  rw [ready_bnd, ready_cap]
  exact ⟨rfl, rfl, rfl, rfl⟩

/-- In Ready a frame of kind 1 is a message to the unit, which the port answers. -/
theorem mailbox_answers {o : Ovtan} {b : Bytes} (tag : Nat) (hr : o.bnd.boot = .ready) (hl : b.length ≤ 4156) :
    ∃ reply, o.mailbox tag b = (({ o with bnd := { o.bnd with blocks := o.bnd.blocks.set 5 0 } } : Ovtan).receiveBytes .mailbox b).cfgAnswer 1 tag 0 reply := by
  rw [Ovtan.mailbox, if_neg (by rw [hr]; decide), if_neg (not_not.mpr hr), if_neg (Nat.not_lt.mpr hl)]
  exact ⟨_, rfl⟩

/-! ### The reference (R257) -/

theorem refLost_frame {o : Ovtan} (hb : o.bnd.boot ≠ .reset) (hr : o.core.time.refPresent = true) :
    o.refLost.core.time.refPresent = false ∧ o.refLost.bnd.refLost = some o.core.up ∧ o.refLost.bnd.pll = false := by
  rw [Ovtan.refLost, if_neg (by rw [hr]; simpa using hb)]
  dsimp only
  split
  · exact ⟨rfl, rfl, rfl⟩
  · have h (p : Ovtan) (q : Byte) (hp : p.core.time.refPresent = false) (hq : p.bnd.refLost = some o.core.up ∧ p.bnd.pll = false) :
        ((p.qualityChange q).laneDown 4).core.time.refPresent = false ∧ ((p.qualityChange q).laneDown 4).bnd.refLost = some o.core.up ∧
          ((p.qualityChange q).laneDown 4).bnd.pll = false := by
      rw [laneDown_bnd, qualityChange_bnd, ((sameClocks_qualityChange p q).trans (sameClocks_laneDown _ 4)).1]
      exact ⟨hp, hq⟩
    split
    · exact h _ _ rfl ⟨rfl, rfl⟩
    · exact h _ _ rfl ⟨rfl, rfl⟩

theorem refRestored_ready {o : Ovtan} {t : Nat} (hl : o.bnd.refLost = some t) (hb : o.bnd.boot = .ready) :
    o.refRestored.core.time.refPresent = true ∧ o.refRestored.bnd.refLost = none ∧ o.refRestored.bnd.pll = true ∧ ⟨0x0902, 0x08, [o.core.up - t]⟩ ∈ o.refRestored.core.events := by
  rw [Ovtan.refRestored, hl]
  dsimp only
  rw [pllLock_waits (by dsimp only; rw [hb]; decide) (by dsimp only; rw [hb]; exact fun h => nomatch h.1)]
  exact ⟨rfl, rfl, rfl, List.mem_append_right _ (List.mem_singleton.mpr rfl)⟩

/-! ### IRQ pulses (R245) -/

/-- The end of one line's pulse. -/
def Ovtan.lineEnd (o : Ovtan) (i : Nat) : Ovtan :=
  match o.bnd.irq.getD i none with
  | some t => if t ≤ o.core.up then { o with bnd := { o.bnd with irq := o.bnd.irq.set i none }, core := o.core.send (.pin i false) } else o
  | none => o

/-- A line without a pulse, or one that has run out. -/
def Ovtan.lineOver (o : Ovtan) (i : Nat) : Prop := ∀ t, o.bnd.irq.getD i none = some t → t ≤ o.core.up

theorem lineEnd_cases (o : Ovtan) (i : Nat) : o.lineEnd i = o ∨ o.lineEnd i = { o with bnd := { o.bnd with irq := o.bnd.irq.set i none }, core := o.core.send (.pin i false) } := by
  unfold Ovtan.lineEnd
  split
  · split
    · exact .inr rfl
    · exact .inl rfl
  · exact .inl rfl

theorem getD_set_none (l : List (Option Nat)) (i j : Nat) : (l.set j none).getD i none = if i = j then none else l.getD i none := by
  rw [List.getD_eq_getElem?_getD, List.getD_eq_getElem?_getD]
  by_cases h : i = j
  · subst h
    rw [if_pos rfl, List.getElem?_set_self']
    cases l[i]? <;> rfl
  · rw [if_neg h, List.getElem?_set_ne (Ne.symm h)]

theorem lineEnd_irq (o : Ovtan) (i j : Nat) : (o.lineEnd j).core.up = o.core.up ∧ ((o.lineEnd j).bnd.irq.getD i none = o.bnd.irq.getD i none ∨ (o.lineEnd j).bnd.irq.getD i none = none) := by
  rcases lineEnd_cases o j with h | h
  · rw [h]
    exact ⟨rfl, .inl rfl⟩
  · rw [h]
    refine ⟨rfl, ?_⟩
    dsimp only
    rw [getD_set_none]
    split
    · exact .inr rfl
    · exact .inl rfl

theorem lineEnd_over {o : Ovtan} {i : Nat} (h : o.lineOver i) : (o.lineEnd i).bnd.irq.getD i none = none := by
  unfold Ovtan.lineEnd
  split
  · next t ht =>
    rw [if_pos (h t ht)]
    exact (getD_set_none _ _ _).trans (if_pos rfl)
  · next ht => exact ht

theorem foldl_lineEnd_none {i : Nat} (l : List Nat) : ∀ o : Ovtan, o.bnd.irq.getD i none = none → (l.foldl Ovtan.lineEnd o).bnd.irq.getD i none = none := by
  induction l with
  | nil => exact fun o h => h
  | cons j l ih =>
    intro o h
    refine ih _ ?_
    rcases (lineEnd_irq o i j).2 with h' | h'
    · exact h'.trans h
    · exact h'

theorem foldl_lineEnd_over {i : Nat} (l : List Nat) : ∀ o : Ovtan, i ∈ l → o.lineOver i → (l.foldl Ovtan.lineEnd o).bnd.irq.getD i none = none := by
  induction l with
  | nil => exact fun o h => nomatch h
  | cons j l ih =>
    intro o hi ho
    rcases List.mem_cons.mp hi with rfl | hi
    · exact foldl_lineEnd_none l _ (lineEnd_over ho)
    · refine ih _ hi fun t ht => ?_
      obtain ⟨hup, h | h⟩ := lineEnd_irq o i j
      · rw [hup]
        exact ho t (h ▸ ht)
      · rw [h] at ht
        cases ht

/-- Settles O4, command by command. -/
theorem boundaryCommandsComplete : Obligations.BoundaryCommandsComplete := by
  intro s tag image msg counters cols
  refine ⟨?_, fun hb => ?_, fun hb hl hg => ?_, fun hb ht => ?_, fun hb hn => ?_, fun hb hc hf => ?_, fun hb hp => ?_, fun hr hl => ?_, fun hb => ?_, fun hb hr => ?_,
    fun t ht hb => ?_, ?_⟩
  · exact ov_answers_any rfl ⟨rfl, rfl, rfl, rfl, rfl, rfl, rfl, rfl⟩
  · exact ov_answers_any rfl (aonRelease_opens hb)
  · refine ov_answers_any rfl ?_
    rw [fuseFrame_good tag hb hl hg]
    exact ⟨rfl, rfl, rfl, rfl, rfl⟩
  · exact ov_answers_any rfl (fuseTimeout_due hb ht)
  · exact ov_answers_any rfl (pllLock_waits hb hn)
  · refine ov_answers_any rfl ?_
    rw [pllLock_warm hb hc hf, ready_bnd]
    exact ⟨rfl, rfl, ready_time _⟩
  · exact ov_answers_any rfl (selfTestDone_ready counters cols hb hp)
  · obtain ⟨reply, h⟩ := mailbox_answers tag hr hl
    exact ov_answers_any rfl ⟨_, reply, rfl, h⟩
  · refine ov_answers_any rfl ?_
    rw [Ovtan.statusFrame, if_neg hb]
    rfl
  · exact ov_answers_any rfl (refLost_frame hb hr)
  · exact ov_answers_any rfl (refRestored_ready ht hb)
  · refine ov_answers_any rfl fun i hi t ht hle => ?_
    refine foldl_lineEnd_over (List.range 4) s.ov (List.mem_range.mpr hi) fun t' ht' => ?_
    rw [ht] at ht'
    cases ht'
    exact hle

end Sys2Proof.Machine
end

section
/-! A Drizzle lane at either end: training, blocks, hellos, retries, flits and the spill (R264–R281). -/
namespace Sys2Proof.Machine
open Sys2Proof

/-! ### Events at a lane end -/

/-- The Fabato's lane event at a lane that does not leave Up. -/
theorem laneEvent_stays {f : Fabato} {n : Nat} {k : FabLane} {h : Core → Lane → Core × Lane} (hk : f.core.kind = 1) (hl : f.g.lanes[n]? = some k)
    (hs : k.lane.phy.state = .up → (h f.core k.lane).2.phy.state = .up) : f.laneEvent n h = f.withLane n k (h f.core k.lane) := by
  rw [Fabato.laneEvent, if_pos hk]
  refine onG_of ?_
  rw [Group.laneEvent, hl]
  exact if_neg fun hx => hx.2 (hs hx.1)

/-- An event that keeps a lane in Up in Up acts on the lane and the core alone. -/
theorem laneSteps_of {i : UnitSel → Instr} {s : State} {n : Nat} {ok : Core → Lane → Prop} {h₀ h : Nat → Core → Lane → Core × Lane} {go : Ovtan → Ovtan} {gf : Fabato → Fabato}
    (hxo : exec (i .ovtan) s = .next (s.onOv go)) (hxf : exec (i .fabato) s = .next (s.onFb gf)) (ho : ∀ o, go o = o.onLane (h₀ 0)) (hf : ∀ f, gf f = f.laneEvent n (h₀ n))
    (heq : ∀ p c l, ok c l → h₀ p c l = h p c l) (hs : ∀ p c l, ok c l → l.phy.state = .up → (h p c l).2.phy.state = .up) : LaneSteps i s n ok h := by
  refine ⟨fun hr hok => ov_answers hxo hr ?_, fun k ht hok => ?_⟩
  · rw [ho, Ovtan.onLane, heq _ _ _ hok]
    rfl
  · obtain ⟨hr, hkind, hl⟩ := ht
    refine fb_answers hxf hr ?_
    rw [hf, laneEvent_stays hkind hl (fun hup => by rw [heq _ _ _ hok]; exact hs _ _ _ hok hup), heq _ _ _ hok]

/-- An event of a state other than Up. -/
theorem laneSteps_below {i : UnitSel → Instr} {s : State} {n : Nat} {ok : Core → Lane → Prop} {h₀ h : Nat → Core → Lane → Core × Lane} {st : DzState}
    (hx : ∀ u, exec (i u) s = .next (s.lane u n h₀)) (hok : ∀ c l, ok c l → l.phy.state = st) (hst : st ≠ .up) (heq : ∀ p c l, ok c l → h₀ p c l = h p c l) : LaneSteps i s n ok h :=
  laneSteps_of (hx .ovtan) (hx .fabato) (fun _ => rfl) (fun _ => rfl) heq fun _ c l h hup => absurd ((hok c l h).symm.trans hup) hst

/-! ### Items (Table 10.4) -/

/-- An item's fields lie above its type byte. -/
theorem bitsOf_item {lo : Nat} (item t hi : Nat) (ht : t < 256) (hlo : 8 ≤ lo) : bitsOf (item / 256 * 256 + t) hi lo = bitsOf item hi lo := by
  have hd : ∀ k, (item / 256 * 256 + t) / 2 ^ (8 + k) = item / 2 ^ (8 + k) := fun k => by
    rw [Nat.pow_add, ← Nat.div_div_eq_div_mul, ← Nat.div_div_eq_div_mul, show (item / 256 * 256 + t) / 2 ^ 8 = item / 2 ^ 8 by omega]
  obtain ⟨k, rfl⟩ := Nat.exists_eq_add_of_le hlo
  rw [bitsOf, bitsOf, hd]

theorem item_type (item : Nat) {t : Nat} (ht : t < 256) : (item / 256 * 256 + t) % 256 = t := by omega

/-- Credit leaves a lane where it is. -/
theorem credit_state (l : Lane) (a s r x : Nat) : (l.credit a s r x).phy.state = l.phy.state := by
  unfold Lane.credit
  extract_lets
  rfl

/-- A block leaves the state to its caller. -/
theorem block_state (p : LanePhy) (hdr : Nat) (bad : Bool) : (p.block hdr bad).state = p.state := by
  unfold LanePhy.block
  split <;> rfl

/-- A block outside Up, or one that leaves an Up lane locked, counts. -/
theorem laneBlock_counts {c : Core} {l l' : Lane} {hdr uncorr : Nat} (p sub symbols : Nat) (hl : l' = { l with phy := l.phy.block hdr (decide (uncorr > 0)) })
    (hs : l.phy.state = .hello ∨ (l.phy.state = .up ∧ l'.phy.lock = true)) :
    laneBlock p sub hdr symbols uncorr c l = ((c.count (oLinkDzFecSymbols + p + 1) symbols).count (oLinkDzFecUncorr + p + 1) uncorr, l') := by
  subst hl
  unfold laneBlock
  rcases hs with h | ⟨h, hlock⟩
  · rw [h]
    rfl
  · rw [h]
    dsimp only at hlock ⊢
    rw [hlock]
    rfl

theorem laneDown_up {c : Core} {l : Lane} (port sub cause : Nat) (h : l.phy.state = .up) : laneDown c l port sub cause = (c.raise 0x0A02 sub [port, cause], l.down c.up c.ns) := if_pos h

/-- Where the tray puts a lane, it finds it. -/
theorem lanes_withLane {f : Fabato} {n : Nat} {k : FabLane} (x : Core × Lane) (hl : f.g.lanes[n]? = some k) : (f.withLane n k x).g.lanes[n]? = some { k with lane := x.2 } := by
  obtain ⟨hn, _⟩ := List.getElem?_eq_some_iff.mp hl
  exact List.getElem?_set_self hn

/-- Settles O18, command by command. -/
theorem drizzleLaneCommandsComplete : Obligations.DrizzleLaneCommandsComplete := by
  intro s e n item hdr symbols uncorr flits
  have hlen : objLen oLinkDzForceRetrain 4 = true := by decide +kernel
  have hb : ∀ t hi lo, t < 256 → 8 ≤ lo → bitsOf (item / 256 * 256 + t) hi lo = bitsOf item hi lo := fun t hi lo => bitsOf_item item t hi
  refine ⟨?_, ?_, ?_, ?_, ?_, ?_, ?_, ?_, ?_, fun l x hr hl hs hx => ?_, fun k l x ht hl hs hx => ?_, fun hn => ?_, fun hn k => ?_, fun hr hs => ?_, fun k ht hs hd => ?_⟩
  · exact laneSteps_below (fun _ => rfl) (fun _ _ h => h) (by decide) fun _ _ _ h => if_pos h
  · exact laneSteps_below (fun _ => rfl) (fun _ _ h => h.1) (by decide) fun _ _ _ h => if_pos h
  · exact laneSteps_below (fun _ => rfl) (fun _ _ h => h.1) (by decide) fun _ _ _ h => if_pos h
  · exact laneSteps_below (fun _ => rfl) (fun _ _ h => h) (by decide) fun _ _ _ h => if_pos h
  · exact laneSteps_below (fun _ => rfl) (fun _ _ h => h.1) (by decide) fun _ _ _ h => if_pos h
  · refine laneSteps_of (h₀ := fun _ c l => (c, l.credit (bitsOf item 127 104) (bitsOf item 103 80) (bitsOf item 79 56) (bitsOf item 55 32))) rfl rfl (fun o => ?_) (fun f => ?_)
      (fun _ _ _ _ => rfl) fun _ _ l _ h => (credit_state l _ _ _ _).trans h
    · rw [Ovtan.item, item_type item (by decide), hb 1 127 104 (by decide) (by decide), hb 1 103 80 (by decide) (by decide), hb 1 79 56 (by decide) (by decide), hb 1 55 32 (by decide) (by decide)]
      rfl
    · rw [Fabato.item, item_type item (by decide), hb 1 127 104 (by decide) (by decide), hb 1 103 80 (by decide) (by decide), hb 1 79 56 (by decide) (by decide), hb 1 55 32 (by decide) (by decide)]
      rfl
  · refine laneSteps_of (h₀ := fun _ => laneHelloUid (item / 256 * 256 + 6)) rfl rfl (fun o => ?_) (fun f => ?_) (fun _ _ _ h => if_pos h) fun _ _ l h hup => absurd (h.symm.trans hup) (by decide)
    · rw [Ovtan.item, item_type item (by decide)]
      rfl
    · rw [Fabato.item, item_type item (by decide)]
      rfl
  · refine laneSteps_of (h₀ := fun _ => laneResume (bitsOf item 27 16)) rfl rfl (fun o => ?_) (fun f => ?_) (fun _ _ l h => ?_) fun _ _ l h hup => absurd (h.symm.trans hup) (by decide)
    · rw [Ovtan.item, item_type item (by decide), hb 8 27 16 (by decide) (by decide)]
      rfl
    · rw [Fabato.item, item_type item (by decide), hb 8 27 16 (by decide) (by decide)]
      rfl
    · rw [laneResume, if_pos h, show bitsOf item 27 16 % 4096 = bitsOf item 27 16 from Nat.mod_mod ..]
  · refine laneSteps_of (h₀ := fun _ c l => (c, l.retryTimeout c.up)) rfl rfl (fun _ => rfl) (fun _ => rfl) (fun _ c l h => ?_) fun _ _ _ h _ => h.1
    obtain ⟨hs, hne, ht⟩ := h
    rw [Lane.retryTimeout, if_pos (by rw [hs, decide_eq_true ht]; simpa using hne)]
  · subst hx
    refine ov_answers rfl hr ?_
    rw [Ovtan.block, Ovtan.onLane, laneBlock_counts 0 0x08 symbols hl hs]
    rfl
  · obtain ⟨hr, hkind, hk⟩ := ht
    subst hx
    refine fb_answers rfl hr ?_
    have hst : k.lane.phy.state = .up → l.phy.state = .up := fun h => by
      rw [hl]
      exact (block_state ..).trans h
    rw [Fabato.block, laneEvent_stays hkind hk (by rw [laneBlock_counts n 0xFF symbols hl hs]; exact hst), laneBlock_counts n 0xFF symbols hl hs]
    rw [lanes_withLane _ hk]
    dsimp only
    simp only [show (s.fb.withLane n k ((s.fb.core.count (oLinkDzFecSymbols + n + 1) symbols).count (oLinkDzFecUncorr + n + 1) uncorr, l)).core.kind = 1 from hkind, true_and]
  · refine ov_writes_num hlen hn rfl (ov_done (by decide)) fun o a v hv hok => ?_
    show (if o.link.lane.phy.state = .up then ({ o.laneDown 3 with link := { (o.laneDown 3).link with lane := (o.laneDown 3).link.lane.enter .retrain (o.laneDown 3).core.up } }, stOk)
      else (o, stOk)) = _
    rw [if_pos hok, Ovtan.laneDown, Ovtan.onLane, laneDown_up _ _ _ hok]
    rfl
  · refine fb_writes_num hlen (by omega) rfl (fb_done (by decide)) (by decide) fun f a v hv hok => ?_
    obtain ⟨hk, hup⟩ := hok
    show (match f.g.lanes[ofLe v]? with
      | some l => if l.lane.phy.state = DzState.up then (({ f with g := (f.g.dzDown (ofLe v) 3).onLane (ofLe v) (fun l => { l with lane := l.lane.enter .retrain f.up }) } : Fabato), stOk) else (f, stOk)
      | none => (f, eRange)) = _
    rw [hv, hk]
    exact if_pos hup
  · refine ov_answers rfl hr ?_
    rw [Ovtan.laneDown, Ovtan.onLane, laneDown_up _ _ _ hs]
    rfl
  · obtain ⟨hr, hkind, hk⟩ := ht
    refine fb_answers rfl hr ?_
    rw [Fabato.laneEvent, if_pos hkind]
    refine onG_of (y := (s.fb.withLane n k (s.fb.core.raise 0x0A02 0xFF [n, 2], k.lane.down s.fb.core.up s.fb.core.ns)).g.laneLeft n) ?_
    rw [Group.laneEvent, hk]
    dsimp only
    rw [laneDown_up _ _ _ hs]
    exact if_pos ⟨hs, hd⟩

end Sys2Proof.Machine
end

section
/-! What crosses a Drizzle lane in Up, and the spill of a lane that stays down (R267–R281). -/
namespace Sys2Proof.Machine
open Sys2Proof

/-! ### Flits at a lane (R268, R273) -/

/-- A good data flit acknowledges and is taken. -/
theorem laneFlit_data {c : Core} {l : Lane} {b : Bytes} (p : Nat) (hs : l.phy.state = .up) (hg : flitGood b = true) (hk : (flitHead b).kind = 0) :
    laneFlit p b c l = (c, (if (flitHead b).ackValid then { l with tx := l.tx.acked (flitHead b).ack (flitHead b).nak c.up } else l).acceptData
      (flitHead b).seq (flitHead b).old (slice b 4 248) c.ns, true) := by
  unfold laneFlit
  rw [if_neg (by rw [hs]; simp), if_neg (by rw [hg]; simp)]
  exact if_pos hk

/-- A flit whose check fails is counted. -/
theorem laneFlit_bad {c : Core} {l : Lane} {b : Bytes} (p : Nat) (hs : l.phy.state = .up) (hg : flitGood b = false) :
    laneFlit p b c l = (c.bump (oLinkDzCrcErrors + p + 1), l, false) := by
  unfold laneFlit
  rw [if_neg (by rw [hs]; simp), if_pos (by rw [hg]; simp)]

/-! ### HELLO_INFO (R274–R276) -/

/-- The lane that has heard the HELLO_INFO item. -/
def Lane.heardInfo (l : Lane) (item : Nat) : Lane := { l with phy := { l.phy with peerInfo := leBytes 16 item, echo := true } }

theorem laneHelloInfo_first {c : Core} {l : Lane} {item : Nat} (p sub : Nat) (hs : l.phy.state = .hello) (he : item.testBit 16 = false) :
    laneHelloInfo p sub item c l = (c, l.heardInfo item, none) := by
  unfold laneHelloInfo
  rw [if_neg (by rw [hs]; simp)]
  dsimp only
  exact if_neg (by rw [he]; simp)

theorem laneHelloInfo_echo {c : Core} {l : Lane} {item : Nat} (p sub : Nat) (hs : l.phy.state = .hello) (he : item.testBit 16 = true) :
    (laneHelloInfo p sub item c l).2.1 = ((l.heardInfo item).goUp c.up (bitsOf item 127 96)).1 ∧ ∃ b, (laneHelloInfo p sub item c l).2.2 = some b := by
  unfold laneHelloInfo
  rw [if_neg (by rw [hs]; simp)]
  dsimp only
  rw [if_pos he]
  exact ⟨rfl, _, rfl⟩

/-- A bit above the type byte of an item is the item's own. -/
theorem testBit_item (item t k : Nat) (ht : t < 256) (hk : 8 ≤ k) : (item / 256 * 256 + t).testBit k = item.testBit k := by
  have h := bitsOf_item item t k ht hk
  rw [bitsOf, bitsOf, show k + 1 - k = 1 by omega] at h
  rw [Nat.testBit_eq_decide_div_mod_eq, Nat.testBit_eq_decide_div_mod_eq, show (item / 256 * 256 + t) / 2 ^ k % 2 = item / 2 ^ k % 2 from h]

theorem item_timeReq {o : Ovtan} {v : Nat} (h : v % 256 = 2) : o.item v = o.timeReq (bitsOf v 63 40) := by
  unfold Ovtan.item
  rw [h]
  rfl

theorem item_helloInfo {o : Ovtan} {v : Nat} (h : v % 256 = 7) : o.item v = o.helloInfo v := by
  unfold Ovtan.item
  rw [h]
  rfl

theorem fabato_item_helloInfo {f : Fabato} {n v : Nat} (h : v % 256 = 7) : f.item n v = f.helloInfo n v := by
  unfold Fabato.item
  rw [h]
  rfl

/-! ### Sending (R271, R273) -/

/-- A tray's lane sends its next flit. -/
theorem transmit_tray {f : Fabato} {n : Nat} {slot0 : Bool} {y : Group} (hk : f.core.kind = 1) (h : f.g.transmit n slot0 = y) : f.transmit n slot0 = f.onG (fun _ => y) := by
  rw [Fabato.transmit, if_pos hk]
  exact onG_of h

/-- Settles O19, command by command. -/
theorem drizzleFlitCommandsComplete : Obligations.DrizzleFlitCommandsComplete := by
  intro s n item b slot0
  have hb : ∀ t hi lo, t < 256 → 8 ≤ lo → bitsOf (item / 256 * 256 + t) hi lo = bitsOf item hi lo := fun t hi lo => bitsOf_item item t hi
  refine ⟨fun l hr hs hg hk hl => ?_, fun k l ht hs hg hk hl => ?_, fun hr hs hg => ?_, fun hr hs => ?_, fun hr hs he => ?_, fun l hr hs he hl => ?_, fun k ht hs he => ?_,
    fun hr hs => ?_, fun hr hs hc hn => ?_, fun x l hr hs hc hx hlim => ?_, fun k ht hs => ?_, fun k x l ht hs hc hx hlim => ?_, fun t r hr ht hsp hup hx => ?_⟩
  · subst hl
    refine ov_answers rfl hr ?_
    rw [Ovtan.flit, laneFlit_data 0 hs hg hk]
    rfl
  · obtain ⟨hr, hkind, hlane⟩ := ht
    subst hl
    refine fb_answers rfl hr ?_
    rw [Fabato.flit, hlane]
    dsimp only
    rw [if_neg (by rw [hkind]; simp), laneFlit_data n hs hg hk]
    rfl
  · refine ov_answers rfl hr ?_
    rw [Ovtan.flit, laneFlit_bad 0 hs hg]
    dsimp only
    rw [if_neg (by simp), if_neg (by rw [isControl, hg]; simp)]
    exact ⟨rfl, rfl, rfl⟩
  · refine ov_answers rfl hr ?_
    rw [item_timeReq (item_type item (by decide)), hb 2 63 40 (by decide) (by decide), Ovtan.timeReq, if_neg (by rw [hs]; simp)]
    dsimp only
    rw [show bitsOf item 63 40 % 2 ^ 24 = bitsOf item 63 40 from Nat.mod_mod ..]
  · refine ov_answers rfl hr ?_
    rw [item_helloInfo (item_type item (by decide)), Ovtan.helloInfo, laneHelloInfo_first 0 8 hs (by rw [testBit_item item 7 16 (by decide) (by decide)]; exact he)]
    rfl
  · subst hl
    refine ov_answers rfl hr ?_
    rw [item_helloInfo (item_type item (by decide))]
    obtain ⟨hlane, fresh, hup⟩ := laneHelloInfo_echo (c := s.ov.core) 0 8 hs (by rw [testBit_item item 7 16 (by decide) (by decide)]; exact he)
    rw [Ovtan.helloInfo]
    dsimp only
    rw [hup, hb 7 47 40 (by decide) (by decide), hb 7 95 64 (by decide) (by decide)]
    rw [hb 7 127 96 (by decide) (by decide)] at hlane
    exact ⟨hlane, rfl, rfl, rfl⟩
  · obtain ⟨hr, hkind, hlane⟩ := ht
    refine fb_answers rfl hr ⟨_, rfl, ?_⟩
    rw [fabato_item_helloInfo (item_type item (by decide)), Fabato.helloInfo, hlane]
    dsimp only
    rw [if_neg (by rw [hkind, hs]; simp), laneHelloInfo_first n 0xFF hs (by rw [testBit_item item 7 16 (by decide) (by decide)]; exact he)]
    rfl
  · refine ov_answers rfl hr ?_
    rw [Ovtan.transmit]
    rcases hs with h | h | ⟨h, hc⟩
    · rw [h]
    · rw [h]
    · rw [h]
      exact if_pos hc
  · refine ov_answers rfl hr ?_
    rw [Ovtan.transmit]
    dsimp only
    rw [hs, hn]
    exact if_neg (by rw [hc]; simp)
  · refine ov_answers rfl hr ?_
    rw [Ovtan.transmit]
    dsimp only
    rw [hs, hx]
    dsimp only
    rw [if_neg (by rw [hc]; simp), if_neg (by omega)]
    rfl
  · obtain ⟨hr, hkind, hlane⟩ := ht
    refine fb_answers rfl hr ((transmit_tray hkind (y := s.fb.g.sendControl n k slot0) ?_).trans (onG_of (h := fun g => g.sendControl n k slot0) rfl).symm)
    rw [Group.transmit, hlane]
    dsimp only
    rcases hs with h | h | ⟨h, hc⟩
    · rw [h]
    · rw [h]
    · rw [h]
      exact if_pos hc
  · obtain ⟨hr, hkind, hlane⟩ := ht
    refine fb_answers rfl hr ((transmit_tray hkind (y := { s.fb.g with core := (s.fb.core.bump (oLinkDzResent + n + 1)).send (.flit n x.seq x.old (x.ends.map (fun h => h.base))), lanes := s.fb.g.lanes.set n { k with lane := l } }) ?_).trans rfl)
    rw [Group.transmit, hlane]
    dsimp only
    rw [hs, hx]
    dsimp only
    rw [if_neg (show ¬ k.lane.controlDue (s.fb.g.core.num oLinkACredits) slot0 = true from fun h => Bool.noConfusion (hc.symm.trans h))]
    exact if_neg (show ¬ x.sends > s.fb.core.num oLinkDzRetryLimit from Nat.not_lt.mpr hlim)
  · subst hx
    refine ov_answers rfl hr ?_
    rw [Ovtan.spillAfter, ht]
    exact if_pos ⟨hr, by rw [hsp]; rfl, hup⟩

end Sys2Proof.Machine
end

section
/-! The Loft's slots and the calls of its programs (R299–R305). -/
namespace Sys2Proof.Machine
open Sys2Proof

/-! ### A slot -/

theorem slot_onSlot_same {f : Fabato} {i : Nat} (h : LoftSlot → LoftSlot) (hi : i < f.loft.length) : (f.onSlot i h).slot i = h (f.slot i) := by
  show (modAt f.loft i h).getD i _ = h (f.loft.getD i _)
  rw [modAt, List.getD_eq_getElem?_getD, List.getD_eq_getElem?_getD, List.getElem?_modify_eq, List.getElem?_eq_getElem hi]
  rfl

theorem slot_onSlot_other {f : Fabato} {i j : Nat} (h : LoftSlot → LoftSlot) (hj : j ≠ i) : (f.onSlot i h).slot j = f.slot j := by
  show (modAt f.loft i h).getD j _ = f.loft.getD j _
  rw [modAt, List.getD_eq_getElem?_getD, List.getD_eq_getElem?_getD, List.getElem?_modify_ne (f := h) (l := f.loft) hj.symm]

theorem length_onSlot (f : Fabato) (i : Nat) (h : LoftSlot → LoftSlot) : (f.onSlot i h).loft.length = f.loft.length := List.length_modify ..

/-! ### The slot's objects -/

theorem loftCtrl_len : ∀ slot < 16, objLen (oLoftSlotCtrl + slot + 1) 1 = true := by decide +kernel

theorem loftSlot_fields {o : Nat} (ho : o = oLoftSlotLoad ∨ o = oLoftSlotCtrl) :
    ∀ slot < 16, objArea (o + slot + 1) = 0x1D ∧ objElem (o + slot + 1) = slot + 1 ∧ (o + slot + 1) / 256 * 256 = o := by
  rcases ho with rfl | rfl <;> decide

theorem loftSlot_done {o slot : Nat} (ho : o = oLoftSlotLoad ∨ o = oLoftSlotCtrl) (h : slot < 16) (f : Fabato) : fbOps.done f [o + slot + 1] = f :=
  fb_done (by rw [(loftSlot_fields ho slot h).1]; decide) f

theorem loftSlot_uncut {o slot : Nat} (ho : o = oLoftSlotLoad ∨ o = oLoftSlotCtrl) (h : slot < 16) : o + slot + 1 ≠ oCutRequest ∧ o + slot + 1 ≠ oCutCancel := by
  have ha := (loftSlot_fields ho slot h).1
  constructor <;> (intro he; rw [he] at ha; revert ha; decide)

theorem command_loft {o slot : Nat} (ho : o = oLoftSlotLoad ∨ o = oLoftSlotCtrl) (h : slot < 16) (f : Fabato) (a : Actor) (v : Bytes) :
    fbOps.command f a (o + slot + 1) v = if o = oLoftSlotLoad then f.loftLoad slot v else f.loftCtrl slot (ofLe v) := by
  obtain ⟨harea, helem, hbase⟩ := loftSlot_fields ho slot h
  rw [fb_command (by intro he; rw [he] at harea; revert harea; decide)]
  unfold Fabato.command
  dsimp only
  rw [harea, helem, hbase]
  rcases ho with rfl | rfl <;> rfl

/-- A number written to a slot's control object does what the number names. -/
theorem loftCtrl_writes {i : Instr} {s : State} {e : Envelope} {slot n : Nat} {ok : Fabato → Actor → Prop} {h : Fabato → Actor → Fabato × Nat} (hs : slot < 16) (hn : n < 256)
    (hx : exec i s = .next (s.writeNum .fabato e (oLoftSlotCtrl + slot + 1) n)) (hh : ∀ f a, ok f a → f.loftCtrl slot n = h f a) :
    FbWrites i s e (oLoftSlotCtrl + slot + 1) (s.objBytes .fabato (oLoftSlotCtrl + slot + 1) n) ok h :=
  fb_writes_num (loftCtrl_len slot hs) hn hx (loftSlot_done (.inr rfl) hs) (loftSlot_uncut (.inr rfl) hs) fun f a v hv hok => by
    rw [command_loft (.inr rfl) hs, if_neg (by decide), hv]
    exact hh f a hok

/-! ### Calls -/

/-- A fault leaves the slot faulted and the others alone, with its event. -/
theorem loftFault_running {f : Fabato} {slot k : Nat} (code pc : Nat) (hk : (f.slot slot).core = some k) (hs : (f.slot slot).state = 3) :
    f.loftFault slot code pc = ((f.loftLeave slot 5).loftCount slot code).raise 0x0B05 (0x40 + k) [slot, code, pc] := by
  rw [Fabato.loftFault, hk]
  exact if_pos hs

/-- The slot after its fault. -/
def LoftSlot.faulted (x : LoftSlot) (code : Nat) : LoftSlot := { x with state := 5, core := none, paused := false, sleep := none, fault := code }

theorem slot_faulted {f : Fabato} {slot : Nat} (code : Nat) (hl : slot < f.loft.length) : ((f.loftLeave slot 5).loftCount slot code).slot slot = (f.slot slot).faulted code :=
  (slot_onSlot_same (f := f.loftLeave slot 5) (fun x => { x with fault := code }) (by rw [Fabato.loftLeave, length_onSlot]; exact hl)).trans
    (congrArg (fun x : LoftSlot => ({ x with fault := code } : LoftSlot)) (slot_onSlot_same (fun x => { x with state := 5, core := none, paused := false, sleep := none }) hl))

theorem slot_unfaulted {f : Fabato} {slot i : Nat} (code : Nat) (hi : i ≠ slot) : ((f.loftLeave slot 5).loftCount slot code).slot i = f.slot i :=
  (slot_onSlot_other (f := f.loftLeave slot 5) (fun x => { x with fault := code }) hi).trans (slot_onSlot_other _ hi)

/-- Settles O24, command by command. -/
theorem loftCommandsComplete : Obligations.LoftCommandsComplete := by
  intro s e slot t element value pc code chunk b hslot
  refine ⟨?_, ?_, fun k => ?_, ?_, ?_, fun o x op summary body hr hrun ho hp => ?_, fun hr hrun => ?_, fun hr hrun he => ?_, fun hr hrun ht => ?_, fun hr hrun ht => ?_,
    fun hr hrun => ?_, fun hr hrun => ?_, fun hr hsl ht => ?_, fun k hr hl hk hs => ?_, fun hr => ?_⟩
  · refine fb_writes rfl (loftSlot_done (.inl rfl) hslot) (loftSlot_uncut (.inl rfl) hslot) fun f a _ hok => ?_
    obtain ⟨hst, hlen, hroom⟩ := hok
    rw [command_loft (.inl rfl) hslot, if_pos rfl, Fabato.loftLoad]
    rw [if_neg (by omega), if_neg (by omega)]
  · refine loftCtrl_writes hslot (by decide) rfl fun f a hok => ?_
    obtain ⟨hst, himg⟩ := hok
    rw [show f.loftCtrl slot 1 = f.loftInstall slot from rfl, Fabato.loftInstall]
    rw [if_neg (by omega), if_pos himg]
  · refine loftCtrl_writes hslot (by decide) rfl fun f a hok => ?_
    obtain ⟨hst, hcore⟩ := hok
    rw [show f.loftCtrl slot 2 = f.loftStart slot from rfl, Fabato.loftStart]
    rw [if_neg (by omega), hcore]
  · exact loftCtrl_writes hslot (by decide) rfl fun f a hok => if_pos ⟨hslot, hok⟩
  · exact loftCtrl_writes hslot (by decide) rfl fun f a hok => if_pos ⟨hslot, hok⟩
  · subst ho
    refine fb_answers rfl hr ⟨_, rfl, ?_⟩
    rw [Fabato.loftMessage, if_neg (by rw [hrun]; simp), if_neg (by simp)]
    dsimp only
    rw [hp]
  · refine fb_answers rfl hr ?_
    rw [Fabato.loftMessage, if_neg (by rw [hrun]; simp)]
    rfl
  · refine fb_answers rfl hr ?_
    rw [Fabato.loftOutput, if_neg (by rw [hrun]; simp), if_neg (by omega)]
    rfl
  · refine fb_answers rfl hr ?_
    rw [Fabato.loftSleep, if_neg (by rw [hrun]; simp), if_neg (by omega)]
  · refine fb_answers rfl hr ?_
    rw [Fabato.loftSleep, if_neg (by rw [hrun]; simp), if_pos ht]
    rfl
  · refine fb_answers rfl hr ?_
    rw [Fabato.loftExit, if_neg (by rw [hrun]; simp)]
    rfl
  · exact fb_answers rfl hr (if_pos hrun)
  · refine fb_answers rfl hr ?_
    rw [Fabato.loftWake, hsl]
    exact if_pos ht
  · refine fb_answers rfl hr ?_
    rw [loftFault_running code pc hk hs]
    refine ⟨?_, ?_, ?_, fun i hi => slot_unfaulted code hi, List.mem_append_right _ (List.mem_singleton_self _)⟩
    · exact congrArg LoftSlot.state (slot_faulted code hl)
    · exact congrArg LoftSlot.core (slot_faulted code hl)
    · exact congrArg LoftSlot.fault (slot_faulted code hl)
  · exact fb_answers rfl hr rfl

end Sys2Proof.Machine
end

section
/-! Step markers and the angle at either unit (R145–R175). -/
namespace Sys2Proof.Machine
open Sys2Proof

theorem len_softMarker : objLen oAngleSoftMarker 4 = true := by decide +kernel

/-! ### The Ovtan's marker -/

theorem marker_off {o : Ovtan} {num : Nat} (soft : Bool) (ha : (o.core.classify o.core.ns (num % 2 ^ 32)).accepted = true) (hm : o.core.angle.mode = .off) :
    o.marker num soft = commitsAtMarker ovOps0 { o.cutsAtMarker o.core.ns (num % 2 ^ 32) with core :=
      { (o.cutsAtMarker o.core.ns (num % 2 ^ 32)).core.noteMarker (o.core.classify o.core.ns (num % 2 ^ 32)) o.core.ns (num % 2 ^ 32) with angle :=
        { ((o.cutsAtMarker o.core.ns (num % 2 ^ 32)).core.noteMarker (o.core.classify o.core.ns (num % 2 ^ 32)) o.core.ns (num % 2 ^ 32)).angle with step := num % 2 ^ 32 } } } := by
  unfold Ovtan.marker
  dsimp only
  rw [if_neg (by rw [ha]; simp), if_pos hm]

/-! ### A member's marker report (R171) -/

/-- The first report of a step opens a window. -/
theorem markerReport_opens {f : Fabato} {member step time : Nat} (hm : f.refMember member = true) (hc : f.g.win.closed = []) (ho : f.g.win.opens = [])
    (hp : ∃ m ∈ f.refPresent, m ≠ member) :
    f.markerReport member step time = f.onG (fun g => { g with win := { g.win with closed := [], opens := [{ step := step, at_ := f.up, reports := [(member, time)] }] } }) := by
  obtain ⟨m, hmem, hne⟩ := hp
  rw [Fabato.markerReport, if_neg (by rw [hm]; simp)]
  simp only [hc, List.find?_nil, List.filter_nil, ho, Fabato.onG, List.any_nil, Bool.false_eq_true, if_false, List.nil_append, modWhere, List.map_cons, List.map_nil, BEq.rfl, Bool.not_false, Bool.and_self, if_true, List.find?_cons]
  refine if_neg fun h => ?_
  have := List.all_eq_true.mp h m hmem
  simp at this
  exact hne this

/-! ### The group's schedule (R533) -/

/-- One angle entry is due and none of the time entries. -/
theorem fireEntries_one {f : Fabato} {x : ArmedEntry} (hl : f.core.angle.isLocked = true) (hd : dueEntries f.core.angle.armed f.ns = [x]) (ht : f.core.angle.timed = []) :
    f.fireEntries f.ns true = (f.onCore (fun c => { c with angle := { c.angle with
      armed := c.angle.armed.map (fun y => if y.fire ≤ f.ns then { y with handed := true } else y) } })).groupSample x.entry x.fire x.angle false := by
  have hn : (if (true && f.core.angle.mode != .off) = true then
      f.core.angle.timed.map (fun (e : ArmedEntry) => if e.fire ≤ f.ns then { e with fire := e.fire + Nat.max 1 (f.core.entry e.entry).period } else e)
    else f.core.angle.timed) = f.core.angle.timed := by rw [ht]; exact ite_self _
  have hnone : dueEntries f.core.angle.timed f.ns = [] := by rw [ht]; rfl
  rw [Fabato.fireEntries]
  dsimp only
  rw [hn, if_pos hl, if_pos hl, hd, hnone, ite_self, List.map_nil, List.append_nil, List.map_cons, List.map_nil, sortBy_single, List.foldl_cons, List.foldl_nil]
  rfl

/-- Settles O27, command by command. -/
theorem stepCommandsComplete : Obligations.StepCommandsComplete := by
  intro s e num member time
  refine ⟨fun hr ha => ?_, fun x hr ha hm hx => ?_, fun k x y z hr hk ha hm hns hx hy hz hmode => ?_, fun hn => ?_, fun hn => ?_, fun hr => ?_, fun hr => ?_, fun hr hm ho ht hk => ?_,
    fun hr hm ho ht hk => ?_, fun hr hm hc ho hp => ?_, fun hr hl => ?_, fun hr hm => ?_, fun w hr hw ht => ?_, fun x hr hl hd ht => ?_⟩
  · refine ov_answers rfl hr ?_
    rw [Ovtan.marker]
    exact if_pos (by rw [ha]; rfl)
  · subst hx
    exact ov_answers rfl hr ⟨_, rfl, marker_off false ha hm⟩
  · subst hk hx hy
    refine ov_answers rfl hr ⟨_, rfl, ?_⟩
    rw [Ovtan.marker]
    dsimp only
    rw [if_neg (by rw [ha]; simp), if_neg hm, if_neg hns, if_neg hns]
    subst hz
    exact if_neg hmode
  · exact ov_writes_num len_softMarker hn rfl (ov_done (by decide)) fun o a v hv _ => by rw [← hv]; rfl
  · exact fb_writes_num len_softMarker hn rfl (fb_done (by decide)) (by decide) fun f a v hv _ => by rw [← hv]; rfl
  · exact ov_answers rfl hr rfl
  · exact fb_answers rfl hr rfl
  · refine ov_answers rfl hr ?_
    rw [Ovtan.onCore, Core.overdue]
    dsimp only
    rw [if_pos (by rw [hm, ho, decide_eq_true ht]; rfl), if_pos hk]
  · refine fb_answers rfl hr (congrArg (fun c : Core => s.fb.onCore (fun _ => c)) (?_ : s.fb.core.overdue = _))
    rw [Core.overdue]
    dsimp only
    rw [if_pos (by rw [hm, ho, decide_eq_true ht]; rfl), if_neg hk]
    rfl
  · refine fb_answers rfl hr ?_
    rw [markerReport_opens hm hc ho hp]
    exact ⟨rfl, rfl, rfl⟩
  · refine ov_answers rfl hr ⟨_, rfl, ?_⟩
    rw [Ovtan.handAngle]
    exact if_neg (by rw [hl]; simp)
  · refine ov_answers rfl hr ⟨_, _, rfl, rfl, ?_⟩
    rw [Ovtan.handTimed]
    exact if_neg hm
  · refine fb_answers rfl hr ?_
    rw [Fabato.windowWait, hw]
    exact if_pos ht
  · exact fb_answers rfl hr (fireEntries_one hl hd ht)

end Sys2Proof.Machine
end

section
/-! Halo time at either unit: PTP, the lane's exchange, items, references, triggers and outputs (R125–R153, R531). -/
namespace Sys2Proof.Machine
open Sys2Proof

/-! ### Events of a group -/

/-- Two events that agree on a Fabato's group agree on the Fabato. -/
theorem onG_congr {f : Fabato} {h k : Group → Group} (e : h f.g = k f.g) : f.onG h = f.onG k := by
  rw [Fabato.onG, e]
  rfl

theorem onLane_of_get {g : Group} {n : Nat} {l : FabLane} (h : FabLane → FabLane) (hl : g.lanes[n]? = some l) : g.onLane n h = { g with lanes := g.lanes.set n (h l) } := by
  rw [Group.onLane, modAt_of_get h hl]

theorem set_of_get {α : Type} {l : List α} {n : Nat} {x : α} (h : l[n]? = some x) : l.set n x = l := by
  obtain ⟨hn, rfl⟩ := List.getElem?_eq_some_iff.mp h
  exact List.set_getElem_self hn

/-! ### PTP (R128, R140) -/

theorem ptp_followUp {g : Group} {p seq t1 t2 : Nat} (hs : (g.ptpPort p).sync = some (seq, t2)) (hu : g.core.time.useP1 = false) (hp : g.slavePort = some p) :
    g.ptp p (.followUp seq t1) = (g.setPtp { g.ptpPort p with sync := none, lastSync := some (t1, t2), heard := some g.core.up }).ownExchange (g.core.num oTimePhaseSrc)
      ((t2 : Int) - t1 - (g.ptpPort p).meanDelay) (g.ptpPort p).meanDelay := by
  have hback : ¬(g.core.num oTimePhaseSrc == 0 && g.core.time.useP1 && g.core.parentPort false == some p) = true := by rw [hu]; simp
  rw [Group.ptp, hs]
  refine (if_pos rfl).trans ?_
  rw [Group.syncDone]
  dsimp only
  rw [if_neg hback]
  exact if_pos hp

theorem ptp_pdelayRespFollowUp {g : Group} {p seq t1 t2 t3 t4 : Nat} (hq : (g.ptpPort p).req = some (seq, t1)) (hr : (g.ptpPort p).resp = some (t2, t4)) :
    g.ptp p (.pdelayRespFollowUp seq t3) = g.setPtp { g.ptpPort p with meanDelay := (((t4 : Int) - t1) - ((t3 : Int) - t2)).fdiv 2, req := none, resp := none } := by
  rw [Group.ptp, hq, hr]
  exact if_pos rfl

theorem ptpDue_slave {g : Group} {p : Nat} (ht : g.core.up ≥ (g.ptpPort p).lastDue + g.core.syncNs) (hp : g.slavePort = some p) (h : p < 24) :
    g.ptpDue p = ({ g with core := g.core.send (.ptp p 2 [((g.ptpPort p).seq + 1) % 65536, (correctStamp g.core (g.core.ptpCal p) g.core.ns).toNat]) } : Group).setPtp
      { g.ptpPort p with seq := ((g.ptpPort p).seq + 1) % 65536, req := some (((g.ptpPort p).seq + 1) % 65536, (correctStamp g.core (g.core.ptpCal p) g.core.ns).toNat), resp := none, lastDue := g.core.up } := by
  rw [Group.ptpDue]
  dsimp only
  rw [if_neg (by omega), if_pos (.inl hp), if_neg (by omega)]

/-! ### The lane's exchange (R136, R137) -/

/-- A response in order is an exchange with the member. -/
theorem timeRsp_accepted {g : Group} {n t1 t2 d id stepId : Nat} {l : FabLane} {m : MemberServo} {x : Int × Int} (hl : g.lanes[n]? = some l) (hw : l.waiting = true) (hs : l.step = none)
    (hid : id = l.exch) (hm : g.halo.members[n]? = some m) (ht : m.t1 = some t1) (hx : x = exchangeOf t1 t2 (t2 + d) (correctStamp g.core (0x0B040100 + n * 0x200) g.core.ns))
    (h0 : 0 ≤ x.2) (h100 : x.2 ≤ 100) :
    g.timeRsp n t2 d id stepId = ({ g with lanes := g.lanes.set n { l with waiting := false } } : Group).memberExchange n x.1 x.2 := by
  rw [Group.timeRsp, hl]
  dsimp only
  rw [onLane_of_get _ hl, hs]
  dsimp only
  rw [set_of_get hl, if_neg (by rw [hw, hid]; simp), onLane_of_get _ hl, getD_of_get _ hm, ht]
  dsimp only
  rw [← hx, hs]
  exact if_neg (show ¬(x.2 < 0 ∨ x.2 > 100) by omega)

theorem timeReq_due {g : Group} {n : Nat} {l : FabLane} (hl : g.lanes[n]? = some l) (ht : g.core.up ≥ l.reqAt + 1000 * g.core.num oTimeSyncInterval) (hs : l.lane.phy.state = .up)
    (hw : l.waiting = false) :
    g.timeReq n = { g with lanes := g.lanes.set n { l with exch := (l.exch + 1) % 2 ^ 24, waiting := true, reqAt := g.core.up, lane := { l.lane with tx := { l.lane.tx with req := some ((l.exch + 1) % 2 ^ 24) } } } } := by
  rw [Group.timeReq, hl]
  dsimp only
  rw [if_neg (by omega), if_neg (by rw [hs]; simp), if_neg (by rw [hw]; simp), onLane_of_get _ hl]

/-! ### The items the Ovtan takes (R134, R138) -/

theorem item_servo {o : Ovtan} {v : Nat} (h : v % 256 = 4) (hs : o.link.lane.phy.state = .up) :
    o.item v = o.servo (signedOf 64 (bitsOf v 127 64)) (bitsOf v 63 32) (BitVec.ofNat 8 (bitsOf v 31 24)) := by
  unfold Ovtan.item
  rw [h]
  exact if_pos hs

theorem item_step {o : Ovtan} {v : Nat} (h : v % 256 = 5) (hs : o.link.lane.phy.state = .up) :
    o.item v = o.stepItem (signedOf 64 (bitsOf v 127 64)) (BitVec.ofNat 8 (bitsOf v 31 24)) (bitsOf v 23 16) := by
  unfold Ovtan.item
  rw [h]
  exact if_pos hs

theorem fabato_item_timeRsp {f : Fabato} {n v : Nat} (h : v % 256 = 3) : f.item n v = f.timeRspItem n v := by
  unfold Fabato.item
  rw [h]
  rfl

/-- A byte's upper three bits. -/
theorem byte_state (item : Nat) : (BitVec.ofNat 8 (bitsOf item 31 24)).toNat / 32 = bitsOf item 31 29 := by
  rw [BitVec.toNat_ofNat, bitsOf, bitsOf]
  omega

theorem byte_toNat (item : Nat) : (BitVec.ofNat 8 (bitsOf item 31 24)).toNat = bitsOf item 31 24 := by
  rw [BitVec.toNat_ofNat, bitsOf]
  exact Nat.mod_mod ..

theorem servo_locked {o : Ovtan} {adj : Int} {bound : Nat} {byte : Byte} (hf : o.core.time.forced = false) (hm : o.core.time.mode = .locked) (hb : byte.toNat / 32 ≠ 7) :
    o.servo adj bound byte = ({ o with core := { o.core with time := { o.core.time with adj := adj, bound := bound, byte := byte, missed := 0, lastSync := o.core.up } } } : Ovtan).qualityChange
      (o.core.quality true false o.core.up) := by
  unfold Ovtan.servo
  dsimp only
  rw [if_neg (by rw [hf]; simp), if_neg hb, hm]

/-! ### References (R125, R128) -/

theorem phaseLoss_second {g : Group} (hn : g.core.noSrc = false) (ht : g.core.up ≥ g.core.time.lastSync + 3 * g.core.srcNs) (hu : g.core.time.useP1 = true) (hm : g.core.time.mode = .locked) :
    g.phaseLoss = ({ g with core := g.core.enterHoldover false false g.core.up 0 } : Group).qualityChange g.quality := by
  rw [Group.phaseLoss]
  dsimp only
  rw [if_neg (by rw [hn]; simpa using ht), if_neg (by rw [hu]; simp)]
  dsimp only
  unfold Core.sourceLoss
  rw [hm]

theorem refLoss_unlocked {g : Group} (hp : g.core.time.refPresent = true) (hm : g.core.time.mode ≠ .locked) :
    g.refLoss = ({ g with core := { g.core with time := { g.core.time with refPresent := false } } } : Group).qualityChange g.quality := by
  rw [Group.refLoss]
  dsimp only
  rw [if_neg (by rw [hp]; simp), if_neg hm]

theorem refBack_running {g : Group} (hp : g.core.time.refPresent = false) (hs : g.core.num oTimeFreqSrc = 0) (hm : g.core.time.mode ≠ .holdover) :
    g.refBack = ({ g with core := { g.core with time := { g.core.time with refPresent := true } } } : Group).qualityChange g.quality := by
  rw [Group.refBack]
  dsimp only
  rw [if_neg (by rw [hp, hs]; simp), if_neg fun h => hm h.1]

/-- The rack reference changes under a Fabato that stays in Ready. -/
theorem rackRef_ready {s : State} {x : Fabato} {present : Bool} (hx : x = ({ s.fb with board := { s.fb.board with reference := present } } : Fabato).settle s.fb) (hb : x.board.boot = 3) :
    s.rackRef present = { s with fb := (x.onG (fun g => if present then g.refBack else g.refLoss)).settle x } := by
  rw [State.rackRef, State.onFbAny, ← hx]
  exact onFb_ready (s := { s with fb := x }) hb _

theorem ppsIn_timeOfDay {g : Group} {v t : Nat} (hs : g.core.num oTimePhaseSrc = 4) (hr : g.core.isRoot = true) (ht : g.core.time.tod = some (v, t)) :
    g.ppsIn = (({ g with core := { g.core with time := { g.core.time with srcState := 0, bParent := 20 + (ftoInt (-(2 ^ 31)) (2 ^ 31) (f32Val (ofLe (g.core.effective 0x0B065080)))).natAbs, tod := none } } } : Group).stepOwn
      ((v : Int) - correctStamp g.core 0x0B065000 g.core.ns)).ownExchange 4 0 0 := by
  rw [Group.ppsIn, if_neg (by rw [hs, hr]; simp)]
  dsimp only
  rw [ht]

theorem todTimeout_locked {g x : Group} {v t : Nat} (ht : g.core.time.tod = some (v, t)) (hu : g.core.up ≥ t + 2000000000)
    (hx : x = ({ g with core := { g.core with time := { g.core.time with tod := none } } } : Group).stepOwn ((v : Int) - g.core.ns)) (hm : x.core.time.mode = .locked) :
    g.todTimeout = ({ x with core := { x.core with time := { x.core.time with srcState := 1 } } } : Group).qualityChange g.quality := by
  subst hx
  rw [Group.todTimeout, ht]
  dsimp only
  rw [if_pos hu]
  exact congrArg (fun c : Core => Group.qualityChange { Group.stepOwn _ _ with core := c } _) (if_pos hm)

/-! ### Outputs (R150–R153) -/

theorem trigDue_reached {g : Group} {k : Nat} {x : Trigger} (hx : g.halo.trig[k]? = some x) (hm : (g.core.trig k).mode = 1) (hd : x.done = false) (hn : x.next ≤ g.core.ns)
    (hs : g.core.time.steppedAt = none) : g.trigDue k = g.trigFire k x.next x.next false := by
  rw [Group.trigDue, hx]
  dsimp only
  rw [if_pos ⟨hm, by rw [hd]; rfl, hn⟩, hs]
  rfl

theorem trigAngle_reached {g : Group} {k t : Nat} {x : Trigger} (hx : g.halo.trig[k]? = some x) (hm : (g.core.trig k).mode = 2) (hd : x.done = false) (hl : g.core.angle.isLocked = true)
    (hsel : (g.core.trig k).selects g.core.angle.step = true) (hn : x.next ≤ g.core.angle.step) (ht : t = fireTime g.core.angle.tm g.core.angle.lq (g.core.trig k).angle) (hns : t ≤ g.core.ns)
    (hs : g.core.time.steppedAt = none) :
    g.trigAngle k = ({ g with halo := { g.halo with trig := g.halo.trig.set k { x with next := g.core.angle.step } } } : Group).trigFire k t t false := by
  subst ht
  rw [Group.trigAngle, hx]
  dsimp only
  rw [if_pos ⟨hm, by rw [hd]; rfl, hl, hsel, hn, hns⟩, hs]
  rfl

theorem trigEnd_due {g : Group} {k t : Nat} {x : Trigger} (hx : g.halo.trig[k]? = some x) (hp : x.pulseEnd = some t) (ht : t ≤ g.core.ns) :
    g.trigEnd k = { g with halo := { g.halo with trig := g.halo.trig.set k { x with level := !x.level, pulseEnd := none } }, core := g.core.send (.pin (pinTrig k) (!x.level)) } := by
  rw [Group.trigEnd, hx]
  dsimp only
  rw [hp]
  exact if_pos ht

theorem ppsOut_second {g : Group} (hr : g.outputsRun = true) (hs : g.core.ns / 1000000000 > g.halo.ppsSecond) (hp : g.core.flag oVantagePpsOutEn = true)
    (ht : g.core.flag oVantageTenmhzOutEn = false) :
    g.ppsOut = { g with halo := { g.halo with ppsSecond := g.core.ns / 1000000000, pps := true, ppsFall := some (g.core.ns / 1000000000 * 1000000000 + g.core.num oVantagePpsOutWidth) }, core := g.core.send (.pin pinPps true) } := by
  rw [Group.ppsOut]
  dsimp only
  rw [if_neg (by rw [hr]; simpa using hs), if_pos hp]
  exact if_neg fun h => Bool.noConfusion (ht.symm.trans h)

theorem ppsFallDue_reached {g : Group} {t : Nat} (h : g.halo.ppsFall = some t) (ht : t ≤ g.core.ns) :
    g.ppsFallDue = { g with halo := { g.halo with pps := false, ppsFall := none }, core := g.core.send (.pin pinPps false) } := by
  rw [Group.ppsFallDue, h]
  exact if_pos ht

/-! ### TIME.FORCE_STATE (R531) -/

theorem force_holdover (o : Ovtan) : o.force 1 = ({ o with core := o.core.enterHoldover true false o.core.up 2 } : Ovtan).qualityChange (o.core.quality true false o.core.up) := by
  rw [Ovtan.force]
  exact congrArg (fun c : Core => ({ o with core := c } : Ovtan).qualityChange _) (if_pos rfl)

theorem force_acquire (o : Ovtan) :
    o.force 2 = ({ o with core := { o.core with time := { o.core.time with forced := false, mode := .acquiring } } } : Ovtan).qualityChange (o.core.quality true false o.core.up) := by
  rw [Ovtan.force]
  exact congrArg (fun c : Core => ({ o with core := c } : Ovtan).qualityChange _) (if_neg (by decide))

theorem groupForce_holdover (g : Group) : g.force 1 = ({ g with core := g.core.enterHoldover false g.core.noSrc g.core.up 2 } : Group).qualityChange g.quality := by
  rw [Group.force]
  exact congrArg (fun c : Core => ({ g with core := c } : Group).qualityChange _) (if_pos rfl)

theorem groupForce_acquire {g : Group} (h : g.core.noSrc = false) :
    g.force 2 = ({ g with core := { g.core with time := { g.core.time with forced := false, sourceLost := false, mode := .acquiring, holdSince := none } } } : Group).qualityChange g.quality := by
  rw [Group.force]
  dsimp only
  rw [if_neg (by decide), if_pos (by rw [h]; rfl)]

theorem len_timeForceState : objLen oTimeForceState 1 = true := by decide +kernel

theorem ov_force {o : Ovtan} {a : Actor} {v : Bytes} {n : Nat} (hv : ofLe v = n) : ovOps.command o a oTimeForceState v = (o.force n, stOk) := by
  rw [← hv]
  rfl

theorem fb_force {f : Fabato} {a : Actor} {v : Bytes} {n : Nat} (hv : ofLe v = n) : fbOps.command f a oTimeForceState v = (f.onG (fun g => g.force n), stOk) := by
  rw [← hv]
  rfl

/-- Settles O29, command by command. -/
theorem timeCommandsComplete : Obligations.TimeCommandsComplete := by
  intro s e p n k item
  have hb : ∀ t hi lo, t < 256 → 8 ≤ lo → bitsOf (item / 256 * 256 + t) hi lo = bitsOf item hi lo := fun t hi lo => bitsOf_item item t hi
  refine ⟨fun seq hr => ?_, fun seq t1 t2 hr hs hu hp => ?_, fun seq t1 t2 t3 t4 hr hq hp => ?_, fun l m t1 x hr hl hs hw hst hid hm ht hx h0 h100 => ?_, fun l hr hl ht hs hw => ?_,
    ?_, ?_, ?_, ?_, fun hr hs hf hm hb7 => ?_, fun c hr hs hf hid h0 hc => ?_, fun hr hs ht => ?_, fun t hr hd hm ht => ?_, fun hr hd hn => ?_, fun hr hd hn => ?_,
    fun hr hn ht hu hm => ?_, fun x hx hbt hp hm => ?_, fun x hx hbt hp hf hm => ?_, fun v t c b at_ hr hs hroot ht ha hb hc => ?_, fun v t hr ht hu hm => ?_, fun hr ht hp hlt => ?_,
    fun x hr hx hm hd hn hs => ?_, fun x t hr hx hm hd hl hsel hn ht hns hs => ?_, fun x t hr hx hp ht => ?_, fun hr ho hs hp ht => ?_, fun t hr h ht => ?_⟩
  · exact fb_answers rfl hr rfl
  · exact fb_answers rfl hr (onG_congr (ptp_followUp hs hu hp))
  · exact fb_answers rfl hr (onG_congr (ptp_pdelayRespFollowUp hq hp))
  · refine fb_answers rfl hr ?_
    rw [fabato_item_timeRsp (item_type item (by decide)), Fabato.timeRspItem, hl]
    dsimp only
    rw [if_pos hs, hb 3 127 64 (by decide) (by decide), hb 3 63 40 (by decide) (by decide), hb 3 39 16 (by decide) (by decide), hb 3 15 8 (by decide) (by decide)]
    exact onG_congr (timeRsp_accepted hl hw hst hid hm ht hx h0 h100)
  · exact fb_answers rfl hr (onG_congr (timeReq_due hl ht hs hw))
  · exact ov_writes_num len_timeForceState (by decide) rfl (ov_done (by decide)) fun o a v hv _ => (ov_force hv).trans (congrArg (·, stOk) (force_holdover o))
  · exact fb_writes_num len_timeForceState (by decide) rfl (fb_done (by decide)) (by decide) fun f a v hv _ =>
      (fb_force hv).trans (congrArg (·, stOk) (onG_congr (groupForce_holdover f.g)))
  · exact ov_writes_num len_timeForceState (by decide) rfl (ov_done (by decide)) fun o a v hv _ => (ov_force hv).trans (congrArg (·, stOk) (force_acquire o))
  · exact fb_writes_num len_timeForceState (by decide) rfl (fb_done (by decide)) (by decide) fun f a v hv hok =>
      (fb_force hv).trans (congrArg (·, stOk) (onG_congr (groupForce_acquire hok)))
  · refine ov_answers rfl hr ?_
    rw [item_servo (item_type item (by decide)) hs, hb 4 127 64 (by decide) (by decide), hb 4 63 32 (by decide) (by decide), hb 4 31 24 (by decide) (by decide)]
    exact servo_locked hf hm (by rw [byte_state]; exact hb7)
  · subst hc
    refine ov_answers rfl hr ?_
    rw [item_step (item_type item (by decide)) hs, hb 5 127 64 (by decide) (by decide), hb 5 23 16 (by decide) (by decide), hb 5 31 24 (by decide) (by decide), Ovtan.stepItem,
      if_neg (by rw [hf]; simp [hid, h0])]
    dsimp only
    rw [byte_toNat]
  · exact ov_answers rfl hr (if_pos ⟨hs, ht⟩)
  · refine ov_answers rfl hr ?_
    rw [Ovtan.laneHoldover, hd]
    exact if_pos ⟨hm, ht⟩
  · exact ov_answers rfl hr (if_pos ⟨hd, by rw [hn]; rfl⟩)
  · exact fb_answers rfl hr (onG_congr (if_pos ⟨hd, by rw [show s.fb.g.core.time.dayNoted = false from hn]; rfl⟩))
  · exact fb_answers rfl hr (onG_congr (phaseLoss_second hn ht hu hm))
  · show Host.Outcome.next (s.rackRef false) = _
    rw [rackRef_ready hx hbt]
    refine congrArg (fun f : Fabato => Host.Outcome.next { s with fb := f.settle x }) ?_
    exact onG_congr (refLoss_unlocked hp hm)
  · show Host.Outcome.next (s.rackRef true) = _
    rw [rackRef_ready hx hbt]
    refine congrArg (fun f : Fabato => Host.Outcome.next { s with fb := f.settle x }) ?_
    exact onG_congr (refBack_running hp hf hm)
  · subst hc hb ha
    exact fb_answers rfl hr (onG_congr (ppsIn_timeOfDay hs hroot ht))
  · exact fb_answers rfl hr ⟨_, rfl, fun hlock => onG_congr (todTimeout_locked ht hu rfl hlock)⟩
  · exact fb_answers rfl hr (onG_congr (ptpDue_slave ht hp hlt))
  · exact fb_answers rfl hr (onG_congr (trigDue_reached hx hm hd hn hs))
  · exact fb_answers rfl hr (onG_congr (trigAngle_reached hx hm hd hl hsel hn ht hns hs))
  · exact fb_answers rfl hr (onG_congr (trigEnd_due hx hp ht))
  · exact fb_answers rfl hr (onG_congr (ppsOut_second ho hs hp ht))
  · exact fb_answers rfl hr (onG_congr (ppsFallDue_reached h ht))

end Sys2Proof.Machine
end

section
/-! What a group's own records leave alone: the events raised so far stay, and the parts beside the group's records are as they were (R318). -/
namespace Sys2Proof.Machine
open Sys2Proof

/-! ### Into Jetstream: the events raised so far stay -/

theorem grows_bump (c : Core) (o : Nat) : c.Grows (c.bump o) := .of_eq (Core.bump_events c o)

theorem grows_bump_of {c d : Core} (o : Nat) (h : c.Grows d) : c.Grows (d.bump o) := h.trans (grows_bump d o)

theorem grows_count (c : Core) (o n : Nat) : c.Grows (c.count o n) := .of_eq rfl

theorem grows_subFor (g : Group) (path port : Nat) : g.core.Grows (g.subFor path port).1.core := by
  unfold Group.subFor
  dsimp only
  split
  · exact .refl _
  split
  · exact .refl _
  split
  · exact (grows_bump ..).trans (grows_ite (.refl _) (.raise ..))
  · exact (grows_bump ..).trans (grows_ite (.refl _) (.raise ..))

theorem grows_put {c : Core} {g : Group} (s : JSub) (it : JItem) (h : c.Grows g.core) : c.Grows (g.put s it).core := by
  refine h.trans ?_
  unfold Group.put
  dsimp only
  split
  · exact .refl _
  split
  · exact .refl _
  · exact (grows_bump ..).trans (grows_ite (.refl _) (.raise ..))

theorem grows_police {c : Core} {g : Group} (s : JSub) (e : ExtRecord) (h : c.Grows g.core) : c.Grows (g.police s e).core := by
  refine h.trans ?_
  unfold Group.police
  dsimp only
  split
  · exact .refl _
  · exact (grows_bump ..).trans (grows_ite (.refl _) (.raise ..))

theorem grows_bindCtx {c : Core} {g : Group} (s : JSub) (cls k : Nat) (h : c.Grows g.core) : c.Grows (g.bindCtx s cls k).1.core := by
  refine h.trans ?_
  unfold Group.bindCtx
  dsimp only
  split
  · exact .refl _
  split
  · exact grows_ite (.refl _) (.raise ..)
  · exact grows_ite (.refl _) (.of_eq (Core.put_events ..))

theorem grows_condFrame (c : Core) (path : Nat) (x : CondCtx) : c.Grows (condFrame c path x).2.1 := by
  unfold condFrame
  dsimp only
  refine Core.Grows.trans ?_ ((grows_count ..).trans (grows_count ..))
  split
  · exact Core.Grows.trans (grows_ite (.refl _) (grows_bump ..)) (grows_bump ..)
  · exact grows_ite (.refl _) (grows_bump ..)

theorem grows_closeFrame {c : Core} {g : Group} (i : Nat) (h : c.Grows g.core) : c.Grows (g.closeFrame i).core := by
  refine h.trans ?_
  unfold Group.closeFrame
  split
  · exact .refl _
  split
  · exact .refl _
  split
  · exact .refl _
  split
  · exact .refl _
  dsimp only
  split
  · exact (grows_condFrame _ _ _).trans ((grows_count _ _ _).trans (grows_ite (.refl _) (.raise ..)))
  · exact grows_condFrame ..

theorem grows_gatherRec {c : Core} {g : Group} (x : CondCtx) (e : ExtRecord) (h : c.Grows g.core) : c.Grows (g.gatherRec x e).core := by
  unfold Group.gatherRec
  dsimp only
  split
  · exact grows_closeFrame _ h
  · exact h

theorem grows_enqueue {c : Core} {g : Group} (path port : Nat) (e : ExtRecord) (h : c.Grows g.core) : c.Grows (g.enqueue path port e).core := by
  unfold Group.enqueue
  split
  · exact h
  dsimp only
  have hs : c.Grows (g.subFor path port).1.core := h.trans (grows_subFor g path port)
  split
  · exact grows_police _ _ hs
  split
  · exact grows_put _ _ hs
  split
  · exact grows_gatherRec _ _ (grows_bindCtx _ _ _ hs)
  · refine grows_put _ _ (grows_bump_of _ ?_)
    exact grows_bindCtx _ _ _ hs

theorem grows_vantagePut {c : Core} {g : Group} (e : ExtRecord) (h : c.Grows g.core) : c.Grows (g.vantagePut e).core := by
  unfold Group.vantagePut
  split
  · exact h
  dsimp only
  split
  · exact h.trans ((grows_bump ..).trans (grows_ite (.refl _) (.raise ..)))
  have hb : c.Grows (g.core.bump oVantageCopied) := h.trans (grows_bump ..)
  refine grows_enqueue _ _ _ ?_
  split
  · exact grows_enqueue _ _ _ hb
  · exact hb

theorem grows_vantageCopy {c : Core} {g : Group} (e : ExtRecord) (h : c.Grows g.core) : c.Grows (g.vantageCopy e).core := by
  unfold Group.vantageCopy
  split
  · exact h
  · split
    · exact grows_vantagePut _ h
    · exact h
  · exact grows_vantagePut _ h

/-! ### The group's own records -/

/-- From `f` to `f'` the group has sent records of its own, and raised events: the rest is as it was. -/
def Fabato.Reports (f f' : Fabato) : Prop := ∃ g n, f' = { f with g := g, fen := { f.fen with alarmNum := n } } ∧ f.core.Grows g.core

theorem Fabato.Reports.refl (f : Fabato) : f.Reports f := ⟨_, _, rfl, .refl _⟩

theorem Fabato.Reports.trans {a b c : Fabato} (h : a.Reports b) (h' : b.Reports c) : a.Reports c := by
  obtain ⟨g, n, rfl, hg⟩ := h
  obtain ⟨g', n', rfl, hg'⟩ := h'
  exact ⟨g', n', rfl, Core.Grows.trans hg hg'⟩

theorem Fabato.Reports.mem {f f' : Fabato} {e : Event} (h : f.Reports f') (he : e ∈ f.core.events) : e ∈ f'.core.events := by
  obtain ⟨g, n, rfl, hg⟩ := h
  exact hg.mem he

theorem reports_sendOwn (f : Fabato) (up : Bool) (e : ExtRecord) : f.Reports (f.sendOwn up e) := by
  refine ⟨_, _, rfl, ?_⟩
  dsimp only
  have h : f.core.Grows ((f.g.keep e).vantageCopy e).core := grows_vantageCopy e (.refl f.core)
  split
  · exact grows_enqueue _ _ _ h
  · exact h

theorem reports_emitChain {up : Bool} {t step epoch : Nat} (l : List Record) : ∀ f : Fabato, f.Reports (f.emitChain up t step epoch l) := by
  induction l with
  | nil => exact .refl
  | cons r rest ih =>
    intro f
    have hn : f.Reports { f with g := (f.g.number (f.g.own t step epoch { r with cont := !rest.isEmpty })).2 } := ⟨_, _, rfl, .refl _⟩
    exact hn.trans ((reports_sendOwn ..).trans (ih _))

theorem reports_alarm (f : Fabato) (member value code source arg kinds number : Nat) : f.Reports (f.alarm member value code source arg kinds number) := reports_emitChain _ f

theorem reports_numbered (f : Fabato) (member value code source : Nat) : f.Reports (f.numbered member value code source) :=
  Fabato.Reports.trans (⟨_, _, rfl, .refl _⟩ : f.Reports { f with fen := { f.fen with alarmNum := (f.fen.alarmNum + 1) % 2 ^ 32 } }) (reports_alarm ..)

/-- An entry of the log, or its refusal, is Almanac's and a record of the group. -/
theorem almanacPut_frame (f : Fabato) (code sub : Nat) (p : Bytes) (rom : Bool) : ∃ x a, f.Reports x ∧ f.almanacPut code sub p rom = { x with alm := a } := by
  unfold Fabato.almanacPut
  split
  · exact ⟨f, f.alm, .refl f, rfl⟩
  split
  · exact ⟨f, _, .refl f, rfl⟩
  split
  · obtain ⟨g, n, hy, hg⟩ := reports_numbered ({ f with alm := { (f.almanacAppend 0x1A02 0x74 (leBytes 8 code) false).alm with refused := f.alm.refused + 1 } } : Fabato) f.core.path 0 0x36 0x09
    exact ⟨{ f with g := g, fen := { f.fen with alarmNum := n } }, _, ⟨g, n, rfl, hg⟩, hy⟩
  · exact ⟨f, _, .refl f, rfl⟩

end Sys2Proof.Machine
end

section
/-! Firmware images, recovery and the way to Ready (R497–R504). -/
namespace Sys2Proof.Machine
open Sys2Proof

/-! ### The ROM (R499, R500) -/

/-- What the ROM writes is an event, an entry of the log, and the group's own records. -/
theorem romEntry_frame (f : Fabato) (code sub : Nat) (l : List Nat) : ∃ x a, (f.raise code sub l).Reports x ∧ f.romEntry code sub l = { x with alm := a } := by
  obtain ⟨x, a, hx, h⟩ := almanacPut_frame (f.raise code sub l) code sub (eventBytes l) true
  rw [Fabato.romEntry, h]
  exact ⟨x, _, hx, rfl⟩

theorem flashRead_own {f : Fabato} {image : Bytes} (hb : f.board.boot = 1) (hr : f.fw.recovering = false) (ho : f.fw.open_ = false) (ht : f.fw.torn = false)
    (hc : f.imageCheck false f.fw.flash = 0) : f.flashRead false image = f.imageLoaded f.fw.flash := by
  have himg : (if (f.fw.open_ || f.fw.torn) = true then image else f.fw.flash) = f.fw.flash := if_neg (by rw [ho, ht]; simp)
  have hcode : (if f.imageCheck false f.fw.flash = 0 ∧ f.fw.torn = true then 7 else f.imageCheck false f.fw.flash) = f.imageCheck false f.fw.flash := if_neg (by rw [ht]; simp)
  rw [Fabato.flashRead, if_neg (by rw [hb, hr]; simp)]
  dsimp only
  rw [himg, hcode, if_pos hc]

theorem flashRead_failed {f : Fabato} {image : Bytes} (hb : f.board.boot = 1) (hr : f.fw.recovering = false) (ho : f.fw.open_ = true) (hc : f.imageCheck false image ≠ 0) :
    f.flashRead false image =
      (({ f with fw := { f.fw with flash := image, torn := false, open_ := false } } : Fabato).romEntry 0x1B02 0x74 [f.imageCheck false image]).recoverFrom 0 := by
  have himg : (if (f.fw.open_ || f.fw.torn) = true then image else f.fw.flash) = image := if_pos (by rw [ho]; rfl)
  have hcode : (if f.imageCheck false image = 0 ∧ f.fw.torn = true then 7 else f.imageCheck false image) = f.imageCheck false image := if_neg fun h => hc h.1
  rw [Fabato.flashRead, if_neg (by rw [hb, hr]; simp)]
  dsimp only
  rw [himg, hcode, if_neg hc]

/-- A good image from the source being tried goes on to the self-test. -/
theorem recoveryImage_good {f : Fabato} {source : Nat} {image : Bytes} (hb : f.board.boot = 1) (hr : f.fw.recovering = true) (hw : f.fw.waiting = false) (hs : f.fw.source = source)
    (hc : f.imageCheck false image = 0) :
    f.recoveryImage source false image =
      (({ f with fw := { f.fw with recoveries := f.fw.recoveries + 1 } } : Fabato).romEntry 0x1B03 0x74 [source, (imageHead image).release]).imageLoaded image := by
  rw [Fabato.recoveryImage, if_neg (by rw [hb, hr, hw, hs]; simp)]
  exact if_neg (not_not_intro hc)

theorem recoveryImage_facts {f : Fabato} {source : Nat} {image : Bytes} (hb : f.board.boot = 1) (hr : f.fw.recovering = true) (hw : f.fw.waiting = false) (hs : f.fw.source = source)
    (hc : f.imageCheck false image = 0) :
    (f.recoveryImage source false image).board.boot = 2 ∧ (f.recoveryImage source false image).fw.running = image ∧ (f.recoveryImage source false image).fw.flash = image ∧
      (f.recoveryImage source false image).fw.recovering = false ∧ (f.recoveryImage source false image).fw.recoveries = f.fw.recoveries + 1 ∧
      ⟨0x1B03, 0x74, [source, (imageHead image).release]⟩ ∈ (f.recoveryImage source false image).core.events := by
  rw [recoveryImage_good hb hr hw hs hc]
  obtain ⟨x, a, hx, h⟩ := romEntry_frame ({ f with fw := { f.fw with recoveries := f.fw.recoveries + 1 } } : Fabato) 0x1B03 0x74 [source, (imageHead image).release]
  rw [h]
  have he := hx.mem (e := ⟨0x1B03, 0x74, [source, (imageHead image).release]⟩) (List.mem_append_right _ (List.mem_singleton_self _))
  obtain ⟨g, n, rfl, _⟩ := hx
  exact ⟨rfl, rfl, rfl, rfl, rfl, he⟩

/-! ### Staging and flash (R502) -/

theorem fwVerdict_good {f : Fabato} (h : f.imageCheck false f.fw.staging = 0) :
    f.fwVerdict false = ({ f with fw := { f.fw with stage := 2, fault := 0, fetching := false } } : Fabato).raise 0x1B05 0x74 [(imageHead f.fw.staging).release] := if_pos h

theorem len_fwCtrl : objLen oFwCtrl 1 = true := by decide +kernel

/-- A number written to FW.CTRL does what the number names. -/
theorem fwCtrl_writes {i : Instr} {s : State} {e : Envelope} {n : Nat} {ok : Fabato → Actor → Prop} {h : Fabato → Actor → Fabato × Nat} (hn : n < 256)
    (hx : exec i s = .next (s.writeNum .fabato e oFwCtrl n)) (hh : ∀ f a, ok f a → f.fwCtrl n = h f a) : FbWrites i s e oFwCtrl (s.objBytes .fabato oFwCtrl n) ok h :=
  fb_writes_num len_fwCtrl hn hx (fb_done (by decide)) (by decide) fun f a v hv hok => (show fbOps.command f a oFwCtrl v = f.fwCtrl (ofLe v) from rfl).trans (hv ▸ hh f a hok)

/-- Settles O21, command by command. -/
theorem firmwareCommandsComplete : Obligations.FirmwareCommandsComplete := by
  intro s e image chunk source cells loft
  refine ⟨fun hb hr ho ht hc => ?_, fun hb hr ho hc => ?_, fun hb hr hw hs hc => ?_, fun hb => ?_, ?_, ?_, ?_, ?_, ?_, fun hr hf hc => ?_, fun hr hs hl hh hd => ?_, ?_,
    fun hb hr hw ht => ?_, fun hb hr hw ht => ?_, fun t hr ha ht hf => ?_, fun t hr ha ht hf => ?_⟩
  · exact fb_answers_any rfl (flashRead_own hb hr ho ht hc)
  · exact fb_answers_any rfl (flashRead_failed hb hr ho hc)
  · exact fb_answers_any rfl (recoveryImage_facts hb hr hw hs hc)
  · refine fb_answers_any rfl ?_
    rw [Fabato.selfTested]
    exact if_neg (not_not_intro hb)
  · refine fb_writes rfl (fb_done (by decide)) (by decide) fun f a _ hok => (show fbOps.command f a oFwLoad chunk = f.fwLoad chunk from rfl).trans ?_
    obtain ⟨hst, hlen, hroom⟩ := hok
    rw [Fabato.fwLoad, if_neg hst, if_neg (by omega)]
  · refine fwCtrl_writes (by decide) rfl fun f a hok => (show f.fwCtrl 1 = f.fwCheck from rfl).trans ?_
    rw [Fabato.fwCheck, if_neg hok.1, fwVerdict_good hok.2]
  · refine fwCtrl_writes (by decide) rfl fun f a hok => (show f.fwCtrl 2 = f.fwWrite from rfl).trans ?_
    rw [Fabato.fwWrite, if_neg (by omega), if_neg (not_not_intro hok)]
  · refine fwCtrl_writes (by decide) rfl fun f a hok => (show f.fwCtrl 3 = f.fwFetch from rfl).trans ?_
    rw [Fabato.fwFetch, if_neg hok.1, if_neg (by rw [hok.2]; simp)]
  · exact fwCtrl_writes (by decide) rfl fun f a hok => (show f.fwCtrl 4 = f.fwDiscard from rfl).trans (if_neg hok)
  · refine fb_answers rfl hr ?_
    rw [Fabato.fwFetched, if_pos hf]
    exact fwVerdict_good hc
  · refine fb_answers rfl hr ?_
    rw [Fabato.fwWritten, if_neg (not_not_intro hs)]
    exact if_pos ⟨hl, hh, hd⟩
  · exact fb_writes_num (k := 1) (by decide +kernel) (by decide) rfl (fb_done (by decide)) (by decide) fun f a v hv _ =>
      (show fbOps.command f a oFwKeyRevoke v = (f.fwRevoke (ofLe v), stOk) from rfl).trans (by rw [hv]; rfl)
  · exact fb_answers_any rfl (if_pos ⟨hb, hr, by rw [hw]; rfl, ht⟩)
  · exact fb_answers_any rfl (if_pos ⟨hb, hr, hw, ht⟩)
  · refine fb_answers rfl hr ?_
    rw [Fabato.activateTimeout, ha]
    dsimp only
    rw [if_neg (by omega), if_neg (by rw [hf]; simp)]
    rfl
  · refine fb_answers rfl hr ?_
    rw [Fabato.activateTimeout, ha]
    dsimp only
    rw [if_neg (by omega), if_pos hf]
    rfl

end Sys2Proof.Machine
end

section
/-! The Fabato's board: pins, straps, supplies, sensors (R508–R523). -/
namespace Sys2Proof.Machine
open Sys2Proof

/-- What every step of a fold keeps, the fold keeps. -/
theorem foldl_keeps {α β γ : Type} (p : α → γ) {step : α → β → α} (h : ∀ x b, p (step x b) = p x) (l : List β) : ∀ x, p (l.foldl step x) = p x := by
  induction l with
  | nil => exact fun _ => rfl
  | cons b l ih => exact fun x => (ih _).trans (h x b)

/-! ### What leaves the board alone -/

theorem Fabato.Reports.board {f f' : Fabato} (h : f.Reports f') : f'.board = f.board := by
  obtain ⟨g, n, rfl, _⟩ := h
  rfl

theorem almanacPut_board (f : Fabato) (code sub : Nat) (p : Bytes) (rom : Bool) : (f.almanacPut code sub p rom).board = f.board := by
  obtain ⟨x, a, hx, h⟩ := almanacPut_frame f code sub p rom
  rw [h]
  exact hx.board

theorem almanacRecord_board (f : Fabato) (e : Event) : (f.almanacRecord e).board = f.board := by
  unfold Fabato.almanacRecord
  split
  · rfl
  split
  · split <;> rfl
  · exact almanacPut_board ..

theorem almanacTake_board (f : Fabato) : f.almanacTake.board = f.board := foldl_keeps Fabato.board almanacRecord_board _ f

theorem loadItem_board (f : Fabato) (key : Nat) (v : Option Bytes) : (f.loadItem key v).board = f.board := by
  unfold Fabato.loadItem
  dsimp only
  repeat' split
  all_goals rfl

/-! ### Training (R518) -/

/-- A training in which no device fails goes on to boot state 1. -/
theorem train_clean {f : Fabato} {failing : List Nat} (margins : List Nat) (hl : f.cel.lpddr.1 = 0xFF) (hf : failing.filter (fun d => decide (d < 24)) = []) :
    f.train failing margins = { f with board := { f.board with lpFail := [], margins := margins, hold := 0, boot := 1 } } := by
  rw [Fabato.train]
  dsimp only
  rw [hf, if_pos hl]
  rfl

/-! ### `POR_N` and straps (R508, R509) -/

theorem porRelease_boots {f : Fabato} {mode : Nat} {failing : List Nat} (power ref : Bool) (margins : List Nat) (hp : f.board.por = false) (ht : f.board.trip = false) (hc : f.board.clean = true)
    (hm : mode < 3) :
    f.porRelease mode false power ref failing margins =
      ((({ f with alm := { f.alm with cycles := if power then f.alm.cycles + 1 else f.alm.cycles }, board := { f.board with por := true, straps := mode + 4, trip := false, reference := ref, restarts := 0, cause := 0, hold := 0, boot := 0, clean := false } } : Fabato).onCore
        (fun c => (({ c with kind := mode + 1 } : Core)).remade)).train failing margins) := by
  rw [Fabato.porRelease, if_neg (by rw [hp]; simp)]
  dsimp only
  rw [if_neg (show ¬f.board.trip = true by rw [ht]; simp), if_pos hc, Nat.mod_eq_of_lt (by omega), if_neg (by omega)]
  rfl

/-- With the flash in an external programmer's hands the chip waits in boot state 0. -/
theorem porRelease_owned {f : Fabato} {mode : Nat} (power ref : Bool) (failing margins : List Nat) (hp : f.board.por = false) (hc : f.board.clean = true) (hm : mode < 3) :
    (f.porRelease mode true power ref failing margins).board = { f.board with por := true, straps := mode, trip := false, reference := ref, restarts := 0, cause := 0, hold := 2, boot := 0, clean := false } := by
  have hx : (if f.board.trip = true then f.drive pinTrip false else f).board = f.board := by split <;> rfl
  rw [Fabato.porRelease, if_neg (by rw [hp]; simp)]
  dsimp only
  rw [if_pos (show (if f.board.trip = true then f.drive pinTrip false else f).board.clean = true by rw [hx]; exact hc), Nat.mod_eq_of_lt (by omega), if_neg (by omega), if_pos rfl, hx]
  rfl

theorem porAssert_board {f : Fabato} (hp : f.board.por = true) :
    f.porAssert.board.por = false ∧ f.porAssert.board.boot = 0 ∧ f.porAssert.board.alert = false ∧ f.porAssert.board.clean = f.board.mramHeld.isNone := by
  have halm := almanacTake_board f
  have hdrive : (if f.almanacTake.board.alert = true then f.almanacTake.drive pinAlert false else f.almanacTake).board = f.board := by split <;> exact halm
  rw [Fabato.porAssert, if_neg (by rw [hp]; simp)]
  dsimp only
  generalize (if f.almanacTake.board.alert = true then f.almanacTake.drive pinAlert false else f.almanacTake) = x at hdrive ⊢
  refine ⟨rfl, rfl, rfl, ?_⟩
  rw [← hdrive]
  cases hm : x.board.mramHeld with
  | none => exact congrArg (fun m => !Option.isSome m) hm
  | some v =>
    obtain ⟨own, mirror⟩ := v
    have hload := foldl_keeps Fabato.board (step := fun (x : Fabato) (i : Nat × Bytes) => x.loadItem i.1 (some i.2)) (fun x i => loadItem_board x i.1 (some i.2)) own
    exact (congrArg (fun b : BoardPart => !b.mramHeld.isSome) (hload _)).trans (congrArg (fun m => !Option.isSome m) hm)

theorem trainRetry_clean {f : Fabato} {failing : List Nat} (margins : List Nat) (hh : f.board.hold = 3) (ht : f.up ≥ f.board.trainAt + 60 * secNs) (hl : f.cel.lpddr.1 = 0xFF)
    (hf : failing.filter (fun d => decide (d < 24)) = []) :
    f.trainRetry failing margins = ({ f with board := { f.board with lpFail := [], margins := margins, hold := 0, boot := 1, alert := false } } : Fabato).drive pinAlert false := by
  rw [Fabato.trainRetry, if_pos ⟨hh, ht⟩, train_clean margins hl hf]
  rfl

/-! ### Sensors (R522) -/

/-- Alerts leave what a conversion gave. -/
theorem converted_board {f : Fabato} (temps rails : List Nat) (hb : f.board.boot = 3) :
    ((f.converted temps rails).board.convAt, (f.converted temps rails).board.temps, (f.converted temps rails).board.rails) =
      (some f.ns, (List.range 16).map (fun n => toF32 (calibratedBy f.core (0x0B070000 + n * 256) (f32Val (temps.getD n 0)))),
        (List.range 12).map (fun n => toF32 (calibratedBy f.core (0x0B071000 + n * 256) (f32Val (rails.getD n 0))))) := by
  rw [Fabato.converted, if_neg (not_not_intro hb)]
  refine foldl_keeps (fun x : Fabato => (x.board.convAt, x.board.temps, x.board.rails)) (fun x n => ?_) _ _
  split
  · rw [(reports_numbered ..).board]
    show ((ite _ _ _ : Fabato).board.convAt, (ite _ _ _ : Fabato).board.temps, (ite _ _ _ : Fabato).board.rails) = _
    split <;> rfl
  · rfl

/-- Settles O3, command by command. -/
theorem boardCommandsComplete : Obligations.BoardCommandsComplete := by
  intro s mode port sensor temp power ref present failing margins temps rails
  refine ⟨fun hp ht hc hl hm hf => ?_, fun hp hc hm => ?_, fun hp => ?_, fun hh ht hl hf => ?_, fun hm => ?_, ?_, fun t hb ha hh ht => ?_, fun ht hp ha => ?_, fun hr => ?_⟩
  · refine fb_answers_any rfl ?_
    rw [porRelease_boots power ref margins hp ht hc hm, train_clean margins (by exact hl) hf]
    exact ⟨rfl, rfl, rfl, rfl, rfl, rfl, rfl, rfl⟩
  · refine fb_answers_any rfl ?_
    rw [porRelease_owned power ref failing margins hp hc hm]
    exact ⟨rfl, rfl, rfl, rfl⟩
  · exact fb_answers_any rfl (porAssert_board hp)
  · refine fb_answers_any rfl ?_
    rw [trainRetry_clean margins hh ht hl hf]
    exact ⟨rfl, rfl, rfl, rfl⟩
  · refine fb_answers_any rfl ?_
    rw [Fabato.brownout]
    dsimp only
    rw [if_neg (by rw [almanacTake_board, hm]; simp)]
    exact ⟨rfl, rfl⟩
  · exact fb_answers_any rfl rfl
  · refine fb_answers_any rfl ?_
    rw [Fabato.alertRelease, hb]
    exact if_pos ⟨ha, hh, ht⟩
  · refine fb_answers_any rfl ?_
    rw [Fabato.thermalTrip, if_neg (by rw [ht, hp, ha]; simp)]
    exact ⟨rfl, rfl, rfl⟩
  · obtain ⟨hconv, htemps, hrails⟩ := (Prod.mk.inj (converted_board temps rails hr)).imp_right Prod.mk.inj
    exact fb_answers_any rfl ⟨hconv, htemps, hrails⟩

end Sys2Proof.Machine
end

section
/-! Reduction, features, Anvil models and Drift (R346–R390). -/
namespace Sys2Proof.Machine
open Sys2Proof

/-! ### The objects of a model (Table 14.12) -/

theorem oModel_eq (m e : Nat) : oModel m e = 0x12 * 2 ^ 24 + (0x300 + m) * 2 ^ 8 + e := by rw [oModel]; omega

section
variable {m e : Nat} (hm : m < 64) (he : e < 256)
include hm he

theorem oModel_area : objArea (oModel m e) = 0x12 := by rw [oModel_eq]; exact objArea_of_fields (by omega) he
theorem oModel_field : oModel m e / 256 % 65536 = 0x300 + m := by rw [oModel_eq]; exact objField_of_fields (by omega) he
omit hm in
theorem oModel_elem : objElem (oModel m e) = e := by rw [oModel_eq]; exact objElem_of_fields he

theorem oModel_ne {o : Nat} (ho : objArea o ≠ 0x12) : oModel m e ≠ o := fun h => ho (h ▸ oModel_area hm he)

/-- A model's objects entail nothing once their values are in. -/
theorem oModel_done (f : Fabato) : fbOps.done f [oModel m e] = f := by
  have hred : (objArea (oModel m e) == 0x11) = false := by rw [oModel_area hm he]; rfl
  have hfeat : decide (oModel m e / 256 % 65536 < 0x0200) = false := by rw [oModel_field hm he, decide_eq_false_iff_not]; omega
  have hplan : oModel m e ≠ oHorizonPlanHeader := oModel_ne hm he (by decide)
  have hmember : oModel m e / 256 ≠ oHorizonPlanMember / 256 := by rw [oModel]; simp only [oHorizonPlanMember]; omega
  show f.valuesIn [oModel m e] = f
  unfold Fabato.valuesIn
  simp [hred, hfeat, hplan, hmember]

theorem command_model (f : Fabato) (a : Actor) (v : Bytes) : fbOps.command f a (oModel m e) v =
    if e = 1 then f.modelLoad m v else if ofLe v = 1 then (f.modelInstall m, stOk) else if ofLe v = 2 then f.modelDiscard m else f.modelUnload m := by
  rw [fb_command (oModel_ne hm he (by decide))]
  unfold Fabato.command
  dsimp only
  rw [oModel_area hm he, oModel_field hm he, oModel_elem he]
  exact (if_pos ⟨Nat.le_add_right .., Nat.add_lt_add_left hm _⟩).trans (by rw [Nat.add_sub_cancel_left])

end

theorem oModel_len : ∀ m < 64, objLen (oModel m 3) 1 = true := by decide +kernel

/-- A number written to a model's control does what the number names. -/
theorem model_writes {i : Instr} {s : State} {e : Envelope} {m n : Nat} {ok : Fabato → Actor → Prop} {h : Fabato → Actor → Fabato × Nat} (hm : m < 64) (hn : n < 256)
    (hx : exec i s = .next (s.writeNum .fabato e (oModel m 3) n))
    (hh : ∀ f a, ok f a → (if n = 1 then (f.modelInstall m, stOk) else if n = 2 then f.modelDiscard m else f.modelUnload m) = h f a) :
    FbWrites i s e (oModel m 3) (s.objBytes .fabato (oModel m 3) n) ok h :=
  fb_writes_num (oModel_len m hm) hn hx (oModel_done hm (by decide)) ⟨oModel_ne hm (by decide) (by decide), oModel_ne hm (by decide) (by decide)⟩ fun f a v hv hok => by
    rw [command_model hm (by decide), if_neg (by decide), hv]
    exact hh f a hok

/-- An image that passes its checks and finds its Cells becomes the shadow. -/
theorem modelInstall_passes {f : Fabato} {m : Nat} {l : List Nat} (hs : sha256 (f.model m).staging = f.core.get (oModel m 2)) (hi : imageFault (f.model m).staging = 0)
    (hl : f.reserveCells m (splitTrees (f.model m).staging (modelHdr (f.model m).staging)) = some l) :
    f.modelInstall m = (f.onModel m (fun x => { x with staging := [], shadow := some (f.model m).staging, reserve := l, fault := 0 })).raise
      0x1201 0x73 [hModel m, (modelHdr (f.model m).staging).version, l.length] := by
  rw [Fabato.modelInstall]
  dsimp only
  rw [if_neg (not_not_intro hs), hi, if_neg (by decide), hl]
  rfl

theorem reloadDone_last {f : Fabato} {m cell t v : Nat} {b : Bool} (hs : (f.model m).switch = some (b, t, v, [cell])) (hq : (f.model m).queue = []) :
    f.reloadDone m cell = (f.onModel m (fun x => { x with switch := some (b, t, v, []) })).modelSwitched m := by
  rw [Fabato.reloadDone]
  dsimp only
  rw [hs]
  dsimp only
  rw [hq, if_neg (by simp), show [cell].filter (fun c => c != cell) = [] by simp]
  rfl

/-! ### Walks (R382) -/

theorem anvilWalk_served {f : Fabato} {m : Nat} (ha : (f.model m).active.isSome = true) (hs : ∀ k < 8, (f.cel.place (hGang m k)).isSome = true → (f.served (hGang m k)).isSome = true) :
    f.anvilWalk m = ((f.model m).queue.take 64).foldl (fun f v => f.walkVector m v (f.hosted m)) (f.onModel m (fun x => { x with queue := x.queue.drop 64 })) := by
  refine if_neg fun h => ?_
  rcases h with h | h
  · rw [Option.isNone_iff_eq_none.mp h] at ha
    cases ha
  · obtain ⟨k, hk, hp⟩ := List.any_eq_true.mp h
    rw [Bool.and_eq_true, Option.isNone_iff_eq_none] at hp
    obtain ⟨hplace, hnone⟩ := hp
    have := hs k (List.mem_range.mp hk) hplace
    rw [hnone] at this
    cases this

/-! ### Reductions (R346–R353) -/

theorem takeInputs_snd {f : Fabato} {h : Nat} (n : Nat) : (f.takeInputs h n).2 = (f.waitingInputs h).take n := by
  unfold Fabato.takeInputs
  dsimp only
  split <;> rfl

/-- The oldest waiting contribution folds in. -/
theorem contribution_takes {f : Fabato} {n i : Nat} {recs : List ExtRecord} {rest : List WorkItem} (hn : n < 4096) (hs : (f.served (hReduce n)).isSome = true)
    (hu : f.cel.units.any (fun u => u.handle == hReduce n) = false) (hw : f.waitingInputs (hReduce n) = .chain i recs :: rest) :
    f.contribution n = (f.takeInputs (hReduce n) 1).1.redChain n i recs := by
  have hnot : ¬((f.served (hReduce n)).isNone = true ∨ f.cel.units.any (fun u => u.handle == hReduce n) = true) := by
    rw [hu, Option.isNone_iff_eq_none]
    rintro (h | h)
    · rw [h] at hs
      cases hs
    · cases h
  rw [Fabato.contribution]
  dsimp only
  rw [if_neg hnot, takeInputs_snd, hw, show (WorkItem.chain i recs :: rest).take 1 = [.chain i recs] from rfl, List.foldl_cons, List.foldl_nil]
  unfold Fabato.applyItem
  dsimp only
  rw [show hReduce n / 4096 = 1 by rw [hReduce]; omega, show hReduce n % 4096 = n by rw [hReduce]; omega]
  rfl

theorem redExpire_one {f : Fabato} {k : RCtx} {x : REpoch} {quorum : Bool} (hk : f.an.reds = [k]) (ho : k.opens = [x])
    (hp : (if quorum then x.quorumAt.any (fun q => decide (f.ns ≥ q + 1000 * (redDesc x.desc).wait)) else decide (f.ns ≥ x.opened + 1000 * (redDesc x.desc).timeout)) = true) :
    f.redExpire quorum = f.checkClose k.idx x := by
  rw [Fabato.redExpire, hk, List.foldl_cons, List.foldl_nil, ho, List.filter_cons, if_pos hp]
  rfl

theorem checkClose_quorum {f : Fabato} {n q : Nat} {x : REpoch} (hq : x.quorumAt = some q) (ht : f.ns ≥ q + 1000 * (redDesc x.desc).wait) : f.checkClose n x = f.closeEpoch n x 0 false := by
  rw [Fabato.checkClose]
  split
  · rfl
  · exact if_pos (by rw [hq]; exact decide_eq_true ht)

theorem checkClose_timeout {f : Fabato} {n : Nat} {x : REpoch} (hq : x.quorumAt = none) (ht : f.ns ≥ x.opened + 1000 * (redDesc x.desc).timeout)
    (hw : x.expected &&& f.upMembers &&& (2 ^ 128 - 1 - (x.included ||| x.lost)) ≠ 0) : f.checkClose n x = f.closeEpoch n x 2 false := by
  rw [Fabato.checkClose]
  rw [if_neg hw, if_neg (by rw [hq]; simp), if_pos ht]

/-! ### Late windows (R352) -/

theorem mem_forgotten_forget {k : RCtx} {x : Nat × Nat} (y : Nat × Nat) (h : (x, false) ∈ k.forgotten) : (x, false) ∈ (k.forget y).forgotten := by
  by_cases hxy : x = y
  · subst hxy
    exact List.mem_append_right _ (List.mem_singleton_self _)
  · exact List.mem_append_left _ (List.mem_filter.mpr ⟨h, by simpa using hxy⟩)

theorem mem_forgotten_fold {x : Nat × Nat} (l : List REpoch) : ∀ k : RCtx, (x, false) ∈ k.forgotten → (x, false) ∈ (l.foldl (fun k e => k.forget e.key) k).forgotten := by
  induction l with
  | nil => exact fun _ h => h
  | cons e l ih => exact fun k h => ih _ (mem_forgotten_forget e.key h)

/-- Every epoch that a fold of `forget` names is forgotten. -/
theorem forgotten_of_mem {e : REpoch} (l : List REpoch) : ∀ k : RCtx, e ∈ l → (e.key, false) ∈ (l.foldl (fun k e => k.forget e.key) k).forgotten := by
  induction l with
  | nil => exact fun _ h => absurd h List.not_mem_nil
  | cons x l ih =>
    intro k h
    rcases List.mem_cons.mp h with rfl | h
    · exact mem_forgotten_fold l _ (List.mem_append_right _ (List.mem_singleton_self _))
    · exact ih _ h

/-- What is still closed after a fold of `forget` was closed before, and its key is none of those. -/
theorem closed_of_mem {e : REpoch} (l : List REpoch) : ∀ k : RCtx, e ∈ (l.foldl (fun k e => k.forget e.key) k).closed → e ∈ k.closed ∧ ∀ x ∈ l, e.key ≠ x.key := by
  induction l with
  | nil => exact fun _ h => ⟨h, fun _ hx => absurd hx List.not_mem_nil⟩
  | cons x l ih =>
    intro k h
    obtain ⟨hk, hl⟩ := ih _ h
    obtain ⟨hk, hne⟩ := List.mem_filter.mp hk
    refine ⟨hk, fun y hy => ?_⟩
    rcases List.mem_cons.mp hy with rfl | hy
    · simpa using hne
    · exact hl y hy

/-- A context with its ended late windows forgotten. -/
def RCtx.forgetEnded (k : RCtx) (ns : Nat) : RCtx :=
  (k.closed.filter (fun e => e.closedAt.any (fun t => decide (ns ≥ t + 1000000 * (redDesc e.desc).late)))).foldl (fun k e => k.forget e.key) k

theorem forgetEnded_closed {k : RCtx} {ns : Nat} {x : REpoch} (h : x ∈ (k.forgetEnded ns).closed) :
    x ∈ k.closed ∧ ∀ t, x.closedAt = some t → ns < t + 1000000 * (redDesc x.desc).late := by
  obtain ⟨hk, hl⟩ := closed_of_mem _ _ h
  refine ⟨hk, fun t ht => ?_⟩
  by_contra hlate
  exact hl x (List.mem_filter.mpr ⟨hk, by rw [ht]; exact decide_eq_true (Nat.not_lt.mp hlate)⟩) rfl

theorem forgetEnded_forgotten {k : RCtx} {ns t : Nat} {x : REpoch} (h : x ∈ k.closed) (hc : x.closedAt = some t) (ht : ns ≥ t + 1000000 * (redDesc x.desc).late) :
    (x.key, false) ∈ (k.forgetEnded ns).forgotten :=
  forgotten_of_mem _ _ (List.mem_filter.mpr ⟨h, by rw [hc]; exact decide_eq_true ht⟩)

theorem redForget_eq (f : Fabato) : f.redForget = { f with an := { f.an with reds := f.an.reds.map (fun k => k.forgetEnded f.ns) } } := rfl

/-! ### Feature holds (R369) -/

theorem featHold_one {f : Fabato} {k : FeatCtx} (h : f.an.feats = [k]) :
    f.featHold = f.afterFeat { k with keys := k.keys.map (fun x => x.complete f.core.level true (fun v => decide (f.ns ≥ v.at_ + 1000 * (featDesc x.desc).hold))) } := by
  have hfeat : f.an.feat k.idx = k := by
    rw [AnalyticsPart.feat, h, List.find?_cons_of_pos (by simp)]
    rfl
  rw [Fabato.featHold, h, List.foldl_cons, List.foldl_nil, hfeat]

/-- Settles O5, command by command. -/
theorem analyticsCommandsComplete : Obligations.AnalyticsCommandsComplete := by
  intro s e n m cell member chunk
  refine ⟨fun hr hn hs hu i recs rest hw => ?_, fun hr ha hs => ?_, fun hm => ?_, fun hm l => ?_, fun hm => ?_, fun hm => ?_, fun b t v hr hs hq => ?_, fun hm => ?_,
    fun k x hr hk ho hq ht hw => ?_, fun k x q hr hk ho hq ht => ?_, fun hr => ?_, fun k hr hk => ?_⟩
  · exact fb_answers rfl hr (contribution_takes hn hs hu hw)
  · exact fb_answers rfl hr (anvilWalk_served ha hs)
  · refine fb_writes rfl (oModel_done hm (by decide)) ⟨oModel_ne hm (by decide) (by decide), oModel_ne hm (by decide) (by decide)⟩ fun f a _ hok => ?_
    obtain ⟨hsw, hlen, hroom⟩ := hok
    rw [command_model hm (by decide), if_pos rfl, Fabato.modelLoad, if_neg (by rw [hsw]; simp), if_neg (by omega)]
  · refine model_writes hm (by decide) rfl fun f a hok => ?_
    obtain ⟨hs, hi, hl⟩ := hok
    rw [if_pos rfl, modelInstall_passes hs hi hl]
  · refine model_writes hm (by decide) rfl fun f a hok => ?_
    rw [if_neg (by decide), if_pos rfl, Fabato.modelDiscard]
    exact if_neg (by rw [hok]; simp)
  · refine model_writes hm (by decide) rfl fun f a hok => ?_
    rw [if_neg (by decide), if_neg (by decide), Fabato.modelUnload]
    exact if_neg (by rw [hok]; simp)
  · exact fb_answers rfl hr (reloadDone_last hs hq)
  · refine fb_writes_num (k := 4) (by decide +kernel) (by omega) rfl (fb_done (by decide)) (by decide) fun f a v hv _ =>
      (show fbOps.command f a oDriftReset v = f.driftReset (ofLe v) from rfl).trans ?_
    rw [hv]
    exact if_neg (by omega)
  · refine fb_answers rfl hr ?_
    rw [redExpire_one (quorum := false) hk ho (decide_eq_true ht)]
    exact checkClose_timeout hq ht hw
  · refine fb_answers rfl hr ?_
    rw [redExpire_one (quorum := true) hk ho (by rw [hq]; exact decide_eq_true ht)]
    exact checkClose_quorum hq ht
  · refine fb_answers rfl hr ?_
    rw [redForget_eq]
    refine ⟨List.length_map .., fun k _ c d hc hd => ?_⟩
    have hd' : (s.fb.an.reds.map (fun k => k.forgetEnded s.fb.ns))[k]? = some d := hd
    rw [List.getElem?_map, hc] at hd'
    obtain rfl := Option.some.inj hd'
    exact ⟨fun x hx => forgetEnded_closed hx, fun x hx t ht => forgetEnded_forgotten hx ht⟩
  · exact fb_answers rfl hr (featHold_one hk)

end Sys2Proof.Machine
end

section
/-! Work units, shadows, self-managed blocks and saturation windows (R256, R297, R298, R306, R311, R394–R402). -/
namespace Sys2Proof.Machine
open Sys2Proof

/-! ### Cells -/

/-- What a change of a Cell keeps of every Cell, a Cell of the group keeps. -/
theorem cell_onCell {γ : Type} (p : Cell → γ) {f : Fabato} {i : Nat} {h : Cell → Cell} (hp : ∀ x, p (h x) = p x) (j : Nat) : p ((f.onCell i h).cell j) = p (f.cell j) := by
  show p ((modAt f.cel.cells i h).getD j _) = p (f.cel.cells.getD j _)
  rw [modAt, List.getD_eq_getElem?_getD, List.getD_eq_getElem?_getD]
  by_cases hj : i = j
  · subst hj
    rw [List.getElem?_modify_eq]
    cases f.cel.cells[i]? with
    | none => rfl
    | some x => exact hp x
  · rw [List.getElem?_modify_ne (f := h) (l := f.cel.cells) hj]

/-! ### Dispatch (R298) -/

/-- What sorting and filtering leave, where filtering leaves one. -/
theorem filter_sortBy_one {α : Type} {l : List α} {x : α} (le : α → α → Bool) (q : α → Bool) (h : l.filter q = [x]) : (sortBy l le).filter q = [x] :=
  List.perm_singleton.mp (h ▸ (sortBy_perm le l).filter q)

/-- Taking inputs takes them from their queue alone. -/
theorem takeInputs_fst (f : Fabato) (h n : Nat) : ∃ a l, (f.takeInputs h n).1 = { f with an := a, cel := { f.cel with inputs := l } } := by
  unfold Fabato.takeInputs
  dsimp only
  split
  · exact ⟨_, _, rfl⟩
  · exact ⟨_, _, rfl⟩

/-- The place whose turn it is among those that are ready: the first after the last one served, else the first. -/
def nextPlace (last : Nat) (l : List Place) : Option Place :=
  match l.find? (fun p => decide (p.handle > last)) with
  | some p => some p
  | none => l.head?

theorem nextPlace_one (last : Nat) (p : Place) : nextPlace last [p] = some p := by
  unfold nextPlace
  cases h : decide (p.handle > last)
  · simp only [List.find?_cons, h, List.find?_nil, List.head?_cons]
  · simp only [List.find?_cons, h]

/-- The unit that the place `p` makes, dispatched to the Cell. -/
def Fabato.dispatched (f : Fabato) (cell : Nat) (p : Place) : Fabato :=
  let t := f.takeInputs p.handle 64
  let sh := f.shadowed p.handle p.seq
  let u : WorkUnit := { handle := p.handle, seq := p.seq, cell := cell, items := t.2, rerun := false, shadow := if sh then some (.waiting f.up) else none }
  let g := (t.1.onPlace p.handle (fun x => { x with seq := (x.seq + 1) % 2 ^ 32 })).touch cell
  { g with cel := { g.cel with turn := g.cel.turn.set cell p.handle, units := g.cel.units ++ [u] } }

/-- Places of a Cell with inputs and no unit in progress, by handle. -/
def Fabato.readyPlaces (f : Fabato) (cell : Nat) : List Place :=
  (sortBy (f.cel.places.filter (fun p => p.cell == some cell)) (fun a b => decide (a.handle ≤ b.handle))).filter
    (fun p => !(f.waitingInputs p.handle).isEmpty && !f.cel.units.any (fun u => u.handle == p.handle))

theorem dispatch_eq (f : Fabato) (cell : Nat) :
    f.dispatch cell = match nextPlace (f.cel.turn.getD cell 0) ((f.readyPlaces cell).filter (fun p => p.mode == 1)) <|> nextPlace (f.cel.turn.getD cell 0) (f.readyPlaces cell) with
      | none => f
      | some p => (f.dispatched cell p).assignSpares := rfl

theorem readyPlaces_one {f : Fabato} {cell : Nat} {p : Place}
    (hp : f.cel.places.filter (fun p => p.cell == some cell && !(f.waitingInputs p.handle).isEmpty && !f.cel.units.any (fun u => u.handle == p.handle)) = [p]) : f.readyPlaces cell = [p] := by
  refine filter_sortBy_one _ _ ?_
  rw [List.filter_filter, ← hp]
  refine List.filter_congr fun x _ => ?_
  rw [Bool.and_comm, Bool.and_assoc]

theorem dispatch_one {f : Fabato} {cell : Nat} {p : Place} (hp : f.readyPlaces cell = [p]) : f.dispatch cell = (f.dispatched cell p).assignSpares := by
  rw [dispatch_eq, hp, nextPlace_one]
  cases h : p.mode == 1
  · rw [List.filter_cons_of_neg (p := fun p : Place => p.mode == 1) (by rw [h]; simp)]
    rfl
  · rw [List.filter_cons_of_pos (p := fun p : Place => p.mode == 1) h, List.filter_nil, nextPlace_one]
    rfl

theorem dispatched_unshadowed {f : Fabato} {cell : Nat} {p : Place} (hs : f.shadowed p.handle p.seq = false) :
    (f.dispatched cell p).cel.turn = f.cel.turn.set cell p.handle ∧
      (f.dispatched cell p).cel.places = modWhere (fun x => x.handle == p.handle) (fun x => { x with seq := (x.seq + 1) % 2 ^ 32 }) f.cel.places ∧
      (f.dispatched cell p).cel.units =
        f.cel.units ++ [{ handle := p.handle, seq := p.seq, cell := cell, items := (f.waitingInputs p.handle).take 64, rerun := false, shadow := none }] := by
  obtain ⟨a, l, ht⟩ := takeInputs_fst f p.handle 64
  rw [Fabato.dispatched]
  dsimp only
  rw [takeInputs_snd, ht, hs]
  exact ⟨rfl, rfl, rfl⟩

/-! ### The end of a unit (R394–R396, R400–R402) -/

section
variable {f : Fabato} {h : Nat} {u : WorkUnit} (hu : f.cel.units.find? (fun u => u.handle == h) = some u) (hi : (f.cell u.cell).inject = none)
include hu hi

omit hu in
/-- The Cell of a unit that ends: its time counts, and no injected error waits. -/
theorem inject_of_done (busy : Nat) : ((((f.onCell u.cell (fun x => { x with busy := x.busy + busy, lastWork := f.up })).touch u.cell).cell u.cell).inject) = none :=
  (cell_onCell (f := f) (i := u.cell) (h := fun x => { x with busy := x.busy + busy, lastWork := f.up }) Cell.inject (fun _ => rfl) u.cell).trans hi

theorem unitDone_clean (busy : Nat) (hr : u.rerun = false) (hs : u.shadow = none) :
    f.unitDone h 0 busy = ((f.onCell u.cell (fun x => { x with busy := x.busy + busy, lastWork := f.up })).touch u.cell).releaseUnit u := by
  have hin := inject_of_done hi busy
  rw [Fabato.unitDone, hu]
  dsimp only
  rw [hin, hr, hs]
  rfl

theorem unitDone_residue (busy : Nat) (hr : u.rerun = false) :
    ∃ g : Fabato, g.cel.units = f.cel.units ∧ ⟨0x1401, u.cell, [u.cell, 0, h % 65536]⟩ ∈ g.core.events ∧
      f.unitDone h 1 busy = { g with cel := { g.cel with units := modWhere (fun x => x.handle == h && x.seq == u.seq) (fun x => { x with rerun := true }) g.cel.units } } := by
  have hin := inject_of_done hi busy
  refine ⟨((((f.onCell u.cell (fun x => { x with busy := x.busy + busy, lastWork := f.up })).touch u.cell).countCheck 0).raise 0x1401 u.cell [u.cell, 0, h % 65536]), rfl,
    List.mem_append_right _ (List.mem_singleton_self _), ?_⟩
  rw [Fabato.unitDone, hu]
  dsimp only
  rw [hin, hr]
  rfl

end

theorem shadowReady_equal {f : Fabato} {h k : Nat} {u : WorkUnit} (shadow third again againShadow : Nat) (devices : List Nat) (hu : f.cel.units.find? (fun u => u.handle == h) = some u)
    (hs : u.shadow = some (.running k)) (hi : f.injected u.cell 7 = false) : f.shadowReady h shadow shadow third again againShadow devices = f.releaseUnit u := by
  rw [Fabato.shadowReady, hu]
  dsimp only
  rw [hs]
  dsimp only
  rw [hi]
  exact if_pos rfl

theorem shadow_cases (u : WorkUnit) : u.shadow = none ∨ (∃ t, u.shadow = some (.waiting t)) ∨ ∃ k, u.shadow = some (.running k) := by
  cases u.shadow with
  | none => exact .inl rfl
  | some x =>
    cases x with
    | waiting t => exact .inr (.inl ⟨t, rfl⟩)
    | running k => exact .inr (.inr ⟨k, rfl⟩)

theorem shadowTimeout_units (f : Fabato) : f.shadowTimeout.cel.units =
    f.cel.units.map (fun u => match u.shadow with | some (.waiting t) => if f.up ≥ t + 10000 then { u with shadow := none } else u | _ => u) := by
  refine List.map_congr_left fun u _ => ?_
  obtain hs | ⟨t, hs⟩ | ⟨k, hs⟩ := shadow_cases u
  · simp only [hs, Bool.false_eq_true, if_false]
  · simp only [hs, decide_eq_true_eq]
  · simp only [hs, Bool.false_eq_true, if_false]

/-! ### Saturation windows (R311) -/

/-- A saturation bit that starts, holds or ends is counted and reported. -/
theorem satEnd_facts {f : Fabato} (ht : f.up ≥ f.cel.satStart + 1000 * f.core.num oCellSatWindow) :
    f.satEnd.cel.satFlags = f.satRows (f.up - f.cel.satStart) ∧ f.satEnd.cel.satSeen = 0 ∧ f.satEnd.cel.satStart = f.up ∧ f.satEnd.cel.units = f.cel.units ∧
      f.satEnd.cel.places = f.cel.places ∧
      f.satEnd.cel.cells = f.cel.cells.map (fun c => { c with load := Nat.min 1000000 (c.busy * 1000000 / (f.up - f.cel.satStart)), busy := 0 }) := by
  rw [Fabato.satEnd]
  dsimp only
  rw [if_neg (by omega)]
  generalize hx : List.foldl _ f (List.range 7) = x
  have hkeep : (x.up, x.cel.units, x.cel.places, x.cel.cells) = (f.up, f.cel.units, f.cel.places, f.cel.cells) := by
    rw [← hx]
    refine foldl_keeps (fun x : Fabato => (x.up, x.cel.units, x.cel.places, x.cel.cells)) (fun x b => ?_) _ f
    split
    · split <;> rfl
    · split <;> rfl
  obtain ⟨hup, hrest⟩ := Prod.mk.inj hkeep
  obtain ⟨hunits, hrest⟩ := Prod.mk.inj hrest
  obtain ⟨hplaces, hcells⟩ := Prod.mk.inj hrest
  refine ⟨rfl, rfl, hup, hunits, hplaces, ?_⟩
  dsimp only
  rw [hcells]

/-- Settles O8, command by command. -/
theorem workUnitCommandsComplete : Obligations.WorkUnitCommandsComplete := by
  intro s e cell handle busy shadow third again againShadow element value devices
  refine ⟨fun p hr hp hs => ?_, fun u hr hu hre hs hi => ?_, fun u hr hu hre hi => ?_, fun u k hr hu hs hi => ?_, fun hr => ?_, fun hr h1 h6 hb hf => ?_, fun hr h1 h6 hb => ?_,
    fun k hr hk => ?_, fun hr => ?_, fun hc hk => ?_, fun hr ht => ?_⟩
  · exact fb_answers rfl hr ⟨s.fb.dispatched cell p, dispatch_one (readyPlaces_one hp), dispatched_unshadowed hs⟩
  · exact fb_answers rfl hr (unitDone_clean hu hi busy hre hs)
  · refine fb_answers rfl hr ?_
    obtain ⟨g, hg, he, h⟩ := unitDone_residue hu hi busy hre
    rw [h, ← hg]
    exact ⟨he, rfl⟩
  · exact fb_answers rfl hr (shadowReady_equal shadow third again againShadow devices hu hs hi)
  · exact fb_answers rfl hr ⟨rfl, rfl, shadowTimeout_units s.fb⟩
  · refine ov_answers rfl hr ?_
    rw [Ovtan.blockIdle]
    exact if_neg (by rw [hb, hf]; simp; omega)
  · refine ov_answers rfl hr ?_
    rw [Ovtan.blockWake]
    exact if_neg (by rw [hb]; simp; omega)
  · refine fb_answers rfl hr ?_
    rw [Fabato.blockGate, hk]
    rfl
  · exact fb_answers rfl hr rfl
  · refine fb_writes_num (k := 4) (by decide +kernel) (by omega) rfl (fb_done (by decide)) (by decide) fun f a v hv _ =>
      (show fbOps.command f a oFtInject v = f.inject (ofLe v) from rfl).trans ?_
    rw [hv]
    exact if_neg (by omega)
  · exact fb_answers rfl hr (satEnd_facts ht)

end Sys2Proof.Machine
end


section
/-! Cuts (R454–R461): arm, request with its fan-out, cancel, fire and close. -/
namespace Sys2Proof.Machine
open Sys2Proof

/-- An arm that passes every check of R455 joins the armed cuts with its event. -/
theorem armCut_taken {c : Core} {d : Bytes} {t : Nat} (hf : cutFields d = stOk) (hl : c.angle.isLocked = true) (hn : c.cuts.length < 4)
    (hi : c.cuts.any (fun k => k.id == cutId d) = false) (hp : c.cutPredict (cutStep d) (cutAngle d) = some t) (ht : t ≥ c.ns + 2000000) :
    c.armCut d = (({ c with cuts := c.cuts ++ [{ id := cutId d, step := cutStep d, angle := cutAngle d, flags := cutKind d, desc := d, armedAt := c.ns }] } : Core).raise 0x0F01
      c.cutSub [cutId d, cutStep d, cutAngle d], stOk) := by
  unfold Core.armCut
  rw [if_neg (not_not.mpr hf), hl, if_neg (by decide), if_neg (Nat.not_le.mpr hn), hi, if_neg (by decide), hp]
  exact if_neg (Nat.not_lt.mpr ht)

/-- A group's arm that its core takes is noted as one the group itself is in. -/
theorem castArm_taken {f : Fabato} {d : Bytes} (b : Bool) (hf : cutFields d = stOk) (hi : f.cast.cuts.any (fun k => cutId k.desc == cutId d) = false) {c : Core}
    (hc : f.core.armCut d = (c, stOk)) :
    f.castArm d b = ({ f.onCore (fun _ => c) with
      cast := { f.cast with cuts := f.cast.cuts ++ [{ desc := d, self := true, initiator := b, latched := none, members := f.cutMembers, channel := [], snaps := [] }] } }, stOk) := by
  have hno : ¬ (cutFields d ≠ stOk ∨ f.cast.cuts.any (fun k => cutId k.desc == cutId d) = true) := by
    rw [hf, hi]
    exact fun h => h.elim (fun x => x rfl) (fun x => Bool.noConfusion x)
  unfold Fabato.castArm
  rw [hc]
  exact if_neg hno

/-- The group's own cancel takes a cut away that it has not latched. -/
theorem castCancel_taken {f : Fabato} {id : Nat} {k : GCut} (hk : f.cast.cuts.find? (fun k => cutId k.desc == id) = some k) (hl : k.latched = none) :
    f.castCancel id = ({ f.onCore (fun c => { c with cuts := c.cuts.filter (fun x => x.id != id) }) with
      cast := { f.cast with cuts := f.cast.cuts.filter (fun x => cutId x.desc != id) } }, stOk) := by
  unfold Fabato.castCancel
  rw [hk]
  exact if_neg (by rw [hl]; decide)

/-- A one-item write whose command starts a cut's fan-out leaves its answer to that fan-out (R454). -/
theorem fb_write_fanned {s : State} {e : Envelope} {obj : Nat} {v : Bytes} {f g : Fabato} {a : Actor} {st : Nat} (h : FbGrants s e .wo obj v f a) (ho : obj = oCutRequest ∨ obj = oCutCancel)
    (hg : fbOps.done (fbOps.command f a obj v).1 [obj] = g) (hs : (fbOps.command f a obj v).2 = st) (hn : g.fwd.nextFan ≠ f.fwd.nextFan) :
    s.write .fabato e obj v = { s with fb := (g.fanned f.fwd.nextFan e a (s.oneWrite .fabato obj v)).settle s.fb } := by
  obtain ⟨⟨hr, _, ⟨hv, hq, hh, hl, hfan, hst⟩, ⟨x, hx, hf, haa⟩, hkept⟩, hp⟩ := h
  have hkind : x.2.kind = s.fb.core.kind := (authenticate_kind hx).trans (expireSessions_kind _)
  have hty : ∀ r, findRow (fbOps.get f).kind obj = some r → s.objTy .fabato obj = r.ty.code := by
    intro r hr'
    rw [hf, show (fbOps.get (s.fb.onCore fun _ => x.2)).kind = s.fb.core.kind from hkind] at hr'
    simp [State.objTy, tyOf, State.kind, hr']
  have hact : act fbOps f a e.flags (s.oneWrite .fabato obj v) = (g, writeResponse obj (s.objTy .fabato obj) st) := by
    rw [State.oneWrite, act_command hp hst hty, hg, hs]
  have hacc : f.accept e a (s.oneWrite .fabato obj v) = f.actSelf e a (s.oneWrite .fabato obj v) := by
    unfold Fabato.accept
    simp only [hv, hq, hh, ne_eq, not_true_eq_false, if_false, Bool.not_true, Bool.false_eq_true]
    unfold Fabato.onward
    rcases hl with h | h
    · simp [h]
    · simp [h, popOwn]
  have hcut : cutWrite (s.oneWrite .fabato obj v) = true := by
    rcases ho with rfl | rfl <;> rfl
  have hself : f.actSelf e a (s.oneWrite .fabato obj v) = g.fanned f.fwd.nextFan e a (s.oneWrite .fabato obj v) := by
    unfold Fabato.actSelf
    simp only [hkept, hact]
    rw [if_neg (by simp [hfan]), if_pos ⟨hcut, hn⟩]
    rfl
  have hreq : s.fb.request e (s.oneWrite .fabato obj v) = g.fanned f.fwd.nextFan e a (s.oneWrite .fabato obj v) := by
    unfold Fabato.request
    simp only [hx]
    rw [← hf, ← haa, hacc, hself]
  rw [show s.write .fabato e obj v = s.onFb (fun f => f.request e (s.oneWrite .fabato obj v)) from rfl, onFb_ready hr, hreq]

theorem cutCancel_command (f : Fabato) (a : Actor) (v : Bytes) :
    fbOps.command f a oCutCancel v =
      (if f.cast.cuts.any (fun k => cutId k.desc == ofLe v && k.initiator) = true ∧ (f.castCancel (ofLe v)).2 = stOk then
        ((f.castCancel (ofLe v)).1.cutFan a oCutCancel .u32 v none stOk, stOk) else f.castCancel (ofLe v)) := rfl

/-- A single due cut fires at its time. -/
theorem cutsDue_one {o : Ovtan} {k : ArmedCut} {t lim : Nat} (hk : o.core.cuts = [k]) (hd : o.core.cutDue k = some t) (ht : t ≤ lim) :
    o.cutsDue lim = o.fireCut k t false false := by
  unfold Ovtan.cutsDue Core.cutsInOrder
  rw [hk, sortBy_single, List.foldl_cons, List.foldl_nil, hd]
  exact if_pos ht

/-- A single latched cut past its time-out closes as timed out. -/
theorem castTimeout_one {f : Fabato} {k : GCut} {t : Nat} (hk : f.cast.cuts = [k]) (hl : k.latched = some t) (ht : f.up ≥ t + 1000 * f.core.num oCutCloseTimeout) :
    f.castTimeout = f.castClose (cutId k.desc) true := by
  unfold Fabato.castTimeout
  rw [hk, List.filter_cons_of_pos (by rw [hl]; exact decide_eq_true ht)]
  rfl

/-- A single waiting cut whose angle the Meridian has reached latches. -/
theorem castDue_one {f : Fabato} {k : GCut} (hw : f.cast.waiting = [k]) (hl : f.core.angle.isLocked = true) (hs : cutStep k.desc = f.core.angle.step)
    (ht : fireTime f.core.angle.tm f.core.angle.lq (cutAngle k.desc) ≤ f.ns) :
    f.castDue = f.castLatch k (fireTime f.core.angle.tm f.core.angle.lq (cutAngle k.desc)) false false := by
  unfold Fabato.castDue Fabato.castDueBy
  rw [hl, if_neg (by decide), hw, List.foldl_cons, List.foldl_nil]
  exact if_pos ⟨hs, ht⟩

/-- Settles O13. -/
theorem cutCommandsComplete : Obligations.CutCommandsComplete := by
  intro s e desc id t
  refine ⟨?_, ?_, ?_, ?_, ?_, ?_, ?_, ?_⟩
  · refine ov_writes rfl (ov_done (by decide)) ?_
    rintro o a - ⟨hf, hl, hn, hi, hp, ht⟩
    exact (show ovOps.command o a oCutArm desc = ({ o with core := (o.core.armCut desc).1 }, (o.core.armCut desc).2) from rfl).trans (by rw [armCut_taken hf hl hn hi hp ht])
  · refine fb_writes rfl (fb_done (by decide)) (by decide) ?_
    rintro f a - ⟨hf, hl, hn, hi, hg, hp, ht⟩
    exact (show fbOps.command f a oCutArm desc = f.castArm desc false from rfl).trans (castArm_taken false hf hg (armCut_taken hf hl hn hi hp ht))
  · intro f a g hgr hreq hg hn
    have hc : fbOps.command f a oCutRequest desc = (g, stOk) := by
      refine (show fbOps.command f a oCutRequest desc = (if f.castRequest desc ≠ stOk then (f, f.castRequest desc)
        else ((f.castArm desc true).1.cutFan a oCutArm .blob desc (some (cutId desc)) (f.castArm desc true).2, stOk)) from rfl).trans ?_
      rw [if_neg (not_not.mpr hreq), hg]
    exact congrArg Host.Outcome.next (fb_write_fanned hgr (.inl rfl) (by rw [fb_done (by decide), hc]) (congrArg Prod.snd hc) hn)
  · intro hid
    refine ov_writes_num (k := 4) (by decide +kernel) hid rfl (ov_done (by decide)) ?_
    intro o a v hv hany
    refine (show ovOps.command o a oCutCancel v = ({ o with core := (o.core.cancelCut (ofLe v) (o.cutLatched (ofLe v))).1 }, (o.core.cancelCut (ofLe v) (o.cutLatched (ofLe v))).2) from rfl).trans ?_
    rw [hv, Core.cancelCut, if_pos hany]
  · intro hid k f a hgr hok
    obtain ⟨hk, hl, hini⟩ := hok
    have hv : ofLe (s.objBytes .fabato oCutCancel id) = id := hgr.ofLe (k := 4) (by decide +kernel) hid
    have hc : fbOps.command f a oCutCancel (s.objBytes .fabato oCutCancel id) = ({ f.onCore (fun c => { c with cuts := c.cuts.filter (fun x => x.id != id) }) with
        cast := { f.cast with cuts := f.cast.cuts.filter (fun x => cutId x.desc != id) } }, stOk) := by
      rw [← castCancel_taken hk hl, cutCancel_command, hv]
      exact if_neg (fun h => by rw [hini] at h; exact Bool.noConfusion h.1)
    have hw := fb_write hgr (.inr (by rw [fb_done (by decide), hc]; rfl))
    rw [fb_done (by decide), hc] at hw
    exact congrArg Host.Outcome.next hw
  · intro k hr hk hd ht
    exact ov_answers rfl hr (cutsDue_one hk hd ht)
  · intro k hr hk hl ht
    exact fb_answers rfl hr (castTimeout_one hk hl ht)
  · intro k hr hw hl hs ht
    exact fb_answers rfl hr (castDue_one hw hl hs ht)

end Sys2Proof.Machine
end


section
/-! Wait-for graphs and checkpoint cadence (R465–R471). -/
namespace Sys2Proof.Machine
open Sys2Proof

/-! ### The members' merge objects -/

theorem wfMerge_fields : ∀ m < 16, objArea (oCutWfMerge + m + 1) = 0x0F ∧ objElem (oCutWfMerge + m + 1) = m + 1 ∧ (oCutWfMerge + m + 1) / 256 = oCutWfMerge / 256 := by
  decide

theorem wfMerge_names : ∀ m < 16, oCutWfMerge + m + 1 ∉ [oCutArm, oCutRequest, oCutCancel, oCutWfBuild, oAngleSoftMarker] := by
  decide

theorem command_wfMerge {m : Nat} (h : m < 16) (f : Fabato) (a : Actor) (v : Bytes) : fbOps.command f a (oCutWfMerge + m + 1) v = f.wfChild m v := by
  obtain ⟨harea, helem, hbase⟩ := wfMerge_fields m h
  have hnames := wfMerge_names m h
  simp only [List.mem_cons, List.not_mem_nil, or_false, not_or] at hnames
  obtain ⟨harm, hreq, hcan, hbuild, hsoft⟩ := hnames
  rw [fb_command hsoft]
  unfold Fabato.command
  dsimp only
  rw [harea]
  change f.cutCommand a (oCutWfMerge + m + 1) v = f.wfChild m v
  unfold Fabato.cutCommand
  dsimp only
  rw [if_neg harm, if_neg hreq, if_neg hcan, if_neg hbuild, if_pos hbase, helem, Nat.add_sub_cancel]

/-! ### Graphs -/

/-- A summary of a child is kept while another present child has not written its own. -/
theorem wfChild_waits {f : Fabato} {m k : Nat} {v : Bytes} {b : WfBuild} (hv : checkSummary v = stOk) (hb : f.cast.wf.find? (fun b => b.graph == wfHeadId v && b.merging) = some b)
    (hk : k < 16) (hne : k ≠ m) (hst : f.memberState k = 1) (hno : b.kids.any (fun x => x.1 == k) = false) :
    f.wfChild m v = ({ f with cast := { f.cast with wf := f.cast.wf.map (fun x =>
        if x.graph = b.graph then { b with kids := b.kids.filter (fun k => k.1 != m) ++ [(m, v)] } else x) } }, stOk) := by
  have hkids : (b.kids.filter (fun k => k.1 != m) ++ [(m, v)]).any (fun x => x.1 == k) = false := by
    rw [List.any_eq_false] at hno ⊢
    intro x hx
    rcases List.mem_append.mp hx with hx | hx
    · exact hno x (List.mem_of_mem_filter hx)
    · rw [List.mem_singleton.mp hx]
      exact fun h => hne (of_decide_eq_true h).symm
  have hwait : ((List.range 16).filter (fun i => f.memberState i == 1 || f.memberState i == 2)).all
      (fun i => (b.kids.filter (fun k => k.1 != m) ++ [(m, v)]).any (fun k => k.1 == i)) = false := by
    rw [List.all_eq_false]
    exact ⟨k, List.mem_filter.mpr ⟨List.mem_range.mpr hk, by rw [hst]; rfl⟩, by rw [hkids]; decide⟩
  unfold Fabato.wfChild
  rw [if_neg (not_not.mpr hv), hb]
  refine (if_neg (fun h => Bool.noConfusion (hwait.symm.trans h))).trans ?_
  simp only [modWhere, beq_iff_eq]

theorem wfHold_one {f : Fabato} {b : WfBuild} (hb : f.cast.wf = [b]) (hm : b.merging = false) (ht : f.ns ≥ b.t + 1000000 * f.core.num oCutWfHold) :
    f.wfHold = f.wfFinish b (openEdges f.fwd.trace b.t) (if wfIncomplete f.fwd.trace b.t then 1 else 0) := by
  unfold Fabato.wfHold
  rw [hb, List.filter_cons_of_pos (by rw [hm, decide_eq_true ht]; rfl)]
  rfl

theorem wfWait_one {f : Fabato} {b : WfBuild} (hb : f.cast.wf = [b]) (hm : b.merging = true) (ht : f.up ≥ b.at_ + 1000000 * f.core.num oCutWfWait) :
    f.wfWait = f.wfMerge b := by
  unfold Fabato.wfWait
  rw [hb, List.filter_cons_of_pos (by rw [hm, decide_eq_true ht]; rfl)]
  rfl

/-! ### Cadence -/

/-- The first interruption of a job counts at once: no other lies close to it. -/
theorem cadWrite_first {f : Fabato} {tenant : Nat} {j : Job} (hj : f.cast.jobs.filter (fun j => j.tenant == tenant) = [j]) (hl : j.lastInt = none) :
    f.cadWrite tenant =
      (let d := j.decay f.core f.ns
       let n := { d with n := toF64 (fadd (f64Val d.n) (fofInt 1)), count := (j.count + 1) % 2 ^ 64, lastInt := some f.ns }
       ((({ f with cast := f.cast.setJob n } : Fabato).raise 0x1803 0x73 [tenant, 2, toF64 n.mtbi]).cadUpdate n, stOk)) := by
  have ht : j.tenant = tenant := by
    have hmem : j ∈ f.cast.jobs.filter (fun j => j.tenant == tenant) := by rw [hj]; exact List.mem_singleton_self j
    exact of_decide_eq_true (List.mem_filter.mp hmem).2
  have hint : f.cadInterrupt j 2 =
      (let d := j.decay f.core f.ns
       let n := { d with n := toF64 (fadd (f64Val d.n) (fofInt 1)), count := (j.count + 1) % 2 ^ 64, lastInt := some f.ns }
       (({ f with cast := f.cast.setJob n } : Fabato).raise 0x1803 0x73 [j.tenant, 2, toF64 n.mtbi]).cadUpdate n) := by
    unfold Fabato.cadInterrupt
    rw [hl]
    exact if_neg Bool.false_ne_true
  unfold Fabato.cadWrite
  rw [hj]
  exact Prod.ext (hint.trans (by rw [ht])) rfl

theorem cadDone_known {f : Fabato} {tenant step : Nat} (h : f.cast.jobs.any (fun j => j.tenant == tenant) = true) :
    f.cadDone tenant step = ({ f with cast := { f.cast with jobs := f.cast.jobs.map (fun j => if j.tenant = tenant then { j with ckpt := step } else j) } }, stOk) := by
  rw [Fabato.cadDone, if_pos h]
  simp only [modWhere, beq_iff_eq]

theorem cadTick_one {f : Fabato} {j : Job} (hj : f.cast.jobs = [j]) : f.cadTick = f.cadUpdate j := by
  rw [Fabato.cadTick, hj, List.foldl_cons, List.foldl_nil]

/-- Settles O14. -/
theorem cadenceCommandsComplete : Obligations.CadenceCommandsComplete := by
  intro s e value member tenant num
  refine ⟨?_, ?_, ?_, ?_, ?_, ?_, ?_, ?_⟩
  · exact fb_writes rfl (fb_done (by decide)) (by decide) fun f a _ _ => rfl
  · intro hm b k
    have harea := (wfMerge_fields member hm).1
    refine fb_writes rfl (fb_done (by rw [harea]; decide)) ?_ fun f a _ hok => ?_
    · have hnames := wfMerge_names member hm
      simp only [List.mem_cons, List.not_mem_nil, or_false, not_or] at hnames
      exact ⟨hnames.2.1, hnames.2.2.1⟩
    · obtain ⟨hv, hb, hk, hne, hst, hno⟩ := hok
      exact (command_wfMerge hm f a value).trans (wfChild_waits hv hb hk hne hst hno)
  · intro b hr hb hm ht
    exact fb_answers rfl hr (wfHold_one hb hm ht)
  · intro b hr hb hm ht
    exact fb_answers rfl hr (wfWait_one hb hm ht)
  · intro ht j
    refine fb_writes_num (k := 4) (by decide +kernel) ht rfl (fb_done (by decide)) (by decide) fun f a v hv hok => ?_
    obtain ⟨hj, hl⟩ := hok
    refine (show fbOps.command f a oCadenceInterrupt v = f.cadWrite (ofLe v) from rfl).trans ?_
    rw [hv]
    exact cadWrite_first hj hl
  · exact fb_writes rfl (fb_done (by decide)) (by decide) fun f a _ hok =>
      (show fbOps.command f a oCadenceCkptDone value = f.cadDone (leAt value 0 4) (leAt value 4 8) from rfl).trans (cadDone_known hok)
  · intro hn
    refine fb_writes_num (k := 4) (by decide +kernel) hn rfl (fb_done (by decide)) (by decide) fun f a v hv hok => ?_
    refine (show fbOps.command f a oCadenceAck v = f.cadAck (ofLe v) from rfl).trans ?_
    rw [hv]
    exact if_pos hok
  · intro j hr hj
    exact fb_answers rfl hr (cadTick_one hj)

end Sys2Proof.Machine
end


section
/-! Tokens, exchanges, votes, known-answer tests and the lockstep pair (R404–R417). -/
namespace Sys2Proof.Machine
open Sys2Proof

/-! ### A token request at a group that keeps a bucket (R414) -/

section
variable {f : Fabato} {path num : Nat} (hk : 2 ≤ f.core.kind) (hb : f.core.hasBucket = true)
include hk hb

theorem tokenRequest_suspicion (hs : f.fen.suspicion ≠ 0) : f.tokenRequest path num = (f.answerToken path num 2, false) := by
  rw [Fabato.tokenRequest, if_neg (Nat.not_lt.mpr hk), hb, if_neg (by decide), if_pos hs]

theorem tokenRequest_empty (hs : f.fen.suspicion = 0) (ht : f.takeToken.2 = false) : f.tokenRequest path num = (f.takeToken.1.answerToken path num 1, false) := by
  rw [Fabato.tokenRequest, if_neg (Nat.not_lt.mpr hk), hb, if_neg (by decide), if_neg (not_not.mpr hs)]
  dsimp only
  rw [ht]
  exact if_pos rfl

theorem tokenRequest_root (hs : f.fen.suspicion = 0) (ht : f.takeToken.2 = true) (hr : f.core.isRoot = true) :
    f.tokenRequest path num = (f.takeToken.1.answerToken path num 0, false) := by
  rw [Fabato.tokenRequest, if_neg (Nat.not_lt.mpr hk), hb, if_neg (by decide), if_neg (not_not.mpr hs)]
  dsimp only
  rw [ht, hr]
  rfl

theorem tokenRequest_onward (hs : f.fen.suspicion = 0) (ht : f.takeToken.2 = true) (hr : f.core.isRoot = false) :
    f.tokenRequest path num = ({ f.takeToken.1 with
      fen := { f.takeToken.1.fen with reqs := f.takeToken.1.fen.reqs ++ [{ num := num, path := path, member := 255, kinds := 0, minority := false, at_ := f.up }] } }, true) := by
  rw [Fabato.tokenRequest, if_neg (Nat.not_lt.mpr hk), hb, if_neg (by decide), if_neg (not_not.mpr hs)]
  dsimp only
  rw [ht, hr, if_neg (by decide), if_neg (by decide)]

end

/-! ### Exchanges that authenticate (R412) -/

section
variable {f : Fabato} {sender : Nat} {first second : Record} (hm : f.core.fenceMac first sender = second.payload.toNat)
include hm

theorem exchange_token (hc : bitsOf first.payload.toNat 63 56 = 0x52) : f.exchange sender first second = f.tokenAnswer first.payload.toNat := by
  unfold Fabato.exchange
  dsimp only
  rw [if_neg (not_not.mpr hm), hc]
  rfl

theorem exchange_verdict (hc : bitsOf first.payload.toNat 63 56 = 0x53) : f.exchange sender first second = f.verdictHere first.payload.toNat := by
  unfold Fabato.exchange
  dsimp only
  rw [if_neg (not_not.mpr hm), hc]
  rfl

theorem exchange_suspicion (hc : bitsOf first.payload.toNat 63 56 = 0x55) : f.exchange sender first second = f.suspicionNotice first.payload.toNat := by
  unfold Fabato.exchange
  dsimp only
  rw [if_neg (not_not.mpr hm), hc]
  rfl

end

/-- A granted token fences the member it was asked for. -/
theorem tokenAnswer_granted {f : Fabato} {p : Nat} {r : TokenReq} (hk : f.core.kind = 1) (ha : bitsOf p 47 40 = 0)
    (hr : f.fen.reqs.find? (fun r => r.path == bitsOf p 127 96 && r.num == bitsOf p 95 64) = some r) :
    f.tokenAnswer p = ({ f with fen := { f.fen with reqs := f.fen.reqs.filter (fun x => x != r) } } : Fabato).fence r.member 1 r.kinds := by
  unfold Fabato.tokenAnswer
  dsimp only
  rw [hr, ha]
  exact if_pos hk

/-- A majority verdict on a member of a tray sets its risk to one. -/
theorem verdictHere_majority {f : Fabato} {p m : Nat} (hk : f.core.kind = 1) (ha : bitsOf p 47 40 = 1) (hm : memberOf f.core.path (bitsOf p 127 96) = some m) :
    f.verdictHere p = f.setRv m f64One true := by
  unfold Fabato.verdictHere
  dsimp only
  rw [if_neg (not_not.mpr hk), hm, ha]
  rfl

/-! ### The operator's commands -/

theorem release_absent {f : Fabato} {m : Nat} (hm : m < 128) (hf : f.fen.fenced.testBit m = true) (he : f.entryOf m = none) :
    f.release m = ({ f with fen := { f.fen with fenced := f.fen.fenced ^^^ 2 ^ m } }, stOk) := by
  unfold Fabato.release
  rw [if_neg (by rw [hf]; exact fun h => h.elim (Nat.not_le.mpr hm) Bool.noConfusion)]
  dsimp only
  rw [show ({ f with fen := { f.fen with fenced := f.fen.fenced ^^^ 2 ^ m } } : Fabato).entryOf m = none from he]

theorem release_present {f : Fabato} {m : Nat} {x : RosterEntry} (hm : m < 128) (hf : f.fen.fenced.testBit m = true)
    (he : ({ f with fen := { f.fen with fenced := f.fen.fenced ^^^ 2 ^ m } } : Fabato).entryOf m = some x) (hx : x.state = 1) :
    f.release m = ((({ f with fen := { f.fen with fenced := f.fen.fenced ^^^ 2 ^ m } } : Fabato).startProbation x).checkQuorum, stOk) := by
  unfold Fabato.release
  rw [if_neg (by rw [hf]; exact fun h => h.elim (Nat.not_le.mpr hm) Bool.noConfusion)]
  dsimp only
  rw [he]
  exact if_pos (.inl hx)

theorem forceFence_member {f : Fabato} {m : Nat} (he : (f.entryOf m).isSome = true) (hf : f.fen.fenced.testBit m = false) :
    f.forceFence m = (f.fence m 4 (f.kinds m), stOk) := by
  unfold Fabato.forceFence
  exact if_neg (by rw [hf, Option.isNone_eq_false_iff.mpr he]; decide)

theorem katResult_open {f : Fabato} {v : Nat} (pass : Bool) (h : f.fen.kats.any (fun k => k.num == v / 2 ^ 32 && k.path == v % 2 ^ 32 && k.result.isNone) = true) :
    f.katResult v pass = ((f.katResult v pass).1, stOk) := by
  obtain ⟨k, hk⟩ := Option.isSome_iff_exists.mp (List.find?_isSome.mpr (List.any_eq_true.mp h))
  refine Prod.ext rfl ?_
  unfold Fabato.katResult
  dsimp only
  rw [hk]

/-! ### Time-outs -/

theorem filter_one {α : Type} {p : α → Bool} {x : α} (h : p x = true) : [x].filter p = [x] := by rw [List.filter_cons_of_pos h, List.filter_nil]

theorem voteTimeouts_one {f : Fabato} {k : VoteKey} (hk : f.fen.votes = [k]) (ht : f.up ≥ k.at_ + f.core.voteTimeout k.id) : f.voteTimeouts = f.voteClose k := by
  unfold Fabato.voteTimeouts
  rw [hk, filter_one]
  · rfl
  · exact decide_eq_true ht

theorem grantTimeout_one {f : Fabato} {r : TokenReq} (hk : f.core.kind = 1) (hr : f.fen.reqs = [r]) (ht : f.up ≥ r.at_ + 1000 * f.core.num oFenceGrantTimeout) :
    f.grantTimeout = (({ f with fen := { f.fen with reqs := [] } } : Fabato).refund).conclude r.member r.kinds r.minority false := by
  have hgone : f.fen.reqs.filter (fun x => x != r) = [] := by
    rw [hr, List.filter_cons_of_neg (by rw [bne_self_eq_false]; decide), List.filter_nil]
  have hdue : [r].filter (fun r => decide (f.up ≥ r.at_ + 1000 * f.core.num oFenceGrantTimeout)) = [r] := filter_one (decide_eq_true ht)
  unfold Fabato.grantTimeout
  rw [if_neg (not_not.mpr hk), ← hgone]
  conv_lhs => rw [hr, hdue]
  rfl

theorem katTimeout_one {f : Fabato} {k : Kat} (hk : f.fen.kats = [k]) (hr : k.result = none) (ho : k.timedOut = false)
    (ht : f.up ≥ k.at_ + 1000000000 * f.core.num oFenceKatTimeout) :
    f.katTimeout = ({ f with fen := { f.fen with kats := [{ k with timedOut := true }] } } : Fabato).raise 0x1408 0x75 [k.path, k.num] := by
  have hout : modWhere (fun x => x == k) (fun x => { x with timedOut := true }) f.fen.kats = [{ k with timedOut := true }] := by
    rw [hk, modWhere, List.map_cons, List.map_nil, if_pos (beq_self_eq_true k)]
  have hdue : [k].filter (fun k => k.result.isNone && !k.timedOut && decide (f.up ≥ k.at_ + 1000000000 * f.core.num oFenceKatTimeout)) = [k] :=
    filter_one (by rw [hr, ho, decide_eq_true ht]; rfl)
  unfold Fabato.katTimeout
  rw [← hout]
  conv_lhs => rw [hk, hdue]
  rfl

/-! ### The lockstep pair (R410) -/

theorem charge_fen (f : Fabato) (slot kind identity sub : Nat) (hard : Bool) (event : Nat) (payload : List Nat) :
    (f.charge slot kind identity sub hard event payload).1.fen = f.fen := by
  unfold Fabato.charge
  exact (apply_ite (fun x : Fabato × Bool => x.1.fen) _ _ _).trans (ite_self _)

theorem charge_grows (f : Fabato) (slot kind identity sub : Nat) (hard : Bool) (event : Nat) (payload : List Nat) :
    f.core.Grows (f.charge slot kind identity sub hard event payload).1.core := by
  unfold Fabato.charge
  dsimp only
  rw [apply_ite (fun x : Fabato × Bool => x.1.core)]
  exact grows_ite (.refl _) (.raise ..)

/-- A first divergence of the pair without open token requests halts it and is counted and reported. -/
theorem lockstepDiverge_first {f : Fabato} (hf : f.fen.failed = false) (hh : f.fen.halted = none) (hr : f.fen.reqs = []) (hd : f.divergedNow = []) :
    f.lockstepDiverge = (((({ f with fen := { f.fen with diverged := [f.alm.hours], halted := some f.up, reqs := [], failed := false } } : Fabato).onCore
      (fun c => c.bump oFenceLockstepErrors)).raise 0x140D 0x40 [1]).charge slotPair 3 0 0x40 false 0x140D [1]).1 := by
  unfold Fabato.lockstepDiverge
  rw [if_neg (by rw [hf, hh]; decide), hd, hr]
  rfl

/-- Settles O20. -/
theorem fenceCommandsComplete : Obligations.FenceCommandsComplete := by
  intro s e path num sender member value first second p
  refine ⟨?_, ?_, ?_, ?_, ?_, ?_, ?_, ?_, ?_, ?_, ?_, ?_, ?_, ?_, ?_, ?_, ?_, ?_, ?_⟩
  · intro hr hk hb hs ht hroot
    exact fb_answers rfl hr (congrArg Prod.fst (tokenRequest_root hk hb hs ht hroot))
  · intro hr hk hb hs ht hroot
    exact fb_answers rfl hr (congrArg (fun x : Fabato × Bool => x.1.fen.reqs) (tokenRequest_onward hk hb hs ht hroot))
  · intro hr hk hb hs ht
    exact fb_answers rfl hr (congrArg Prod.fst (tokenRequest_empty hk hb hs ht))
  · intro hr hk hb hs
    exact fb_answers rfl hr (congrArg Prod.fst (tokenRequest_suspicion hk hb hs))
  · rintro r hr hk rfl hm hc ha hq
    exact fb_answers rfl hr ((exchange_token hm hc).trans (tokenAnswer_granted hk ha hq))
  · rintro m hr hk rfl hm hc ha hq
    exact fb_answers rfl hr ((exchange_verdict hm hc).trans (verdictHere_majority hk ha hq))
  · rintro hr rfl hm hc
    exact fb_answers rfl hr ⟨_, rfl, exchange_suspicion hm hc⟩
  · refine fb_sets_num (k := 1) (by decide +kernel) (by decide) rfl (by decide) fun f a v hv _ _ => ?_
    rw [← hv]
    exact Prod.ext (fb_done (obj := oFenceSuspicion) (by decide) _) rfl
  · intro hm
    refine fb_writes_num (k := 4) (by decide +kernel) (by omega) rfl (fb_done (by decide)) (by decide) fun f a v hv hok => ?_
    refine (show fbOps.command f a oFenceRelease v = f.release (ofLe v) from rfl).trans ?_
    rw [hv]
    exact release_absent hm hok.1 hok.2
  · intro hm x
    refine fb_writes_num (k := 4) (by decide +kernel) (by omega) rfl (fb_done (by decide)) (by decide) fun f a v hv hok => ?_
    refine (show fbOps.command f a oFenceRelease v = f.release (ofLe v) from rfl).trans ?_
    obtain ⟨hf, he, hx⟩ := hok
    rw [hv]
    exact release_present hm hf he hx
  · intro hm
    refine fb_writes_num (k := 4) (by decide +kernel) (by omega) rfl (fb_done (by decide)) (by decide) fun f a v hv hok => ?_
    refine (show fbOps.command f a oFenceForce v = f.forceFence (ofLe v) from rfl).trans ?_
    rw [hv]
    exact forceFence_member hok.1 hok.2
  · intro hn
    refine fb_writes_num (k := 8) (by decide +kernel) hn rfl (fb_done (by decide)) (by decide) fun f a v hv hok => ?_
    refine (show fbOps.command f a (oFenceKatResult + 2) v = f.katResult (ofLe v) true from rfl).trans ?_
    rw [hv]
    exact katResult_open true hok
  · intro hn
    refine fb_writes_num (k := 8) (by decide +kernel) hn rfl (fb_done (by decide)) (by decide) fun f a v hv hok => ?_
    refine (show fbOps.command f a (oFenceKatResult + 1) v = f.katResult (ofLe v) false from rfl).trans ?_
    rw [hv]
    exact katResult_open false hok
  · intro k hr hk ht
    exact fb_answers rfl hr (voteTimeouts_one hk ht)
  · intro hr
    exact fb_answers rfl hr rfl
  · intro r hr hk hq ht
    exact fb_answers rfl hr (grantTimeout_one hk hq ht)
  · intro k hr hk hres hout ht
    exact fb_answers rfl hr (katTimeout_one hk hres hout ht)
  · intro hr hf hh hq hd
    refine fb_answers rfl hr ?_
    rw [lockstepDiverge_first hf hh hq hd, charge_fen]
    exact ⟨rfl, rfl, rfl, rfl, (charge_grows ..).mem (List.mem_append_right _ (List.mem_singleton_self _))⟩
  · intro hr hh
    refine fb_answers rfl hr ?_
    obtain ⟨t, ht⟩ := Option.isSome_iff_exists.mp hh
    exact if_neg (by rw [ht]; exact Bool.false_ne_true)

end Sys2Proof.Machine
end


section
/-! Sundog (R426–R440): journal, refill, snapshots, pairing, takeover and hand-back. -/
namespace Sys2Proof.Machine
open Sys2Proof

/-! ### Transfers that open -/

section
variable {f g : Fabato} {p : Nat} {h : SkyHead} {x : Transfer} {b : Bytes}

/-- A new item of the partner's journal goes into the mirror and is acknowledged. -/
theorem sunItem_partner (ho : f.sunOpen p h 1 x = (g, some b)) (hn : x.owner ≠ g.core.path) (hp : x.owner = g.sun.path) (hs : x.seq > g.sun.peerSeq) :
    f.sunItem p h x = ({ g with sun := { g.sun with peerSeq := x.seq, mirror := mirrorPut g.sun.mirror b } } : Fabato).sunSend p 2 x.owner x.seq 0 [] := by
  unfold Fabato.sunItem
  dsimp only
  rw [ho]
  dsimp only
  rw [if_neg hn, if_neg (not_not.mpr hp), if_neg (Nat.not_le.mpr hs)]

/-- The partner's acknowledgement takes the items it covers out of the journal. -/
theorem sunAck_partner (ho : f.sunOpen p h 2 x = (g, some b)) (hr : (g.core.skyMap p).role = 3) (hp : x.owner = g.core.path) :
    f.sunAck p h x = { g with sun := { g.sun with journal := g.sun.journal.filter (fun i => decide (i.seq > x.seq)) } } := by
  unfold Fabato.sunAck
  dsimp only
  rw [ho]
  dsimp only
  rw [hr]
  exact if_pos hp

/-- A chunk joins the load of a refill whose bulk images have not begun. -/
theorem sunRefillChunk_load (ho : f.sunOpen p h 3 x = (g, some b)) (hs : g.sun.state = .refilling) (hp : x.owner = g.core.path)
    (hb : (imageItems (g.sun.chunk x.off b).load).any (fun i => decide (i.1 ≥ 9 * 2 ^ 32)) = false) :
    f.sunRefillChunk p h x = { g with sun := g.sun.chunk x.off b } := by
  unfold Fabato.sunRefillChunk
  dsimp only
  rw [ho]
  dsimp only
  rw [if_neg (by rw [hs, hp]; simp), hb]
  exact if_neg Bool.false_ne_true

/-- The end of a refill loads everything, the items kept during it last, and acknowledges. -/
theorem sunRefillDone_paired {y : Fabato} (ho : f.sunOpen p h 4 x = (g, some b)) (hs : g.sun.state = .refilling) (hp : x.owner = g.core.path)
    (hy : y = g.sunLoadAll.sun.later.foldl (fun f i => f.loadItem (itemKey i.bytes) (itemValue i.bytes)) g.sunLoadAll) :
    f.sunRefillDone p h x = (({ y with
        sun := { y.sun with state := .paired, empty := false, seq := Nat.max y.sun.seq x.seq, later := [], load := [], refill := (3, y.sun.refill.2), handBack := y.core.kind != 1 } } :
          Fabato).sunSend p 2 y.core.path x.seq 0 []).raise 0x1704 0x72 [0, y.sun.refill.2.2.1] := by
  unfold Fabato.sunRefillDone
  dsimp only
  rw [ho]
  dsimp only
  rw [if_neg (by rw [hs, hp]; simp), ← hy]
  rfl

/-- The first chunk of a child's snapshot takes the place of an unfinished one. -/
theorem sunSnapChunk_first (ho : f.sunOpen p h 5 x = (g, some b)) (hr : (g.core.skyMap p).role = 2) (hb : b ≠ []) (hz : x.off = 0) :
    f.sunSnapChunk p h x = { g with sun := { g.sun with snaps := g.sun.snaps.filter (fun y => !(y.path == x.owner && !y.complete)) ++
      [{ path := x.owner, at_ := 0, image := overlay [] 0 b, complete := false }] } } := by
  have hnone : (g.sun.snaps.filter (fun y => !(y.path == x.owner && !y.complete))).find? (fun y => y.path == x.owner && !y.complete) = none := by
    rw [List.find?_eq_none]
    intro y hy hpath
    have := (List.mem_filter.mp hy).2
    rw [hpath] at this
    exact Bool.noConfusion this
  unfold Fabato.sunSnapChunk
  dsimp only
  rw [ho]
  dsimp only
  rw [if_pos hr, if_neg (by rw [List.isEmpty_iff]; exact hb), if_pos hz, hnone, List.filter_filter, hz]
  simp only [Bool.and_self, Option.getD_none]

/-- A child's snapshot that is whole is kept as its newest, with the one before it, and acknowledged. -/
theorem sunSnapDone_kept {y : Snapshot} (ho : f.sunOpen p h 6 x = (g, some b)) (hr : (g.core.skyMap p).role = 2)
    (hy : g.sun.snaps.find? (fun y => y.path == x.owner && !y.complete) = some y) (hl : y.image.length = x.off) :
    f.sunSnapDone p h x = ({ g with sun := { g.sun with snaps := g.sun.snaps.filter (fun y => y.path != x.owner) ++
      (g.sun.snaps.filter (fun y => y.path == x.owner && y.complete)).drop ((g.sun.snaps.filter (fun y => y.path == x.owner && y.complete)).length - 1) ++
      [{ y with complete := true, at_ := ofTime80 (leAt b 0 10) }] } } : Fabato).sunSend p 2 x.owner 0 0 [] := by
  unfold Fabato.sunSnapDone
  dsimp only
  rw [ho]
  dsimp only
  rw [if_pos hr, hy]
  exact if_neg (not_not.mpr hl)

/-- An acceptable hello pairs a group that is alone and has its durable state. -/
theorem sunHello_pairs (ho : f.sunOpen p h 7 x = (g, some b)) (hr : (g.core.skyMap p).role = 3) (hn : g.sunRefusal (leAt b 0 16) (leAt b 16 4) (leAt b 20 4) = none)
    (he : g.sun.empty = false) (hs : g.sun.state = .alone) :
    f.sunHello p h x = ({ g with sun := { g.sun with
      path := leAt b 16 4, uid := leAt b 0 16, feed := leAt b 20 4, coFed := leAt b 20 4 == g.core.num oSundogFeed, lostAt := none, state := .paired } } : Fabato).sunResend p := by
  unfold Fabato.sunHello
  dsimp only
  rw [ho]
  dsimp only
  rw [if_neg (not_not.mpr hr), hn]
  dsimp only
  rw [if_neg (fun hc => by rw [he] at hc; exact Bool.noConfusion hc.1), hs]

/-- A hand-back ends the hosting with the path's next sequence numbers. -/
theorem sunHandBack_ends {y : Fabato} (ho : f.sunOpen p h 8 x = (g, some b)) (hh : g.sun.hosting = some x.owner)
    (hy : y = g.sunSend p 1 x.owner (g.sun.peerSeq + 1) 0 (itemBytes (7 * 2 ^ 32) (some ((storeGet g.sun.mirror (7 * 2 ^ 32)).getD (zeros 8))))) :
    f.sunHandBack p h x = { y with
      sun := { y.sun with state := .paired, hosting := none, hostLog := [], peerSeq := y.sun.peerSeq + 1 }, g := { y.g with parent := { y.g.parent with hosting := false } } } := by
  subst hy
  unfold Fabato.sunHandBack
  dsimp only
  rw [ho]
  exact if_neg (not_not.mpr hh)

end

/-! ### Takeover (R432) -/

section
variable {f : Fabato} {path host i q : Nat} (hi : memberOf f.core.path path = some i) (hq : f.core.memberPort i = some q)
include hi hq

theorem takeoverRequest_granted {t : Nat} (hu : f.g.portUp q = false) (hd : (f.g.port q).downAt = some t) (ht : f.up ≥ t + 1000 * f.core.num oSundogTakeoverHold) :
    f.takeoverRequest path host = ((f.resetChecks path).raise 0x1703 0x72 [path, host]).onCore (fun c => c.send (.exchange host 0x81 [path, 1])) := by
  unfold Fabato.takeoverRequest
  simp only [hi, hq, hu, hd, decide_eq_true ht, Bool.not_false, Bool.and_self, if_true]

theorem takeoverRequest_refused (hu : f.g.portUp q = true) : f.takeoverRequest path host = f.onCore (fun c => c.send (.exchange host 0x81 [path, 0])) := by
  unfold Fabato.takeoverRequest
  simp only [hi, hq, hu, Bool.not_true, Bool.false_and, Bool.false_eq_true, if_false]

end

theorem takeoverHold_asks {f : Fabato} {t : Nat} (hs : f.sun.state = .lost) (hl : f.sun.lostAt = some t) (ht : f.up ≥ t + 1000 * f.core.num oSundogTakeoverHold) (hk : 2 ≤ f.core.kind)
    (hp : (f.core.parentPort false).isSome = true) (hu : (f.core.portsOf 5).any (fun p => f.g.portUp p) = true) :
    f.takeoverHold = f.onCore (fun c => c.send (.exchange c.plan.parentPath 0x80 [f.sun.path, c.path])) := by
  unfold Fabato.takeoverHold
  dsimp only
  rw [if_neg (by rw [hs]; simp), hs, hl]
  refine if_neg ?_
  rw [hu, Option.isNone_eq_false_iff.mpr hp]
  rintro (h | h | h | h)
  · omega
  · omega
  · exact Bool.noConfusion h
  · exact Bool.noConfusion h

/-! ### The snapshot interval (R431) -/

theorem onCore_same {f : Fabato} {h : Core → Core} (e : h f.g.core = f.g.core) : f.onCore h = f := by
  change ({ f with g := { f.g with core := h f.g.core } } : Fabato) = f
  rw [e]

theorem snapshotTimer_pushes {f y : Fabato} (hs : f.sun.state = .paired) (hp : (f.core.parentPort false).isSome = true) (hk : f.core.keys.tree ≠ zeros 32)
    (ht : f.up ≥ f.sun.pushAt + secNs * f.snapInterval) (hg : storeGet f.core.pairGood oSundogSnapshotInterval = none)
    (hy : y = ({ f with sun := { f.sun with pushAt := f.up, pushTime := f.ns } } : Fabato).sunPush f.core.path f.durable) (hh : y.sun.hosting = none) : f.snapshotTimer = y := by
  have hno : ¬ (f.sun.state = .serving ∨ (f.core.parentPort false).isNone = true ∨ f.core.keys.tree = zeros 32) := by
    rw [hs, Option.isNone_eq_false_iff.mpr hp]
    rintro (h | h | h)
    · cases h
    · cases h
    · exact hk h
  have hpush : (({ f with sun := { f.sun with pushAt := f.up, pushTime := f.ns } } : Fabato).onCore (fun c => c.usePair oSundogSnapshotInterval oSundogSnapshotIntervalCofed)).sunPush
      f.core.path f.durable = y := by
    rw [hy, onCore_same]
    exact usePair_agreed _ hg
  unfold Fabato.snapshotTimer
  rw [if_neg hno, if_pos ⟨ht, by rw [hs]; decide, by rw [hs]; decide⟩]
  dsimp only
  rw [hpush, hh]

/-- Settles O28. -/
theorem sundogCommandsComplete : Obligations.SundogCommandsComplete := by
  intro s e p path host h x g b hr
  refine ⟨?_, ?_, ?_, ?_, ?_, ?_, ?_, ?_, ?_, ?_, ?_, ?_, ?_, ?_⟩
  · intro ho hn hp hs
    exact fb_answers rfl hr (sunItem_partner ho hn hp hs)
  · intro ho hrole hp
    exact fb_answers rfl hr (sunAck_partner ho hrole hp)
  · intro ho hs hp hb
    exact fb_answers rfl hr (sunRefillChunk_load ho hs hp hb)
  · intro y ho hs hp hy
    exact fb_answers rfl hr (sunRefillDone_paired ho hs hp hy)
  · intro ho hrole hb hz
    exact fb_answers rfl hr (sunSnapChunk_first ho hrole hb hz)
  · intro y ho hrole hy hl
    exact fb_answers rfl hr ⟨_, rfl, sunSnapDone_kept ho hrole hy hl⟩
  · intro ho hrole hn he hs
    exact fb_answers rfl hr (sunHello_pairs ho hrole hn he hs)
  · intro ho hh
    exact fb_answers rfl hr ⟨_, rfl, sunHandBack_ends ho hh rfl⟩
  · intro i q t hi hq hu hd ht
    exact fb_answers rfl hr (takeoverRequest_granted hi hq hu hd ht)
  · intro i q hi hq hu
    exact fb_answers rfl hr (takeoverRequest_refused hi hq hu)
  · intro hs hp
    exact fb_answers rfl hr (if_pos ⟨rfl, hs, hp⟩)
  · intro hp
    refine fb_writes_num (k := 4) (by decide +kernel) hp rfl (fb_done (by decide)) (by decide) fun f a v hv hok => ?_
    refine (show fbOps.command f a oSundogTakeover v = f.takeoverWrite (ofLe v) from rfl).trans ?_
    rw [hv]
    exact if_pos hok
  · intro hs hp hk ht hh hg
    exact fb_answers rfl hr ⟨_, rfl, snapshotTimer_pushes hs hp hk ht hg rfl⟩
  · intro t hs hl ht hk hp hu
    exact fb_answers rfl hr (takeoverHold_asks hs hl ht hk hp hu)

end Sys2Proof.Machine
end


section
/-! Frames of a Sky port (R285–R291). -/
namespace Sys2Proof.Machine
open Sys2Proof

section
variable {f x : Fabato} {p : Nat} {h : SkyHead}

/-- In sequence, the records of a member's or a peer's port are queued. -/
theorem skyRecords_queued {l : List ExtRecord} (hh : f.relayHeld p h = false) (ht : f.skyTake p h = (x, true)) (hr : x.relays p = false)
    (hrole : (x.core.skyMap p).role = 2 ∨ (x.core.skyMap p).role = 5) : f.skyRecords p h l = x.queueRecords p false l.length l := by
  unfold Fabato.skyRecords
  rw [hh, if_neg Bool.false_ne_true]
  dsimp only
  rw [ht]
  dsimp only
  rw [if_neg (by decide), hr, if_neg Bool.false_ne_true]
  rcases hrole with hrole | hrole <;> rw [hrole] <;> rfl

theorem skyRecords_dropped {l : List ExtRecord} (hh : f.relayHeld p h = false) (ht : f.skyTake p h = (x, false)) : f.skyRecords p h l = x := by
  unfold Fabato.skyRecords
  rw [hh, if_neg Bool.false_ne_true]
  dsimp only
  rw [ht]
  exact if_pos rfl

/-- In sequence, a message is received as from the port. -/
theorem skyMessage_received {b : Bytes} (hh : f.relayHeld p h = false) (ht : f.skyTake p h = (x, true)) (hr : x.relays p = false) :
    f.skyMessage p h b = (x.onG (fun g => g.skyTaken p 2 (skySlots 2 0 b.length))).receiveBytes (.sky p) b := by
  unfold Fabato.skyMessage
  rw [hh, if_neg Bool.false_ne_true]
  dsimp only
  rw [ht]
  dsimp only
  rw [if_neg (by decide), hr]
  exact if_neg Bool.false_ne_true

/-- In sequence, the records that a Condenser frame holds are queued. -/
theorem skyCondenser_queued {b : Bytes} {d : Group × List ExtRecord} (hh : f.relayHeld p h = false) (ht : f.skyTake p h = (x, true)) (hr : x.relays p = false)
    (hd : d = x.g.condReceive (leAt (x.g.port p).peerHello 12 4) h.cls.code b) (hn : d.2 ≠ []) :
    f.skyCondenser p h b = ({ x with g := d.1 } : Fabato).queueRecords p false (skySlots 4 0 b.length) d.2 := by
  unfold Fabato.skyCondenser
  rw [hh, if_neg Bool.false_ne_true]
  dsimp only
  rw [ht]
  dsimp only
  rw [if_neg (by decide), hr, if_neg Bool.false_ne_true, ← hd]
  exact if_neg (by rw [List.isEmpty_iff]; exact hn)

/-- What the partner relays is queued as relayed. -/
theorem skyRelay_queued {child : Nat} {l : List ExtRecord} (hl : l ≠ []) (ht : f.skyTake p h = (x, true)) (hr : (x.core.skyMap p).role = 3) :
    f.skyRelay p h child (.records l) = x.queueRecords p true (skySlots 7 0 (64 * l.length + 8)) l := by
  unfold Fabato.skyRelay
  dsimp only
  rw [ht]
  dsimp only
  rw [if_neg (by decide), if_neg (not_not.mpr hr)]
  exact if_neg (by rw [List.isEmpty_iff]; exact hl)

end

theorem skyGrants_up {g : Group} {p a cc ss t : Nat} (h : SkyHead) (hu : g.portUp p = true) :
    g.skyGrants p h a cc ss t = ((g.skyHead p h false).1).onPort p (fun y =>
      (((y.onCls 3 (fun k => { k with granted := a % 2 ^ 32 })).onCls 2 (fun k => { k with granted := cc % 2 ^ 32 })).onCls 1
        (fun k => { k with granted := ss % 2 ^ 32 })).onCls 0 (fun k => { k with granted := t % 2 ^ 32 })) := by
  unfold Group.skyGrants
  rw [hu]
  exact if_neg (by decide)

/-- A hello with ECHO of a port in Up is noted. -/
theorem skyHello_up {g : Group} {p : Nat} {b : Bytes} (hs : (g.port p).state = .up) (he : (leAt b 0 1).testBit 0 = true) :
    g.skyHello p b = g.onPort p (fun y => { y with lastRx := g.core.up, peerHello := b }) := by
  unfold Group.skyHello
  dsimp only
  rw [hs, he]
  exact if_pos rfl

theorem skyHelloFrame_noted {f : Fabato} {p : Nat} {b : Bytes} (hs : (f.g.port p).state = .up) (he : (leAt b 0 1).testBit 0 = true) (hu : f.g.portUp p = true) :
    f.skyHelloFrame p b = f.onG (fun g => (g.onPort p (fun y => { y with lastRx := f.up, peerHello := b })).parentScan p) := by
  have hg : f.onG (fun g => (g.skyHello p b).parentScan p) = f.onG (fun g => (g.onPort p (fun y => { y with lastRx := f.up, peerHello := b })).parentScan p) :=
    onG_congr (congrArg (fun g => Group.parentScan g p) (skyHello_up hs he))
  unfold Fabato.skyHelloFrame
  dsimp only
  rw [hg, hu]
  exact if_neg (fun hc => Bool.noConfusion hc.2.2)

/-- Settles O26. -/
theorem skyFrameCommandsComplete : Obligations.SkyFrameCommandsComplete := by
  intro s p child a cc ss t h l b x hr
  refine ⟨?_, ?_, ?_, ?_, ?_, ?_, ?_⟩
  · intro hh ht hrel hrole
    exact fb_answers rfl hr (skyRecords_queued hh ht hrel hrole)
  · intro hh ht
    exact fb_answers rfl hr (skyRecords_dropped hh ht)
  · intro hh ht hrel
    exact fb_answers rfl hr (skyMessage_received hh ht hrel)
  · intro hu
    exact fb_answers rfl hr (onG_congr (skyGrants_up h hu))
  · intro d hh ht hrel hd hn
    exact fb_answers rfl hr (skyCondenser_queued hh ht hrel hd hn)
  · intro hs he hu
    exact fb_answers rfl hr (skyHelloFrame_noted hs he hu)
  · intro hl ht hrole
    exact fb_answers rfl hr (skyRelay_queued hl ht hrole)

end Sys2Proof.Machine
end


section
/-! Sky ports (R282–R296): training, faults, widths, parent failover. -/
namespace Sys2Proof.Machine
open Sys2Proof

/-! ### Ports by number -/

theorem port_onPort (g : Group) (p x : Nat) (h : SkyPort → SkyPort) :
    (g.onPort p h).port x = if x = p ∧ p < g.sky.length then h (g.port p) else g.port x := by
  simp only [Group.port, Group.onPort, modAt, List.getD_eq_getElem?_getD, List.getElem?_modify]
  by_cases hx : x = p
  · subst hx
    by_cases hl : x < g.sky.length
    · simp [hl]
    · simp [hl]
  · have hp : ¬ p = x := fun e => hx e.symm
    simp [hx, hp]

theorem onPort_sky (g : Group) (p : Nat) (h : SkyPort → SkyPort) : (g.onPort p h).sky.length = g.sky.length := List.length_modify ..

theorem skySend_sky (g : Group) (p cls kind count : Nat) (b : Bytes) : (g.skySend p cls kind count b).sky.length = g.sky.length := onPort_sky ..

theorem skySends_sky (p cls : Nat) (l : List SkyFrame) (g : Group) : (l.foldl (fun g f => g.skySend p cls f.kind f.count f.bytes) g).sky.length = g.sky.length :=
  foldl_keeps (p := fun g : Group => g.sky.length) (step := fun (g : Group) (f : SkyFrame) => g.skySend p cls f.kind f.count f.bytes)
    (fun g f => skySend_sky g p cls f.kind f.count f.bytes) l g

theorem moveClass_sky (g : Group) (p0 p1 cls : Nat) : (g.moveClass p0 p1 cls).sky.length = g.sky.length :=
  (skySends_sky p1 cls ((g.port p0).class cls).retry _).trans (onPort_sky ..)

theorem failA_sky (g : Group) (p cause : Nat) : (g.failA p cause).sky.length = g.sky.length := by
  unfold Group.failA
  split
  · split
    · exact moveClass_sky ..
    · rfl
  · rfl

theorem failBackNow_sky (g : Group) (p : Nat) : (g.failBackNow p).sky.length = g.sky.length := by
  unfold Group.failBackNow
  split
  next p0 p1 _ _ =>
    split
    · dsimp only
      rw [apply_ite Group.sky, ite_self]
      exact foldl_keeps (fun g : Group => g.sky.length) (fun g c => (skySends_sky p0 c ((g.port p1).class c).retry _).trans (onPort_sky ..)) _ g
    · rfl
  · rfl

theorem skyDown_sky (g : Group) (p cause : Nat) : (g.skyDown p cause).sky.length = g.sky.length := by
  unfold Group.skyDown
  split
  · rfl
  · rw [failBackNow_sky, failA_sky, apply_ite (fun g : Group => g.sky), ite_self]
    exact onPort_sky ..

/-! ### Training and faults -/

theorem skyTrained_verifies {g : Group} {p : Nat} (hs : (g.port p).state = .training) (hl : (g.core.skyMap p).lanes ≠ 0) :
    g.skyTrained p = g.onPort p (fun x =>
      { x with state := .verifying, preempt := 1, lanes := if x.tryWidth = 0 then (g.core.skyMap p).lanes else x.tryWidth,
               first := if x.tryWidth = 0 ∨ x.tryWidth = (g.core.skyMap p).lanes then (g.core.skyMap p).first else x.first }) :=
  if_pos ⟨hs, hl⟩

theorem skyRto_resends {g : Group} {p cls : Nat} (hu : g.portUp p = true) (hr : ((g.port p).class cls).retry ≠ [])
    (ht : g.core.up ≥ ((g.port p).class cls).progressAt + 1000 * g.core.num oLinkSkyRto) :
    g.skyRto p cls = g.onPort p (fun x => x.onCls cls (fun c => { c with resend := some 0, progressAt := g.core.up })) :=
  if_pos ⟨hu, by rw [Bool.not_eq_true', List.isEmpty_eq_false_iff]; exact hr, ht⟩

theorem skyFault_down {g : Group} {p : Nat} (hu : g.portUp p = false) (hs : (g.port p).state ≠ .down) :
    g.skyFault p = g.onPort p (fun x => { x with state := .training, preempt := 0, echo := false, tryWidth := (g.core.skyMap p).lanes, tryAt := g.core.up }) := by
  rw [Group.skyFault, hu, if_neg Bool.false_ne_true, if_neg hs]

theorem skyWidthTry_narrows {g : Group} {p : Nat} (hs : (g.port p).state = .training) (hw : (g.port p).tryWidth ≠ 0) (ht : g.core.up ≥ (g.port p).tryAt + 50000000) :
    g.skyWidthTry p = g.onPort p (fun x => { x with tryWidth := if x.tryWidth ≤ 1 then (g.core.skyMap p).lanes else x.tryWidth / 2, tryAt := g.core.up }) :=
  if_pos ⟨hs, hw, ht⟩

/-- With the first lane of four faulty, the widest healthy aligned group is the second pair. -/
theorem secondPair (n : Nat) :
    ([2, 1].filter (fun w => decide (w < 4))).findSome? (fun w => (((List.range (4 / w)).map (fun i => n + i * w)).filter (fun f =>
      (List.range w).all (fun k => !([] ++ [n]).eraseDups.contains (f + k)))).head?.map (fun f => (w, f))) = some (2, n + 2) := by
  have h3 : ¬ n + 2 + 1 = n := by omega
  simp [List.range_succ, List.range_zero, h3]

theorem skyReform_secondPair {g : Group} {p : Nat} (hl : (g.core.skyMap p).lanes = 4) (hs : (g.port p).state ≠ .down) (hw : (g.port p).lanes = 4) (hf : (g.port p).faulty = []) :
    g.skyReform p [(g.core.skyMap p).first] =
      { ((g.skyDown p 1).onPort p (fun s => { s with state := .training, faulty := [(g.core.skyMap p).first], lanes := 2, first := (g.core.skyMap p).first + 2, tryWidth := 2, tryAt := (g.skyDown p 1).core.up })) with
        core := (g.skyDown p 1).core.raise 0x0A08 (0xB0 + (g.core.skyMap p).first) [p, 4, 2] } := by
  have hno : ¬ ((g.core.skyMap p).lanes = 0 ∨ (g.port p).state = .down) := by
    rw [hl]
    exact fun h => h.elim (fun e => absurd e (by decide)) hs
  unfold Group.skyReform
  dsimp only
  rw [if_neg hno, hl, hw, hf, if_neg (by decide), secondPair]
  rfl

/-! ### Preemption -/

theorem preemptDone_verifying {g : Group} {p : Nat} (h1 : (g.port p).preempt = 1) (hs : (g.port p).state = .verifying) :
    g.preemptDone p true = (g.onPort p (fun x => { x with preempt := 2, state := .hello })).sendHello p := by
  unfold Group.preemptDone
  dsimp only
  rw [if_neg (not_not.mpr h1), if_pos hs]
  simp only [if_pos hs, if_true]

theorem preemptDone_later {g : Group} {p : Nat} (ok : Bool) (h1 : (g.port p).preempt = 1) (hs : (g.port p).state ≠ .verifying) :
    g.preemptDone p ok =
      (if ok then g.onPort p (fun x => { x with preempt := if ok then 2 else 3 })
       else { g.onPort p (fun x => { x with preempt := if ok then 2 else 3 }) with core := g.core.raise 0x0A07 (0xB0 + (g.core.skyMap p).first) [p] }) := by
  unfold Group.preemptDone
  dsimp only
  rw [if_neg (not_not.mpr h1), if_neg hs]
  simp only [if_neg hs]
  rfl

/-! ### The parent's two ports -/

theorem failbackDone_returns {g : Group} {q cls : Nat} (hq : g.core.parentPort true = some q) (hd : g.parent.drain.getD cls false = true) (hr : ((g.port q).class cls).retry = []) :
    g.failbackDone cls = { g with
      parent := { g.parent with onP1 := g.parent.onP1.set cls false, drain := g.parent.drain.set cls false },
      core := g.core.raise 0x0A06 (0xB0 + (g.core.skyMap q).first) [2 ^ cls] } := by
  unfold Group.failbackDone
  rw [hq]
  exact if_pos ⟨hd, by rw [hr]; rfl⟩

theorem failoverHold_moves {g : Group} {q r t : Nat} {cs : List Nat} (hq : g.core.parentPort false = some q) (hr : g.core.parentPort true = some r) (hs : (g.port q).state ≠ .up)
    (hd : (g.port q).downAt = some t) (hc : cs = [2, 1, 0].filter (fun c => !g.parent.onP1.getD c false)) (hn : cs ≠ []) (hu : g.portUp r = true)
    (ht : g.core.up ≥ t + 1000 * g.core.num oLinkFailoverHold) {y : Group} (hy : y = cs.foldl (fun g c => g.moveClass q r c) g) :
    g.failoverHold = { y with core := (y.core.bump oLinkFailovers).raise 0x0A05 (0xB0 + (y.core.skyMap q).first) [ofBits cs, 1] } := by
  subst hy
  have hne : (!cs.isEmpty) = true := by rw [Bool.not_eq_true', List.isEmpty_eq_false_iff]; exact hn
  unfold Group.failoverHold
  rw [hq, hr]
  dsimp only
  rw [hd]
  cases hst : (g.port q).state with
  | up => exact absurd hst hs
  | down => dsimp only; rw [← hc]; exact if_pos ⟨ht, hu, hne⟩
  | training => dsimp only; rw [← hc]; exact if_pos ⟨ht, hu, hne⟩
  | verifying => dsimp only; rw [← hc]; exact if_pos ⟨ht, hu, hne⟩
  | hello => dsimp only; rw [← hc]; exact if_pos ⟨ht, hu, hne⟩

theorem failbackHold_drains {g : Group} {q t : Nat} (hq : g.core.parentPort false = some q) (hs : (g.port q).state = .up) (hu : (g.port q).upAt = some t)
    (ht : g.core.up ≥ t + 1000000 * g.core.num oLinkFailbackHold) : g.failbackHold = { g with parent := { g.parent with drain := g.parent.onP1 } } := by
  unfold Group.failbackHold
  rw [hq]
  dsimp only
  rw [hs, hu]
  exact if_pos ht

/-- Settles O25. -/
theorem skyPortCommandsComplete : Obligations.SkyPortCommandsComplete := by
  intro s p cls faulty ok hr
  refine ⟨?_, ?_, ?_, ?_, ?_, ?_, ?_, ?_, ?_, ?_, ?_, ?_, ?_⟩
  · intro hs hl
    exact fb_answers rfl hr (onG_congr (skyTrained_verifies hs hl))
  · intro hu hq ht
    exact fb_answers rfl hr (onG_congr (skyRto_resends hu hq ht))
  · intro ht
    exact fb_answers rfl hr (onG_congr (if_pos ht))
  · intro hu
    exact fb_answers rfl hr (onG_congr (if_pos hu))
  · intro hu hs
    exact fb_answers rfl hr (onG_congr (skyFault_down hu hs))
  · rintro hp hl hs hw hf rfl
    refine fb_answers rfl hr ?_
    have hport := port_onPort (s.fb.g.skyDown p 1) p p (fun x => { x with
      state := .training, faulty := [(s.fb.core.skyMap p).first], lanes := 2, first := (s.fb.core.skyMap p).first + 2, tryWidth := 2, tryAt := (s.fb.g.skyDown p 1).core.up })
    rw [if_pos ⟨rfl, by rw [skyDown_sky]; exact hp⟩] at hport
    rw [onG_of (skyReform_secondPair hl hs hw hf)]
    refine ⟨?_, ?_, ?_, ?_, ?_, List.mem_append_right _ (List.mem_singleton_self _)⟩
    · exact congrArg SkyPort.state hport
    · exact congrArg SkyPort.lanes hport
    · exact congrArg SkyPort.first hport
    · exact congrArg SkyPort.tryWidth hport
    · exact congrArg SkyPort.faulty hport
  · intro hs hw ht
    exact fb_answers rfl hr (onG_congr (skyWidthTry_narrows hs hw ht))
  · intro h1 hs
    exact fb_answers rfl hr (onG_congr (preemptDone_verifying h1 hs))
  · intro h1 hs
    refine fb_answers rfl hr ?_
    rw [onG_of (preemptDone_later ok h1 hs)]
    cases ok with
    | true => exact ⟨fun x => port_onPort .., fun _ => rfl⟩
    | false => exact ⟨fun x => port_onPort .., fun h => Bool.noConfusion h⟩
  · intro q hq hd hn
    exact fb_answers rfl hr (onG_congr (failbackDone_returns hq hd hn))
  · intro hs ht
    exact fb_answers rfl hr (onG_congr (if_pos ⟨hs, ht⟩))
  · intro q q' t cs hq hq' hs hd hc hn hu ht
    exact fb_answers rfl hr ⟨_, rfl, onG_congr (failoverHold_moves hq hq' hs hd hc hn hu ht rfl)⟩
  · intro q t hq hs hu ht
    exact fb_answers rfl hr (onG_congr (failbackHold_drains hq hs hu ht))

end Sys2Proof.Machine
end


section
/-! Ingest, ports, gate lists, shapers, policers, subscriptions and the merge (R316–R334). -/
namespace Sys2Proof.Machine
open Sys2Proof

/-! ### Ingest (R313–R321) -/

/-- The group once engine `e` has counted that it serves `w`. -/
def Fabato.ingestServed (f : Fabato) (e : Nat) (w : Waiting) : Fabato :=
  { f.onG (fun g => { g with core := g.core.bump (oJetIngestRecords + e + 1), jet := { g.jet with engines := modAt g.jet.engines e (fun x => x.served w) } }) with
    cel := { f.cel with ingestBusy := modAt f.cel.ingestBusy e (fun n => n + 1) } }

/-- The record at a place of a lane's queue leaves it, and its slot is free. -/
def Fabato.laneTaken (f : Fabato) (w : Waiting) : Fabato :=
  f.onG (fun g => g.onLane w.lane (fun l =>
    { l with lane := { l.lane with rx := { l.lane.rx with queue := l.lane.rx.queue.eraseIdx w.place, taken := modAt l.lane.rx.taken w.cls.code (fun n => slotAdd n 1) } } }))

/-- The record an engine takes from a Drizzle lane is formed and checked as the mapped member's, or counted where no member is mapped. -/
theorem ingestTake_lane {f : Fabato} {e : Nat} {w : Waiting} {x : RxRec} (hw : f.g.engineNext e = some w) (hl : w.lane < 1000)
    (hx : (f.g.lanes[w.lane]?).bind (fun l => l.lane.rx.queue[w.place]?) = some x) :
    f.ingestTake e = match f.g.laneMap.findIdx? (fun n => n == w.lane) with
      | none => ((f.ingestServed e w).laneTaken w).onCore (fun c => c.bump oHorizonExcessRecords)
      | some i => (((f.ingestServed e w).laneTaken w).formDrizzle i w.lane x).1.ingest (0x50 + e) (some i) (some (.drizzle i)) (((f.ingestServed e w).laneTaken w).formDrizzle i w.lane x).2 := by
  have hrec : (((f.ingestServed e w).g.lanes[w.lane]?).bind (fun l => l.lane.rx.queue[w.place]?)) = some x := hx
  unfold Fabato.ingestTake
  rw [hw]
  change (if w.lane < 1000 then
      match (((f.ingestServed e w).g.lanes[w.lane]?).bind (fun l => l.lane.rx.queue[w.place]?)) with
      | none => f.ingestServed e w
      | some x =>
        match ((f.ingestServed e w).laneTaken w).g.laneMap.findIdx? (fun n => n == w.lane) with
        | none => ((f.ingestServed e w).laneTaken w).onCore (fun c => c.bump oHorizonExcessRecords)
        | some i => (((f.ingestServed e w).laneTaken w).formDrizzle i w.lane x).1.ingest (0x50 + e) (some i) (some (.drizzle i)) (((f.ingestServed e w).laneTaken w).formDrizzle i w.lane x).2
    else _) = _
  rw [if_pos hl, hrec]
  rfl

/-! ### Ports and gate lists (R327, R329) -/

theorem portFrame_turn {g : Group} {port : Nat} (h : g.resendAny port [2, 1, 0] = none) : g.portFrame port = (g.refreshPort port).drr port 65536 := by
  rw [Group.portFrame, h]

theorem portFrame_resend {g y : Group} {port : Nat} (h : g.resendAny port [2, 1, 0] = some y) : g.portFrame port = y := by
  rw [Group.portFrame, h]

/-- A port beyond the Sky ports sends its waiting alarms as one frame. -/
theorem portAlarm_sends {g : Group} {port : Nat} {q : JPort} {items : List JItem} (h : g.resendAny port [3] = none) (hq : g.jet.ports[port]? = some q) (ha : q.alarms ≠ [])
    (hi : items = frontItems (g.core.num oJetAFrameRecords) (q.alarms.map (fun x => x.2))) (ht : g.linkTakes port 3 (frameOf items) = true) (ho : g.outPort port 3 = none) :
    g.portAlarm port = { g with
      core := (g.core.send (.frame port (frameOf items).1 (frameOf items).2.2)).count (oJetPortBytes + port + 1) (frameBytes (frameOf items)),
      jet := { g.jet with ports := g.jet.ports.modify port (fun p => { p with alarms := p.alarms.drop items.length }) } } := by
  unfold Group.portAlarm
  rw [h, hq]
  dsimp only [Option.map_some, Option.getD_some]
  rw [if_neg (by rw [List.isEmpty_iff]; exact ha), ← hi, if_pos ht, ho]
  rfl

theorem gclTakeover_switches {g : Group} {port : Nat} {l : Gcl} (h : (g.jet.ports[port]?).bind (fun p => p.pending) = some l) (ht : l.base ≤ g.core.ns) :
    g.gclTakeover port = { g with
      core := g.core.raise 0x0C02 0x58 [port, l.base, gclCycle l.list], jet := { g.jet with ports := g.jet.ports.modify port (fun p => { p with oper := l, pending := none }) } } := by
  rw [Group.gclTakeover, h]
  exact if_pos ht

theorem gclNext_advances {g : Group} {port : Nat} {q : JPort} (h : g.jet.ports[port]? = some q) (hn : gclCount q.oper.list > 0)
    (ht : q.oper.start + (gclEntry q.oper.list q.oper.entry).1 ≤ g.core.ns) :
    g.gclNext port = { g with jet := { g.jet with ports := g.jet.ports.set port { q with
      oper := { q.oper with entry := (q.oper.entry + 1) % gclCount q.oper.list, start := q.oper.start + (gclEntry q.oper.list q.oper.entry).1 } } } } := by
  have hdue : (gclCount q.oper.list > 0 && decide (q.oper.start + (gclEntry q.oper.list q.oper.entry).1 ≤ g.core.ns)) = true := by
    rw [decide_eq_true hn, decide_eq_true ht]
    rfl
  unfold Group.gclNext
  rw [modAt_of_get _ h]
  dsimp only
  rw [if_pos hdue]

/-! ### Shapers, policers, subscribers (R324, R328, R330) -/

section
variable {g : Group} {idx port : Nat} {x : JSub} (hx : g.jet.sub idx port = some x)
include hx

theorem shaperSlot_eligible {cls t : Nat} (he : (x.queue cls).eligibleAt = some t) (ht : g.core.ns ≥ roundUp t 64) :
    g.shaperSlot idx port cls = { g with jet := g.jet.setSub (x.setQueue cls
      { ((x.queue cls).refill (g.core.profile (x.profiles.getD cls 0)) g.core.ns) with eligibleAt := none, coarse := false }) } := by
  unfold Group.shaperSlot
  rw [hx]
  dsimp only
  rw [he]
  exact if_pos ht

theorem policerRefill_gap : g.policerRefill idx port = { g with jet := (g.jet.policeGap (x.refill g.core)).1 } := by
  rw [Group.policerRefill, hx]

/-- A subscriber whose queues have stayed empty is freed, with its bindings. -/
theorem subIdle_frees (h0 : idx ≠ 0) (hq : x.queues.any (fun q => !q.items.isEmpty || q.gap.isSome) = false) (hg : x.gap = none)
    (ha : g.jet.ports.any (fun p => p.alarms.any (fun a => a.1 == idx && p.subs.contains idx)) = false) (hc : g.cond.ctxs = [])
    (ht : g.core.up ≥ x.idleSince + 1000000 * g.core.num oJetSubIdle) :
    g.subIdle idx port = { g with
      jet := { g.jet with subs := g.jet.subs.filter (fun t => !t.is idx port), overflow := g.jet.overflow && idx != 2047,
                          ports := modAt g.jet.ports port (fun p => { p with subs := p.subs.filter (fun i => i != idx) }) },
      cond := { g.cond with ctxs := g.cond.ctxs.filter (fun x => match x.bound with | some (i, p, _, _) => !(i == idx && p == port) | none => true) } } := by
  unfold Group.subIdle
  rw [hx]
  dsimp only
  refine if_neg ?_
  rw [hq, hg, ha]
  rintro (h | h | h)
  · exact h0 h
  · rw [hc] at h
    exact Bool.noConfusion h
  · omega

/-- A single stalled producer of a queue resumes. -/
theorem stallEnd_one {it : JItem} (hs : g.jet.stalled = [(x.path, port, it)]) : g.stallEnd idx port = ({ g with jet := { g.jet with stalled := [] } } : Group).put x it := by
  have hmine : [(x.path, port, it)].filter (fun y => y.1 == x.path && y.2.1 == port) = [(x.path, port, it)] := filter_one (by simp)
  have hrest : [(x.path, port, it)].filter (fun y => !(y.1 == x.path && y.2.1 == port)) = [] := by simp
  have hsub : JetPart.sub { g.jet with stalled := [] } idx port = some x := hx
  unfold Group.stallEnd
  rw [hx]
  dsimp only
  rw [hs, hmine, hrest, List.foldl_cons, List.foldl_nil, hsub]

end

/-! ### The merge (R333) -/

theorem mergeRelease_first {g : Group} {m : MergeCopy} {rest : List MergeCopy} (hm : sortBy (mergeHeads g.jet.merge []) mergeLe = m :: rest)
    (ht : g.core.ns ≥ m.at_ + 1000 * g.core.num oVantageMergeWindow) (hl : g.jet.mergeLast = none) :
    g.mergeRelease = ({ g with jet := { g.jet with merge := g.jet.merge.erase m, mergeLast := some (m.r.time.toNat, m.r.path.toNat) } } : Group).vantagePut
      { m.r with lateMerge := m.r.lateMerge || false } := by
  unfold Group.mergeRelease
  rw [hm]
  dsimp only
  rw [if_pos ht, hl]
  rfl

/-- Settles O23. -/
theorem jetCommandsComplete : Obligations.JetCommandsComplete := by
  intro s engine port idx n cls
  refine ⟨?_, ?_, ?_, ?_, ?_, ?_, ?_, ?_, ?_, ?_, ?_, ?_⟩
  · rintro w x f0 hr hw hl hx rfl
    exact fb_answers rfl hr (ingestTake_lane hw hl hx)
  · intro hr h
    exact fb_answers rfl hr (onG_congr (portFrame_turn h))
  · intro g hr h
    exact fb_answers rfl hr (onG_of (portFrame_resend h))
  · intro q items hr h hq ha hi ht ho
    exact fb_answers rfl hr (onG_congr (portAlarm_sends h hq ha hi ht ho))
  · intro l hr h ht
    exact fb_answers rfl hr (onG_congr (gclTakeover_switches h ht))
  · intro q hr h hn ht
    exact fb_answers rfl hr (onG_congr (gclNext_advances h hn ht))
  · intro x t hr hx he ht
    exact fb_answers rfl hr (onG_congr (shaperSlot_eligible hx he ht))
  · intro x hr hx
    exact fb_answers rfl hr (onG_congr (policerRefill_gap hx))
  · intro x hr h0 hx hq hg ha hc ht
    refine fb_answers rfl hr ?_
    rw [onG_of (subIdle_frees hx h0 hq hg ha hc ht)]
    refine ⟨fun y hy => ?_, rfl, rfl⟩
    have hy' := (List.mem_filter.mp hy).2
    rwa [Bool.not_eq_true'] at hy'
  · intro x it hr hx hs
    exact fb_answers rfl hr ⟨_, rfl, onG_of (stallEnd_one hx hs)⟩
  · refine laneSteps_of (h₀ := fun _ => laneWithheld) rfl rfl (fun _ => rfl) (fun _ => rfl) ?_ fun _ _ _ _ hup => hup
    rintro p c l ⟨t, hl, ht⟩
    rw [laneWithheld, hl]
    exact if_pos ht
  · intro m rest hr hm ht hl
    exact fb_answers rfl hr (onG_congr (mergeRelease_first hm ht hl))

end Sys2Proof.Machine
end
